-- ==== Sys2Proof/Word.lean ====
section
/-! DEFINITION. The words of the machine: a register word is 32 bits (R9), a byte of a frame or a memory 8. -/

namespace Sys2Proof

/-- A 32-bit register word (R9). -/
abbrev Word := BitVec 32

/-- A byte of a frame or of a memory. -/
abbrev Byte := BitVec 8

/-- A world, W0-W9 (R3). -/
abbrev World := Fin 10

/-- A stage, S000-S127 (R3). -/
abbrev Stage := Fin 128

/-- A port, P00-P31 (R3). -/
abbrev Port := Fin 32

/-- A meter, M00-M35 (R3). -/
abbrev Meter := Fin 36

/-- A 4 KiB register page, numbered from 0x4000_0000 (R40). -/
abbrev Page := Fin 388

end Sys2Proof
end

