-- ==== Sys2Proof/Types.lean ====
section
/-! DEFINITION. The data types that commands carry and the state holds: frames, requests, measurements. -/

namespace Sys2Proof

/-- What a commit acts on: a page, or one stage area of BRN (R31, R162). -/
inductive CommitUnit where
  | page (p : Page)
  | area (s : Stage)
  deriving DecidableEq, Repr

/-- A host datagram as it arrives at a ring port (R47). -/
structure HostDatagram where
  src : Nat
  sport : Nat
  dport : Nat
  version : Nat
  world : Nat
  count : Nat
  nonce : Nat
  reserved : Nat
  cipher : List Byte
  tag : List Byte
  deriving DecidableEq, Repr

/-- A host request in flight (R49). -/
structure HostReq where
  world : Nat
  tag : Nat
  gen : Nat
  op : Nat
  len : Nat
  addr : Nat
  data : List Word
  deriving DecidableEq, Repr

/-- A host response (R49): kept by world and tag (R50). -/
structure HostResp where
  world : Nat
  tag : Nat
  gen : Nat
  status : Nat
  len : Nat
  cycle : Nat
  period : Nat
  data : List Word
  deriving DecidableEq, Repr

/-- A response datagram as it leaves: world, nonce, the responses it gathers and the bytes sent (R47, R51). -/
structure RespDatagram where
  world : Nat
  nonce : Nat
  resps : List HostResp
  bytes : List Byte
  deriving DecidableEq, Repr

/-- The fundamental of a phase of C0 as Spar measures it (R57): amplitude in mV RMS, angle in angle units. -/
structure Phasor where
  amp : Nat
  ang : Nat
  deriving DecidableEq, Repr

/-- What Spar samples at the start of the period before a port loop tick (R57, R63, R621): the fundamentals of L1, L2
and L3 of C0, and the angle of the partner's Spar. -/
structure TickRef where
  l1 : Phasor
  l2 : Phasor
  l3 : Phasor
  partner : Nat
  deriving DecidableEq, Repr

/-- What Spar measures over one whole reference cycle (R57, R62): amplitude in mV RMS, frequency in µHz, rate of change
of frequency in mHz/s, and the mean angle of the phase against the accumulator's in angle units. -/
structure RefCycle where
  amp : Nat
  freq : Nat
  rocof : Int
  ang : Nat
  deriving DecidableEq, Repr

/-- A Spar time frame (R89): VERSION, SLOT, LOCK, cycle number, wall time, frequency in µHz, claim, FLAGS. -/
structure TimeFrame where
  version : Nat
  slot : Nat
  lock : Nat
  cycle : Nat
  wall : Nat
  freq : Nat
  claim : Nat
  flags : Nat
  deriving DecidableEq, Repr

/-- A time frame as it arrives: the address it came from, which a module learns (R467), and the frame (R89). -/
structure HeardTimeFrame where
  src : Nat
  frame : TimeFrame
  deriving DecidableEq, Repr

/-- How a PROBE or ATTACH arrives at a driver: `coding` holds for a frame without a coding error (R94), its EOF comes
`eof` ns before the next period start (R105), and the output current is `iNow` mA at that instant (R108). -/
structure LineRx where
  coding : Bool
  eof : Nat
  iNow : Nat
  deriving DecidableEq, Repr

/-- What a driver measures for its uplink: the samples of Y0-Y3, AUX_SEL and AUX_VAL (R97). -/
structure DriverMeas where
  y : List Nat
  auxSel : Nat
  auxVal : Nat
  deriving DecidableEq, Repr

/-- An association request: the address of the dispenser and the network membership key it holds (R283, R284). -/
structure AssocReq where
  mac : Nat
  nmk : List Byte
  deriving DecidableEq, Repr

/-- A crossing of a grid voltage as its samples show it, corrected values: the last one below zero, the first at or above
zero, and the lowest of the period so far, or since a crossing in it (R315). -/
structure Crossing where
  x0 : Int
  x1 : Int
  low : Int
  deriving DecidableEq, Repr

/-- A downlink frame's fields (R96). -/
structure DownFrame where
  typ : Nat
  claim : Nat
  seq : Nat
  mode : Nat
  route : Nat
  safety : Nat
  safetyN : Nat
  refA : Nat
  refB : Nat
  startDelay : Nat
  periodLen : Nat
  faultClr : Bool
  deriving DecidableEq, Repr

/-- A MEAS uplink frame's fields (R97). -/
structure MeasFrame where
  claimEcho : Nat
  seqEcho : Nat
  inforce : Nat
  y : List Nat
  status : Nat
  auxSel : Nat
  auxVal : Nat
  deriving DecidableEq, Repr

/-- An IDENT uplink frame's fields (R97). -/
structure IdentFrame where
  vendor : Nat
  model : Nat
  serial : Nat
  proto : Nat
  cmdKind : Nat
  y3Kind : Nat
  fs : List Nat
  deriving DecidableEq, Repr

/-- One decimation step of every bitstream (R302, R305): the 5 ns clocks from the start of the last control period to the
capture of its newest bit, and of B00-B87 the 20 bits captured for it, the newest at bit 0; none where the modulator clock
brought none. A period's list holds, oldest first, the steps whose samples begin in it, so that the newest bits of the last
ones come after its end. -/
structure FineTick where
  newest : Nat
  bits : List (Option (BitVec 20))
  deriving DecidableEq, Repr

/-- What a load switch channel measures in a control period (R408, R412): mean and largest current in mA, DT in K, at its
limit. -/
structure LchMeas where
  mean : Nat
  peak : Nat
  dt : Int
  limit : Bool
  deriving DecidableEq, Repr

/-- What arrives from outside with a control period start: the fine samples of the last period (R305), the field rail in
10 mV and the case temperature in 1/16 °C (R413), the load switch channels, the levels of LIMP_IN0-31 (R404), the
currents of both switches of Q00-Q39 in mA and their terminals with drive (R435), and what PWR measures: VIN_A, VIN_B in
10 mV, IIN_A, IIN_B in mA, VCAP in 10 mV, PIN in mW, CLASS_OK (R600); and what Spar samples of the reference (R621). -/
structure PeriodIn where
  fine : List FineTick
  vrail : Nat
  tcase : Int
  lch : List LchMeas
  limp : Nat
  swI : List (Nat × Nat)
  term : Nat
  pwr : List Nat
  ref : TickRef
  deriving DecidableEq, Repr

/-- A Tether safety word (R448): slot, SAFE state, zone states, PERMIT, the command of Q00-Q39. -/
structure SafetyWord where
  slot : Bool
  sf : Nat
  zones : Nat
  permit : Nat
  cmd : Nat
  deriving DecidableEq, Repr

/-- The fields of a Tether word beside its safety word (R464). -/
structure TethWord where
  tstate : Nat
  claim : Nat
  release : Bool
  takereq : Bool
  holdup : Bool
  deriving DecidableEq, Repr

/-- A state image chunk (R469): cycle, number in the table's order from 1, whether the image is FULL, whether it
arrived undamaged, and its contents as keyed values (log entry 27). -/
structure Chunk where
  cycle : Nat
  idx : Nat
  full : Bool
  good : Bool
  ents : List (Nat × Int)
  deriving DecidableEq, Repr

/-- A CAN frame as received (R513, R522). -/
structure CanFrame where
  ide : Bool
  rtr : Bool
  fdf : Bool
  brs : Bool
  esi : Bool
  id : Nat
  dlc : Nat
  data : List Byte
  deriving DecidableEq, Repr

/-- A bus error (R509, R516): its LEC code, whether no dominant bit followed in the passive error flag, whether it is a
stuff error in arbitration; a recessive res bit in an FD frame; an FDF bit while FDOE = 0. -/
inductive CanErr where
  | bus (lec : Nat) (noDom : Bool) (arb : Bool)
  | resBit
  | fdfBit
  deriving DecidableEq, Repr

end Sys2Proof
end

