-- ==== Sys2Proof/Syntax.lean ====
section
/-! DEFINITION. The commands of the block: one constructor for each row of spec/opcode_table.json. Commands carry
what the outside supplies (who writes, which instance, what arrives, what is measured). -/

namespace Sys2Proof

/-- A command (spec/opcode_table.json). -/
inductive Instr where
  /-- REGISTER_WRITE (R42): A world writes a register field that has no row of its own; grant, class S, class F and reserved-field checks apply. -/
  | registerWrite (w : World) (addr : Nat) (size : Nat) (v : Word)
  /-- COMMIT (R35): A write of CTRL.COMMIT = 1 arms a commit of the page at the boundary selected by COMMIT_AT. -/
  | commit (w : World) (p : Page)
  /-- CANCEL (R37): A write of CTRL.CANCEL = 1 discards a pending commit and reverts the shadow to the active values. -/
  | cancel (w : World) (p : Page)
  /-- COMMIT_APPLY (R34): At the selected boundary the page's whole shadow becomes active, COMMIT_SEQ advances and COMMIT_PEND clears. -/
  | commitApply (u : CommitUnit)
  /-- A_COMMIT (R162): A write of A_COMMIT arms a commit of one BRN stage area. -/
  | aCommit (w : World) (i : Stage)
  /-- A_CANCEL (R162): A write of A_CANCEL discards the pending commit of one BRN stage area. -/
  | aCancel (w : World) (i : Stage)
  /-- BRST (R585): A write of CTRL.BRST requests a level 3 reset of the block, refused in SERVICE unless the block is idle. -/
  | brst (w : World) (p : Page)
  /-- IRQ_CLR (R33): A write of 1 to an IRQ_CLR bit clears the matching IRQ_RAW bit unless an event sets it in the same clock. -/
  | irqClr (w : World) (p : Page) (v : Word)
  /-- IRQ_SET (R31): A write of 1 to an IRQ_SET bit sets the matching IRQ_RAW bit for test. -/
  | irqSet (w : World) (p : Page) (v : Word)
  /-- ERR_CLEAR (R31): A write of 1 to STAT.ERR clears ERR and the whole of ERRCODE. -/
  | errClear (w : World) (p : Page)
  /-- OWNER_WRITE (R41): W0 writes an OWNER register to change read and write grants, with the fixed bits held by hardware. -/
  | ownerWrite (w : World) (p : Page) (v : Word)
  /-- VIOL_CLR (R45): W0 writes VIOL_CLR to clear the violation counters of selected worlds. -/
  | violClr (w : World) (v : Word)
  /-- SESS_ENABLE (R46): Setting SESS_EN from 0 to 1 binds the session, clears its last nonce and abandons its requests in flight. -/
  | sessEnable (w : World) (k : Fin 6)
  /-- HOST_DATAGRAM (R48): A host datagram arrives on a ring port and is accepted or dropped on session, tag and nonce checks. -/
  | hostDatagram (dg : HostDatagram)
  /-- HOST_READ (R49): A host read request executes and returns its data in a response. -/
  | hostRead (k : Fin 6) (tag : Nat)
  /-- HOST_WRITE (R49): A host write request executes atomically and returns its status. -/
  | hostWrite (k : Fin 6) (tag : Nat)
  /-- HOST_FENCE (R55): A host fence completes only after every earlier request of its world has executed. -/
  | hostFence (k : Fin 6) (tag : Nat)
  /-- PCIE_READ (R52): A PCIe memory read as W9 is served or receives a Completer Abort. -/
  | pcieRead (addr : Nat) (len : Nat)
  /-- PCIE_WRITE (R52): A PCIe memory write as W9 executes, or is discarded and counted when it breaks the limits. -/
  | pcieWrite (addr : Nat) (data : List Word) (len : Nat)
  /-- CONTROL_PERIOD_START (R58): Spar's accumulator reaches the next control period boundary and every per-period action of the module runs. -/
  | controlPeriodStart (q : PeriodIn)
  /-- PORT_LOOP_TICK (R19): Every eighth control period the port loops, Spar loop filter and thermal observer run. -/
  | portLoopTick (ecc : List (Fin 4096)) (td : List (Option Int))
  /-- CYCLE_START (R58): The accumulator wraps at angle 0x0000, the cycle number advances and cycle-start actions run. -/
  | cycleStart
  /-- REFERENCE_CYCLE (R62): A whole reference cycle is judged against the seek criteria, moving Spar into or out of QUALIFY or into LOCKED. -/
  | referenceCycle (l1 : RefCycle) (l2 : RefCycle) (l3 : RefCycle)
  /-- SPAR_ENABLE (R61): Setting SPAR EN starts the accumulator in FREE at CYCLE_LOAD and angle 0x0000. -/
  | sparEnable (w : World)
  /-- FOLLOW_SET (R73): W0 sets FOLLOW, and Spar waits to align to the partner's time. -/
  | followSet (w : World)
  /-- FOLLOW_CLEAR (R72): W0 clears FOLLOW, and Spar continues without a step in the state kept on C0. -/
  | followClear (w : World)
  /-- ALIGN (R73): At the partner's next period start after a valid report, Spar takes the partner's cycle, period and angle in one step. -/
  | align (period : Nat) (angle : Nat)
  /-- SPAR_TIME_FRAME_RX (R75): A partner Spar time frame received while the Tether is down is checked for cycle mismatch or used for alignment. -/
  | sparTimeFrameRx (f : HeardTimeFrame)
  /-- WALL_APPLY (R77): W0 writes APPLY to slew wall time or schedule a step to WALL_SET. -/
  | wallApply (w : World)
  /-- WALL_STEP (R77): At the next control period start wall time steps to the applied value. -/
  | wallStep
  /-- WALL_SLEW_END (R77): A wall-time slew reaches the target value and SLEWING clears. -/
  | wallSlewEnd
  /-- EVENT_ENTRY_WRITE (R84): A write to word +8 of an event entry arms or disarms it, or is refused while armed. -/
  | eventEntryWrite (w : World) (n : Fin 256) (v : Word)
  /-- EVENT_FIRE (R81): A scheduled Spar event reaches its instant and fires at a control period start. -/
  | eventFire (n : Fin 256)
  /-- EVT_FIRED_CLEAR (R90): A write of 1 clears bits of EVT_FIRED or EVT_LATE. -/
  | evtFiredClear (w : World) (late : Bool) (i : Fin 8) (v : Word)
  /-- SETBACK_CLEAR (R90): A write of 1 clears WALL_STAT.SETBACK. -/
  | setbackClear (w : World)
  /-- UPLINK_MEAS (R115): A MEAS frame from a stage driver arrives at the module and updates the line's measurements. -/
  | uplinkMeas (i : Stage) (body : List Byte) (coding : Bool) (sof : Nat)
  /-- UPLINK_IDENT (R120): An IDENT frame answers a probe and moves the line to FOUND or leaves it in SEARCH. -/
  | uplinkIdent (i : Stage) (body : List Byte) (coding : Bool) (sof : Nat)
  /-- UPLINK_WINDOW_CLOSE (R103): The uplink window closes and an absent or invalid uplink on an attached line counts as missing. -/
  | uplinkWindowClose
  /-- LINE_LOST (R115): After 3 consecutive missing uplinks an attached line becomes LOST. -/
  | lineLost (i : Stage)
  /-- DOWNLINK_WINDOW (R104): In its slot's window the module sends the downlink frame of every line. -/
  | downlinkWindow (heard : List (Stage × DownFrame)) (echo : List Stage)
  /-- LINE_ATTACH (R120): A write of ATTACH sends an ATTACH frame on a FOUND or LOST line in the next window. -/
  | lineAttach (w : World) (i : Stage)
  /-- ATTACH_TIMEOUT (R120): No good MEAS within 8 periods of ATTACH returns the line to SEARCH. -/
  | attachTimeout (i : Stage)
  /-- LINE_LEN_WRITE (R120): A write of LEN disables the line or moves it from DISABLED to SEARCH. -/
  | lineLenWrite (w : World) (i : Stage) (b : Bool)
  /-- LINE_FAULT_CLR (R121): A write of FAULT_CLR sends FAULT_CLR = 1 in the next COMMAND frame. -/
  | lineFaultClr (w : World) (i : Stage)
  /-- LINE_CNT_CLR (R121): A write of CNT_CLR clears UP_MISS and UP_CRC. -/
  | lineCntClr (w : World) (i : Stage)
  /-- DRV_COMMAND_FRAME (R106): A stage driver receives a COMMAND frame, updates its claim history and obeys or ignores it. -/
  | drvCommandFrame (i : Stage) (body : List Byte) (coding : Bool) (eof : Nat) (iNow : Nat)
  /-- DRV_SAFE_FRAME (R108): A stage driver receives a SAFE frame and applies its GP and SS fields. -/
  | drvSafeFrame (i : Stage) (body : List Byte) (coding : Bool) (eof : Nat) (iNow : Nat)
  /-- DRV_PROBE (R118): An unattached driver receives a PROBE and answers with IDENT in the next period. -/
  | drvProbe (i : Stage) (body : List Byte) (rx : LineRx)
  /-- DRV_ATTACH (R118): An unattached driver receives ATTACH and takes its stage number and expected SEQ. -/
  | drvAttach (i : Stage) (body : List Byte) (rx : LineRx)
  /-- DRIVER_PERIOD_START (R113): At its period start a driver applies the staged command, or holds, ramps or trips after missed periods. -/
  | driverPeriodStart (i : Stage) (m : DriverMeas) (hwlim : Bool)
  /-- DRIVER_FAULT (R114): On OV, OT, DESAT or AUXLOW the driver stops gating by itself and reports FAULT. -/
  | driverFault (i : Stage) (cause : Fin 4) (on : Bool)
  /-- SELECTOR_MOVE_DONE (R116): A driver's selector contacts are confirmed closed on the new route and SEL_MOVING clears. -/
  | selectorMoveDone (i : Stage) (weld : Bool)
  /-- STAGE_FAILED (R152): A measurement reaches 3 consecutive flagged periods and Burner marks the stage failed. -/
  | stageFailed (i : Stage)
  /-- BANK_WRITE (R136): A write to a bank word sets an unlocked bank EMPTY or is ignored on a locked bank. -/
  | bankWrite (w : World) (b : Fin 16) (k : Fin 192) (v : Word)
  /-- BANK_CHECK (R135): A write of a BANK_CHECK bit starts the load check of a bank. -/
  | bankCheck (w : World) (v : Word)
  /-- BANK_DONE (R135): A bank load check completes and the bank becomes VALID or INVALID. -/
  | bankDone (b : Fin 16)
  /-- FAIL_SET (R153): A write of FAIL_SET marks a stage failed with cause FW. -/
  | failSet (w : World) (i : Stage)
  /-- FAIL_CLR (R153): A write of FAIL_CLR clears a stage failure when the driver reports OFF and the bank is VALID. -/
  | failClr (w : World) (i : Stage)
  /-- SAT_CLR (R164): A write of SAT_CLR clears a stage's SAT_CNT. -/
  | satClr (w : World) (i : Stage)
  /-- LOAD_CLR (R163): A write of LOAD_CLR clears MAX_NS and OVERRUN. -/
  | loadClr (w : World)
  /-- SPOOL_ARM (R158): A write of ARM starts Spool recording into its rings. -/
  | spoolArm (w : World)
  /-- SPOOL_STOP (R158): A write of STOP returns Spool to IDLE, keeping its memory. -/
  | spoolStop (w : World)
  /-- SWTRIG (R159): A write of SWTRIG triggers an armed Spool. -/
  | swtrig (w : World)
  /-- SPOOL_DONE (R158): Every enabled probe has recorded its post-trigger samples and Spool enters DONE. -/
  | spoolDone
  /-- SHORT_SOFTSTART (R171): SS_TIME periods after entry without V passing 20 % of VTGT the port enters SHORT. -/
  | shortSoftstart (p : Port)
  /-- BURST_ENTRY (R174): At the 8th consecutive low-current tick a port in RUN enters burst operation. -/
  | burstEntry (p : Port)
  /-- BURST_ROTATE (R174): Every ROT_TICKS ticks the starting point of the BLAST set moves on by one stage. -/
  | burstRotate (p : Port)
  /-- FAULT_ROUTE_OPEN (R178): After 8 periods in FAULT the module sends ROUTE 4 once the stage's current is small. -/
  | faultRouteOpen (i : Stage)
  /-- HANDOVER_ABORT (R182): A handover exceeding HO_ZTMO or SEL_TMO, or a SEL_WELD, aborts with ROUTE 4 and HO_ABORT. -/
  | handoverAbort (i : Stage)
  /-- HO_ABORT_CLEAR (R182): A write of 1 clears HO_ABORT when the route is 4 and the driver reports OFF. -/
  | hoAbortClear (w : World) (i : Stage)
  /-- SOLVE_DONE (R185): The fixed-length solve ends, the plan is checked, and READY is set or the plan is discarded. -/
  | solveDone
  /-- PLAN_LATE (R215): A plan not complete by control period 126 is discarded. -/
  | planLate
  /-- LOFT_HOLD_TIMEOUT (R209): LOFT_HOLD set for 1,000 cycles is cleared by the hardware. -/
  | loftHoldTimeout
  /-- PILOT_CONFIRM (R228): The pilot unit confirms a new classification of CP, PP, CE or ID and derives pilot events. -/
  | pilotConfirm (p : Port) (hi : Int) (lo : Int) (ce : Int) (id : Int) (pp : Nat) (agree : Nat)
  /-- LINK_UP (R237): Firmware posts LINK_UP, moving PLUGGED to AUTH. -/
  | linkUp (w : World) (p : Port)
  /-- AUTH_OK (R237): Firmware posts AUTH_OK, moving AUTH to READY. -/
  | authOk (w : World) (p : Port)
  /-- AUTH_FAIL (R237): Firmware posts AUTH_FAIL, ending the session in ENDED. -/
  | authFail (w : World) (p : Port)
  /-- ISO_GO (R242): Firmware posts ISO_GO, starting CABLECHECK by requesting the contactor. -/
  | isoGo (w : World) (p : Port)
  /-- PRE_GO (R237): Firmware posts PRE_GO, moving a finished CABLECHECK to PRECHARGE. -/
  | preGo (w : World) (p : Port)
  /-- START (R237): Firmware posts START, moving PRECHARGE to ENERGY with PREQ RUN. -/
  | startSession (w : World) (p : Port)
  /-- STOP (R245): Firmware posts STOP, ramping the session down. -/
  | stopSession (w : World) (p : Port)
  /-- PAUSE (R237): Firmware posts PAUSE, ramping ENERGY down towards PAUSED. -/
  | pause (w : World) (p : Port)
  /-- RESUME (R237): Firmware posts RESUME, returning PAUSED to PRECHARGE. -/
  | resume (w : World) (p : Port)
  /-- WELD_DONE (R246): Firmware posts WELD_DONE, ending the vehicle step of the weld check. -/
  | weldDone (w : World) (p : Port)
  /-- NEW_SESS (R237): Firmware posts NEW_SESS, starting a new session from ENDED or FAULT with the plug present. -/
  | newSess (w : World) (p : Port)
  /-- OOS (R237): Firmware posts OOS, taking the port out of service. -/
  | oos (w : World) (p : Port)
  /-- IS (R237): Firmware posts IS, returning the port from UNAVAIL to IDLE. -/
  | inService (w : World) (p : Port)
  /-- HB (R250): Envelope writes HB, restarting the heartbeat timer. -/
  | hb (w : World) (p : Port)
  /-- BILL_DISC (R233): W1 posts BILL_DISC, stopping the session for billing. -/
  | billDisc (w : World) (p : Port)
  /-- HB_LOST (R250): HB not written for HB_TMO ends or stops the session. -/
  | hbLost (p : Port)
  /-- LINK_TMO (R237): LINK_TMO expires in PLUGGED and the session goes to FAULT. -/
  | linkTmo (p : Port)
  /-- AUTH_TMO (R237): AUTH_TMO expires in AUTH and the session ends. -/
  | authTmo (p : Port)
  /-- READY_TMO (R237): READY_TMO expires in READY and the session ends. -/
  | readyTmo (p : Port)
  /-- ISO_TMO (R242): ISO_TMO expires before DONE and CABLECHECK ends in WELDCHECK. -/
  | isoTmo (p : Port)
  /-- PRE_TMO (R244): PRE_TMO expires in PRECHARGE and the session goes to WELDCHECK. -/
  | preTmo (p : Port)
  /-- RAMP_TMO (R245): RAMP_TMO expires in RAMPDOWN and the session goes to WELDCHECK. -/
  | rampTmo (p : Port)
  /-- PAUSE_TMO (R237): PAUSE_TMO expires in PAUSED and the session goes to WELDCHECK. -/
  | pauseTmo (p : Port)
  /-- WELD_TMO (R246): WELD_TMO expires in the vehicle step and WELD_LATE is set. -/
  | weldTmo (p : Port)
  /-- CONT_TMO (R240): CONT_FB differs from CONT_REQ for CONT_TMO, giving CONT_FAIL or CONT_WELD. -/
  | contTmo (p : Port)
  /-- DISCH_TMO (R246): The cable side does not fall to 60 V within DISCH_TMO, giving DISCH_FAIL. -/
  | dischTmo (p : Port)
  /-- CONTACTOR_FEEDBACK (R240): The Qp readback changes, completing the close or open step and counting openings. -/
  | contactorFeedback (p : Port) (closed : Bool)
  /-- ISO_SETTLE_DONE (R242): ISO_SETTLE ms pass and the insulation measurement starts. -/
  | isoSettleDone (p : Port)
  /-- ISO_MEASURE_DONE (R242): The insulation measurement completes and sets ISO_RES, raising ISO_FAIL below the fault limit. -/
  | isoMeasureDone (p : Port) (ohm : Nat)
  /-- ISO_MON_RESULT (R243): A continuous insulation result is compared with the limits and raises ISO_FAIL or ISO_WARN. -/
  | isoMonResult (p : Port) (ohm : Nat) (vMean : Nat)
  /-- DISCHARGE_DONE (R246): The cable-side voltage reaches 60 V, ending a discharge step and judging the weld split. -/
  | dischargeDone (p : Port)
  /-- STOPPED (R237): The port reaches PSTATE IDLE or power is removed, ending RAMPDOWN. -/
  | stopped (p : Port)
  /-- CONT_WELD_CLEAR (R240): A write of 1 clears CONT_WELD only while CONT_FB reads open. -/
  | contWeldClear (w : World) (p : Port)
  /-- EVT_DROP_CLEAR (R252): A write of 1 clears bits of EVT_DROP. -/
  | evtDropClear (w : World) (p : Port) (v : Word)
  /-- VLNK_ENABLE (R267): Setting a VLNK page's EN takes its receive buffer from the pool or refuses. -/
  | vlnkEnable (w : World) (p : Port)
  /-- DAD_DONE (R257): Duplicate address detection completes, bringing LINK up or to DAD_FAIL. -/
  | dadDone (p : Port) (collision : Bool)
  /-- NEIGHBOUR_SOLICITATION (R257): The link engine answers a neighbour solicitation. -/
  | neighbourSolicitation (p : Port)
  /-- ECHO_REQUEST (R257): The link engine answers an ICMPv6 echo request. -/
  | echoRequest (p : Port) (data : List Byte)
  /-- CM_SLAC_PARAM_REQ (R259): The vehicle's parameter request is answered and its RunID and MAC recorded. -/
  | cmSlacParamReq (p : Port) (mac : Nat) (run : List Byte)
  /-- CM_START_ATTEN_CHAR_IND (R259): The link engine takes the number of sounds and starts the match timer. -/
  | cmStartAttenCharInd (p : Port) (run : List Byte) (n : Nat)
  /-- CM_MNBC_SOUND_IND (R259): A sound is received and its attenuation averaged; cross-talk is detected. -/
  | cmMnbcSoundInd (p : Port) (run : List Byte) (att : List Nat)
  /-- SOUNDING_END (R259): All sounds received or the timer expired, and CM_ATTEN_CHAR.IND is sent. -/
  | soundingEnd (p : Port)
  /-- CM_VALIDATE_REQ (R259): A validate request is answered with not required. -/
  | cmValidateReq (p : Port) (run : List Byte)
  /-- CM_SLAC_MATCH_REQ (R259): A match request with the recorded RunID loads the NMK and NID and is answered. -/
  | cmSlacMatchReq (p : Port) (run : List Byte)
  /-- CM_AMP_MAP_REQ (R259): An amplitude map request is ignored. -/
  | cmAmpMapReq (p : Port)
  /-- SLAC_MATCHED (R259): The vehicle appears in the modem's station list and LINK goes UP. -/
  | slacMatched (p : Port)
  /-- SLAC_TIMEOUT (R259): A SLAC timer expires and SLAC returns to WAIT_PARAM. -/
  | slacTimeout (p : Port)
  /-- SDP_REQUEST (R262): An SECC Discovery Request is answered with the chosen security. -/
  | sdpRequest (p : Port) (ip : Nat) (mac : Nat) (reqTls : Bool)
  /-- TCP_SYN (R264): A SYN is refused or accepts a new connection, aborting an old one. -/
  | tcpSyn (p : Port) (ip : Nat) (isn : Nat)
  /-- TCP_SEGMENT (R263): A TCP segment is received and its bytes parsed into V2GTP messages. -/
  | tcpSegment (p : Port) (ip : Nat) (seq : Nat) (ack : Nat) (data : List Byte) (rst : Bool) (fin : Bool)
  /-- TLS_RECORD (R271): A TLS record is received, verified and presented or pauses processing. -/
  | tlsRecord (p : Port)
  /-- TCP_RETX_TIMEOUT (R263): A retransmission timeout resends a segment, aborting after the 6th. -/
  | tcpRetxTimeout (p : Port)
  /-- VLNK_TX_GO (R266): A write of TX_GO queues the staged message or refuses it. -/
  | vlnkTxGo (w : World) (p : Port)
  /-- VLNK_RX_POP (R268): A write of RX_POP releases the head message. -/
  | vlnkRxPop (w : World) (p : Port)
  /-- RX_RESUME (R271): A write of RX_RESUME ends a receive pause. -/
  | rxResume (w : World) (p : Port)
  /-- KEY_RX_ON (R270): A write of KEY_RX_ON switches on receive protection with the named slot. -/
  | keyRxOn (w : World) (p : Port)
  /-- KEY_TX_ON (R270): A write of KEY_TX_ON switches on transmit protection with the named slot. -/
  | keyTxOn (w : World) (p : Port)
  /-- ABORT (R264): A write of ABORT resets the connection. -/
  | abortLink (w : World) (p : Port)
  /-- VLNK_WINDOW_READ (R269): A read of the message window while streaming consumes the bytes read. -/
  | vlnkWindowRead (w : World) (p : Port) (k : Fin 512)
  /-- VLNK_CNT_CLR (R275): A write of CNT_CLR clears the VLNK counters. -/
  | vlnkCntClr (w : World) (p : Port)
  /-- BEACON (R280): At its offset in each even cycle a coupling sends its beacon and per-period traffic starts. -/
  | beacon (c : Fin 4) (rail : Bool)
  /-- WINDSOCK_DONE (R290): An estimation completes with valid maps and the entry becomes ATTACHED. -/
  | windsockDone (c : Fin 4) (down : List (List Byte)) (snr : List (List Nat))
  /-- TM_AGE_EXPIRY (R290): TM_AGE reaches TM_REFRESH, making estimation due, or 3 × TM_REFRESH, moving the entry to ROBO. -/
  | tmAgeExpiry (d : Fin 32)
  /-- ASSOC_REQUEST (R284): An association request is accepted or refused under JOIN. -/
  | assocRequest (c : Fin 4) (rq : AssocReq)
  /-- LEAVE_IND (R285): A dispenser's leave indication removes it to LOST or EMPTY. -/
  | leaveInd (d : Fin 32)
  /-- LEAVE_TIMEOUT (R285): A dispenser that acknowledges nothing for LEAVE_TMO beacon periods leaves. -/
  | leaveTimeout (d : Fin 32)
  /-- KICK (R285): A write of KICK sends a leave and forces the entry out. -/
  | kick (w : World) (d : Fin 32)
  /-- TM_NOW (R290): A write of TM_NOW makes Windsock estimation of the entry due. -/
  | tmNow (w : World) (d : Fin 32)
  /-- SPLC_RX_MESSAGE (R288): A dispenser message arrives and is queued unless it repeats EVT_SEQ. -/
  | splcRxMessage (d : Fin 32) (typ : Nat) (seq : Nat) (body : List Byte)
  /-- FRAME_EXCHANGE_DONE (R293): An exchange with a dispenser ends and a third consecutive failure falls back to ROBO. -/
  | frameExchangeDone (d : Fin 32) (acked : Bool) (total : Nat) (bad : Nat) (resent : Nat) (blanked : Nat) (queued : Bool)
  /-- SPLC_TX_GO (R289): A write of TX_GO queues the staged message or refuses it. -/
  | splcTxGo (w : World)
  /-- SPLC_RX_POP (R299): A write of RX_POP releases the head received message. -/
  | splcRxPop (w : World)
  /-- DISPENSER_BEACON_LOSS (R286): A dispenser hearing no beacon for 10 beacon periods goes out of service. -/
  | dispenserBeaconLoss (d : Fin 32)
  /-- METER_ADDITION (R321): At period 2 all steps of the previous cycle are added to the accumulators and legal registers. -/
  | meterAddition
  /-- PULSE_EMIT (R328): A pending pulse is emitted on a pulse output at its interval. -/
  | pulseEmit (n : Fin 8)
  /-- ZERO_CROSSING (R315): A grid voltage channel detects a positive-going zero crossing. -/
  | zeroCrossing (c : Fin 4) (ph : Fin 3) (at_ : Nat) (x : Crossing)
  /-- ZC_LOST (R316): A phase shows no crossing for ZC_TMO and ZC_LOST is set. -/
  | zcLost (c : Fin 4) (ph : Fin 3)
  /-- MODF (R324): A bitstream shows 256 equal bits or a stalled clock and its samples become invalid. -/
  | modf (b : Fin 88) (bad : Bool)
  /-- MCLK_TAKEN (R304): A standby module sees no clock edge for 500 ns and drives that clock itself. -/
  | mclkTaken (g : Fin 4)
  /-- METER_LOAD (R323): W1 writes LOAD to copy LOAD values into a stopped meter's accumulators. -/
  | meterLoad (w : World) (m : Meter)
  /-- SEAL_CHANGE (R330): Switch MS0 changes and the metrology seal opens or closes. -/
  | sealChange (on : Bool)
  /-- METER_FLAG_CLEAR (R335): A write of 1 clears GAP, REV or POVF. -/
  | meterFlagClear (w : World) (pulse : Bool) (m : Meter) (v : Word)
  /-- BOUNDARY_SEQUENCE (R353): After a boundary strobe Bremus closes the demand interval, switches the tariff and commits one record. -/
  | boundarySequence
  /-- BOOT_COMPLETE (R355): At boot Bremus completes every latched uncommitted slot in STROBE_SEQ order. -/
  | bootComplete
  /-- SESSION_OPEN (R366): A SESSION_OPEN request opens a billing session and writes a B record. -/
  | sessionOpen (prepay : Bool) (lowAt : Int) (ident : List (List Byte))
  /-- SESSION_CLOSE (R366): A SESSION_CLOSE request closes a billing session and writes an E record. -/
  | sessionClose
  /-- CREDIT (R360): A CREDIT request's token is verified and added to the port's balance or rejected. -/
  | credit (token : Word) (amount : Nat) (sig : List Byte)
  /-- CAL_PART (R365): A CAL_PART request stages part of a passive calendar image. -/
  | calPart (ofs : Nat) (data : List Byte)
  /-- CAL_COMMIT (R365): A CAL_COMMIT request verifies the signature and writes the passive calendar. -/
  | calCommit (sig : List Byte)
  /-- BILL_READ (R378): A READ request returns a record, log entries or a boundary record in the read window. -/
  | billRead (kind : Nat) (index : Word) (ofs : Nat)
  /-- DISC_FAIL (R363): The contactor does not read open within DISC_TMO, or energy flows after opening, and DISC_FAIL is set. -/
  | discFail (p : Port)
  /-- DISPLAY_FRAME (R371): The display engine sends a 16-byte frame every 500 ms. -/
  | displayFrame
  /-- DISPLAY_ITEM_ADVANCE (R369): An item's DUR expires and the display moves to the next item or port. -/
  | displayItemAdvance
  /-- CONVERSION_SLOT (R382): Each converter's 4-period slot ends, posting a reading and updating validity, FAST, WARN and TRIP. -/
  | conversionSlot (raw : List (Nat × Bool))
  /-- PTRIP_CLEAR (R387): A write of 1 clears a PTRIP bit unless an input that set it still has TRIP. -/
  | ptripClear (w : World) (v : Word)
  /-- THROTTLE_STEP (R393): At most every 100 ms THR_LVL rises or falls by one with TD1. -/
  | throttleStep
  /-- THERMAL_SHUTDOWN (R394): 10 ms after SD_PEND a reset with source thermal shutdown is requested. -/
  | thermalShutdown
  /-- SYNC (R406): A write of SYNC restarts the common generator count. -/
  | sync (w : World)
  /-- BLANKING_END (R408): A channel's inrush blanking window ends and its limit becomes ILIM. -/
  | blankingEnd (n : Fin 32)
  /-- TRIP_I (R408): A channel at its limit for TLIM outside blanking trips off. -/
  | tripI (n : Fin 32)
  /-- TRIP_DT (R408): A channel with DT at or above DT_LIM for DT_TIME trips off. -/
  | tripDt (n : Fin 32) (dt : Int)
  /-- CASE_TRIP (R408): TCASE reaches 150 °C and every channel trips. -/
  | caseTrip (tcase : Int)
  /-- CHANNEL_RETRY (R410): RETRY_DLY after a trip the channel turns on again with a new blanking window. -/
  | channelRetry (n : Fin 32)
  /-- RETRY_COUNT_RESET (R410): A channel on for 1 s without a trip resets its retry count. -/
  | retryCountReset (n : Fin 32)
  /-- OPEN_LOAD (R411): A channel's current below OPEN_TH for 100 ms sets OPEN_LOAD. -/
  | openLoad (n : Fin 32)
  /-- CLR (R410): A write of CLR clears a channel's trips and retry count. -/
  | clr (w : World) (n : Fin 32)
  /-- CASE_CLR (R410): A write of CASE_CLR clears CASE_TRIP once TCASE is 130 °C or below. -/
  | caseClr (w : World)
  /-- PEAK_CLR (R418): A write of PEAK_CLR clears I_PEAK. -/
  | peakClr (w : World) (n : Fin 32)
  /-- RAIL_LOSS_CLEAR (R417): A write of 1 clears RAIL_LOSS. -/
  | railLossClear (w : World)
  /-- LIMP_EN_CHANGE (R405): The LIMP_EN pin is asserted or released and selected channels follow or leave their limp pins. -/
  | limpEnChange (on : Bool) (pins : Nat)
  /-- LIMP_TRIP_CLEAR (R410): A limp-driven channel's trip clears after the pin has been deasserted for 10 ms. -/
  | limpTripClear (n : Fin 32)
  /-- KEEPER_HOLD_EXPIRY (R414): The keeper hold time ends in reset and channels take LIMP_DEF. -/
  | keeperHoldExpiry (n : Fin 32)
  /-- LSW_ENABLE (R415): Setting LSW EN passes each channel to its source row without a second switching. -/
  | lswEnable (w : World)
  /-- FIELD_RAIL_SAG (R409): VRAIL falls below 16.0 V, extending running blanking windows once and stopping SPLC transmission. -/
  | fieldRailSag (v : Nat)
  /-- FIELD_RAIL_LOSS (R413): VRAIL falls below 12.0 V, turning every channel off and tripping every zone with cause RAIL. -/
  | fieldRailLoss (v : Nat)
  /-- FIELD_RAIL_RETURN (R413): VRAIL at 13.0 V or above for 10 ms brings channels back and zones to WAIT_RESET. -/
  | fieldRailReturn (v : Nat)
  /-- SAFE_ENABLE (R421): Setting SAFE EN takes a copy of the configuration and enters CHECK. -/
  | safeEnable (w : World)
  /-- SAFE_CHECK_DONE (R421): The identity and field checks complete and the island enters RUN or CFG_BAD. -/
  | safeCheckDone (hs ls : Nat)
  /-- SAFE_DISABLE (R423): A write of SAFE EN = 0 returns the island to OFF, or is refused while outputs are on or ports ramp. -/
  | safeDisable (w : World)
  /-- INPUT_SAMPLE (R425): Every 50 µs the island samples every input channel and accepts levels. -/
  | inputSample (a b : Nat)
  /-- DISCREPANCY_TIMEOUT (R426): DISC ms pass without agreement and the pair takes demand with DISC_FLT. -/
  | discrepancyTimeout (n : Fin 48)
  /-- RIP_PANEL_STOP_START (R431): At t0 the island latches I0, begins the ceiling ramp, sets SS and posts RIP. -/
  | ripPanelStopStart (p : Port)
  /-- RAMP_DEADLINE (R433): T_RAMP passes without the current falling below 2 % and removal starts with cause LATE. -/
  | rampDeadline (p : Port)
  /-- REMOVAL_COMPLETE (R434): The switch currents fall below 5 mA with terminals undriven and RMV_DONE is set. -/
  | removalComplete (p : Port)
  /-- DARK_PULSE_TEST (R437): A switch of an on output is turned off briefly and tested, latching OUT_FLT if stuck. -/
  | darkPulseTest (n : Fin 40) (fell : Option Nat)
  /-- OPEN_COIL (R439): An on output's switch current stays below 20 mA for 100 ms and OPEN_COIL latches. -/
  | openCoil (n : Fin 40)
  /-- XATCH_FRAME_RX (R444): An Xatch frame is checked and accepted or discarded by a consumed connection. -/
  | xatchFrameRx (ringB : Bool) (src : Nat) (payload : List Byte)
  /-- XATCH_WATCHDOG_EXPIRY (R444): A connection in RUN accepts no frame for WDOG_MS and goes to FAULT. -/
  | xatchWatchdogExpiry (n : Fin 16)
  /-- XATCH_SEND (R446): A produced connection sends its frame every SEND_MS. -/
  | xatchSend (m : Fin 8)
  /-- XCH_CNT_CLR (R459): A write of CNT_CLR clears the XCH counters and TX_CNT. -/
  | xchCntClr (w : World)
  /-- SAFETY_WORD_RX (R448): A partner safety word arrives and updates partner permits and shared output state. -/
  | safetyWordRx (x : SafetyWord) (crcOk : Bool)
  /-- SAFETY_WORD_LOST (R448): No good safety word for 8 periods and the partner word is no longer present. -/
  | safetyWordLost
  /-- STANDBY_OUTPUT_TIMEOUT (R450): Two mains cycles after the last word the standby turns off the outputs it held on. -/
  | standbyOutputTimeout
  /-- SHARED_STUCK (R452): 10 ms into removal with own switches off and terminals still driven, SHARED_STUCK latches. -/
  | sharedStuck (p : Port)
  /-- ISLAND_LOCKSTEP_MISMATCH (R453): A lockstep mismatch puts the island in HALT, turns outputs off and requests a reset. -/
  | islandLockstepMismatch
  /-- TETHER_WORD_RX (R464): A partner Tether word arrives carrying state, claim, RELEASE, TAKEREQ and HOLDUP. -/
  | tetherWordRx (x : TethWord) (chunk : Option Chunk)
  /-- LANE_FAULT (R464): A Tether lane loses lock and the link runs on the other lane with LANE_FLT. -/
  | laneFault
  /-- TETHER_DOWN (R464): Both lanes without lock for 2 periods set TDOWN and fallback begins. -/
  | tetherDown
  /-- HEALTH_REPORT_RX (R465): A partner health report arrives and updates partner status and Spar following. -/
  | healthReportRx (body : List Byte)
  /-- HLTH_LOST (R466): 808 control periods pass without a valid report and partner health is lost. -/
  | hlthLost
  /-- FALLBACK_FRAME_RX (R467): A Tether fallback frame carrying state image chunks arrives on a ring port. -/
  | fallbackFrameRx (chunk : Chunk)
  /-- TAKE_CLAIM (R476): A standby takes the claim, sets ACTIVE and sends COMMAND frames from that period. -/
  | takeClaim
  /-- RELEASE (R474): W0 writes RELEASE and the active module sends its last frames with RELEASE set. -/
  | releaseClaim (w : World)
  /-- TAKE (R475): W0 writes TAKE to force a standby to take the claim, refused unless SILENT. -/
  | take (w : World)
  /-- TETH_ENABLE (R481): Setting TETH EN enters JOIN or makes a single module ACTIVE. -/
  | tethEnable (w : World)
  /-- JOIN_WAIT_EXPIRY (R481): JOIN_WAIT cycles pass and the joining module becomes ACTIVE or STANDBY. -/
  | joinWaitExpiry
  /-- DEMOTED_CLEAR (R484): A write of 1 clears DEMOTED. -/
  | demotedClear (w : World)
  /-- TETH_CNT_CLR (R484): A write of CNT_CLR clears the image and takeover counters. -/
  | tethCntClr (w : World)
  /-- BLST_ENUMERATE (R492): On EN or ENUM the module sends RESET and ENUM from the ring's A end. -/
  | blstEnumerate (w : World) (r : Fin 2)
  /-- ENUM_RETURN (R492): An ENUM frame returns at an end and the ring becomes RUN, BROKEN or is enumerated from the B end. -/
  | enumReturn (r : Fin 2) (ret : Option Bool) (next : Nat)
  /-- RING_BREAK (R493): A frame returns at its sending end and the ring reads BROKEN, or heals back to RUN. -/
  | ringBreak (r : Fin 2) (fromB : Bool) (ret : Option Bool) (reached : Nat)
  /-- MEASUREMENT_SLOT (R494): In each MEAS_CYC cycle the module sends HUSH, CONVERT and READ at their periods. -/
  | measurementSlot (r : Fin 2)
  /-- SLOT_READINGS_DONE (R501): The READ blocks return, are checked and corrected, and the stack limits updated. -/
  | slotReadingsDone (r : Fin 2) (blocks : List (List Byte)) (moves : List (Nat × List Nat))
  /-- FAULT_CODE (R498): A fault code arrives on the ring; the module sets TRIP, drives the trip pin and zeroes the limits. -/
  | faultCode (r : Fin 2) (on : Bool)
  /-- TRIP_CLR (R498): A write of TRIP_CLR clears TRIP unless a fault code still arrives. -/
  | tripClr (w : World) (r : Fin 2)
  /-- OW_NOW (R502): A write of OW_NOW makes every monitor run the open-wire test in the next slot. -/
  | owNow (w : World) (r : Fin 2)
  /-- MON_RESET (R490): A monitor receives RESET, clearing its address and stopping balancing. -/
  | monReset (r : Fin 2) (m : Fin 64) (fromB : Bool) (f : List Byte)
  /-- MON_ENUM (R490): A monitor receives ENUM and takes its address if unaddressed. -/
  | monEnum (r : Fin 2) (m : Fin 64) (fromB : Bool) (f : List Byte)
  /-- MON_CONFIG (R490): A monitor receives CONFIG and stores its limits and timeout. -/
  | monConfig (r : Fin 2) (m : Fin 64) (fromB : Bool) (f : List Byte)
  /-- MON_HUSH (R490): A monitor receives HUSH and stops balancing. -/
  | monHush (r : Fin 2) (m : Fin 64) (fromB : Bool) (f : List Byte)
  /-- MON_CONVERT (R490): A monitor receives CONVERT and converts its cells or runs the open-wire test. -/
  | monConvert (r : Fin 2) (m : Fin 64) (fromB : Bool) (f : List Byte) (cells : List Nat) (msum temp : Nat)
  /-- MON_READ (R490): A monitor receives READ and appends its block. -/
  | monRead (r : Fin 2) (m : Fin 64) (fromB : Bool) (f : List Byte)
  /-- MON_BALANCE (R490): A monitor receives BALANCE and balances the cells in its map. -/
  | monBalance (r : Fin 2) (m : Fin 64) (fromB : Bool) (f : List Byte)
  /-- CELL_COMPARATOR_TRIP (R498): A monitor's comparator trips and it sends the fault code. -/
  | cellComparatorTrip (r : Fin 2) (m : Fin 64) (ov uv : Nat) (intern : Bool)
  /-- MONITOR_TIMEOUT (R500): A monitor with no valid frame for MON_TMO stops balancing and sets TIMEOUT. -/
  | monitorTimeout (r : Fin 2) (m : Fin 64)
  /-- HOP_BREAK (R491): A monitor without idle code from a neighbour for 20 µs turns frames back. -/
  | hopBreak (r : Fin 2) (m : Fin 64) (toB : Bool)
  /-- HOP_RESTORE (R491): After 1 ms of idle code from the neighbour a monitor resumes normal forwarding. -/
  | hopRestore (r : Fin 2) (m : Fin 64) (toB : Bool)
  /-- TXREQ (R511): A write of TXREQ makes a transmit object PENDING or is refused. -/
  | txreq (w : World) (c : Fin 4) (o : Fin 128)
  /-- CAN_CANCEL (R514): A write of CANCEL withdraws a PENDING object or holds a cancel on an ACTIVE one. -/
  | canCancel (w : World) (c : Fin 4) (o : Fin 128)
  /-- BO_REC (R517): A write of BO_REC starts bus-off recovery or is refused. -/
  | boRec (w : World) (c : Fin 4)
  /-- NEWDAT_CLEAR (R513): A write of 1 to NEWDAT releases a receive object. -/
  | newdatClear (w : World) (c : Fin 4) (o : Fin 128)
  /-- CAN_CNT_CLR (R521): A write of CNT_CLR clears RX_LOST and BO_CNT. -/
  | canCntClr (w : World) (c : Fin 4)
  /-- ARBITRATION_START (R512): At the start of arbitration the controller chooses one PENDING object. -/
  | arbitrationStart (c : Fin 4)
  /-- CAN_TX_SUCCESS (R511): A frame is sent without error and its object reads SENT. -/
  | canTxSuccess (c : Fin 4)
  /-- ARBITRATION_LOST (R511): An ACTIVE object loses arbitration and returns to PENDING or ends. -/
  | arbitrationLost (c : Fin 4)
  /-- CAN_ERROR (R516): A bus error updates the error counters and may enter error passive or bus-off. -/
  | canError (c : Fin 4) (e : CanErr) (eights : Nat)
  /-- CAN_FRAME_RX (R513): A valid received frame is stored in the receive ring or dropped. -/
  | canFrameRx (c : Fin 4) (f : CanFrame)
  /-- BUS_OFF_RECOVERY_DONE (R517): 128 occurrences of 11 recessive bits end bus-off and the controller is error active. -/
  | busOffRecoveryDone (c : Fin 4)
  /-- CAN_DISABLE (R520): A write of EN = 0 takes effect at the end of the frame in progress. -/
  | canDisable (w : World) (c : Fin 4)
  /-- REEL_START (R536): A write of START begins a channel's program, or is refused for the wrong world. -/
  | reelStart (w : World) (c : Fin 64) (ecc : Bool)
  /-- REEL_STOP (R538): A write of STOP ends a channel after writing out its buffer. -/
  | reelStop (w : World) (c : Fin 64)
  /-- REEL_FLAG (R528): A write of FLAG sets the channel's FLAG. -/
  | reelFlag (w : World) (c : Fin 64)
  /-- REEL_CNT_CLR (R540): A write of CNT_CLR clears SPLITS, PREEMPT and BYTES. -/
  | reelCntClr (w : World) (c : Fin 64)
  /-- MOVE (R527): A MOVE instruction copies data in bursts, waiting on its request line if asked. -/
  | move (c : Fin 64) (beats : Nat) (ecc : Bool)
  /-- MOVE_PIECE (R530): A request line is asserted and the waiting burst moves one piece. -/
  | movePiece (c : Fin 64) (beats : Nat) (ecc : Bool)
  /-- LOOP (R528): A LOOP instruction loads or counts down a loop counter and jumps. -/
  | loop (c : Fin 64) (ecc : Bool)
  /-- WAIT (R528): A WAIT instruction waits for a request line, event, flag or period count. -/
  | wait (c : Fin 64)
  /-- WAIT_END (R528): A channel's wait condition is met or times out with WAIT_TMO. -/
  | waitEnd (c : Fin 64) (ecc : Bool)
  /-- SIGNAL (R528): A SIGNAL instruction writes, kicks another channel, raises SIG or halts. -/
  | signal (c : Fin 64) (ecc : Bool)
  /-- SLOT_ATTRIBUTE_WRITE (R548): A write to a key slot's attributes, zeroising its key material when it widens them. -/
  | slotAttributeWrite (w : World) (k : Fin 256) (second : Bool) (v : Word)
  /-- CLR_GO (R548): A write of CLR_GO zeroises slot CLR_SLOT at once. -/
  | clrGo (w : World)
  /-- REGION_WRITE (R543): A write to a DRAM grant region changes world access. -/
  | regionWrite (w : World) (r : Fin 16) (k : Fin 4) (v : Word)
  /-- HASH (R557): A HASH job digests SRC into DST. -/
  | hash (w : Fin 3) (i : Nat)
  /-- HMAC (R557): An HMAC job computes or compares a tag. -/
  | hmac (w : Fin 3) (i : Nat)
  /-- GCM_ENC (R557): A GCM_ENC job encrypts SRC with its tag to DST. -/
  | gcmEnc (w : Fin 3) (i : Nat)
  /-- GCM_DEC (R557): A GCM_DEC job decrypts and verifies, writing nothing on AUTH_FAIL. -/
  | gcmDec (w : Fin 3) (i : Nat)
  /-- SIGN (R557): A SIGN job produces an ECDSA signature. -/
  | sign (w : Fin 3) (i : Nat)
  /-- VERIFY (R557): A VERIFY job checks an ECDSA signature. -/
  | verify (w : Fin 3) (i : Nat)
  /-- KEYGEN (R557): A KEYGEN job generates a key into a slot. -/
  | keygen (w : Fin 3) (i : Nat)
  /-- ECDH (R557): An ECDH job derives a shared secret into a slot. -/
  | ecdh (w : Fin 3) (i : Nat)
  /-- KDF (R557): A KDF job derives key material into a slot by the MODE selected. -/
  | kdf (w : Fin 3) (i : Nat)
  /-- IMPORT (R557): An IMPORT job writes key material into a slot. -/
  | importKey (w : Fin 3) (i : Nat)
  /-- WRAP (R551): A WRAP job writes a key blob. -/
  | wrap (w : Fin 3) (i : Nat)
  /-- UNWRAP (R551): An UNWRAP job restores a key blob into a matching slot. -/
  | unwrap (w : Fin 3) (i : Nat)
  /-- RANDOM (R557): A RANDOM job fills DST from the random source. -/
  | random (w : Fin 3) (i : Nat)
  /-- PUBREAD (R557): A PUBREAD job returns a slot's public key. -/
  | pubread (w : Fin 3) (i : Nat)
  /-- JOB_COMPLETE (R556): A crypto job completes, writes its destination slot and its completion entry. -/
  | jobComplete (w : Fin 3) (i : Nat)
  /-- RNG_FAIL (R557): The random source fails its health test. -/
  | rngFail
  /-- LC_GO (R560): A write of LC_GO starts burning the life-cycle fuses or is refused. -/
  | lcGo (w : World)
  /-- LC_DONE (R560): The life-cycle fuse burn completes. -/
  | lcDone
  /-- DBG_ARM (R562): A write of DBG_ARM arms debug for the next level 0 or 1 reset. -/
  | dbgArm (w : World)
  /-- RING_SUPPLY_LOSS (R569): A ring supply stays below 34.0 V for 100 µs and is lost. -/
  | ringSupplyLoss (portB : Bool)
  /-- RING_SUPPLY_GOOD (R573): A ring supply is good again, ending a hold-up before it is exhausted. -/
  | ringSupplyGood (portB : Bool)
  /-- HU_W0 (R572): W0 writes HU_W0 once its hold-up commit is complete. -/
  | huW0 (w : World)
  /-- HU_W1 (R572): W1 writes HU_W1 once its hold-up commit is complete. -/
  | huW1 (w : World)
  /-- HOLDUP_EXHAUSTED (R572): The capacitor bank falls to VCAP_MIN and a level 1 reset follows. -/
  | holdupExhausted
  /-- POWER_ON_RESET (R595): Power-on reset is released once supplies, rails, capacitor bank and reference are ready. -/
  | powerOnReset (aOk bOk : Bool)
  /-- BROWN_OUT (R575): A logic rail out of tolerance for 1 µs raises a level 1 reset. -/
  | brownOut
  /-- WATCHDOG_EXPIRY (R582): A watchdog counts down to zero and raises its reset source. -/
  | watchdogExpiry (k : Fin 3)
  /-- G_KICK (R582): W0 writes G_KICK, restarting the Gondola watchdog. -/
  | gKick (w : World)
  /-- B_KICK (R582): W1 writes B_KICK, restarting the Bremus watchdog. -/
  | bKick (w : World)
  /-- E_KICK (R582): W2 writes E_KICK, restarting the Envelope watchdog. -/
  | eKick (w : World)
  /-- SW_GO (R583): W0 writes SW_GO, requesting a software reset at SW_LEVEL or being refused. -/
  | swGo (w : World)
  /-- EXT_RST (R575): EXT_RST_N held low for 10 µs raises a reset. -/
  | extRst
  /-- DEBUG_RESET (R575): A debug request raises a reset while DEBUG_EN is 1. -/
  | debugReset
  /-- RESET_ACCEPT (R577): A reset source is mapped to its level, merged with others and recorded in CAUSE. -/
  | resetAccept
  /-- RESET_APPLY (R578): Once every hold has ended the accepted reset is applied at its level. -/
  | resetApply
  /-- OPTION_LOAD (R592): The option loader reads fuses and the option sector and loads the option registers. -/
  | optionLoad
  /-- BOOT_VERIFY (R596): Gondola's boot ROM verifies the flash image and starts or halts with BOOT_FAIL. -/
  | bootVerify
  /-- BLOCK_RELEASE (R584): A block's clock has been stable for 256 cycles and it is released from reset. -/
  | blockRelease (b : Fin 28)
  /-- CLK_FAIL (R584): CLK_OK does not come within 2 ms of release and the block stays in reset. -/
  | clkFail (b : Fin 28)
  /-- RETRY_GO (R584): W0 writes RETRY_GO to retry the release of a block. -/
  | retryGo (w : World)
  /-- BRST_IDLE_REACHED (R586): In START, TEST or RECOVERY the block reaches IDLE and its requested reset is taken. -/
  | brstIdleReached (p : Page)
  /-- IDLE_TIMEOUT (R586): IDLE_TMO passes without IDLE and the block reset is taken anyway. -/
  | idleTimeout (p : Page)
  /-- IDLE_TO_CLEAR (R599): A write of 1 clears bits of IDLE_TO. -/
  | idleToClear (w : World) (v : Word)
  /-- REF_FAIL (R589): The 25 MHz reference fails and the safety island forces the safe state and requests a reset. -/
  | refFail
  /-- PLL_LOST (R589): A PLL loses lock and the blocks on it are held in reset until lock returns. -/
  | pllLost (k : Fin 6)
  /-- RUN_W1 (R596): W0 writes RUN_W1 to start the Bremus cores. -/
  | runW1 (w : World)
  /-- RUN_W2 (R596): W0 writes RUN_W2 to start the Envelope cores. -/
  | runW2 (w : World)
  /-- MODE_WRITE (R593): W0 writes RST MODE, refused in RECOVERY or to 3. -/
  | modeWrite (w : World) (v : Fin 4)
  /-- FLASH_PROGRAM (R598): A write of FL_CMD = 1 programs one flash word. -/
  | flashProgram (w : World)
  /-- FLASH_ERASE (R598): A write of FL_CMD = 2 erases a flash sector. -/
  | flashErase (w : World)
  /-- FLASH_DONE (R598): A flash program or erase completes and FL_BUSY clears. -/
  | flashDone
  /-- TETHER_RETURN (R75): A Tether lane regains lock, so LANE_FLT or TDOWN clears, fallback frames stop, and Spar takes partner time again under R71 with FOLLOW_SRC back at 0. -/
  | tetherReturn (two : Bool)
  /-- DRIVER_RESET (R118): A stage driver's own reset returns it to unattached: it stops gating, keeps its selectors open and answers only PROBE and ATTACH. -/
  | driverReset (i : Stage)
  /-- CAN_BUS_IDLE (R518): The controller detects bus idle, so pending ROM or MON changes, the end of the forced monitor mode of R519, and integration after a protocol exception or error take effect. -/
  | canBusIdle (c : Fin 4)
  /-- SHUTDOWN_RESET_RELEASE (R394): Every TD sensor reads 10 °C below its shutdown limit, and the reset held after a thermal shutdown is released. -/
  | shutdownResetRelease (td : List (Option Int))
  /-- CASE_TRIP_SELF_CLEAR (R410): While the logic is in reset, CASE_TRIP clears itself when TCASE has fallen to 130 °C. -/
  | caseTripSelfClear (tcase : Int)
  /-- UNCORRECTABLE_ECC_ERROR (R468): An uncorrectable ECC error occurs in the module's own SRAM or DRAM, and SELFTEST bit 4 (MEM) is set. -/
  | uncorrectableEccError
  deriving DecidableEq, Repr

end Sys2Proof
end

