-- ==== Sys2Proof/Config.lean ====
section
/-! DEFINITION. What the spec leaves to the implementation or leaves open: free values. None has a body that a
proof can see, so a claim about the machine holds whatever they are. -/

namespace Sys2Proof

/-- MINOR of every ID register (R1): any value. DESIGN CHOICE, log entry 2. -/
opaque Config.minor : Nat

/-- CAP of each page where a chapter gives its bits no value (R29). DESIGN CHOICE, log entry 2. -/
opaque Config.cap : Nat → Nat

/-- A value the spec leaves undefined: the n-th free value. DESIGN CHOICE, log entry 1. -/
opaque Config.free : Nat → Nat

/-- 2π in units of 10^-12 (R57, R621). DESIGN CHOICE in its precision, log entry 6. -/
def Config.twoPi : Nat := 6283185307180

/-- Angle, frequency and rate of change of frequency of a positive sequence that is zero (R57): no value is stated. DESIGN
CHOICE, log entry 178. -/
opaque Config.zeroAngle : Nat
opaque Config.zeroFreq : Int
opaque Config.zeroRocof : Int

/-- Bytes 1 to 23 of a stage driver's IDENT body (R97): what the driver is. DESIGN CHOICE, log entry 179. -/
opaque Config.identBody : Nat → List Byte

/-- Whether a session's response datagrams go out on ring port B, and at which priority, 5 or below (R24, R51). DESIGN
CHOICE, log entry 181. -/
opaque Config.respOnB : Nat → Bool
opaque Config.respPrio : Nat → Nat

/-- Computation time of Burner in a period before its bound (R130): the stages computed with their banks' dimensions, and
whether the period holds a tick. DESIGN CHOICE, log entry 15. -/
opaque Config.lawTime : List (Nat × Nat) → Bool → Nat

/-- AES-GCM opening (R47, R557): key, IV, associated data, ciphertext, tag; `none` where the tag does not
verify. DESIGN CHOICE, log entry 5. -/
opaque Config.gcmOpen : List Byte → List Byte → List Byte → List Byte → List Byte → Option (List Byte)

/-- AES-GCM sealing: key, IV, associated data, plaintext; ciphertext followed by the tag. Log entry 5. -/
opaque Config.gcmSeal : List Byte → List Byte → List Byte → List Byte → List Byte

/-- A digest (R557): algorithm 0 SHA-256, 1 SHA-384. Log entry 5. -/
opaque Config.digest : Nat → List Byte → List Byte

/-- An HMAC tag (R557): algorithm, key, message. Log entry 5. -/
opaque Config.hmac : Nat → List Byte → List Byte → List Byte

/-- An ECDSA signature, r and s (R557): algorithm, private key, digest, random value. Log entry 5. -/
opaque Config.ecSign : Nat → List Byte → List Byte → Nat → List Byte

/-- An ECDSA check (R557): algorithm, public key, digest, signature. Log entry 5. -/
opaque Config.ecVerify : Nat → List Byte → List Byte → List Byte → Bool

/-- A public key is on its curve (R557): algorithm, public key. Log entry 5. -/
opaque Config.onCurve : Nat → List Byte → Bool

/-- The public key of a private key (R545): algorithm, private key. Log entry 5. -/
opaque Config.pubOf : Nat → List Byte → List Byte

/-- ECDH and HKDF-Extract (R557): algorithm, private key, peer key, salt, output bytes. Log entry 5. -/
opaque Config.ecdh : Nat → List Byte → List Byte → List Byte → Nat → List Byte

/-- A key derivation (R557): mode, algorithm, secret, label and context, output bytes. Log entry 5. -/
opaque Config.kdf : Nat → Nat → List Byte → List Byte → Nat → List Byte

/-- The device root in the fuses and the test root common to all modules (R549, R561). Log entry 5. -/
opaque Config.deviceRoot : List Byte
opaque Config.testRoot : List Byte

/-- TLS 1.2 CBC records (R270, SUITE 1): key, sequence number, record; the plaintext where it verifies. Log entry 5. -/
opaque Config.cbcOpen : List Byte → Nat → Nat → List Byte → Option (List Byte)
opaque Config.cbcSeal : List Byte → Nat → Nat → List Byte → List Byte

/-- NID of an NMK at security level 0, as HomePlug AV provides (R260). Log entry 5. -/
opaque Config.nidOf : List Byte → List Byte

/-- What a voltage, current or power register reads for a mean outside its range (R4): a negative voltage, above all. The
spec states no value. Log entry 196. -/
opaque Config.meanOut : Int → BitVec 32

/-- Carriers masked at reset: the amateur bands, as HomePlug AV provides (R279). Log entry 23. -/
opaque Config.hpavMask : BitVec 920

/-- The plaintext that the part of a record received so far carries, before the record has verified (R272): key, suite,
sequence number, header, ciphertext so far; without IV, padding, MAC, tag and inner content type. Log entry 5. -/
opaque Config.recordPlain : List Byte → Nat → Nat → List Byte → List Byte → List Byte

/-- Temperature in 1/16 °C of a KIND 1 reading for which the formula of R381 gives none: P1, P2 and the reading. DESIGN
CHOICE, log entry 25. -/
opaque Config.ntcOpen : Nat → Nat → Nat → Int

/-- The JSON payload of an OCMF record (R367) from its field values in the order of the table: OCMF's own text form.
DESIGN CHOICE, log entry 24. -/
opaque Config.ocmfPayload : List (List Byte) → List Byte

/-- TM of an OCMF reading: local time in ms and its offset in minutes, without the status letter. Log entry 24. -/
opaque Config.ocmfTime : Int → Int → List Byte

/-- Bremus's firmware version and the CRC-16 of its image (R367, R370). Log entry 24. -/
opaque Config.fwVersion : List Byte
opaque Config.fwCrc : Nat

/-- The bytes of a boundary record from the numbers it holds (R353, R365): its body has no stated layout. Log entry 24. -/
opaque Config.brecBytes : List Int → List Byte

/-- The bytes CFG_ID is taken over (R480): VMAC_BASE, SPLC_MAC, NOMINAL, PHASES, PRIO_SWAP, the safety and the metrology
switch positions; their layout is not stated. DESIGN CHOICE, log entry 28. -/
opaque Config.cfgBytes : List Nat → List Byte

/-- The CRC-32C of a state image over its chunks from 2 to 125 that are sent (R469), whose byte layout VERSION fixes (R482, log
entry 27). -/
opaque Config.imageCrc : List (List (Nat × Int)) → Nat

/-- A field of the option body (R591, R593), by its number; the body's layout is not stated. Log entry 33. -/
opaque Config.optField : List Byte → Nat → Nat

/-- A locally administered address formed from the serial number (R593): VMAC_BASE 0, SPLC_MAC 1. Log entry 33. -/
opaque Config.localMac : Nat → Nat → Nat

/-- The image of a flash bank verifies (R596): digest of the authority key, bank, flash contents. Log entry 5. -/
opaque Config.imageOk : List Byte → Nat → List (Nat × Byte) → Bool

end Sys2Proof
end

