-- ==== Sys2Proof/Machine/RegFile.lean ====
section
/-! DEFINITION. The register file: every register field of spec/ that holds a value has one home here.

A field is named by a `Row` (its base address, the arrays it is repeated in, its bits, class and reset
value) and a list of indexes. A store is a list of (key, difference) pairs with rising keys, where the key is
the field's bit address and the difference is the value XOR the reset value, so a field that reads its reset
value is not listed, and equal register files are equal data. -/

namespace Sys2Proof.Machine

/-- The class of a register field that holds a value (00_scope.md, Field classes). A sticky flag of class W1C
is kept as `RO`: its writes are commands. -/
inductive Cls where
  | L | S | F | RO
  deriving DecidableEq, Repr

/-- One array a field is repeated in: index `i < n` stands at `(i / m) * s0 + (i % m) * s1`. -/
structure Dim where
  s0 : Nat
  s1 : Nat
  m : Nat
  n : Nat
  deriving DecidableEq, Repr

/-- A register field: byte address from 0x4000_0000 of its first instance, arrays, low bit, width, class, reset
value, and reset values by first index where they differ. -/
structure Row where
  base : Nat
  dims : List Dim
  lo : Nat
  w : Nat
  cls : Cls
  rst : Nat
  rsts : List Nat
  deriving DecidableEq, Repr

/-- Byte offset of index `i` in an array. -/
def Dim.off (d : Dim) (i : Nat) : Nat := (i / d.m) * d.s0 + (i % d.m) * d.s1

/-- The index whose instance holds byte offset `o`, and the offset inside it. -/
def Dim.inv (d : Dim) (o : Nat) : Option (Nat × Nat) :=
  let q := if d.s0 = 0 then 0 else o / d.s0
  let o' := if d.s0 = 0 then o else o % d.s0
  let r := o' / d.s1
  let i := q * d.m + r
  if r < d.m ∧ i < d.n then some (i, o' % d.s1) else none

/-- Byte offset of an instance of a field. -/
def offsets : List Dim → List Nat → Nat
  | d :: ds, i :: is => d.off i + offsets ds is
  | _, _ => 0

/-- Byte address of an instance of a field. -/
def Row.addr (r : Row) (ix : List Nat) : Nat := r.base + offsets r.dims ix

/-- The key of an instance of a field: its bit address. -/
def Row.key (r : Row) (ix : List Nat) : Nat := 8 * r.addr ix + r.lo

/-- The reset value of an instance of a field. -/
def Row.reset (r : Row) (ix : List Nat) : Nat :=
  match r.rsts with
  | [] => r.rst
  | l => l.getD (ix.headD 0) r.rst

/-- The indexes whose instance starts at byte offset `o`. -/
def invOffsets : List Dim → Nat → Option (List Nat)
  | [], o => if o = 0 then some [] else none
  | d :: ds, o =>
    match d.inv o with
    | none => none
    | some (i, o') => (invOffsets ds o').map (i :: ·)

/-- The instance of a field that starts at byte address `a`. -/
def Row.inst (r : Row) (a : Nat) : Option (List Nat) :=
  if a < r.base then none else invOffsets r.dims (a - r.base)

/-! ## Sparse stores -/

/-- The entry of a store, `z` where none is listed. -/
def sget {α : Type} (z : α) : List (Nat × α) → Nat → α
  | [], _ => z
  | (k', v) :: t, k => if k = k' then v else sget z t k

/-- A store without its entries for one key. -/
def sdel {α : Type} (m : List (Nat × α)) (k : Nat) : List (Nat × α) := m.filter (fun e => e.1 != k)

/-- A new entry put before the first greater key. -/
def sins {α : Type} : List (Nat × α) → Nat → α → List (Nat × α)
  | [], k, v => [(k, v)]
  | (k', v') :: t, k, v => if k < k' then (k, v) :: (k', v') :: t else (k', v') :: sins t k v

/-- A store with one entry written: rising keys are kept, and an entry equal to `z` is not listed. -/
def sput {α : Type} [DecidableEq α] (z : α) (m : List (Nat × α)) (k : Nat) (v : α) : List (Nat × α) :=
  if v = z then sdel m k else sins (sdel m k) k v

/-- Entries of `src` with keys from `a` below `b` put in place of those of `dst` (R34: a whole shadow at once). -/
def scopy {α : Type} (dst src : List (Nat × α)) (a b : Nat) : List (Nat × α) :=
  dst.filter (fun e => e.1 < a) ++ src.filter (fun e => a ≤ e.1 ∧ e.1 < b) ++ dst.filter (fun e => a ≤ e.1 ∧ b ≤ e.1)

/-- Keys rise strictly. -/
def srising {α : Type} : List (Nat × α) → Bool
  | [] => true
  | [_] => true
  | a :: b :: t => decide (a.1 < b.1) && srising (b :: t)

/-- The canonical form of a store: rising keys, no entry equal to `z`. -/
def swf {α : Type} [DecidableEq α] (z : α) (m : List (Nat × α)) : Bool :=
  srising m && m.all (fun e => decide (e.2 ≠ z))

/-- The register file: live fields (classes L, F and RO), the active copies of class S fields, and their shadow
copies (R34). -/
structure RegFile where
  live : List (Nat × Nat)
  act : List (Nat × Nat)
  shd : List (Nat × Nat)
  deriving DecidableEq, Repr

/-- Every field at its reset value. -/
def RegFile.reset : RegFile := ⟨[], [], []⟩

/-- The canonical form of the register file. -/
def RegFile.wf (f : RegFile) : Bool := swf 0 f.live && swf 0 f.act && swf 0 f.shd

/-- Value of a field in use: for class S the active copy. -/
def RegFile.get (f : RegFile) (r : Row) (ix : List Nat) : Nat :=
  ((sget 0 (if r.cls = .S then f.act else f.live) (r.key ix)) ^^^ r.reset ix) % 2 ^ r.w

/-- Value a read returns: for class S the shadow copy (R34). -/
def RegFile.getShadow (f : RegFile) (r : Row) (ix : List Nat) : Nat :=
  ((sget 0 (if r.cls = .S then f.shd else f.live) (r.key ix)) ^^^ r.reset ix) % 2 ^ r.w

/-- What a store keeps for a value of a field: its low `w` bits as the difference to the reset value. -/
def Row.enc (r : Row) (ix : List Nat) (v : Nat) : Nat := (v % 2 ^ r.w) ^^^ r.reset ix

/-- Write a field: class S in both copies, the others live. -/
def RegFile.put (f : RegFile) (r : Row) (ix : List Nat) (v : Nat) : RegFile :=
  if r.cls = .S then
    { f with act := sput 0 f.act (r.key ix) (r.enc ix v), shd := sput 0 f.shd (r.key ix) (r.enc ix v) }
  else { f with live := sput 0 f.live (r.key ix) (r.enc ix v) }

/-- Write the shadow copy of a class S field (R34). -/
def RegFile.putShadow (f : RegFile) (r : Row) (ix : List Nat) (v : Nat) : RegFile :=
  { f with shd := sput 0 f.shd (r.key ix) (r.enc ix v) }

/-- A commit of the byte addresses from `a` below `b`: the shadow becomes active (R34). -/
def RegFile.commit (f : RegFile) (a b : Nat) : RegFile :=
  { f with act := scopy f.act f.shd (8 * a) (8 * b) }

/-- A cancel of the byte addresses from `a` below `b`: the shadow reverts to the active values (R37). -/
def RegFile.revert (f : RegFile) (a b : Nat) : RegFile :=
  { f with shd := scopy f.shd f.act (8 * a) (8 * b) }

/-- Fields at byte addresses from `a` below `b` at their reset values. -/
def RegFile.clear (f : RegFile) (a b : Nat) : RegFile :=
  { live := scopy f.live [] (8 * a) (8 * b), act := scopy f.act [] (8 * a) (8 * b),
    shd := scopy f.shd [] (8 * a) (8 * b) }

end Sys2Proof.Machine
end

