-- ==== Sys2Proof/Machine/Rows.lean ====
section
/-! DEFINITION. The register fields of the block, one `Row` for each field that holds a value, with the
address, bits, class and reset value of the register tables of spec/ (R29, R30, R31, R40 and the tables of
each chapter). A field of class W1S, and a field of class W1C that only clears others, holds nothing and has
no row; a field whose value is another piece of state (a map of other bits) is a view (Bus.lean). -/

namespace Sys2Proof.Machine


/-! Registers of 02_register_pages_and_host_access.md, R44. -/

def R.host_UDP_PORT : Row := ⟨0x8100, [], 0, 16, .F, 49820, []⟩
def R.host_PCIE_W9_EN : Row := ⟨0x8104, [], 0, 1, .L, 0, []⟩
def R.host_VIOL : Row := ⟨0x8140, [⟨0, 4, 10, 10⟩], 0, 32, .RO, 0, []⟩

/-! Registers of 02_register_pages_and_host_access.md, R45. -/

def R.sess_SESS_ADDR : Row := ⟨0x9100, [⟨0, 32, 6, 6⟩], 0, 128, .L, 0, []⟩
def R.sess_SESS_EN : Row := ⟨0x9110, [⟨0, 32, 6, 6⟩], 31, 1, .L, 0, []⟩
def R.sess_SESS_KEY : Row := ⟨0x9110, [⟨0, 32, 6, 6⟩], 16, 8, .L, 0, []⟩
def R.sess_SESS_SPORT : Row := ⟨0x9110, [⟨0, 32, 6, 6⟩], 0, 16, .L, 0, []⟩
def R.sess_SESS_NONCE_LO : Row := ⟨0x9114, [⟨0, 32, 6, 6⟩], 0, 32, .RO, 0, []⟩
def R.sess_SESS_NONCE_HI : Row := ⟨0x9118, [⟨0, 32, 6, 6⟩], 0, 32, .RO, 0, []⟩
def R.sess_SESS_DROP : Row := ⟨0x911C, [⟨0, 32, 6, 6⟩], 0, 32, .RO, 0, []⟩

/-! Registers of 03_spar_mains_time.md, R90. -/

def R.spar_QUAL_CYCLES : Row := ⟨0x4100, [], 16, 8, .F, 10, []⟩
def R.spar_BW : Row := ⟨0x4100, [], 10, 2, .F, 2, []⟩
def R.spar_FOLLOW : Row := ⟨0x4100, [], 9, 1, .L, 0, []⟩
def R.spar_TF_EN : Row := ⟨0x4100, [], 8, 1, .L, 0, []⟩
def R.spar_PHASES : Row := ⟨0x4100, [], 1, 1, .F, 0, []⟩
def R.spar_NOMINAL : Row := ⟨0x4100, [], 0, 1, .F, 0, []⟩

/-! Registers of 03_spar_mains_time.md, R90. -/

def R.spar_VNOM : Row := ⟨0x4104, [], 0, 32, .F, 0, []⟩
def R.spar_ROCOF_MAX : Row := ⟨0x4108, [], 16, 16, .F, 4000, []⟩
def R.spar_LOSS_PCT : Row := ⟨0x4108, [], 8, 8, .F, 30, []⟩
def R.spar_SEEK_PCT : Row := ⟨0x4108, [], 0, 8, .F, 50, []⟩
def R.spar_CYCLE_LOAD : Row := ⟨0x410C, [], 0, 32, .F, 0, []⟩
def R.spar_FOLLOW_SRC : Row := ⟨0x4110, [], 5, 1, .RO, 0, []⟩
def R.spar_ALIGNED : Row := ⟨0x4110, [], 4, 1, .RO, 0, []⟩
def R.spar_SLEWING : Row := ⟨0x4110, [], 3, 1, .RO, 0, []⟩
def R.spar_LOCK : Row := ⟨0x4110, [], 0, 3, .RO, 0, []⟩
def R.spar_FREQ : Row := ⟨0x4114, [], 0, 32, .RO, 0, []⟩
def R.spar_PHASE_ERR : Row := ⟨0x4118, [], 0, 16, .RO, 0, []⟩
def R.spar_ROCOF : Row := ⟨0x411C, [], 0, 32, .RO, 0, []⟩
def R.spar_VAMP : Row := ⟨0x4120, [], 0, 32, .RO, 0, []⟩
def R.spar_PERIOD_PS : Row := ⟨0x412C, [], 0, 32, .RO, 0, []⟩
def R.spar_PARTNER_SKEW : Row := ⟨0x4130, [], 0, 16, .RO, 0, []⟩
def R.spar_WALL_SET : Row := ⟨0x4148, [], 0, 64, .L, 0, []⟩
def R.wset_AUTH : Row := ⟨0x4150, [], 2, 1, .L, 0, []⟩
def R.wset_SLEW : Row := ⟨0x4150, [], 1, 1, .L, 0, []⟩
def R.wall_SETBACK : Row := ⟨0x4154, [], 3, 1, .RO, 0, []⟩
def R.wall_SLEWING : Row := ⟨0x4154, [], 2, 1, .RO, 0, []⟩
def R.wall_AUTH : Row := ⟨0x4154, [], 1, 1, .RO, 0, []⟩
def R.wall_VALID : Row := ⟨0x4154, [], 0, 1, .RO, 0, []⟩
def R.spar_WALL_AT0 : Row := ⟨0x4158, [], 0, 64, .RO, 0, []⟩
def R.spar_SETBACK_FROM : Row := ⟨0x4160, [], 0, 64, .RO, 0, []⟩
def R.spar_SETBACK_CYCLE : Row := ⟨0x4168, [], 0, 32, .RO, 0, []⟩
def R.spar_EVT_FIRED : Row := ⟨0x4180, [⟨0, 4, 8, 8⟩], 0, 32, .RO, 0, []⟩
def R.spar_EVT_LATE : Row := ⟨0x41A0, [⟨0, 4, 8, 8⟩], 0, 32, .RO, 0, []⟩
def R.spar_STROBE_CYCLE : Row := ⟨0x41C0, [], 0, 32, .RO, 0, []⟩
def R.spar_STROBE_SEQ : Row := ⟨0x41C4, [], 24, 8, .RO, 0, []⟩
def R.spar_STROBE_PERIOD : Row := ⟨0x41C4, [], 0, 10, .RO, 0, []⟩

/-! Registers of 03_spar_mains_time.md, R90. -/

def R.evt_TIME0 : Row := ⟨0x4400, [⟨0, 12, 256, 256⟩], 0, 32, .L, 0, []⟩
def R.evt_TIME1 : Row := ⟨0x4404, [⟨0, 12, 256, 256⟩], 16, 16, .L, 0, []⟩
def R.evt_REPEAT : Row := ⟨0x4404, [⟨0, 12, 256, 256⟩], 0, 16, .L, 0, []⟩
def R.evt_ARM : Row := ⟨0x4408, [⟨0, 12, 256, 256⟩], 31, 1, .L, 0, []⟩
def R.evt_MODE : Row := ⟨0x4408, [⟨0, 12, 256, 256⟩], 30, 1, .L, 0, []⟩
def R.evt_KIND : Row := ⟨0x4408, [⟨0, 12, 256, 256⟩], 28, 2, .L, 0, []⟩
def R.evt_IRQ : Row := ⟨0x4408, [⟨0, 12, 256, 256⟩], 27, 1, .L, 0, []⟩
def R.evt_COUNT : Row := ⟨0x4408, [⟨0, 12, 256, 256⟩], 0, 8, .RO, 0, []⟩

/-! Registers of 04_stage_line.md, R121. -/

def R.line_GP_FW : Row := ⟨0x20100, [⟨0, 1024, 128, 128⟩], 4, 1, .L, 0, []⟩
def R.line_MOOR_EN : Row := ⟨0x20100, [⟨0, 1024, 128, 128⟩], 1, 1, .L, 0, []⟩
def R.line_LEN : Row := ⟨0x20100, [⟨0, 1024, 128, 128⟩], 0, 1, .L, 0, []⟩
def R.line_PARTNER_HEARD : Row := ⟨0x20104, [⟨0, 1024, 128, 128⟩], 7, 1, .RO, 0, []⟩
def R.line_UP_OK : Row := ⟨0x20104, [⟨0, 1024, 128, 128⟩], 6, 1, .RO, 0, []⟩
def R.line_LSTATE : Row := ⟨0x20104, [⟨0, 1024, 128, 128⟩], 0, 3, .RO, 0, []⟩
def R.line_RTT : Row := ⟨0x20108, [⟨0, 1024, 128, 128⟩], 0, 10, .RO, 0, []⟩
def R.line_CLAIM_HEARD : Row := ⟨0x2010C, [⟨0, 1024, 128, 128⟩], 16, 16, .RO, 0, []⟩
def R.line_CLAIM_ECHO : Row := ⟨0x2010C, [⟨0, 1024, 128, 128⟩], 0, 16, .RO, 0, []⟩
def R.line_SEQ_ECHO : Row := ⟨0x20110, [⟨0, 1024, 128, 128⟩], 8, 8, .RO, 0, []⟩
def R.line_INFORCE : Row := ⟨0x20110, [⟨0, 1024, 128, 128⟩], 0, 8, .RO, 0, []⟩
def R.line_Y : Row := ⟨0x20114, [⟨0, 1024, 128, 128⟩, ⟨0, 4, 4, 4⟩], 0, 32, .RO, 0, []⟩
def R.line_STATUS : Row := ⟨0x20124, [⟨0, 1024, 128, 128⟩], 0, 32, .RO, 0, []⟩
def R.line_AUX_SEL : Row := ⟨0x20128, [⟨0, 1024, 128, 128⟩], 24, 8, .RO, 0, []⟩
def R.line_AUX_VAL : Row := ⟨0x20128, [⟨0, 1024, 128, 128⟩], 0, 16, .RO, 0, []⟩
def R.line_SNAP_Y : Row := ⟨0x20130, [⟨0, 1024, 128, 128⟩, ⟨0, 4, 4, 4⟩], 0, 32, .RO, 0, []⟩
def R.line_UP_MISS : Row := ⟨0x20150, [⟨0, 1024, 128, 128⟩], 16, 16, .RO, 0, []⟩
def R.line_UP_CRC : Row := ⟨0x20150, [⟨0, 1024, 128, 128⟩], 0, 16, .RO, 0, []⟩
def R.line_MODEL : Row := ⟨0x20180, [⟨0, 1024, 128, 128⟩], 16, 16, .RO, 0, []⟩
def R.line_VENDOR : Row := ⟨0x20180, [⟨0, 1024, 128, 128⟩], 0, 16, .RO, 0, []⟩
def R.line_SERIAL : Row := ⟨0x20184, [⟨0, 1024, 128, 128⟩], 0, 32, .RO, 0, []⟩
def R.line_Y3_KIND : Row := ⟨0x20188, [⟨0, 1024, 128, 128⟩], 16, 8, .RO, 0, []⟩
def R.line_CMD_KIND : Row := ⟨0x20188, [⟨0, 1024, 128, 128⟩], 8, 8, .RO, 0, []⟩
def R.line_PROTO : Row := ⟨0x20188, [⟨0, 1024, 128, 128⟩], 0, 8, .RO, 0, []⟩
def R.line_FS : Row := ⟨0x2018C, [⟨0, 1024, 128, 128⟩, ⟨0, 4, 4, 4⟩], 0, 24, .RO, 0, []⟩

/-! Registers of 05_burner_control_engine.md, R162. -/

def R.stgA_A_PEND : Row := ⟨0x413F0, [⟨0, 1024, 128, 128⟩], 0, 1, .RO, 0, []⟩
def R.stgA_A_EVENT : Row := ⟨0x413F4, [⟨0, 1024, 128, 128⟩], 8, 8, .L, 0, []⟩
def R.stgA_A_BOUND : Row := ⟨0x413F4, [⟨0, 1024, 128, 128⟩], 0, 2, .L, 0, []⟩
def R.stgA_A_COMMIT_SEQ : Row := ⟨0x413F8, [⟨0, 1024, 128, 128⟩], 0, 32, .RO, 0, []⟩

/-! Registers of 05_burner_control_engine.md, R163. -/

def R.brn_MAX_NS : Row := ⟨0x40110, [], 16, 16, .RO, 0, []⟩
def R.brn_LAST_NS : Row := ⟨0x40110, [], 0, 16, .RO, 0, []⟩
def R.brn_OVERRUN : Row := ⟨0x40114, [], 0, 32, .RO, 0, []⟩
def R.spl_PRE : Row := ⟨0x40200, [], 8, 3, .L, 4, []⟩
def R.spl_STATE : Row := ⟨0x40200, [], 4, 2, .RO, 0, []⟩
def R.brn_TRG_EDGE : Row := ⟨0x40204, [], 16, 1, .L, 0, []⟩
def R.brn_TRG_PROBE : Row := ⟨0x40204, [], 12, 4, .L, 0, []⟩
def R.brn_TRG_INDEX : Row := ⟨0x40204, [], 4, 8, .L, 0, []⟩
def R.brn_TRG_KIND : Row := ⟨0x40204, [], 0, 4, .L, 0, []⟩
def R.brn_TRIG_LEVEL : Row := ⟨0x40208, [], 0, 32, .L, 0, []⟩
def R.brn_TRIG_CYCLE : Row := ⟨0x4020C, [], 0, 32, .RO, 0, []⟩
def R.brn_TRIG_PERIOD : Row := ⟨0x40210, [], 0, 10, .RO, 0, []⟩
def R.spl_WIN : Row := ⟨0x40214, [], 0, 11, .L, 0, []⟩
def R.prb_EN : Row := ⟨0x40240, [⟨0, 4, 16, 16⟩], 31, 1, .L, 0, []⟩
def R.prb_DEC : Row := ⟨0x40240, [⟨0, 4, 16, 16⟩], 28, 3, .L, 0, []⟩
def R.prb_KIND : Row := ⟨0x40240, [⟨0, 4, 16, 16⟩], 24, 2, .L, 0, []⟩
def R.prb_INDEX : Row := ⟨0x40240, [⟨0, 4, 16, 16⟩], 16, 8, .L, 0, []⟩
def R.prb_SIGNAL : Row := ⟨0x40240, [⟨0, 4, 16, 16⟩], 8, 8, .L, 0, []⟩
def R.brn_TRIG_INDEX : Row := ⟨0x40280, [⟨0, 4, 16, 16⟩], 0, 16, .RO, 0, []⟩

/-! Registers of 05_burner_control_engine.md, R164. -/

def R.stg_XCHK_EN : Row := ⟨0x41100, [⟨0, 1024, 128, 128⟩], 6, 1, .S, 1, []⟩
def R.stg_RES_EN : Row := ⟨0x41100, [⟨0, 1024, 128, 128⟩], 5, 1, .S, 1, []⟩
def R.stg_BANK : Row := ⟨0x41100, [⟨0, 1024, 128, 128⟩], 0, 4, .S, 0, []⟩
def R.stg_SAT_CNT : Row := ⟨0x41104, [⟨0, 1024, 128, 128⟩], 24, 8, .RO, 0, []⟩
def R.stg_BANK_INUSE : Row := ⟨0x41104, [⟨0, 1024, 128, 128⟩], 16, 4, .RO, 0, []⟩
def R.stg_CAUSE : Row := ⟨0x41104, [⟨0, 1024, 128, 128⟩], 12, 3, .RO, 0, []⟩
def R.stg_FAILED : Row := ⟨0x41104, [⟨0, 1024, 128, 128⟩], 11, 1, .RO, 0, []⟩
def R.stg_SWITCHING : Row := ⟨0x41104, [⟨0, 1024, 128, 128⟩], 10, 1, .RO, 0, []⟩
def R.stg_SUBST : Row := ⟨0x41104, [⟨0, 1024, 128, 128⟩], 9, 1, .RO, 0, []⟩
def R.stg_XCHK_BAD : Row := ⟨0x41104, [⟨0, 1024, 128, 128⟩], 8, 1, .RO, 0, []⟩
def R.stg_RES_FLAG : Row := ⟨0x41104, [⟨0, 1024, 128, 128⟩], 4, 4, .RO, 0, []⟩
def R.stg_RES_RUN : Row := ⟨0x41104, [⟨0, 1024, 128, 128⟩], 0, 2, .RO, 0, []⟩
def R.stg_FAIL_CYCLE : Row := ⟨0x41108, [⟨0, 1024, 128, 128⟩], 0, 32, .RO, 0, []⟩
def R.stg_FAIL_PERIOD : Row := ⟨0x4110C, [⟨0, 1024, 128, 128⟩], 0, 10, .RO, 0, []⟩
def R.stg_R : Row := ⟨0x41110, [⟨0, 1024, 128, 128⟩], 0, 32, .RO, 0, []⟩
def R.stg_U_A : Row := ⟨0x41114, [⟨0, 1024, 128, 128⟩], 0, 32, .RO, 0, []⟩
def R.stg_U_B : Row := ⟨0x41118, [⟨0, 1024, 128, 128⟩], 0, 32, .RO, 0, []⟩
def R.stg_SENSE_TH : Row := ⟨0x4111C, [⟨0, 1024, 128, 128⟩], 0, 32, .S, 50000, []⟩
def R.stg_XHAT : Row := ⟨0x41120, [⟨0, 1024, 128, 128⟩, ⟨0, 4, 8, 8⟩], 0, 32, .RO, 0, []⟩
def R.stg_INNOV : Row := ⟨0x41140, [⟨0, 1024, 128, 128⟩, ⟨0, 4, 4, 4⟩], 0, 32, .RO, 0, []⟩
def R.stg_XCHK : Row := ⟨0x41150, [⟨0, 1024, 128, 128⟩], 0, 32, .RO, 0, []⟩

/-! Registers of 05_burner_control_engine.md, R165. -/

def R.prt_KP : Row := ⟨0x65100, [⟨4096, 1920, 2, 32⟩, ⟨0, 32, 6, 6⟩], 0, 32, .S, 0, []⟩
def R.prt_KI : Row := ⟨0x65104, [⟨4096, 1920, 2, 32⟩, ⟨0, 32, 6, 6⟩], 0, 32, .S, 0, []⟩
def R.prt_KT : Row := ⟨0x65108, [⟨4096, 1920, 2, 32⟩, ⟨0, 32, 6, 6⟩], 0, 32, .S, 67108864, []⟩
def R.prt_LIM : Row := ⟨0x6510C, [⟨4096, 1920, 2, 32⟩, ⟨0, 32, 6, 6⟩], 0, 32, .L, 0, []⟩
def R.prt_XI : Row := ⟨0x65110, [⟨4096, 1920, 2, 32⟩, ⟨0, 32, 6, 6⟩], 0, 32, .RO, 0, []⟩
def R.prt_CAND : Row := ⟨0x65114, [⟨4096, 1920, 2, 32⟩, ⟨0, 32, 6, 6⟩], 0, 32, .RO, 0, []⟩
def R.prt_ERR : Row := ⟨0x65118, [⟨4096, 1920, 2, 32⟩, ⟨0, 32, 6, 6⟩], 0, 32, .RO, 0, []⟩
def R.prt_IBASE : Row := ⟨0x651C0, [⟨4096, 1920, 2, 32⟩], 0, 32, .S, 3000000, []⟩
def R.prt_VBASE : Row := ⟨0x651C4, [⟨4096, 1920, 2, 32⟩], 0, 32, .S, 1250000, []⟩
def R.prt_TBASE : Row := ⟨0x651C8, [⟨4096, 1920, 2, 32⟩], 0, 16, .S, 1600, []⟩
def R.prt_RAMP_UP : Row := ⟨0x651CC, [⟨4096, 1920, 2, 32⟩], 0, 32, .S, 100000, []⟩
def R.prt_RAMP_DN : Row := ⟨0x651D0, [⟨4096, 1920, 2, 32⟩], 0, 32, .S, 1000000, []⟩
def R.prt_IMAX : Row := ⟨0x651D4, [⟨4096, 1920, 2, 32⟩], 0, 32, .S, 0, []⟩
def R.prt_VMIN : Row := ⟨0x651D8, [⟨4096, 1920, 2, 32⟩], 0, 32, .L, 0, []⟩
def R.prt_NSHARE : Row := ⟨0x651E0, [⟨4096, 1920, 2, 32⟩], 24, 8, .RO, 0, []⟩
def R.prt_BIND : Row := ⟨0x651E0, [⟨4096, 1920, 2, 32⟩], 16, 4, .RO, 9, []⟩
def R.prt_THERM_OL : Row := ⟨0x651E0, [⟨4096, 1920, 2, 32⟩], 3, 1, .RO, 0, []⟩
def R.prt_NO_STAGES : Row := ⟨0x651E0, [⟨4096, 1920, 2, 32⟩], 2, 1, .RO, 0, []⟩
def R.prt_DIR : Row := ⟨0x651E0, [⟨4096, 1920, 2, 32⟩], 0, 2, .RO, 0, []⟩
def R.prt_IREF : Row := ⟨0x651E4, [⟨4096, 1920, 2, 32⟩], 0, 32, .RO, 0, []⟩
def R.prt_SHARE : Row := ⟨0x651E8, [⟨4096, 1920, 2, 32⟩], 0, 32, .RO, 0, []⟩
def R.prt_VMEAS : Row := ⟨0x651EC, [⟨4096, 1920, 2, 32⟩], 0, 32, .RO, 0, []⟩
def R.prt_IMEAS : Row := ⟨0x651F0, [⟨4096, 1920, 2, 32⟩], 0, 32, .RO, 0, []⟩
def R.prt_PMEAS : Row := ⟨0x651F4, [⟨4096, 1920, 2, 32⟩], 0, 32, .RO, 0, []⟩
def R.prt_DROGUE : Row := ⟨0x651F8, [⟨4096, 1920, 2, 32⟩], 0, 32, .RO, 0, []⟩
def R.prt_CEIL : Row := ⟨0x651FC, [⟨4096, 1920, 2, 32⟩], 0, 32, .RO, 0, []⟩
def R.prt_RC20 : Row := ⟨0x65200, [⟨4096, 1920, 2, 32⟩], 0, 32, .S, 0, []⟩
def R.prt_ALPHA : Row := ⟨0x65204, [⟨4096, 1920, 2, 32⟩], 0, 32, .S, 3930, []⟩
def R.prt_RTH : Row := ⟨0x65208, [⟨4096, 1920, 2, 32⟩], 0, 32, .S, 0, []⟩
def R.prt_TAU : Row := ⟨0x6520C, [⟨4096, 1920, 2, 32⟩], 0, 32, .S, 1, []⟩
def R.prt_KPIN : Row := ⟨0x65210, [⟨4096, 1920, 2, 32⟩], 0, 32, .S, 0, []⟩
def R.prt_LTH : Row := ⟨0x65214, [⟨4096, 1920, 2, 32⟩], 0, 32, .S, 0, []⟩
def R.prt_EXPH : Row := ⟨0x65218, [⟨4096, 1920, 2, 32⟩], 0, 32, .S, 0, []⟩
def R.prt_OL_IMAX : Row := ⟨0x6521C, [⟨4096, 1920, 2, 32⟩], 0, 32, .S, 0, []⟩
def R.prt_THS : Row := ⟨0x65220, [⟨4096, 1920, 2, 32⟩], 0, 16, .RO, 0, []⟩
def R.prt_TC : Row := ⟨0x65224, [⟨4096, 1920, 2, 32⟩], 0, 16, .RO, 0, []⟩
def R.prt_HDRM_I : Row := ⟨0x65228, [⟨4096, 1920, 2, 32⟩], 0, 32, .RO, 0, []⟩
def R.prt_THETA : Row := ⟨0x6522C, [⟨4096, 1920, 2, 32⟩], 0, 16, .RO, 0, []⟩

/-! Registers of 06_stage_regulation_and_routing.md, R184. -/

def R.brn_HO_STEP : Row := ⟨0x40300, [], 0, 32, .S, 20000, []⟩
def R.brn_HO_ZTMO : Row := ⟨0x40304, [], 0, 16, .S, 200, []⟩
def R.brn_SEL_TMO : Row := ⟨0x40308, [], 0, 16, .S, 4000, []⟩

/-! Registers of 06_stage_regulation_and_routing.md, R184. -/

def R.stg_SIMAX : Row := ⟨0x41160, [⟨0, 1024, 128, 128⟩], 0, 32, .S, 0, []⟩
def R.stg_AVAIL : Row := ⟨0x41164, [⟨0, 1024, 128, 128⟩], 19, 1, .RO, 0, []⟩
def R.stg_LEAD : Row := ⟨0x41164, [⟨0, 1024, 128, 128⟩], 18, 1, .RO, 0, []⟩
def R.stg_HOSTATE : Row := ⟨0x41164, [⟨0, 1024, 128, 128⟩], 15, 3, .RO, 0, []⟩
def R.stg_ROUTE_PLAN : Row := ⟨0x41164, [⟨0, 1024, 128, 128⟩], 12, 3, .RO, 4, []⟩
def R.stg_ROUTE_SENT : Row := ⟨0x41164, [⟨0, 1024, 128, 128⟩], 8, 3, .RO, 4, []⟩
def R.stg_MODE_SENT : Row := ⟨0x41164, [⟨0, 1024, 128, 128⟩], 0, 4, .RO, 0, []⟩
def R.stg_H : Row := ⟨0x41168, [⟨0, 1024, 128, 128⟩], 0, 32, .RO, 0, []⟩
def R.stg_HO_ABORT : Row := ⟨0x4116C, [⟨0, 1024, 128, 128⟩], 0, 1, .RO, 0, []⟩

/-! Registers of 06_stage_regulation_and_routing.md, R184. -/

def R.prt_PREQ : Row := ⟨0x65240, [⟨4096, 1920, 2, 32⟩], 0, 2, .RO, 0, []⟩
def R.prt_LEAD : Row := ⟨0x65244, [⟨4096, 1920, 2, 32⟩], 24, 7, .RO, 0, []⟩
def R.prt_NBLAST : Row := ⟨0x65244, [⟨4096, 1920, 2, 32⟩], 16, 5, .RO, 0, []⟩
def R.prt_NAVAIL : Row := ⟨0x65244, [⟨4096, 1920, 2, 32⟩], 8, 5, .RO, 0, []⟩
def R.prt_VTGT_LOW : Row := ⟨0x65244, [⟨4096, 1920, 2, 32⟩], 7, 1, .RO, 0, []⟩
def R.prt_NO_LEAD : Row := ⟨0x65244, [⟨4096, 1920, 2, 32⟩], 6, 1, .RO, 0, []⟩
def R.prt_SHORT_SS : Row := ⟨0x65244, [⟨4096, 1920, 2, 32⟩], 5, 1, .RO, 0, []⟩
def R.prt_BURST : Row := ⟨0x65244, [⟨4096, 1920, 2, 32⟩], 4, 1, .RO, 0, []⟩
def R.prt_PSTATE : Row := ⟨0x65244, [⟨4096, 1920, 2, 32⟩], 0, 3, .RO, 0, []⟩
def R.prt_VTGT : Row := ⟨0x65248, [⟨4096, 1920, 2, 32⟩], 0, 32, .L, 0, []⟩
def R.prt_VRAMP : Row := ⟨0x6524C, [⟨4096, 1920, 2, 32⟩], 0, 32, .S, 2000, []⟩
def R.prt_KV : Row := ⟨0x65250, [⟨4096, 1920, 2, 32⟩], 0, 32, .S, 2000, []⟩
def R.prt_SS_ILIM : Row := ⟨0x65254, [⟨4096, 1920, 2, 32⟩], 0, 32, .S, 50000, []⟩
def R.prt_PRE_ILIM : Row := ⟨0x65258, [⟨4096, 1920, 2, 32⟩], 0, 32, .S, 2000, []⟩
def R.prt_PRE_WIN : Row := ⟨0x6525C, [⟨4096, 1920, 2, 32⟩], 0, 32, .S, 10000, []⟩
def R.prt_SS_TIME : Row := ⟨0x65260, [⟨4096, 1920, 2, 32⟩], 0, 16, .S, 800, []⟩
def R.prt_VRUN : Row := ⟨0x65264, [⟨4096, 1920, 2, 32⟩], 0, 32, .RO, 0, []⟩
def R.prt_STOP_I : Row := ⟨0x65268, [⟨4096, 1920, 2, 32⟩], 0, 32, .S, 5000, []⟩
def R.prt_BURST_EN : Row := ⟨0x6526C, [⟨4096, 1920, 2, 32⟩], 31, 1, .S, 0, []⟩
def R.prt_ROT_TICKS : Row := ⟨0x6526C, [⟨4096, 1920, 2, 32⟩], 0, 16, .S, 100, []⟩
def R.prt_BURST_IN : Row := ⟨0x65270, [⟨4096, 1920, 2, 32⟩], 0, 32, .S, 40000, []⟩
def R.prt_BLAST_LVL : Row := ⟨0x65274, [⟨4096, 1920, 2, 32⟩], 0, 32, .S, 150000, []⟩
def R.prt_VR : Row := ⟨0x65278, [⟨4096, 1920, 2, 32⟩], 0, 32, .RO, 0, []⟩

/-! Registers of 07_bridle_site_allocation.md, R220. -/

def R.brd_BIAS_K : Row := ⟨0x80100, [], 12, 5, .S, 8, []⟩
def R.brd_MOVES_MAX : Row := ⟨0x80100, [], 8, 4, .S, 2, []⟩
def R.brd_REROUTE_MIN : Row := ⟨0x80100, [], 0, 8, .S, 50, []⟩
def R.brd_BATT_EN_B : Row := ⟨0x80104, [], 21, 1, .S, 0, []⟩
def R.brd_BATT_EN_A : Row := ⟨0x80104, [], 20, 1, .S, 0, []⟩
def R.brd_BATT_CP_B : Row := ⟨0x80104, [], 18, 2, .S, 0, []⟩
def R.brd_BATT_CP_A : Row := ⟨0x80104, [], 16, 2, .S, 0, []⟩
def R.brd_GRP_CP : Row := ⟨0x80104, [], 0, 16, .S, 0, []⟩
def R.brd_PLAN_SEQ : Row := ⟨0x80108, [], 0, 32, .RO, 0, []⟩
def R.brd_SOLVE_US : Row := ⟨0x8010C, [], 16, 16, .RO, 0, []⟩
def R.brd_FAILRUN : Row := ⟨0x8010C, [], 4, 4, .RO, 0, []⟩
def R.brd_ZEROED : Row := ⟨0x8010C, [], 2, 1, .RO, 0, []⟩
def R.brd_REUSED : Row := ⟨0x8010C, [], 1, 1, .RO, 0, []⟩
def R.brd_READY : Row := ⟨0x8010C, [], 0, 1, .RO, 0, []⟩
def R.brd_LATCH_CYCLE : Row := ⟨0x80110, [], 0, 32, .RO, 0, []⟩
def R.brd_TREM_MIN : Row := ⟨0x80114, [], 0, 32, .S, 1000, []⟩

/-! Registers of 07_bridle_site_allocation.md, R220. -/

def R.bcp_IMP_MAX : Row := ⟨0x80140, [⟨0, 32, 4, 4⟩], 0, 32, .S, 0, []⟩
def R.bcp_EXP_MAX : Row := ⟨0x80144, [⟨0, 32, 4, 4⟩], 0, 32, .S, 0, []⟩
def R.bcp_MARGIN : Row := ⟨0x80148, [⟨0, 32, 4, 4⟩], 0, 32, .S, 0, []⟩
def R.bcp_DEM_CAP : Row := ⟨0x8014C, [⟨0, 32, 4, 4⟩], 0, 32, .S, 0, []⟩
def R.bcp_DEM_FLOOR : Row := ⟨0x80150, [⟨0, 32, 4, 4⟩], 0, 32, .S, 0, []⟩
def R.bcp_LIMIT : Row := ⟨0x80154, [⟨0, 32, 4, 4⟩], 3, 1, .RO, 0, []⟩
def R.bcp_DEM_OVER : Row := ⟨0x80154, [⟨0, 32, 4, 4⟩], 2, 1, .RO, 0, []⟩
def R.bcp_CP_OK : Row := ⟨0x80154, [⟨0, 32, 4, 4⟩], 1, 1, .RO, 0, []⟩
def R.bcp_DEM_EN : Row := ⟨0x80154, [⟨0, 32, 4, 4⟩], 0, 1, .S, 0, []⟩
def R.bcp_BIAS : Row := ⟨0x80158, [⟨0, 32, 4, 4⟩], 0, 32, .RO, 0, []⟩
def R.bcp_PLAN_IMP : Row := ⟨0x8015C, [⟨0, 32, 4, 4⟩], 0, 32, .RO, 0, []⟩
def R.bcp_PDEM : Row := ⟨0x801C0, [⟨0, 16, 4, 4⟩], 0, 32, .RO, 0, []⟩
def R.bcp_FCAST : Row := ⟨0x801C4, [⟨0, 16, 4, 4⟩], 0, 32, .RO, 0, []⟩
def R.bcp_GRID_MEAS : Row := ⟨0x801C8, [⟨0, 16, 4, 4⟩], 0, 32, .RO, 0, []⟩
def R.bcp_IMP_EFF : Row := ⟨0x801CC, [⟨0, 16, 4, 4⟩], 0, 32, .RO, 0, []⟩

/-! Registers of 07_bridle_site_allocation.md, R220. -/

def R.brd_DEM_LEN : Row := ⟨0x80200, [], 0, 32, .RO, 0, []⟩
def R.brd_DEM_ELAPSED : Row := ⟨0x80204, [], 0, 32, .RO, 0, []⟩
def R.brd_EIMP : Row := ⟨0x80210, [⟨0, 8, 4, 4⟩], 0, 64, .RO, 0, []⟩
def R.bsk_CHG_MAX : Row := ⟨0x80240, [⟨0, 32, 2, 2⟩], 0, 32, .RO, 0, []⟩
def R.bsk_DIS_MAX : Row := ⟨0x80244, [⟨0, 32, 2, 2⟩], 0, 32, .RO, 0, []⟩
def R.bsk_CHG_WISH : Row := ⟨0x80248, [⟨0, 32, 2, 2⟩], 0, 32, .S, 0, []⟩
def R.bsk_SHAVE_MAX : Row := ⟨0x8024C, [⟨0, 32, 2, 2⟩], 0, 32, .S, 0, []⟩
def R.bsk_PLAN : Row := ⟨0x80250, [⟨0, 32, 2, 2⟩], 0, 32, .RO, 0, []⟩
def R.bsk_PLAN_NEXT : Row := ⟨0x80254, [⟨0, 32, 2, 2⟩], 0, 32, .RO, 0, []⟩

/-! Registers of 07_bridle_site_allocation.md, R221. -/

def R.bpt_REQ_EN : Row := ⟨0x81100, [⟨4096, 256, 4, 32⟩], 31, 1, .S, 0, []⟩
def R.bpt_PRIO : Row := ⟨0x81100, [⟨4096, 256, 4, 32⟩], 24, 4, .S, 0, []⟩
def R.bpt_DMODE : Row := ⟨0x81100, [⟨4096, 256, 4, 32⟩], 22, 2, .S, 0, []⟩
def R.bpt_OVD_EN : Row := ⟨0x81100, [⟨4096, 256, 4, 32⟩], 21, 1, .S, 0, []⟩
def R.bpt_REQ : Row := ⟨0x81104, [⟨4096, 256, 4, 32⟩], 0, 32, .S, 0, []⟩
def R.bpt_MIN_GUAR : Row := ⟨0x81108, [⟨4096, 256, 4, 32⟩], 0, 32, .S, 0, []⟩
def R.bpt_PCAP_CHG : Row := ⟨0x8110C, [⟨4096, 256, 4, 32⟩], 0, 32, .S, 0, []⟩
def R.bpt_PCAP_DIS : Row := ⟨0x81110, [⟨4096, 256, 4, 32⟩], 0, 32, .S, 0, []⟩
def R.bpt_PRAMP : Row := ⟨0x81114, [⟨4096, 256, 4, 32⟩], 0, 32, .S, 250000, []⟩
def R.bpt_GROW : Row := ⟨0x81118, [⟨4096, 256, 4, 32⟩], 0, 32, .S, 0, []⟩
def R.bpt_ICONT : Row := ⟨0x8111C, [⟨4096, 256, 4, 32⟩], 0, 32, .S, 0, []⟩
def R.bpt_ALLOC : Row := ⟨0x81120, [⟨4096, 256, 4, 32⟩], 0, 32, .RO, 0, []⟩
def R.bpt_PLAN : Row := ⟨0x81124, [⟨4096, 256, 4, 32⟩], 0, 32, .RO, 0, []⟩
def R.bpt_DEMAND : Row := ⟨0x81128, [⟨4096, 256, 4, 32⟩], 0, 32, .RO, 0, []⟩
def R.bpt_STG_CAP : Row := ⟨0x8112C, [⟨4096, 256, 4, 32⟩], 0, 32, .RO, 0, []⟩
def R.bpt_THERM_CAP : Row := ⟨0x81130, [⟨4096, 256, 4, 32⟩], 0, 32, .RO, 0, []⟩
def R.bpt_PMEAS : Row := ⟨0x81134, [⟨4096, 256, 4, 32⟩], 0, 32, .RO, 0, []⟩
def R.bpt_CEIL : Row := ⟨0x81138, [⟨4096, 256, 4, 32⟩], 28, 4, .RO, 6, []⟩
def R.bpt_WANT : Row := ⟨0x81138, [⟨4096, 256, 4, 32⟩], 19, 5, .RO, 0, []⟩
def R.bpt_HAVE : Row := ⟨0x81138, [⟨4096, 256, 4, 32⟩], 14, 5, .RO, 0, []⟩
def R.bpt_OVD : Row := ⟨0x81138, [⟨4096, 256, 4, 32⟩], 3, 1, .RO, 0, []⟩
def R.bpt_GUAR_SHORT : Row := ⟨0x81138, [⟨4096, 256, 4, 32⟩], 2, 1, .RO, 0, []⟩
def R.bpt_DRAW : Row := ⟨0x81138, [⟨4096, 256, 4, 32⟩], 1, 1, .RO, 0, []⟩
def R.bpt_ELIG : Row := ⟨0x81138, [⟨4096, 256, 4, 32⟩], 0, 1, .RO, 0, []⟩

/-! Registers of 07_bridle_site_allocation.md, R222. -/

def R.bst_PIN_EN : Row := ⟨0x89100, [⟨0, 4, 128, 128⟩], 31, 1, .S, 0, []⟩
def R.bst_PIN_ROUTE : Row := ⟨0x89100, [⟨0, 4, 128, 128⟩], 28, 3, .S, 4, []⟩
def R.bst_ROUTE_NEXT : Row := ⟨0x89100, [⟨0, 4, 128, 128⟩], 24, 3, .RO, 4, []⟩
def R.bst_COUNTED : Row := ⟨0x89100, [⟨0, 4, 128, 128⟩], 23, 1, .RO, 0, []⟩
def R.bst_HOLD : Row := ⟨0x89100, [⟨0, 4, 128, 128⟩], 8, 8, .RO, 0, []⟩

/-! Registers of 07_bridle_site_allocation.md, R223. -/

def R.lft_ECC_CNT : Row := ⟨0x8A900, [], 16, 16, .RO, 0, []⟩
def R.lft_TIME_OK : Row := ⟨0x8A900, [], 9, 1, .RO, 0, []⟩
def R.lft_HOLD : Row := ⟨0x8A900, [], 8, 1, .L, 0, []⟩
def R.lft_WIN : Row := ⟨0x8A900, [], 0, 5, .L, 0, []⟩

/-! Registers of 08_port_sessions.md, R252. -/

def R.port_DISCH_EN : Row := ⟨0xA0100, [⟨0, 4096, 32, 32⟩], 13, 1, .F, 0, []⟩
def R.port_DISCH_CH : Row := ⟨0xA0100, [⟨0, 4096, 32, 32⟩], 8, 5, .F, 0, []⟩
def R.port_WELD_VEH : Row := ⟨0xA0100, [⟨0, 4096, 32, 32⟩], 6, 1, .L, 1, []⟩
def R.port_ISO_MON : Row := ⟨0xA0100, [⟨0, 4096, 32, 32⟩], 5, 1, .L, 1, []⟩
def R.port_LATCH_STOP : Row := ⟨0xA0100, [⟨0, 4096, 32, 32⟩], 4, 1, .L, 1, []⟩
def R.port_PP_KIND : Row := ⟨0xA0100, [⟨0, 4096, 32, 32⟩], 2, 2, .F, 0, []⟩
def R.port_KIND : Row := ⟨0xA0100, [⟨0, 4096, 32, 32⟩], 0, 2, .F, 0, []⟩
def R.port_CAUSE : Row := ⟨0xA0104, [⟨0, 4096, 32, 32⟩], 24, 8, .RO, 0, []⟩
def R.port_WELD_LATE : Row := ⟨0xA0104, [⟨0, 4096, 32, 32⟩], 23, 1, .RO, 0, []⟩
def R.port_WELD_RB : Row := ⟨0xA0104, [⟨0, 4096, 32, 32⟩], 22, 1, .RO, 0, []⟩
def R.port_ISO_WARN_F : Row := ⟨0xA0104, [⟨0, 4096, 32, 32⟩], 21, 1, .RO, 0, []⟩
def R.port_PAUSE_F : Row := ⟨0xA0104, [⟨0, 4096, 32, 32⟩], 20, 1, .RO, 0, []⟩
def R.port_PRE_OK : Row := ⟨0xA0104, [⟨0, 4096, 32, 32⟩], 19, 1, .RO, 0, []⟩
def R.port_VREADY : Row := ⟨0xA0104, [⟨0, 4096, 32, 32⟩], 18, 1, .RO, 0, []⟩
def R.port_DISCH_ON : Row := ⟨0xA0104, [⟨0, 4096, 32, 32⟩], 17, 1, .RO, 0, []⟩
def R.port_CONT_REQ : Row := ⟨0xA0104, [⟨0, 4096, 32, 32⟩], 16, 1, .RO, 0, []⟩
def R.port_CONT_FB : Row := ⟨0xA0104, [⟨0, 4096, 32, 32⟩], 15, 1, .RO, 0, []⟩
def R.port_STEP : Row := ⟨0xA0104, [⟨0, 4096, 32, 32⟩], 12, 3, .RO, 0, []⟩
def R.port_ISO_RES : Row := ⟨0xA0104, [⟨0, 4096, 32, 32⟩], 10, 2, .RO, 0, []⟩
def R.port_PP : Row := ⟨0xA0104, [⟨0, 4096, 32, 32⟩], 8, 2, .RO, 0, []⟩
def R.port_PILOT : Row := ⟨0xA0104, [⟨0, 4096, 32, 32⟩], 4, 4, .RO, 0, []⟩
def R.port_SSTATE : Row := ⟨0xA0104, [⟨0, 4096, 32, 32⟩], 0, 4, .RO, 12, []⟩
def R.port_SESS_ID : Row := ⟨0xA0108, [⟨0, 4096, 32, 32⟩], 0, 32, .RO, 0, []⟩
def R.port_SSTATE_CYCLE : Row := ⟨0xA010C, [⟨0, 4096, 32, 32⟩], 0, 32, .RO, 0, []⟩
def R.port_EVT_PEND : Row := ⟨0xA0114, [⟨0, 4096, 32, 32⟩], 0, 15, .RO, 0, []⟩
def R.port_EVT_DROP : Row := ⟨0xA0118, [⟨0, 4096, 32, 32⟩], 0, 15, .RO, 0, []⟩
def R.port_VPRE : Row := ⟨0xA011C, [⟨0, 4096, 32, 32⟩], 0, 32, .L, 0, []⟩
def R.port_ISO_VTEST : Row := ⟨0xA0120, [⟨0, 4096, 32, 32⟩], 0, 32, .L, 500000, []⟩
def R.port_ISO_WARN : Row := ⟨0xA0124, [⟨0, 4096, 32, 32⟩], 16, 16, .L, 500, []⟩
def R.port_ISO_FAULT : Row := ⟨0xA0124, [⟨0, 4096, 32, 32⟩], 0, 16, .L, 100, []⟩
def R.port_ISO_R : Row := ⟨0xA0128, [⟨0, 4096, 32, 32⟩], 0, 32, .RO, 0, []⟩
def R.port_LINK_TMO : Row := ⟨0xA012C, [⟨0, 4096, 32, 32⟩], 16, 16, .L, 200, []⟩
def R.port_AUTH_TMO : Row := ⟨0xA012C, [⟨0, 4096, 32, 32⟩], 0, 16, .L, 600, []⟩
def R.port_READY_TMO : Row := ⟨0xA0130, [⟨0, 4096, 32, 32⟩], 16, 16, .L, 600, []⟩
def R.port_ISO_TMO : Row := ⟨0xA0130, [⟨0, 4096, 32, 32⟩], 0, 16, .L, 20000, []⟩
def R.port_PRE_TMO : Row := ⟨0xA0134, [⟨0, 4096, 32, 32⟩], 16, 16, .L, 7000, []⟩
def R.port_RAMP_TMO : Row := ⟨0xA0134, [⟨0, 4096, 32, 32⟩], 0, 16, .L, 500, []⟩
def R.port_PAUSE_TMO : Row := ⟨0xA0138, [⟨0, 4096, 32, 32⟩], 16, 16, .L, 300, []⟩
def R.port_WELD_TMO : Row := ⟨0xA0138, [⟨0, 4096, 32, 32⟩], 0, 16, .L, 5000, []⟩
def R.port_CONT_TMO : Row := ⟨0xA013C, [⟨0, 4096, 32, 32⟩], 16, 16, .L, 200, []⟩
def R.port_DISCH_TMO : Row := ⟨0xA013C, [⟨0, 4096, 32, 32⟩], 0, 16, .L, 2000, []⟩
def R.port_ISO_SETTLE : Row := ⟨0xA0140, [⟨0, 4096, 32, 32⟩], 16, 16, .L, 100, []⟩
def R.port_ISO_MEAS : Row := ⟨0xA0140, [⟨0, 4096, 32, 32⟩], 0, 16, .L, 400, []⟩
def R.port_HB_TMO : Row := ⟨0xA0144, [⟨0, 4096, 32, 32⟩], 16, 16, .L, 500, []⟩
def R.port_WELD_VMIN : Row := ⟨0xA0144, [⟨0, 4096, 32, 32⟩], 0, 16, .L, 100, []⟩
def R.port_CONT_IBRK : Row := ⟨0xA0148, [⟨0, 4096, 32, 32⟩], 0, 32, .L, 5000, []⟩
def R.port_CP_HI : Row := ⟨0xA014C, [⟨0, 4096, 32, 32⟩], 16, 16, .RO, 0, []⟩
def R.port_CP_LO : Row := ⟨0xA014C, [⟨0, 4096, 32, 32⟩], 0, 16, .RO, 0, []⟩
def R.port_PP_R : Row := ⟨0xA0150, [⟨0, 4096, 32, 32⟩], 16, 16, .RO, 65535, []⟩
def R.port_CE_LVL : Row := ⟨0xA0154, [⟨0, 4096, 32, 32⟩], 16, 16, .RO, 0, []⟩
def R.port_ID_LVL : Row := ⟨0xA0154, [⟨0, 4096, 32, 32⟩], 0, 16, .RO, 0, []⟩
def R.port_CE_TH3_CE_TH0 : Row := ⟨0xA0158, [⟨0, 4096, 32, 32⟩], 0, 32, .F, 0, []⟩
def R.port_ID_MAX : Row := ⟨0xA015C, [⟨0, 4096, 32, 32⟩], 16, 16, .F, 0, []⟩
def R.port_ID_MIN : Row := ⟨0xA015C, [⟨0, 4096, 32, 32⟩], 0, 16, .F, 0, []⟩
def R.port_CONT_OPS : Row := ⟨0xA0160, [⟨0, 4096, 32, 32⟩], 0, 32, .RO, 0, []⟩
def R.port_LOADBRK : Row := ⟨0xA0164, [⟨0, 4096, 32, 32⟩], 16, 16, .RO, 0, []⟩
def R.port_CONT_WELD : Row := ⟨0xA0168, [⟨0, 4096, 32, 32⟩], 0, 1, .RO, 0, []⟩

/-! Registers of 09_vehicle_links.md, R275. -/

def R.vl_TCP_PORT : Row := ⟨0xC0100, [⟨0, 4096, 32, 32⟩], 16, 16, .F, 50000, []⟩
def R.vl_RXBUF : Row := ⟨0xC0100, [⟨0, 4096, 32, 32⟩], 12, 4, .F, 7, []⟩
def R.vl_NOTLS_OK : Row := ⟨0xC0100, [⟨0, 4096, 32, 32⟩], 9, 1, .L, 1, []⟩
def R.vl_TLS_OK : Row := ⟨0xC0100, [⟨0, 4096, 32, 32⟩], 8, 1, .L, 1, []⟩
def R.vl_STREAM_EN : Row := ⟨0xC0100, [⟨0, 4096, 32, 32⟩], 7, 1, .L, 0, []⟩
def R.vl_STREAM_CH : Row := ⟨0xC0100, [⟨0, 4096, 32, 32⟩], 0, 6, .L, 0, []⟩
def R.vl_TX_REC : Row := ⟨0xC0104, [⟨0, 4096, 32, 32⟩], 16, 16, .L, 16384, []⟩
def R.vl_TX_ATTN : Row := ⟨0xC0104, [⟨0, 4096, 32, 32⟩], 8, 5, .L, 0, []⟩
def R.vl_TX_CTYPE : Row := ⟨0xC0104, [⟨0, 4096, 32, 32⟩], 0, 8, .L, 23, []⟩
def R.vl_XPORT : Row := ⟨0xC0108, [⟨0, 4096, 32, 32⟩], 24, 5, .RO, 0, []⟩
def R.vl_XTALK : Row := ⟨0xC0108, [⟨0, 4096, 32, 32⟩], 23, 1, .RO, 0, []⟩
def R.vl_MEDIUM : Row := ⟨0xC0108, [⟨0, 4096, 32, 32⟩], 22, 1, .RO, 0, []⟩
def R.vl_TLS : Row := ⟨0xC0108, [⟨0, 4096, 32, 32⟩], 20, 2, .RO, 0, []⟩
def R.vl_RX_PAUSED : Row := ⟨0xC0108, [⟨0, 4096, 32, 32⟩], 19, 1, .RO, 0, []⟩
def R.vl_STREAMING : Row := ⟨0xC0108, [⟨0, 4096, 32, 32⟩], 18, 1, .RO, 0, []⟩
def R.vl_TCP : Row := ⟨0xC0108, [⟨0, 4096, 32, 32⟩], 16, 2, .RO, 0, []⟩
def R.vl_SEC_TLS : Row := ⟨0xC0108, [⟨0, 4096, 32, 32⟩], 12, 1, .RO, 0, []⟩
def R.vl_SLAC : Row := ⟨0xC0108, [⟨0, 4096, 32, 32⟩], 8, 4, .RO, 0, []⟩
def R.vl_LINK : Row := ⟨0xC0108, [⟨0, 4096, 32, 32⟩], 0, 3, .RO, 0, []⟩
def R.vl_RX_FREE : Row := ⟨0xC010C, [⟨0, 4096, 32, 32⟩], 0, 17, .RO, 0, []⟩
def R.vl_HEAD_PTYPE : Row := ⟨0xC0110, [⟨0, 4096, 32, 32⟩], 16, 16, .RO, 0, []⟩
def R.vl_HEAD_LEN : Row := ⟨0xC0110, [⟨0, 4096, 32, 32⟩], 0, 14, .RO, 0, []⟩
def R.vl_RX_MSGS : Row := ⟨0xC0114, [⟨0, 4096, 32, 32⟩], 24, 8, .RO, 0, []⟩
def R.vl_HEAD_CTYPE : Row := ⟨0xC0114, [⟨0, 4096, 32, 32⟩], 16, 8, .RO, 0, []⟩
def R.vl_HEAD_STREAM : Row := ⟨0xC0114, [⟨0, 4096, 32, 32⟩], 1, 1, .RO, 0, []⟩
def R.vl_HEAD_VALID : Row := ⟨0xC0114, [⟨0, 4096, 32, 32⟩], 0, 1, .RO, 0, []⟩
def R.vl_TX_PTYPE : Row := ⟨0xC011C, [⟨0, 4096, 32, 32⟩], 16, 16, .L, 0, []⟩
def R.vl_TX_LEN : Row := ⟨0xC011C, [⟨0, 4096, 32, 32⟩], 0, 14, .L, 0, []⟩
def R.vl_TX_FREE : Row := ⟨0xC0120, [⟨0, 4096, 32, 32⟩], 16, 16, .RO, 16384, []⟩
def R.vl_TX_QUEUED : Row := ⟨0xC0120, [⟨0, 4096, 32, 32⟩], 0, 3, .RO, 0, []⟩
def R.vl_KEY_RX : Row := ⟨0xC0124, [⟨0, 4096, 32, 32⟩], 24, 8, .L, 0, []⟩
def R.vl_KEY_TX : Row := ⟨0xC0124, [⟨0, 4096, 32, 32⟩], 16, 8, .L, 0, []⟩
def R.vl_SUITE : Row := ⟨0xC0124, [⟨0, 4096, 32, 32⟩], 8, 2, .L, 0, []⟩
def R.vl_SLAC_FAILS : Row := ⟨0xC0128, [⟨0, 4096, 32, 32⟩], 16, 16, .RO, 0, []⟩
def R.vl_SDP_ANS : Row := ⟨0xC0128, [⟨0, 4096, 32, 32⟩], 0, 16, .RO, 0, []⟩
def R.vl_TOO_BIG : Row := ⟨0xC012C, [⟨0, 4096, 32, 32⟩], 16, 16, .RO, 0, []⟩
def R.vl_AUTH_FAIL : Row := ⟨0xC012C, [⟨0, 4096, 32, 32⟩], 0, 16, .RO, 0, []⟩
def R.vl_WSEL : Row := ⟨0xC0134, [⟨0, 4096, 32, 32⟩], 2, 1, .L, 0, []⟩
def R.vl_WOFF : Row := ⟨0xC0134, [⟨0, 4096, 32, 32⟩], 0, 2, .L, 0, []⟩
def R.vl_PEER_IP : Row := ⟨0xC0140, [⟨0, 4096, 32, 32⟩], 0, 128, .RO, 0, []⟩
def R.vl_PEER_MAC : Row := ⟨0xC0150, [⟨0, 4096, 32, 32⟩], 0, 64, .RO, 0, []⟩

/-! Registers of 10_site_feeder_plc.md, R297. -/

def R.cpl_CEN : Row := ⟨0xE0100, [⟨0, 32, 4, 4⟩], 31, 1, .F, 0, []⟩
def R.cpl_BCN_OFS : Row := ⟨0xE0100, [⟨0, 32, 4, 4⟩], 0, 16, .S, 0, []⟩
def R.cpl_NMK_KEY : Row := ⟨0xE0104, [⟨0, 32, 4, 4⟩], 24, 8, .F, 0, []⟩
def R.cpl_TX_ATTN : Row := ⟨0xE0104, [⟨0, 32, 4, 4⟩], 16, 5, .L, 0, []⟩
def R.cpl_JOIN : Row := ⟨0xE0104, [⟨0, 32, 4, 4⟩], 14, 2, .L, 1, []⟩
def R.cpl_STA_CNT : Row := ⟨0xE0108, [⟨0, 32, 4, 4⟩], 24, 8, .RO, 0, []⟩
def R.cpl_BSTATE : Row := ⟨0xE0108, [⟨0, 32, 4, 4⟩], 0, 2, .RO, 0, []⟩
def R.cpl_IMP_BLANK : Row := ⟨0xE010C, [⟨0, 32, 4, 4⟩], 16, 16, .RO, 0, []⟩
def R.cpl_JOIN_REF : Row := ⟨0xE010C, [⟨0, 32, 4, 4⟩], 0, 16, .RO, 0, []⟩
def R.cpl_IMP_TH : Row := ⟨0xE0110, [⟨0, 32, 4, 4⟩], 0, 16, .L, 24576, []⟩
def R.splc_TM_REFRESH : Row := ⟨0xE0180, [], 16, 16, .L, 30, []⟩
def R.splc_TM_MARGIN : Row := ⟨0xE0180, [], 8, 8, .L, 6, []⟩
def R.splc_LEAVE_TMO : Row := ⟨0xE0180, [], 0, 8, .L, 25, []⟩
def R.splc_MASK : Row := ⟨0xE0184, [], 8, 1, .L, 0, []⟩
def R.splc_TM_ENTRY : Row := ⟨0xE0184, [], 3, 5, .L, 0, []⟩
def R.splc_TM_DIR : Row := ⟨0xE0184, [], 2, 1, .L, 0, []⟩
def R.splc_TM_MAP : Row := ⟨0xE0184, [], 0, 2, .L, 0, []⟩
def R.splc_LAST_REF : Row := ⟨0xE0188, [], 0, 64, .RO, 0, []⟩

/-! Registers of 10_site_feeder_plc.md, R298. -/

def R.dsp_MAC_LO : Row := ⟨0xE1100, [⟨0, 32, 32, 32⟩], 0, 32, .L, 0, []⟩
def R.dsp_LISTED : Row := ⟨0xE1104, [⟨0, 32, 32, 32⟩], 31, 1, .L, 0, []⟩
def R.dsp_COUP : Row := ⟨0xE1104, [⟨0, 32, 32, 32⟩], 29, 2, .L, 0, []⟩
def R.dsp_MAC_HI : Row := ⟨0xE1104, [⟨0, 32, 32, 32⟩], 0, 16, .L, 0, []⟩
def R.dsp_PORT_MASK : Row := ⟨0xE1108, [⟨0, 32, 32, 32⟩], 0, 32, .L, 0, []⟩
def R.dsp_DSTATE : Row := ⟨0xE110C, [⟨0, 32, 32, 32⟩], 29, 3, .RO, 0, []⟩
def R.dsp_FAILRUN : Row := ⟨0xE110C, [⟨0, 32, 32, 32⟩], 16, 8, .RO, 0, []⟩
def R.dsp_RATE_DN : Row := ⟨0xE110C, [⟨0, 32, 32, 32⟩], 8, 8, .RO, 0, []⟩
def R.dsp_RATE_UP : Row := ⟨0xE110C, [⟨0, 32, 32, 32⟩], 0, 8, .RO, 0, []⟩
def R.dsp_TM_AGE : Row := ⟨0xE1110, [⟨0, 32, 32, 32⟩], 16, 16, .RO, 0, []⟩
def R.dsp_EVT_SEQ : Row := ⟨0xE1110, [⟨0, 32, 32, 32⟩], 8, 8, .RO, 0, []⟩
def R.dsp_PB_RETX : Row := ⟨0xE1114, [⟨0, 32, 32, 32⟩], 16, 16, .RO, 0, []⟩
def R.dsp_FRM_FAIL : Row := ⟨0xE1114, [⟨0, 32, 32, 32⟩], 0, 16, .RO, 0, []⟩

/-! Registers of 10_site_feeder_plc.md, R299. -/

def R.splc_RX_MSGS : Row := ⟨0xE2100, [], 24, 8, .RO, 0, []⟩
def R.splc_RX_SRC : Row := ⟨0xE2100, [], 16, 5, .RO, 0, []⟩
def R.splc_RX_LEN : Row := ⟨0xE2100, [], 0, 11, .RO, 0, []⟩
def R.splc_TX_QUEUED : Row := ⟨0xE2104, [], 24, 8, .RO, 0, []⟩
def R.splc_TX_DEST : Row := ⟨0xE2104, [], 16, 5, .L, 0, []⟩
def R.splc_TX_PRIO : Row := ⟨0xE2104, [], 14, 2, .L, 2, []⟩
def R.splc_TX_LEN : Row := ⟨0xE2104, [], 0, 11, .L, 0, []⟩
def R.splc_WSEL : Row := ⟨0xE2108, [], 2, 1, .L, 0, []⟩

/-! Registers of 11_metrology_channels.md, R334. -/

def R.mtr_CAP_DLY3_CAP_DLY0 : Row := ⟨0x100100, [], 0, 16, .F, 0, []⟩
def R.mtr_MSW : Row := ⟨0x100104, [], 16, 16, .RO, 0, []⟩
def R.mtr_SEAL : Row := ⟨0x100104, [], 0, 1, .RO, 0, []⟩
def R.mtr_MODF_A : Row := ⟨0x100108, [], 0, 32, .RO, 0, []⟩
def R.mtr_MODF_B : Row := ⟨0x10010C, [], 0, 32, .RO, 0, []⟩
def R.mtr_MODF_C : Row := ⟨0x100110, [], 0, 24, .RO, 0, []⟩
def R.mtr_MCLK_DRV : Row := ⟨0x100114, [], 0, 4, .RO, 0, []⟩
def R.mtr_PEN : Row := ⟨0x100200, [⟨0, 4, 8, 8⟩], 31, 1, .L, 0, []⟩
def R.mtr_PQTY : Row := ⟨0x100200, [⟨0, 4, 8, 8⟩], 29, 2, .L, 0, []⟩
def R.mtr_PMTR : Row := ⟨0x100200, [⟨0, 4, 8, 8⟩], 16, 6, .L, 0, []⟩
def R.mtr_PW : Row := ⟨0x100200, [⟨0, 4, 8, 8⟩], 8, 8, .L, 10, []⟩
def R.mtr_PULSE_K : Row := ⟨0x100220, [⟨0, 4, 8, 8⟩], 0, 32, .S, 1000, []⟩
def R.mtr_PCNT : Row := ⟨0x100240, [⟨0, 4, 8, 8⟩], 0, 32, .RO, 0, []⟩
def R.mtr_POVF : Row := ⟨0x100260, [⟨0, 4, 8, 8⟩], 16, 1, .RO, 0, []⟩
def R.mtr_PEND : Row := ⟨0x100260, [⟨0, 4, 8, 8⟩], 0, 16, .RO, 0, []⟩

/-! Registers of 11_metrology_channels.md, R335. -/

def R.mt_MODE : Row := ⟨0x101100, [⟨0, 4096, 36, 36⟩], 0, 1, .F, 0, []⟩
def R.mt_RATED_P : Row := ⟨0x101104, [⟨0, 4096, 36, 36⟩], 0, 32, .F, 0, []⟩
def R.mt_CREEP_PPM : Row := ⟨0x101108, [⟨0, 4096, 36, 36⟩], 0, 16, .S, 1000, []⟩
def R.mt_VNOM : Row := ⟨0x10110C, [⟨0, 4096, 36, 36⟩], 0, 32, .S, 0, []⟩
def R.mt_ZC_TMO : Row := ⟨0x101110, [⟨0, 4096, 36, 36⟩], 16, 16, .S, 40, []⟩
def R.mt_PRES_PCT : Row := ⟨0x101110, [⟨0, 4096, 36, 36⟩], 0, 8, .S, 80, []⟩
def R.mt_ZC_LOST : Row := ⟨0x101114, [⟨0, 4096, 36, 36⟩], 8, 3, .RO, 0, []⟩
def R.mt_PRESENT : Row := ⟨0x101114, [⟨0, 4096, 36, 36⟩], 6, 1, .RO, 0, []⟩
def R.mt_GAP : Row := ⟨0x101114, [⟨0, 4096, 36, 36⟩], 5, 1, .RO, 0, []⟩
def R.mt_FAULT : Row := ⟨0x101114, [⟨0, 4096, 36, 36⟩], 4, 1, .RO, 0, []⟩
def R.mt_FAST_VALID : Row := ⟨0x101114, [⟨0, 4096, 36, 36⟩], 3, 1, .RO, 0, []⟩
def R.mt_REV : Row := ⟨0x101114, [⟨0, 4096, 36, 36⟩], 2, 1, .RO, 0, []⟩
def R.mt_DIR : Row := ⟨0x101114, [⟨0, 4096, 36, 36⟩], 0, 2, .RO, 0, []⟩
def R.mt_FAULT_TIME : Row := ⟨0x101118, [⟨0, 4096, 36, 36⟩], 0, 32, .RO, 0, []⟩
def R.mt_REV_CNT : Row := ⟨0x10111C, [⟨0, 4096, 36, 36⟩], 0, 32, .RO, 0, []⟩
def R.mt_V_FAST : Row := ⟨0x101120, [⟨0, 4096, 36, 36⟩], 0, 32, .RO, 0, []⟩
def R.mt_I_FAST : Row := ⟨0x101124, [⟨0, 4096, 36, 36⟩], 0, 32, .RO, 0, []⟩
def R.mt_P_FAST : Row := ⟨0x101128, [⟨0, 4096, 36, 36⟩], 0, 32, .RO, 0, []⟩
def R.mt_V_CYC : Row := ⟨0x10112C, [⟨0, 4096, 36, 36⟩], 0, 32, .RO, 0, []⟩
def R.mt_I_CYC : Row := ⟨0x101130, [⟨0, 4096, 36, 36⟩], 0, 32, .RO, 0, []⟩
def R.mt_P_CYC : Row := ⟨0x101134, [⟨0, 4096, 36, 36⟩], 0, 32, .RO, 0, []⟩
def R.mt_VRMS : Row := ⟨0x101140, [⟨0, 4096, 36, 36⟩, ⟨0, 4, 3, 3⟩], 0, 32, .RO, 0, []⟩
def R.mt_IRMS : Row := ⟨0x10114C, [⟨0, 4096, 36, 36⟩, ⟨0, 4, 3, 3⟩], 0, 32, .RO, 0, []⟩
def R.mt_FREQ : Row := ⟨0x101158, [⟨0, 4096, 36, 36⟩], 0, 32, .RO, 0, []⟩
def R.mt_E_POS : Row := ⟨0x101160, [⟨0, 4096, 36, 36⟩], 0, 64, .RO, 0, []⟩
def R.mt_E_NEG : Row := ⟨0x101168, [⟨0, 4096, 36, 36⟩], 0, 64, .RO, 0, []⟩
def R.mt_E_NET : Row := ⟨0x101170, [⟨0, 4096, 36, 36⟩], 0, 64, .RO, 0, []⟩
def R.mt_E_CYCLE : Row := ⟨0x101178, [⟨0, 4096, 36, 36⟩], 0, 32, .RO, 0, []⟩
def R.mt_SNAP_POS : Row := ⟨0x101180, [⟨0, 4096, 36, 36⟩], 0, 64, .RO, 0, []⟩
def R.mt_SNAP_NEG : Row := ⟨0x101188, [⟨0, 4096, 36, 36⟩], 0, 64, .RO, 0, []⟩
def R.mt_SNAP_NET : Row := ⟨0x101190, [⟨0, 4096, 36, 36⟩], 0, 64, .RO, 0, []⟩
def R.mt_SNAP_V : Row := ⟨0x101198, [⟨0, 4096, 36, 36⟩], 0, 32, .RO, 0, []⟩
def R.mt_SNAP_I : Row := ⟨0x10119C, [⟨0, 4096, 36, 36⟩], 0, 32, .RO, 0, []⟩
def R.mt_SNAP_P : Row := ⟨0x1011A0, [⟨0, 4096, 36, 36⟩], 0, 32, .RO, 0, []⟩
def R.mt_SNAP_CYCLE : Row := ⟨0x1011A4, [⟨0, 4096, 36, 36⟩], 0, 32, .RO, 0, []⟩
def R.mt_SNAP_PERIOD : Row := ⟨0x1011A8, [⟨0, 4096, 36, 36⟩], 0, 10, .RO, 0, []⟩
def R.mt_LOAD_POS : Row := ⟨0x1011C0, [⟨0, 4096, 36, 36⟩], 0, 64, .F, 0, []⟩
def R.mt_LOAD_NEG : Row := ⟨0x1011C8, [⟨0, 4096, 36, 36⟩], 0, 64, .F, 0, []⟩
def R.mt_LOAD_NET : Row := ⟨0x1011D0, [⟨0, 4096, 36, 36⟩], 0, 64, .F, 0, []⟩

/-! Registers of 11_metrology_channels.md, R336. -/

def R.ch_FS : Row := ⟨0x101400, [⟨0, 4096, 36, 36⟩, ⟨0, 256, 6, 6⟩], 0, 32, .F, 0, []⟩
def R.ch_INV : Row := ⟨0x101404, [⟨0, 4096, 36, 36⟩, ⟨0, 256, 6, 6⟩], 31, 1, .F, 0, []⟩
def R.ch_OFS : Row := ⟨0x101404, [⟨0, 4096, 36, 36⟩, ⟨0, 256, 6, 6⟩], 0, 24, .S, 0, []⟩
def R.ch_GAIN : Row := ⟨0x101408, [⟨0, 4096, 36, 36⟩, ⟨0, 256, 6, 6⟩], 0, 32, .S, 1073741824, []⟩
def R.ch_DELAY : Row := ⟨0x10140C, [⟨0, 4096, 36, 36⟩, ⟨0, 256, 6, 6⟩], 16, 12, .S, 0, []⟩
def R.ch_SEG_N : Row := ⟨0x10140C, [⟨0, 4096, 36, 36⟩, ⟨0, 256, 6, 6⟩], 0, 5, .S, 1, []⟩
def R.ch_MODF : Row := ⟨0x101410, [⟨0, 4096, 36, 36⟩, ⟨0, 256, 6, 6⟩], 31, 1, .RO, 0, []⟩
def R.ch_OVR : Row := ⟨0x101410, [⟨0, 4096, 36, 36⟩, ⟨0, 256, 6, 6⟩], 30, 1, .RO, 0, []⟩
def R.ch_SEG_USE : Row := ⟨0x101410, [⟨0, 4096, 36, 36⟩, ⟨0, 256, 6, 6⟩], 0, 4, .RO, 0, []⟩
def R.ch_RAW_MEAN : Row := ⟨0x101414, [⟨0, 4096, 36, 36⟩, ⟨0, 256, 6, 6⟩], 0, 32, .RO, 0, []⟩
def R.ch_SEG_LIM : Row := ⟨0x101420, [⟨0, 4096, 36, 36⟩, ⟨0, 256, 6, 6⟩, ⟨0, 8, 16, 16⟩], 0, 32, .S, 2147483647, []⟩
def R.ch_SEG_DELAY : Row := ⟨0x101424, [⟨0, 4096, 36, 36⟩, ⟨0, 256, 6, 6⟩, ⟨0, 8, 16, 16⟩], 16, 12, .S, 0, []⟩
def R.ch_SEG_GAIN : Row := ⟨0x101424, [⟨0, 4096, 36, 36⟩, ⟨0, 256, 6, 6⟩, ⟨0, 8, 16, 16⟩], 0, 16, .S, 0, []⟩

/-! Registers of 12_billing_and_tariffs.md, R375. -/

def R.bill_DEF_CAUSE : Row := ⟨0x130100, [], 25, 4, .RO, 1, []⟩
def R.bill_DEFAULT : Row := ⟨0x130100, [], 24, 1, .RO, 1, []⟩
def R.bill_TARIFF : Row := ⟨0x130100, [], 20, 4, .RO, 0, []⟩
def R.bill_TARIFF_NEXT : Row := ⟨0x130100, [], 16, 4, .L, 0, []⟩
def R.bill_DEM_ALIGN : Row := ⟨0x130100, [], 8, 8, .S, 0, []⟩
def R.bill_DEM_MIN : Row := ⟨0x130100, [], 0, 8, .S, 15, []⟩
def R.bill_CAL_VALID : Row := ⟨0x130104, [], 3, 1, .RO, 0, []⟩
def R.bill_DISP_EN : Row := ⟨0x130104, [], 2, 1, .L, 0, []⟩
def R.bill_BILL_REQ : Row := ⟨0x130104, [], 1, 1, .S, 0, []⟩
def R.bill_OPEN : Row := ⟨0x130104, [], 0, 1, .RO, 0, []⟩
def R.bill_LAST_BOUND : Row := ⟨0x130108, [], 0, 64, .RO, 0, []⟩
def R.bill_OPEN_START : Row := ⟨0x130110, [], 0, 64, .RO, 0, []⟩
def R.bill_OPEN_END : Row := ⟨0x130118, [], 0, 64, .RO, 0, []⟩
def R.bill_OPEN_FLAGS : Row := ⟨0x130120, [], 0, 5, .L, 0, []⟩
def R.bill_SHADOW_ACK : Row := ⟨0x130124, [], 8, 8, .L, 0, []⟩
def R.bill_SLOT_PEND : Row := ⟨0x130124, [], 0, 2, .RO, 0, []⟩
def R.bill_REC_SEQ : Row := ⟨0x130128, [], 0, 32, .L, 0, []⟩
def R.bill_BREC : Row := ⟨0x13012C, [], 0, 32, .L, 0, []⟩
def R.bill_REQ_TAIL : Row := ⟨0x130130, [], 0, 6, .L, 0, []⟩
def R.bill_LOG_SEQ : Row := ⟨0x130134, [], 0, 32, .L, 0, []⟩
def R.bill_SEAL_FREE : Row := ⟨0x130138, [], 0, 13, .L, 4096, []⟩
def R.bill_DISP_PORTS : Row := ⟨0x13013C, [], 0, 32, .L, 0, []⟩
def R.bill_DISC_TMO : Row := ⟨0x130140, [], 0, 32, .L, 5000, []⟩
def R.bill_LAST_TOKEN : Row := ⟨0x130144, [], 0, 32, .L, 0, []⟩
def R.bill_MONO : Row := ⟨0x130148, [], 0, 64, .RO, 0, []⟩
def R.bill_CREDIT_KEY : Row := ⟨0x130150, [], 24, 8, .L, 0, []⟩
def R.bill_TARIFF_KEY : Row := ⟨0x130150, [], 16, 8, .L, 0, []⟩
def R.bill_SIGN_KEY : Row := ⟨0x130150, [], 8, 8, .L, 0, []⟩
def R.bill_OCMF_VER : Row := ⟨0x130150, [], 0, 8, .L, 16, []⟩

/-! Registers of 12_billing_and_tariffs.md, R376. -/

def R.leg_REG_POS : Row := ⟨0x131100, [⟨0, 1024, 36, 36⟩], 0, 64, .RO, 0, []⟩
def R.leg_REG_NEG : Row := ⟨0x131108, [⟨0, 1024, 36, 36⟩], 0, 64, .RO, 0, []⟩
def R.leg_REG_NET : Row := ⟨0x131110, [⟨0, 1024, 36, 36⟩], 0, 64, .RO, 0, []⟩
def R.leg_TREG_POS : Row := ⟨0x131120, [⟨0, 1024, 36, 36⟩, ⟨0, 8, 16, 16⟩], 0, 64, .RO, 0, []⟩
def R.leg_TREG_NEG : Row := ⟨0x1311A0, [⟨0, 1024, 36, 36⟩, ⟨0, 8, 16, 16⟩], 0, 64, .RO, 0, []⟩
def R.leg_D_POS : Row := ⟨0x131220, [⟨0, 1024, 36, 36⟩], 0, 32, .L, 0, []⟩
def R.leg_D_NEG : Row := ⟨0x131224, [⟨0, 1024, 36, 36⟩], 0, 32, .L, 0, []⟩
def R.leg_D_NET : Row := ⟨0x131228, [⟨0, 1024, 36, 36⟩], 0, 32, .L, 0, []⟩
def R.leg_D_FLAGS : Row := ⟨0x13122C, [⟨0, 1024, 36, 36⟩], 0, 5, .L, 0, []⟩
def R.leg_MD_POS : Row := ⟨0x131240, [⟨0, 1024, 36, 36⟩, ⟨0, 4, 16, 16⟩], 0, 32, .L, 0, []⟩
def R.leg_MD_NEG : Row := ⟨0x131280, [⟨0, 1024, 36, 36⟩, ⟨0, 4, 16, 16⟩], 0, 32, .L, 0, []⟩
def R.leg_DEM_E : Row := ⟨0x1312C0, [⟨0, 1024, 36, 36⟩], 0, 64, .RO, 0, []⟩

/-! Registers of 12_billing_and_tariffs.md, R377. -/

def R.pre_DISC_FAIL : Row := ⟨0x13C100, [⟨0, 64, 32, 32⟩], 3, 1, .L, 0, []⟩
def R.pre_DISC_SENT : Row := ⟨0x13C100, [⟨0, 64, 32, 32⟩], 2, 1, .L, 0, []⟩
def R.pre_LOW : Row := ⟨0x13C100, [⟨0, 64, 32, 32⟩], 1, 1, .L, 0, []⟩
def R.pre_PREPAY : Row := ⟨0x13C100, [⟨0, 64, 32, 32⟩], 0, 1, .L, 0, []⟩
def R.pre_SESS_ID : Row := ⟨0x13C104, [⟨0, 64, 32, 32⟩], 0, 32, .L, 0, []⟩
def R.pre_BAL : Row := ⟨0x13C108, [⟨0, 64, 32, 32⟩], 0, 64, .L, 0, []⟩
def R.pre_LOW_AT : Row := ⟨0x13C110, [⟨0, 64, 32, 32⟩], 0, 64, .L, 0, []⟩
def R.pre_SESS_E : Row := ⟨0x13C118, [⟨0, 64, 32, 32⟩], 0, 64, .L, 0, []⟩
def R.pre_CODE : Row := ⟨0x13D100, [⟨0, 64, 32, 32⟩, ⟨0, 2, 32, 32⟩], 12, 4, .L, 0, []⟩
def R.pre_PARAM : Row := ⟨0x13D100, [⟨0, 64, 32, 32⟩, ⟨0, 2, 32, 32⟩], 8, 4, .L, 0, []⟩
def R.pre_DUR : Row := ⟨0x13D100, [⟨0, 64, 32, 32⟩, ⟨0, 2, 32, 32⟩], 0, 5, .L, 0, []⟩

/-! Registers of 13_cable_and_device_thermal.md, R398. -/

def R.thrm_ONEPIN_OL : Row := ⟨0x140100, [], 0, 1, .L, 0, []⟩
def R.thrm_TMAX : Row := ⟨0x140104, [], 16, 16, .S, 3200, []⟩
def R.thrm_TMIN : Row := ⟨0x140104, [], 0, 16, .S, 64736, []⟩
def R.thrm_PTRIP : Row := ⟨0x140108, [], 0, 32, .RO, 0, []⟩
def R.thrm_PIN_LOST : Row := ⟨0x14010C, [], 0, 32, .RO, 0, []⟩
def R.thrm_TD1 : Row := ⟨0x140110, [], 16, 16, .RO, 0, []⟩
def R.thrm_TD0 : Row := ⟨0x140110, [], 0, 16, .RO, 0, []⟩
def R.thrm_TD3 : Row := ⟨0x140114, [], 16, 16, .RO, 0, []⟩
def R.thrm_TD2 : Row := ⟨0x140114, [], 0, 16, .RO, 0, []⟩
def R.thrm_TD_VALID : Row := ⟨0x140118, [], 8, 4, .RO, 0, []⟩
def R.thrm_SD_PEND : Row := ⟨0x140118, [], 7, 1, .RO, 0, []⟩
def R.thrm_BAND_FAIL : Row := ⟨0x140118, [], 6, 1, .RO, 0, []⟩
def R.thrm_BAND : Row := ⟨0x140118, [], 4, 2, .RO, 1, []⟩
def R.thrm_THR_LVL : Row := ⟨0x140118, [], 2, 2, .RO, 0, []⟩
def R.thrm_THR_ON : Row := ⟨0x14011C, [], 16, 16, .S, 1600, []⟩
def R.thrm_THR_HYST : Row := ⟨0x14011C, [], 8, 8, .S, 80, []⟩
def R.thrm_THR_MODE : Row := ⟨0x14011C, [], 0, 1, .F, 0, []⟩
def R.thrm_TSD_PLATE : Row := ⟨0x140120, [], 0, 16, .F, 1440, []⟩

/-! Registers of 13_cable_and_device_thermal.md, R398. -/

def R.cool_EN : Row := ⟨0x140200, [⟨0, 32, 8, 8⟩], 31, 1, .S, 0, []⟩
def R.cool_DIR : Row := ⟨0x140200, [⟨0, 32, 8, 8⟩], 30, 1, .S, 0, []⟩
def R.cool_SEL : Row := ⟨0x140200, [⟨0, 32, 8, 8⟩], 28, 2, .S, 0, []⟩
def R.cool_CH : Row := ⟨0x140200, [⟨0, 32, 8, 8⟩], 16, 5, .S, 0, []⟩
def R.cool_GEN_MASK : Row := ⟨0x140200, [⟨0, 32, 8, 8⟩], 0, 16, .S, 0, []⟩
def R.cool_PORT_MASK : Row := ⟨0x140204, [⟨0, 32, 8, 8⟩], 0, 32, .S, 0, []⟩
def R.cool_SET : Row := ⟨0x140208, [⟨0, 32, 8, 8⟩], 16, 16, .S, 0, []⟩
def R.cool_FAIL_DUTY : Row := ⟨0x140208, [⟨0, 32, 8, 8⟩], 0, 16, .S, 1000, []⟩
def R.cool_KP : Row := ⟨0x14020C, [⟨0, 32, 8, 8⟩], 16, 16, .S, 0, []⟩
def R.cool_KI : Row := ⟨0x14020C, [⟨0, 32, 8, 8⟩], 0, 16, .S, 0, []⟩
def R.cool_DMAX : Row := ⟨0x140210, [⟨0, 32, 8, 8⟩], 16, 16, .S, 1000, []⟩
def R.cool_DMIN : Row := ⟨0x140210, [⟨0, 32, 8, 8⟩], 0, 16, .S, 0, []⟩
def R.cool_TIN : Row := ⟨0x140214, [⟨0, 32, 8, 8⟩], 16, 16, .RO, 0, []⟩
def R.cool_DUTY : Row := ⟨0x140214, [⟨0, 32, 8, 8⟩], 0, 16, .RO, 0, []⟩
def R.cool_NOSRC : Row := ⟨0x140218, [⟨0, 32, 8, 8⟩], 1, 1, .RO, 0, []⟩
def R.cool_REFUSED : Row := ⟨0x140218, [⟨0, 32, 8, 8⟩], 0, 1, .RO, 0, []⟩

/-! Registers of 13_cable_and_device_thermal.md, R399. -/

def R.tin_KIND : Row := ⟨0x141100, [⟨4096, 32, 72, 144⟩], 28, 4, .S, 0, []⟩
def R.tin_NBR : Row := ⟨0x141100, [⟨4096, 32, 72, 144⟩], 16, 8, .S, 0, ((List.range 128).map (fun i => i ^^^ 1) ++ List.replicate 16 255)⟩
def R.tin_XTOL : Row := ⟨0x141100, [⟨4096, 32, 72, 144⟩], 8, 8, .S, 240, []⟩
def R.tin_ACT : Row := ⟨0x141100, [⟨4096, 32, 72, 144⟩], 6, 2, .S, 0, []⟩
def R.tin_XCNT : Row := ⟨0x141100, [⟨4096, 32, 72, 144⟩], 0, 4, .S, 4, []⟩
def R.tin_P1 : Row := ⟨0x141104, [⟨4096, 32, 72, 144⟩], 0, 32, .S, 0, []⟩
def R.tin_P2 : Row := ⟨0x141108, [⟨4096, 32, 72, 144⟩], 0, 32, .S, 0, []⟩
def R.tin_OFS : Row := ⟨0x14110C, [⟨4096, 32, 72, 144⟩], 16, 16, .S, 0, []⟩
def R.tin_HYST : Row := ⟨0x14110C, [⟨4096, 32, 72, 144⟩], 0, 16, .S, 48, []⟩
def R.tin_WARN : Row := ⟨0x141110, [⟨4096, 32, 72, 144⟩], 16, 16, .S, 32767, []⟩
def R.tin_TRIP : Row := ⟨0x141110, [⟨4096, 32, 72, 144⟩], 0, 16, .S, 32767, []⟩
def R.tin_NEAR : Row := ⟨0x141114, [⟨4096, 32, 72, 144⟩], 16, 16, .S, 80, []⟩
def R.tin_RATE_MAX : Row := ⟨0x141114, [⟨4096, 32, 72, 144⟩], 0, 16, .S, 32, []⟩
def R.tin_TEMP : Row := ⟨0x141118, [⟨4096, 32, 72, 144⟩], 16, 16, .RO, 0, []⟩
def R.tin_TRIP_F : Row := ⟨0x141118, [⟨4096, 32, 72, 144⟩], 8, 1, .RO, 0, []⟩
def R.tin_WARN_F : Row := ⟨0x141118, [⟨4096, 32, 72, 144⟩], 7, 1, .RO, 0, []⟩
def R.tin_FAST : Row := ⟨0x141118, [⟨4096, 32, 72, 144⟩], 6, 1, .RO, 0, []⟩
def R.tin_SUSPECT : Row := ⟨0x141118, [⟨4096, 32, 72, 144⟩], 5, 1, .RO, 0, []⟩
def R.tin_RATE : Row := ⟨0x141118, [⟨4096, 32, 72, 144⟩], 4, 1, .RO, 0, []⟩
def R.tin_RANGE : Row := ⟨0x141118, [⟨4096, 32, 72, 144⟩], 3, 1, .RO, 0, []⟩
def R.tin_SHORT : Row := ⟨0x141118, [⟨4096, 32, 72, 144⟩], 2, 1, .RO, 0, []⟩
def R.tin_OPEN : Row := ⟨0x141118, [⟨4096, 32, 72, 144⟩], 1, 1, .RO, 0, []⟩
def R.tin_VALID : Row := ⟨0x141118, [⟨4096, 32, 72, 144⟩], 0, 1, .RO, 0, []⟩
def R.tin_MEAS : Row := ⟨0x14111C, [⟨4096, 32, 72, 144⟩], 0, 32, .RO, 0, []⟩

/-! Registers of 14_load_switch_channels.md, R417. -/

def R.lsw_VRAIL : Row := ⟨0x148100, [], 16, 16, .RO, 0, []⟩
def R.lsw_TCASE : Row := ⟨0x148100, [], 0, 16, .RO, 0, []⟩
def R.lsw_RAIL_LOSS : Row := ⟨0x148104, [], 3, 1, .RO, 0, []⟩
def R.lsw_CASE_TRIP : Row := ⟨0x148104, [], 2, 1, .RO, 0, []⟩
def R.lsw_LIMP_EN_IN : Row := ⟨0x148104, [], 1, 1, .RO, 0, []⟩
def R.lsw_RAIL_LOW : Row := ⟨0x148104, [], 0, 1, .RO, 0, []⟩

/-! Registers of 14_load_switch_channels.md, R418. -/

def R.lch_RETRY_DLY : Row := ⟨0x149100, [⟨0, 32, 32, 32⟩], 24, 8, .S, 10, []⟩
def R.lch_HOLD : Row := ⟨0x149100, [⟨0, 32, 32, 32⟩], 16, 8, .F, 0, []⟩
def R.lch_RETRY : Row := ⟨0x149100, [⟨0, 32, 32, 32⟩], 8, 3, .S, 0, []⟩
def R.lch_LIMP_DEF : Row := ⟨0x149100, [⟨0, 32, 32, 32⟩], 4, 1, .F, 0, []⟩
def R.lch_LIMP_SEL : Row := ⟨0x149100, [⟨0, 32, 32, 32⟩], 3, 1, .F, 0, []⟩
def R.lch_BLK_EACH : Row := ⟨0x149100, [⟨0, 32, 32, 32⟩], 2, 1, .S, 0, []⟩
def R.lch_MODE : Row := ⟨0x149100, [⟨0, 32, 32, 32⟩], 0, 2, .L, 0, []⟩
def R.lch_ILIM_INR : Row := ⟨0x149104, [⟨0, 32, 32, 32⟩], 16, 16, .S, 2000, []⟩
def R.lch_ILIM : Row := ⟨0x149104, [⟨0, 32, 32, 32⟩], 0, 16, .S, 1000, []⟩
def R.lch_BLK : Row := ⟨0x149108, [⟨0, 32, 32, 32⟩], 16, 16, .S, 20, []⟩
def R.lch_TLIM : Row := ⟨0x149108, [⟨0, 32, 32, 32⟩], 8, 8, .S, 10, []⟩
def R.lch_OPEN_TH : Row := ⟨0x14910C, [⟨0, 32, 32, 32⟩], 16, 16, .S, 0, []⟩
def R.lch_DT_LIM : Row := ⟨0x14910C, [⟨0, 32, 32, 32⟩], 8, 8, .S, 60, []⟩
def R.lch_DT_TIME : Row := ⟨0x14910C, [⟨0, 32, 32, 32⟩], 4, 4, .S, 2, []⟩
def R.lch_PER : Row := ⟨0x149110, [⟨0, 32, 32, 32⟩], 0, 20, .S, 40, []⟩
def R.lch_PHS : Row := ⟨0x149114, [⟨0, 32, 32, 32⟩], 12, 20, .S, 0, []⟩
def R.lch_DUTY : Row := ⟨0x149114, [⟨0, 32, 32, 32⟩], 0, 10, .L, 0, []⟩
def R.lch_I_MEAS : Row := ⟨0x149118, [⟨0, 32, 32, 32⟩], 16, 16, .RO, 0, []⟩
def R.lch_DT : Row := ⟨0x149118, [⟨0, 32, 32, 32⟩], 8, 8, .RO, 0, []⟩
def R.lch_RETRY_END : Row := ⟨0x149118, [⟨0, 32, 32, 32⟩], 7, 1, .RO, 0, []⟩
def R.lch_OPEN_LOAD : Row := ⟨0x149118, [⟨0, 32, 32, 32⟩], 6, 1, .RO, 0, []⟩
def R.lch_TRIP_CASE : Row := ⟨0x149118, [⟨0, 32, 32, 32⟩], 5, 1, .RO, 0, []⟩
def R.lch_TRIP_DT : Row := ⟨0x149118, [⟨0, 32, 32, 32⟩], 4, 1, .RO, 0, []⟩
def R.lch_TRIP_I : Row := ⟨0x149118, [⟨0, 32, 32, 32⟩], 3, 1, .RO, 0, []⟩
def R.lch_LIMIT : Row := ⟨0x149118, [⟨0, 32, 32, 32⟩], 2, 1, .RO, 0, []⟩
def R.lch_INRUSH : Row := ⟨0x149118, [⟨0, 32, 32, 32⟩], 1, 1, .RO, 0, []⟩
def R.lch_OUT : Row := ⟨0x149118, [⟨0, 32, 32, 32⟩], 0, 1, .RO, 0, []⟩
def R.lch_I_PEAK : Row := ⟨0x14911C, [⟨0, 32, 32, 32⟩], 16, 16, .RO, 0, []⟩
def R.lch_RETRY_CNT : Row := ⟨0x14911C, [⟨0, 32, 32, 32⟩], 8, 8, .RO, 0, []⟩
def R.lch_CH_SRC : Row := ⟨0x14911C, [⟨0, 32, 32, 32⟩], 5, 3, .RO, 6, []⟩

/-! Registers of 15_safety_functions.md, R456. -/

def R.safe_SID_SW : Row := ⟨0x150100, [], 16, 16, .RO, 0, []⟩
def R.safe_SF_STATE : Row := ⟨0x150100, [], 0, 3, .RO, 0, []⟩
def R.safe_SID_CALC : Row := ⟨0x150104, [], 0, 16, .RO, 0, []⟩
def R.safe_PERMIT : Row := ⟨0x150108, [], 0, 32, .RO, 0, []⟩
def R.safe_PPERMIT : Row := ⟨0x15010C, [], 0, 32, .RO, 4294967295, []⟩
def R.safe_TWORD : Row := ⟨0x150110, [], 1, 1, .RO, 0, []⟩
def R.safe_PAIR_RUN : Row := ⟨0x150110, [], 0, 1, .RO, 0, []⟩
def R.safe_ZSTATE : Row := ⟨0x150120, [], 0, 32, .RO, 0, []⟩
def R.safe_CAUSE : Row := ⟨0x150140, [⟨0, 4, 8, 8⟩], 24, 8, .RO, 0, []⟩
def R.safe_SRC : Row := ⟨0x150140, [⟨0, 4, 8, 8⟩], 16, 8, .RO, 0, []⟩
def R.safe_TRIPS : Row := ⟨0x150140, [⟨0, 4, 8, 8⟩], 0, 16, .RO, 0, []⟩
def R.safe_IN_NORM : Row := ⟨0x150180, [], 0, 64, .RO, 0, []⟩
def R.safe_DISC_FLT : Row := ⟨0x150188, [], 0, 64, .RO, 0, []⟩
def R.safe_RAW_A : Row := ⟨0x150190, [], 0, 64, .RO, 0, []⟩
def R.safe_RAW_B : Row := ⟨0x150198, [], 0, 64, .RO, 0, []⟩
def R.safe_PSTATE : Row := ⟨0x150200, [⟨0, 4, 32, 32⟩], 30, 2, .RO, 2, []⟩
def R.safe_RMV_DONE : Row := ⟨0x150200, [⟨0, 4, 32, 32⟩], 29, 1, .RO, 0, []⟩
def R.safe_RCAUSE : Row := ⟨0x150200, [⟨0, 4, 32, 32⟩], 24, 4, .RO, 0, []⟩
def R.safe_I0 : Row := ⟨0x150200, [⟨0, 4, 32, 32⟩], 0, 22, .RO, 0, []⟩

/-! Registers of 15_safety_functions.md, R457. -/

def R.sout_Q_REQ : Row := ⟨0x151100, [], 0, 8, .L, 0, []⟩
def R.sout_HS_I : Row := ⟨0x151200, [⟨0, 4, 40, 40⟩], 24, 8, .RO, 0, []⟩
def R.sout_LS_I : Row := ⟨0x151200, [⟨0, 4, 40, 40⟩], 16, 8, .RO, 0, []⟩
def R.sout_TERM : Row := ⟨0x151200, [⟨0, 4, 40, 40⟩], 7, 1, .RO, 0, []⟩
def R.sout_OUT_FLT : Row := ⟨0x151200, [⟨0, 4, 40, 40⟩], 6, 1, .RO, 0, []⟩
def R.sout_HS_STUCK : Row := ⟨0x151200, [⟨0, 4, 40, 40⟩], 5, 1, .RO, 0, []⟩
def R.sout_LS_STUCK : Row := ⟨0x151200, [⟨0, 4, 40, 40⟩], 4, 1, .RO, 0, []⟩
def R.sout_OPEN_COIL : Row := ⟨0x151200, [⟨0, 4, 40, 40⟩], 3, 1, .RO, 0, []⟩
def R.sout_SH_STUCK : Row := ⟨0x151200, [⟨0, 4, 40, 40⟩], 2, 1, .RO, 0, []⟩
def R.sout_DP : Row := ⟨0x151200, [⟨0, 4, 40, 40⟩], 1, 1, .RO, 0, []⟩
def R.sout_CMD : Row := ⟨0x151200, [⟨0, 4, 40, 40⟩], 0, 1, .RO, 0, []⟩

/-! Registers of 15_safety_functions.md, R458. -/

def R.scfg_KIND : Row := ⟨0x152100, [⟨0, 4, 48, 48⟩], 30, 2, .F, 0, []⟩
def R.scfg_DISC : Row := ⟨0x152100, [⟨0, 4, 48, 48⟩], 16, 8, .F, 20, []⟩
def R.scfg_FILT : Row := ⟨0x152100, [⟨0, 4, 48, 48⟩], 8, 8, .F, 10, []⟩
def R.scfg_ZMASK : Row := ⟨0x152100, [⟨0, 4, 48, 48⟩], 0, 8, .F, 0, []⟩
def R.scfg_PORTS : Row := ⟨0x152200, [⟨0, 16, 8, 8⟩], 0, 32, .F, 0, []⟩
def R.scfg_OUTS : Row := ⟨0x152204, [⟨0, 16, 8, 8⟩], 16, 8, .F, 0, []⟩
def R.scfg_RAMP_MS : Row := ⟨0x152204, [⟨0, 16, 8, 8⟩], 8, 8, .F, 50, []⟩
def R.scfg_RST_IN : Row := ⟨0x152204, [⟨0, 16, 8, 8⟩], 0, 6, .F, 0, []⟩
def R.scfg_ZEN : Row := ⟨0x152208, [⟨0, 16, 8, 8⟩], 0, 1, .F, 0, []⟩
def R.scfg_EN : Row := ⟨0x152280, [⟨0, 4, 8, 8⟩], 31, 1, .F, 0, []⟩
def R.scfg_DLY : Row := ⟨0x152280, [⟨0, 4, 8, 8⟩], 30, 1, .F, 0, []⟩
def R.scfg_DP_INT : Row := ⟨0x1522A0, [], 16, 8, .F, 10, []⟩
def R.scfg_PAIR : Row := ⟨0x1522A0, [], 8, 1, .F, 0, []⟩
def R.scfg_DP_LEN : Row := ⟨0x1522A0, [], 0, 8, .F, 30, []⟩
def R.scfg_IRATED : Row := ⟨0x152300, [⟨0, 4, 32, 32⟩], 0, 32, .F, 0, []⟩

/-! Registers of 15_safety_functions.md, R459. -/

def R.xch_CRUN : Row := ⟨0x158100, [], 0, 16, .RO, 0, []⟩
def R.xch_TX_CNT : Row := ⟨0x158104, [], 0, 32, .RO, 0, []⟩
def R.xch_CID : Row := ⟨0x159100, [⟨0, 32, 16, 16⟩], 0, 32, .F, 0, []⟩
def R.xch_EN : Row := ⟨0x159104, [⟨0, 32, 16, 16⟩], 31, 1, .F, 0, []⟩
def R.xch_DUAL : Row := ⟨0x159104, [⟨0, 32, 16, 16⟩], 30, 1, .F, 0, []⟩
def R.xch_SEQ_WIN : Row := ⟨0x159104, [⟨0, 32, 16, 16⟩], 24, 4, .F, 4, []⟩
def R.xch_ZONES : Row := ⟨0x159104, [⟨0, 32, 16, 16⟩], 16, 8, .F, 0, []⟩
def R.xch_WDOG_MS : Row := ⟨0x159104, [⟨0, 32, 16, 16⟩], 0, 16, .F, 100, []⟩
def R.xch_SRC_LO : Row := ⟨0x159108, [⟨0, 32, 16, 16⟩], 0, 32, .F, 0, []⟩
def R.xch_SRC_HI : Row := ⟨0x15910C, [⟨0, 32, 16, 16⟩], 0, 16, .F, 0, []⟩
def R.xpr_CID_X : Row := ⟨0x159300, [⟨0, 32, 8, 8⟩], 0, 32, .F, 0, []⟩
def R.xpr_CID_Y : Row := ⟨0x159304, [⟨0, 32, 8, 8⟩], 0, 32, .F, 0, []⟩
def R.xpr_EN : Row := ⟨0x159308, [⟨0, 32, 8, 8⟩], 31, 1, .F, 0, []⟩
def R.xpr_DUAL : Row := ⟨0x159308, [⟨0, 32, 8, 8⟩], 30, 1, .F, 0, []⟩
def R.xpr_WDOG_MS : Row := ⟨0x159308, [⟨0, 32, 8, 8⟩], 0, 16, .F, 100, []⟩
def R.xpr_SEND_MS : Row := ⟨0x15930C, [⟨0, 32, 8, 8⟩], 0, 16, .F, 20, []⟩
def R.xpr_DEST_LO : Row := ⟨0x159310, [⟨0, 32, 8, 8⟩], 0, 32, .F, 0, []⟩
def R.xpr_DEST_HI : Row := ⟨0x159314, [⟨0, 32, 8, 8⟩], 0, 16, .F, 0, []⟩
def R.xch_LAST_SEQ : Row := ⟨0x15A100, [⟨0, 16, 16, 16⟩], 16, 16, .RO, 0, []⟩
def R.xch_CSTATE : Row := ⟨0x15A100, [⟨0, 16, 16, 16⟩], 0, 2, .RO, 0, []⟩
def R.xch_CRC_ERR : Row := ⟨0x15A104, [⟨0, 16, 16, 16⟩], 16, 16, .RO, 0, []⟩
def R.xch_SEQ_ERR : Row := ⟨0x15A104, [⟨0, 16, 16, 16⟩], 0, 16, .RO, 0, []⟩
def R.xch_WDOG_EXP : Row := ⟨0x15A108, [⟨0, 16, 16, 16⟩], 16, 16, .RO, 0, []⟩
def R.xch_DUAL_ERR : Row := ⟨0x15A108, [⟨0, 16, 16, 16⟩], 0, 16, .RO, 0, []⟩
def R.xch_AGE : Row := ⟨0x15A10C, [⟨0, 16, 16, 16⟩], 0, 16, .RO, 0, []⟩
def R.xch_RXDATA : Row := ⟨0x15B100, [⟨0, 64, 16, 16⟩], 0, 512, .RO, 0, []⟩

/-! Registers of 16_redundant_pair.md, R484. -/

def R.teth_JOIN_WAIT : Row := ⟨0x160100, [], 24, 8, .F, 50, []⟩
def R.teth_STALE_MAX : Row := ⟨0x160100, [], 16, 8, .F, 8, []⟩
def R.teth_MODE : Row := ⟨0x160100, [], 1, 1, .F, 1, []⟩
def R.teth_PAIR_EN : Row := ⟨0x160100, [], 0, 1, .F, 0, []⟩
def R.teth_TAKE_CAUSE : Row := ⟨0x160104, [], 12, 4, .RO, 0, []⟩
def R.teth_DEMOTED : Row := ⟨0x160104, [], 11, 1, .RO, 0, []⟩
def R.teth_HOLDUP : Row := ⟨0x160104, [], 10, 1, .RO, 0, []⟩
def R.teth_FALLBACK : Row := ⟨0x160104, [], 9, 1, .RO, 0, []⟩
def R.teth_TDOWN : Row := ⟨0x160104, [], 8, 1, .RO, 0, []⟩
def R.teth_LANE_FLT : Row := ⟨0x160104, [], 7, 1, .RO, 0, []⟩
def R.teth_MODE_FORCED : Row := ⟨0x160104, [], 6, 1, .RO, 0, []⟩
def R.teth_TAKE_BLOCKED : Row := ⟨0x160104, [], 5, 1, .RO, 0, []⟩
def R.teth_SILENT : Row := ⟨0x160104, [], 4, 1, .RO, 0, []⟩
def R.teth_HLTH_LOST : Row := ⟨0x160104, [], 3, 1, .RO, 1, []⟩
def R.teth_SYNCED : Row := ⟨0x160104, [], 2, 1, .RO, 0, []⟩
def R.teth_NEXT_CLAIM : Row := ⟨0x160108, [], 16, 16, .RO, 0, []⟩
def R.teth_CLAIM : Row := ⟨0x160108, [], 0, 16, .RO, 0, []⟩
def R.teth_TAKE_CYCLE : Row := ⟨0x16010C, [], 0, 32, .RO, 0, []⟩
def R.teth_TSTATE : Row := ⟨0x160110, [], 15, 3, .RO, 0, []⟩
def R.teth_ACTIVE : Row := ⟨0x160110, [], 14, 1, .RO, 0, []⟩
def R.teth_TAKE_PERIOD : Row := ⟨0x160110, [], 0, 10, .RO, 0, []⟩
def R.teth_ENV_LEN : Row := ⟨0x160114, [], 0, 14, .S, 0, []⟩
def R.teth_ENV_ADDR : Row := ⟨0x160118, [], 0, 32, .S, 0, []⟩
def R.teth_IMG_SEQ : Row := ⟨0x16011C, [], 0, 32, .RO, 0, []⟩
def R.teth_IMG_BAD : Row := ⟨0x160120, [], 16, 16, .RO, 0, []⟩
def R.teth_IMG_LATE : Row := ⟨0x160120, [], 0, 16, .RO, 0, []⟩
def R.teth_DEMOTIONS : Row := ⟨0x160124, [], 16, 16, .RO, 0, []⟩
def R.teth_TAKEOVERS : Row := ⟨0x160124, [], 0, 16, .RO, 0, []⟩
def R.teth_METER_TOL : Row := ⟨0x160128, [], 0, 32, .S, 10, []⟩
def R.teth_ALIGN_MTR : Row := ⟨0x16012C, [], 16, 8, .RO, 255, []⟩
def R.teth_ENV_SEQ : Row := ⟨0x16012C, [], 0, 16, .RO, 0, []⟩

/-! Registers of 16_redundant_pair.md, R485. -/

def R.tethp_P_CLAIM : Row := ⟨0x161100, [], 16, 16, .RO, 0, []⟩
def R.tethp_P_FLAGS : Row := ⟨0x161100, [], 8, 8, .RO, 0, []⟩
def R.tethp_P_TSTATE : Row := ⟨0x161100, [], 0, 3, .RO, 0, []⟩
def R.tethp_SELFTEST : Row := ⟨0x161104, [], 16, 16, .RO, 0, []⟩
def R.tethp_P_SELFTEST : Row := ⟨0x161104, [], 0, 16, .RO, 0, []⟩
def R.tethp_P_CYCLE : Row := ⟨0x161108, [], 0, 32, .RO, 0, []⟩
def R.tethp_P_CFG_ID : Row := ⟨0x16110C, [], 0, 32, .RO, 0, []⟩
def R.tethp_P_IMG_ACK : Row := ⟨0x161110, [], 0, 32, .RO, 0, []⟩
def R.tethp_P_FW : Row := ⟨0x161114, [], 0, 32, .RO, 0, []⟩
def R.tethp_CFG_ID : Row := ⟨0x161118, [], 0, 32, .RO, 0, []⟩
def R.tethp_HLTH_AGE : Row := ⟨0x16111C, [], 0, 16, .RO, 0, []⟩
def R.tethp_P_HEARD : Row := ⟨0x161120, [], 0, 128, .RO, 0, []⟩

/-! Registers of 17_ballast_cell_rings.md, R506. -/

def R.ring_EXPECT : Row := ⟨0x168100, [⟨0, 128, 2, 2⟩], 24, 8, .F, 0, []⟩
def R.ring_MEAS_CYC : Row := ⟨0x168100, [⟨0, 128, 2, 2⟩], 16, 8, .S, 5, []⟩
def R.ring_LOSS_N : Row := ⟨0x168100, [⟨0, 128, 2, 2⟩], 12, 4, .S, 3, []⟩
def R.ring_CONV_PER : Row := ⟨0x168100, [⟨0, 128, 2, 2⟩], 0, 10, .S, 300, []⟩
def R.ring_MON_TMO : Row := ⟨0x168104, [⟨0, 128, 2, 2⟩], 16, 16, .F, 500, []⟩
def R.ring_HUSH_EN : Row := ⟨0x168104, [⟨0, 128, 2, 2⟩], 1, 1, .S, 1, []⟩
def R.ring_BAL_EN : Row := ⟨0x168104, [⟨0, 128, 2, 2⟩], 0, 1, .L, 0, []⟩
def R.ring_OV : Row := ⟨0x168108, [⟨0, 128, 2, 2⟩], 16, 16, .S, 42000, []⟩
def R.ring_UV : Row := ⟨0x168108, [⟨0, 128, 2, 2⟩], 0, 16, .S, 25000, []⟩
def R.ring_OV_HW : Row := ⟨0x16810C, [⟨0, 128, 2, 2⟩], 16, 16, .F, 43000, []⟩
def R.ring_UV_HW : Row := ⟨0x16810C, [⟨0, 128, 2, 2⟩], 0, 16, .F, 20000, []⟩
def R.ring_CHG_VHI : Row := ⟨0x168110, [⟨0, 128, 2, 2⟩], 16, 16, .S, 41500, []⟩
def R.ring_DIS_VLO : Row := ⟨0x168110, [⟨0, 128, 2, 2⟩], 0, 16, .S, 28000, []⟩
def R.ring_VHYS : Row := ⟨0x168114, [⟨0, 128, 2, 2⟩], 16, 16, .S, 500, []⟩
def R.ring_WIRE_DEV : Row := ⟨0x168114, [⟨0, 128, 2, 2⟩], 0, 16, .S, 1000, []⟩
def R.ring_WIRE_TOL : Row := ⟨0x168118, [⟨0, 128, 2, 2⟩], 16, 16, .S, 500, []⟩
def R.ring_SUM_TOL : Row := ⟨0x168118, [⟨0, 128, 2, 2⟩], 0, 16, .S, 100, []⟩
def R.ring_OW_TH : Row := ⟨0x16811C, [⟨0, 128, 2, 2⟩], 16, 16, .S, 500, []⟩
def R.ring_BAL_I : Row := ⟨0x16811C, [⟨0, 128, 2, 2⟩], 0, 16, .S, 100, []⟩
def R.ring_LIM_CHG : Row := ⟨0x168120, [⟨0, 128, 2, 2⟩], 0, 32, .L, 0, []⟩
def R.ring_LIM_DIS : Row := ⟨0x168124, [⟨0, 128, 2, 2⟩], 0, 32, .L, 0, []⟩
def R.ring_CHG_MAX : Row := ⟨0x168128, [⟨0, 128, 2, 2⟩], 0, 32, .RO, 0, []⟩
def R.ring_DIS_MAX : Row := ⟨0x16812C, [⟨0, 128, 2, 2⟩], 0, 32, .RO, 0, []⟩
def R.ring_RSTATE : Row := ⟨0x168130, [⟨0, 128, 2, 2⟩], 29, 3, .RO, 0, []⟩
def R.ring_N_A : Row := ⟨0x168130, [⟨0, 128, 2, 2⟩], 22, 7, .RO, 0, []⟩
def R.ring_N_B : Row := ⟨0x168130, [⟨0, 128, 2, 2⟩], 15, 7, .RO, 0, []⟩
def R.ring_BREAK_AT : Row := ⟨0x168130, [⟨0, 128, 2, 2⟩], 8, 7, .RO, 0, []⟩
def R.ring_TRIP : Row := ⟨0x168130, [⟨0, 128, 2, 2⟩], 7, 1, .RO, 0, []⟩
def R.ring_FCODE : Row := ⟨0x168130, [⟨0, 128, 2, 2⟩], 6, 1, .RO, 0, []⟩
def R.ring_LIM_HI : Row := ⟨0x168130, [⟨0, 128, 2, 2⟩], 5, 1, .RO, 0, []⟩
def R.ring_LIM_LO : Row := ⟨0x168130, [⟨0, 128, 2, 2⟩], 4, 1, .RO, 0, []⟩
def R.ring_PHASE : Row := ⟨0x168130, [⟨0, 128, 2, 2⟩], 3, 1, .RO, 0, []⟩
def R.ring_LOST_ANY : Row := ⟨0x168130, [⟨0, 128, 2, 2⟩], 2, 1, .RO, 0, []⟩
def R.ring_TRIP_MON : Row := ⟨0x168134, [⟨0, 128, 2, 2⟩], 24, 8, .RO, 0, []⟩
def R.ring_BAD_BLK : Row := ⟨0x168134, [⟨0, 128, 2, 2⟩], 0, 16, .RO, 0, []⟩
def R.ring_LOST : Row := ⟨0x168138, [⟨0, 128, 2, 2⟩], 0, 64, .RO, 0, []⟩
def R.ring_SLOT_CYCLE : Row := ⟨0x168140, [⟨0, 128, 2, 2⟩], 0, 32, .RO, 0, []⟩

/-! Registers of 17_ballast_cell_rings.md, R507. -/

def R.mon_MSUM : Row := ⟨0x169A00, [⟨0, 4096, 2, 2⟩, ⟨0, 16, 64, 64⟩], 0, 32, .RO, 0, []⟩
def R.mon_TEMP : Row := ⟨0x169A04, [⟨0, 4096, 2, 2⟩, ⟨0, 16, 64, 64⟩], 16, 16, .RO, 0, []⟩
def R.mon_MSTATE : Row := ⟨0x169A04, [⟨0, 4096, 2, 2⟩, ⟨0, 16, 64, 64⟩], 13, 3, .RO, 0, []⟩
def R.mon_OV : Row := ⟨0x169A04, [⟨0, 4096, 2, 2⟩, ⟨0, 16, 64, 64⟩], 12, 1, .RO, 0, []⟩
def R.mon_UV : Row := ⟨0x169A04, [⟨0, 4096, 2, 2⟩, ⟨0, 16, 64, 64⟩], 11, 1, .RO, 0, []⟩
def R.mon_CMP : Row := ⟨0x169A04, [⟨0, 4096, 2, 2⟩, ⟨0, 16, 64, 64⟩], 10, 1, .RO, 0, []⟩
def R.mon_SUM_ERR : Row := ⟨0x169A04, [⟨0, 4096, 2, 2⟩, ⟨0, 16, 64, 64⟩], 9, 1, .RO, 0, []⟩
def R.mon_SUSPECT : Row := ⟨0x169A04, [⟨0, 4096, 2, 2⟩, ⟨0, 16, 64, 64⟩], 8, 1, .RO, 0, []⟩
def R.mon_OW_RUN : Row := ⟨0x169A04, [⟨0, 4096, 2, 2⟩, ⟨0, 16, 64, 64⟩], 7, 1, .RO, 0, []⟩
def R.mon_BAL : Row := ⟨0x169A04, [⟨0, 4096, 2, 2⟩, ⟨0, 16, 64, 64⟩], 6, 1, .RO, 0, []⟩
def R.mon_TIMEOUT : Row := ⟨0x169A04, [⟨0, 4096, 2, 2⟩, ⟨0, 16, 64, 64⟩], 5, 1, .RO, 0, []⟩
def R.mon_FCELL : Row := ⟨0x169A04, [⟨0, 4096, 2, 2⟩, ⟨0, 16, 64, 64⟩], 0, 5, .RO, 0, []⟩
def R.mon_BAL_ADJ : Row := ⟨0x169A08, [⟨0, 4096, 2, 2⟩, ⟨0, 16, 64, 64⟩], 0, 18, .RO, 0, []⟩
def R.mon_WIRE_OPEN : Row := ⟨0x169A0C, [⟨0, 4096, 2, 2⟩, ⟨0, 16, 64, 64⟩], 0, 19, .RO, 0, []⟩

/-! Registers of 18_can_controllers.md, R521. -/

def R.can_PAIRMODE : Row := ⟨0x170100, [⟨0, 16384, 4, 4⟩], 8, 1, .F, 1, []⟩
def R.can_SELF_RX : Row := ⟨0x170100, [⟨0, 16384, 4, 4⟩], 7, 1, .F, 0, []⟩
def R.can_RX_MODE : Row := ⟨0x170100, [⟨0, 16384, 4, 4⟩], 6, 1, .F, 0, []⟩
def R.can_TXP : Row := ⟨0x170100, [⟨0, 16384, 4, 4⟩], 5, 1, .F, 0, []⟩
def R.can_ABO : Row := ⟨0x170100, [⟨0, 16384, 4, 4⟩], 4, 1, .F, 0, []⟩
def R.can_PXE : Row := ⟨0x170100, [⟨0, 16384, 4, 4⟩], 3, 1, .F, 1, []⟩
def R.can_FDOE : Row := ⟨0x170100, [⟨0, 16384, 4, 4⟩], 2, 1, .F, 1, []⟩
def R.can_ROM : Row := ⟨0x170100, [⟨0, 16384, 4, 4⟩], 1, 1, .L, 0, []⟩
def R.can_MON : Row := ⟨0x170100, [⟨0, 16384, 4, 4⟩], 0, 1, .L, 0, []⟩
def R.can_NBRP : Row := ⟨0x170104, [⟨0, 16384, 4, 4⟩], 24, 8, .F, 0, []⟩
def R.can_NTSEG1 : Row := ⟨0x170104, [⟨0, 16384, 4, 4⟩], 16, 8, .F, 0, []⟩
def R.can_NTSEG2 : Row := ⟨0x170104, [⟨0, 16384, 4, 4⟩], 9, 7, .F, 0, []⟩
def R.can_NSJW : Row := ⟨0x170104, [⟨0, 16384, 4, 4⟩], 2, 7, .F, 0, []⟩
def R.can_DBRP : Row := ⟨0x170108, [⟨0, 16384, 4, 4⟩], 27, 5, .F, 0, []⟩
def R.can_DTSEG1 : Row := ⟨0x170108, [⟨0, 16384, 4, 4⟩], 22, 5, .F, 0, []⟩
def R.can_DTSEG2 : Row := ⟨0x170108, [⟨0, 16384, 4, 4⟩], 18, 4, .F, 0, []⟩
def R.can_DSJW : Row := ⟨0x170108, [⟨0, 16384, 4, 4⟩], 14, 4, .F, 0, []⟩
def R.can_TDC_EN : Row := ⟨0x170108, [⟨0, 16384, 4, 4⟩], 13, 1, .F, 0, []⟩
def R.can_TDCO : Row := ⟨0x170108, [⟨0, 16384, 4, 4⟩], 7, 6, .F, 0, []⟩
def R.can_REC : Row := ⟨0x17010C, [⟨0, 16384, 4, 4⟩], 24, 8, .RO, 0, []⟩
def R.can_TEC : Row := ⟨0x17010C, [⟨0, 16384, 4, 4⟩], 16, 8, .RO, 0, []⟩
def R.can_FSTATE : Row := ⟨0x17010C, [⟨0, 16384, 4, 4⟩], 5, 2, .RO, 0, []⟩
def R.can_ROM_ACT : Row := ⟨0x17010C, [⟨0, 16384, 4, 4⟩], 4, 1, .RO, 0, []⟩
def R.can_INTEG : Row := ⟨0x17010C, [⟨0, 16384, 4, 4⟩], 3, 1, .RO, 1, []⟩
def R.can_LEC : Row := ⟨0x17010C, [⟨0, 16384, 4, 4⟩], 0, 3, .RO, 0, []⟩
def R.can_RX_LOST : Row := ⟨0x170110, [⟨0, 16384, 4, 4⟩], 16, 16, .RO, 0, []⟩
def R.can_BO_CNT : Row := ⟨0x170110, [⟨0, 16384, 4, 4⟩], 0, 16, .RO, 0, []⟩
def R.can_RX_HEAD : Row := ⟨0x170114, [⟨0, 16384, 4, 4⟩], 16, 7, .RO, 0, []⟩

/-! Registers of 18_can_controllers.md, R522. -/

def R.obj_IDE : Row := ⟨0x171100, [⟨0, 16384, 4, 4⟩, ⟨4096, 80, 48, 128⟩], 31, 1, .L, 0, []⟩
def R.obj_RTR : Row := ⟨0x171100, [⟨0, 16384, 4, 4⟩, ⟨4096, 80, 48, 128⟩], 30, 1, .L, 0, []⟩
def R.obj_FDF : Row := ⟨0x171100, [⟨0, 16384, 4, 4⟩, ⟨4096, 80, 48, 128⟩], 29, 1, .L, 0, []⟩
def R.obj_ID : Row := ⟨0x171100, [⟨0, 16384, 4, 4⟩, ⟨4096, 80, 48, 128⟩], 0, 29, .L, 0, []⟩
def R.obj_DIR : Row := ⟨0x171104, [⟨0, 16384, 4, 4⟩, ⟨4096, 80, 48, 128⟩], 30, 2, .F, 0, []⟩
def R.obj_SS : Row := ⟨0x171104, [⟨0, 16384, 4, 4⟩, ⟨4096, 80, 48, 128⟩], 29, 1, .L, 0, []⟩
def R.obj_BRS : Row := ⟨0x171104, [⟨0, 16384, 4, 4⟩, ⟨4096, 80, 48, 128⟩], 28, 1, .L, 0, []⟩
def R.obj_ESI : Row := ⟨0x171104, [⟨0, 16384, 4, 4⟩, ⟨4096, 80, 48, 128⟩], 27, 1, .RO, 0, []⟩
def R.obj_OVW : Row := ⟨0x171104, [⟨0, 16384, 4, 4⟩, ⟨4096, 80, 48, 128⟩], 26, 1, .RO, 0, []⟩
def R.obj_CPEND : Row := ⟨0x171104, [⟨0, 16384, 4, 4⟩, ⟨4096, 80, 48, 128⟩], 25, 1, .RO, 0, []⟩
def R.obj_DLC : Row := ⟨0x171104, [⟨0, 16384, 4, 4⟩, ⟨4096, 80, 48, 128⟩], 20, 4, .L, 0, []⟩
def R.obj_STATE : Row := ⟨0x171104, [⟨0, 16384, 4, 4⟩, ⟨4096, 80, 48, 128⟩], 16, 4, .RO, 0, []⟩
def R.obj_TXEVT : Row := ⟨0x171104, [⟨0, 16384, 4, 4⟩, ⟨4096, 80, 48, 128⟩], 8, 8, .L, 0, []⟩
def R.obj_EVT_EN : Row := ⟨0x171104, [⟨0, 16384, 4, 4⟩, ⟨4096, 80, 48, 128⟩], 7, 1, .L, 0, []⟩
def R.obj_NEWDAT : Row := ⟨0x171104, [⟨0, 16384, 4, 4⟩, ⟨4096, 80, 48, 128⟩], 4, 1, .RO, 0, []⟩
def R.obj_WSEQ : Row := ⟨0x171104, [⟨0, 16384, 4, 4⟩, ⟨4096, 80, 48, 128⟩], 0, 4, .RO, 0, []⟩
def R.obj_TS_CYCLE : Row := ⟨0x171108, [⟨0, 16384, 4, 4⟩, ⟨4096, 80, 48, 128⟩], 0, 32, .RO, 0, []⟩
def R.obj_TS_PERIOD : Row := ⟨0x17110C, [⟨0, 16384, 4, 4⟩, ⟨4096, 80, 48, 128⟩], 0, 10, .RO, 0, []⟩
def R.obj_DATA : Row := ⟨0x171110, [⟨0, 16384, 4, 4⟩, ⟨4096, 80, 48, 128⟩, ⟨0, 4, 16, 16⟩], 0, 32, .L, 0, []⟩

/-! Registers of 19_reel_dma.md, R539. -/

def R.reel_ACT_VALID : Row := ⟨0x18110, [], 6, 1, .RO, 0, []⟩
def R.reel_ACT_CH : Row := ⟨0x18110, [], 0, 6, .RO, 0, []⟩
def R.reel_BEATS : Row := ⟨0x18114, [], 0, 32, .RO, 0, []⟩

/-! Registers of 19_reel_dma.md, R540. -/

def R.rch_PRIO : Row := ⟨0x19100, [⟨4096, 64, 16, 64⟩], 6, 2, .L, 0, []⟩
def R.rch_WORLD : Row := ⟨0x19104, [⟨4096, 64, 16, 64⟩], 28, 4, .L, 0, []⟩
def R.rch_PC_HI : Row := ⟨0x19104, [⟨4096, 64, 16, 64⟩], 0, 8, .L, 0, []⟩
def R.rch_PC_LO : Row := ⟨0x19108, [⟨4096, 64, 16, 64⟩], 0, 32, .L, 0, []⟩
def R.rch_CUR_PC : Row := ⟨0x1910C, [⟨4096, 64, 16, 64⟩], 0, 32, .RO, 0, []⟩
def R.rch_STATE : Row := ⟨0x19110, [⟨4096, 64, 16, 64⟩], 29, 3, .RO, 0, []⟩
def R.rch_ECODE : Row := ⟨0x19110, [⟨4096, 64, 16, 64⟩], 16, 8, .RO, 0, []⟩
def R.rch_CUR_PC_HI : Row := ⟨0x19110, [⟨4096, 64, 16, 64⟩], 8, 8, .RO, 0, []⟩
def R.rch_FLAGGED : Row := ⟨0x19110, [⟨4096, 64, 16, 64⟩], 7, 1, .RO, 0, []⟩
def R.rch_SA : Row := ⟨0x19114, [⟨4096, 64, 16, 64⟩], 0, 32, .RO, 0, []⟩
def R.rch_DA : Row := ⟨0x19118, [⟨4096, 64, 16, 64⟩], 0, 32, .RO, 0, []⟩
def R.rch_DA_HI : Row := ⟨0x1911C, [⟨4096, 64, 16, 64⟩], 8, 8, .RO, 0, []⟩
def R.rch_SA_HI : Row := ⟨0x1911C, [⟨4096, 64, 16, 64⟩], 0, 8, .RO, 0, []⟩
def R.rch_LCNT1 : Row := ⟨0x19120, [⟨4096, 64, 16, 64⟩], 16, 16, .RO, 0, []⟩
def R.rch_LCNT0 : Row := ⟨0x19120, [⟨4096, 64, 16, 64⟩], 0, 16, .RO, 0, []⟩
def R.rch_LAST_LEN : Row := ⟨0x19124, [⟨4096, 64, 16, 64⟩], 0, 32, .RO, 0, []⟩
def R.rch_SPLITS : Row := ⟨0x19128, [⟨4096, 64, 16, 64⟩], 16, 16, .RO, 0, []⟩
def R.rch_PREEMPT : Row := ⟨0x19128, [⟨4096, 64, 16, 64⟩], 0, 16, .RO, 0, []⟩
def R.rch_BYTES : Row := ⟨0x1912C, [⟨4096, 64, 16, 64⟩], 0, 32, .RO, 0, []⟩

/-! Registers of 20_worlds_keys_lifecycle.md, R564. -/

def R.key_LC : Row := ⟨0x10100, [], 30, 2, .RO, 0, []⟩
def R.key_DEBUG_EN : Row := ⟨0x10100, [], 29, 1, .RO, 0, []⟩
def R.key_DBG_ARMED : Row := ⟨0x10100, [], 28, 1, .RO, 0, []⟩
def R.key_TEST_ROOT : Row := ⟨0x10100, [], 27, 1, .RO, 0, []⟩
def R.key_LC_BUSY : Row := ⟨0x10100, [], 26, 1, .RO, 0, []⟩
def R.key_LC_FUSE : Row := ⟨0x10104, [], 16, 16, .RO, 0, []⟩
def R.key_LC_CODE : Row := ⟨0x10108, [], 8, 8, .L, 0, []⟩
def R.key_LC_TARGET : Row := ⟨0x10108, [], 0, 2, .L, 0, []⟩
def R.key_CLR_SLOT : Row := ⟨0x10110, [], 0, 8, .L, 0, []⟩
def R.key_INFLIGHT : Row := ⟨0x10114, [], 0, 10, .RO, 0, []⟩
def R.key_JOBS_DONE : Row := ⟨0x10118, [], 0, 32, .RO, 0, []⟩

/-! Registers of 20_worlds_keys_lifecycle.md, R566. -/

def R.reg_BASE : Row := ⟨0x12100, [⟨0, 16, 16, 16⟩], 16, 16, .L, 0, []⟩
def R.reg_SIZE : Row := ⟨0x12100, [⟨0, 16, 16, 16⟩], 0, 16, .L, 0, []⟩
def R.reg_EN : Row := ⟨0x12104, [⟨0, 16, 16, 16⟩], 31, 1, .L, 0, [1]⟩
def R.reg_RD : Row := ⟨0x12104, [⟨0, 16, 16, 16⟩], 0, 10, .L, 0, [5]⟩
def R.reg_WR : Row := ⟨0x12108, [⟨0, 16, 16, 16⟩], 0, 10, .L, 0, [5]⟩
def R.jr_JR_BASE : Row := ⟨0x12200, [⟨0, 32, 3, 3⟩], 0, 32, .L, 0, []⟩
def R.jr_CR_BASE : Row := ⟨0x12204, [⟨0, 32, 3, 3⟩], 0, 32, .L, 0, []⟩
def R.jr_JEN : Row := ⟨0x12208, [⟨0, 32, 3, 3⟩], 31, 1, .L, 0, []⟩
def R.jr_JR_LOG : Row := ⟨0x12208, [⟨0, 32, 3, 3⟩], 16, 3, .L, 4, []⟩
def R.jr_JQ : Row := ⟨0x12208, [⟨0, 32, 3, 3⟩], 0, 10, .L, 128, []⟩
def R.jr_W_INFLIGHT : Row := ⟨0x1220C, [⟨0, 32, 3, 3⟩], 0, 10, .RO, 0, []⟩
def R.keyr_BREQ_WR_W2 : Row := ⟨0x12280, [], 2, 1, .L, 0, []⟩
def R.keyr_BREQ_WR_W0 : Row := ⟨0x12280, [], 0, 1, .L, 1, []⟩

/-! Registers of 21_power_reset_startup.md, R598. -/

def R.sys_OPT_RESTARTS : Row := ⟨0x100, [], 8, 8, .RO, 0, []⟩
def R.sys_BOOT_FAIL : Row := ⟨0x100, [], 5, 1, .RO, 0, []⟩
def R.sys_BANK_FALL : Row := ⟨0x100, [], 4, 1, .RO, 0, []⟩
def R.sys_OPT_FAIL : Row := ⟨0x100, [], 3, 1, .RO, 0, []⟩
def R.sys_OPT_ONE : Row := ⟨0x100, [], 2, 1, .RO, 0, []⟩
def R.sys_OPT_COPY : Row := ⟨0x100, [], 1, 1, .RO, 0, []⟩
def R.sys_OPT_DONE : Row := ⟨0x100, [], 0, 1, .RO, 0, []⟩
def R.sys_OPT_SEQ : Row := ⟨0x104, [], 0, 32, .RO, 0, []⟩
def R.sys_RST_MAP : Row := ⟨0x108, [], 0, 24, .RO, 0, []⟩
def R.sys_SERIAL : Row := ⟨0x10C, [], 0, 64, .RO, 0, []⟩
def R.sys_ERASE_PEND : Row := ⟨0x114, [], 0, 16, .RO, 0, []⟩
def R.sys_FL_ADDR : Row := ⟨0x118, [], 0, 32, .L, 0, []⟩
def R.sys_FL_DATA : Row := ⟨0x11C, [], 0, 32, .L, 0, []⟩
def R.sys_FL_BUSY : Row := ⟨0x120, [], 2, 1, .RO, 0, []⟩

/-! Registers of 21_power_reset_startup.md, R599. -/

def R.rst_MODE : Row := ⟨0x1100, [], 30, 2, .L, 1, []⟩
def R.rst_LAST_LEVEL : Row := ⟨0x1104, [], 16, 2, .RO, 0, []⟩
def R.rst_CAUSE : Row := ⟨0x1104, [], 0, 12, .RO, 1, []⟩
def R.rst_CLK_FAIL : Row := ⟨0x1108, [], 0, 32, .RO, 0, []⟩
def R.rst_IDLE_TO : Row := ⟨0x110C, [], 0, 32, .RO, 0, []⟩
def R.rst_IDLE_TMO : Row := ⟨0x1110, [], 0, 16, .L, 100, []⟩
def R.rst_SW_LEVEL : Row := ⟨0x1114, [], 1, 2, .L, 1, []⟩
def R.rst_G_WDG_MS : Row := ⟨0x1118, [], 16, 16, .L, 1000, []⟩
def R.rst_B_WDG_MS : Row := ⟨0x111C, [], 16, 16, .L, 1000, []⟩
def R.rst_E_WDG_MS : Row := ⟨0x1120, [], 16, 16, .L, 0, []⟩
def R.rst_CYC_MARK : Row := ⟨0x1124, [], 0, 32, .RO, 0, []⟩
def R.rst_HELD : Row := ⟨0x1128, [], 0, 4, .RO, 0, []⟩
def R.rst_RETRY_BLK : Row := ⟨0x112C, [], 0, 5, .L, 0, []⟩
def R.rst_RST_L1 : Row := ⟨0x1130, [], 16, 16, .RO, 0, []⟩
def R.rst_RST_L2 : Row := ⟨0x1130, [], 0, 16, .RO, 0, []⟩

/-! Registers of 21_power_reset_startup.md, R600. -/

def R.pwr_VIN_A : Row := ⟨0x2100, [], 16, 16, .RO, 0, []⟩
def R.pwr_VIN_B : Row := ⟨0x2100, [], 0, 16, .RO, 0, []⟩
def R.pwr_IIN_A : Row := ⟨0x2104, [], 16, 16, .RO, 0, []⟩
def R.pwr_IIN_B : Row := ⟨0x2104, [], 0, 16, .RO, 0, []⟩
def R.pwr_VCAP : Row := ⟨0x2108, [], 16, 16, .RO, 0, []⟩
def R.pwr_HU_DONE : Row := ⟨0x2108, [], 4, 1, .RO, 0, []⟩
def R.pwr_HOLDUP : Row := ⟨0x2108, [], 3, 1, .RO, 0, []⟩
def R.pwr_CLASS_OK : Row := ⟨0x2108, [], 2, 1, .RO, 0, []⟩
def R.pwr_B_OK : Row := ⟨0x2108, [], 1, 1, .RO, 0, []⟩
def R.pwr_A_OK : Row := ⟨0x2108, [], 0, 1, .RO, 0, []⟩
def R.pwr_HU_COUNT : Row := ⟨0x2110, [], 16, 16, .RO, 0, []⟩
def R.pwr_HU_US : Row := ⟨0x2110, [], 0, 16, .RO, 0, []⟩
def R.pwr_PIN : Row := ⟨0x2114, [], 0, 32, .RO, 0, []⟩

/-! Registers of 21_power_reset_startup.md, R601. -/

def R.clk_REF_OK : Row := ⟨0x3100, [], 7, 1, .RO, 0, []⟩
def R.clk_PLL_LOCK : Row := ⟨0x3100, [], 0, 7, .RO, 64, []⟩
def R.clk_CLK_OK : Row := ⟨0x3104, [], 0, 32, .RO, 0, []⟩
def R.clk_LOCK_LOSS : Row := ⟨0x3108, [], 0, 16, .RO, 0, []⟩

/-! Registers of 02_register_pages_and_host_access.md, R29. -/

def R.hdr_IDLE_REQ : Row := ⟨0x8, [⟨0, 4096, 388, 388⟩], 1, 1, .L, 0, []⟩
def R.hdr_EN : Row := ⟨0x8, [⟨0, 4096, 388, 388⟩], 0, 1, .L, 0, []⟩
def R.hdr_ERR : Row := ⟨0xC, [⟨0, 4096, 388, 388⟩], 5, 1, .RO, 0, []⟩
def R.hdr_COMMIT_PEND : Row := ⟨0xC, [⟨0, 4096, 388, 388⟩], 4, 1, .RO, 0, []⟩
def R.hdr_IRQ_RAW : Row := ⟨0x10, [⟨0, 4096, 388, 388⟩], 0, 32, .RO, 0, []⟩
def R.hdr_IRQ_EN : Row := ⟨0x14, [⟨0, 4096, 388, 388⟩], 0, 32, .L, 0, []⟩
def R.hdr_OWN_READ : Row := ⟨0x20, [⟨0, 4096, 388, 388⟩], 16, 10, .L, 1, []⟩
def R.hdr_OWN_WRITE : Row := ⟨0x20, [⟨0, 4096, 388, 388⟩], 0, 10, .L, 1, []⟩
def R.hdr_CODE : Row := ⟨0x24, [⟨0, 4096, 388, 388⟩], 0, 16, .RO, 0, []⟩
def R.hdr_COUNT : Row := ⟨0x24, [⟨0, 4096, 388, 388⟩], 16, 8, .RO, 0, []⟩
def R.hdr_EVENT : Row := ⟨0x28, [⟨0, 4096, 388, 388⟩], 8, 8, .L, 0, []⟩
def R.hdr_BOUND : Row := ⟨0x28, [⟨0, 4096, 388, 388⟩], 0, 2, .L, 0, []⟩
def R.hdr_COMMIT_SEQ : Row := ⟨0x2C, [⟨0, 4096, 388, 388⟩], 0, 32, .RO, 0, []⟩

/-! Registers of 02_register_pages_and_host_access.md, R44. -/

def R.host_INFLIGHT : Row := ⟨0xA100, [⟨0, 4, 7, 7⟩], 0, 9, .RO, 0, []⟩

/-! Registers of 20_worlds_keys_lifecycle.md, R564. -/

def R.slot_TYPE : Row := ⟨0x11100, [⟨0, 8, 256, 256⟩], 28, 4, .L, 0, []⟩
def R.slot_LCMASK : Row := ⟨0x11100, [⟨0, 8, 256, 256⟩], 24, 4, .L, 0, []⟩
def R.slot_WORLD : Row := ⟨0x11100, [⟨0, 8, 256, 256⟩], 14, 10, .L, 0, []⟩
def R.slot_DBG_OK : Row := ⟨0x11100, [⟨0, 8, 256, 256⟩], 13, 1, .L, 0, []⟩
def R.slot_LOCK : Row := ⟨0x11100, [⟨0, 8, 256, 256⟩], 11, 1, .L, 0, []⟩
def R.slot_USE : Row := ⟨0x11100, [⟨0, 8, 256, 256⟩], 0, 11, .L, 0, []⟩
def R.slot_ENGINE : Row := ⟨0x11104, [⟨0, 8, 256, 256⟩], 28, 4, .L, 0, []⟩
def R.slot_UNIT : Row := ⟨0x11104, [⟨0, 8, 256, 256⟩], 22, 6, .L, 0, []⟩
def R.slot_VALID : Row := ⟨0x11104, [⟨0, 8, 256, 256⟩], 21, 1, .RO, 0, []⟩
def R.slot_KEYID : Row := ⟨0x11104, [⟨0, 8, 256, 256⟩], 0, 16, .L, 0, []⟩

/-! Registers of 07_bridle_site_allocation.md, R222. -/

def R.bst_STG_PMAX : Row := ⟨0x89300, [⟨0, 4, 128, 128⟩], 0, 32, .S, 0, []⟩

/-! Registers of 17_ballast_cell_rings.md, R507. -/

def R.cell_V : Row := ⟨0x169100, [⟨0, 4096, 2, 2⟩, ⟨0, 36, 64, 64⟩, ⟨0, 2, 18, 18⟩], 0, 16, .RO, 0, []⟩
def R.mon_BAL_REQ : Row := ⟨0x16B100, [⟨0, 256, 2, 2⟩, ⟨0, 4, 64, 64⟩], 0, 18, .L, 0, []⟩
def R.mon_RW : Row := ⟨0x16B300, [⟨0, 1280, 2, 2⟩, ⟨0, 20, 64, 64⟩, ⟨0, 1, 19, 19⟩], 0, 8, .L, 0, []⟩

/-! The rows of each block, for reads and writes by address. -/

def R.rows_host_0 : List Row :=
  [R.host_UDP_PORT, R.host_PCIE_W9_EN, R.host_VIOL, R.sess_SESS_ADDR, R.sess_SESS_EN, R.sess_SESS_KEY,
   R.sess_SESS_SPORT, R.sess_SESS_NONCE_LO, R.sess_SESS_NONCE_HI, R.sess_SESS_DROP, R.host_INFLIGHT]

/-- Rows of block host. -/
def R.rows_host : List Row := R.rows_host_0

def R.rows_spar_0 : List Row :=
  [R.spar_QUAL_CYCLES, R.spar_BW, R.spar_FOLLOW, R.spar_TF_EN, R.spar_PHASES, R.spar_NOMINAL, R.spar_VNOM,
   R.spar_ROCOF_MAX, R.spar_LOSS_PCT, R.spar_SEEK_PCT, R.spar_CYCLE_LOAD, R.spar_FOLLOW_SRC, R.spar_ALIGNED,
   R.spar_SLEWING, R.spar_LOCK, R.spar_FREQ, R.spar_PHASE_ERR, R.spar_ROCOF, R.spar_VAMP, R.spar_PERIOD_PS,
   R.spar_PARTNER_SKEW, R.spar_WALL_SET, R.wset_AUTH, R.wset_SLEW, R.wall_SETBACK, R.wall_SLEWING,
   R.wall_AUTH, R.wall_VALID, R.spar_WALL_AT0, R.spar_SETBACK_FROM, R.spar_SETBACK_CYCLE, R.spar_EVT_FIRED,
   R.spar_EVT_LATE, R.spar_STROBE_CYCLE, R.spar_STROBE_SEQ, R.spar_STROBE_PERIOD, R.evt_TIME0, R.evt_TIME1,
   R.evt_REPEAT, R.evt_ARM]

def R.rows_spar_1 : List Row :=
  [R.evt_MODE, R.evt_KIND, R.evt_IRQ, R.evt_COUNT]

/-- Rows of block spar. -/
def R.rows_spar : List Row := R.rows_spar_0 ++ R.rows_spar_1

def R.rows_line_0 : List Row :=
  [R.line_GP_FW, R.line_MOOR_EN, R.line_LEN, R.line_PARTNER_HEARD, R.line_UP_OK, R.line_LSTATE, R.line_RTT,
   R.line_CLAIM_HEARD, R.line_CLAIM_ECHO, R.line_SEQ_ECHO, R.line_INFORCE, R.line_Y, R.line_STATUS,
   R.line_AUX_SEL, R.line_AUX_VAL, R.line_SNAP_Y, R.line_UP_MISS, R.line_UP_CRC, R.line_MODEL, R.line_VENDOR,
   R.line_SERIAL, R.line_Y3_KIND, R.line_CMD_KIND, R.line_PROTO, R.line_FS]

/-- Rows of block line. -/
def R.rows_line : List Row := R.rows_line_0

def R.rows_brn_0 : List Row :=
  [R.stgA_A_PEND, R.stgA_A_EVENT, R.stgA_A_BOUND, R.stgA_A_COMMIT_SEQ, R.brn_MAX_NS, R.brn_LAST_NS,
   R.brn_OVERRUN, R.spl_PRE, R.spl_STATE, R.brn_TRG_EDGE, R.brn_TRG_PROBE, R.brn_TRG_INDEX, R.brn_TRG_KIND,
   R.brn_TRIG_LEVEL, R.brn_TRIG_CYCLE, R.brn_TRIG_PERIOD, R.spl_WIN, R.prb_EN, R.prb_DEC, R.prb_KIND,
   R.prb_INDEX, R.prb_SIGNAL, R.brn_TRIG_INDEX, R.stg_XCHK_EN, R.stg_RES_EN, R.stg_BANK, R.stg_SAT_CNT,
   R.stg_BANK_INUSE, R.stg_CAUSE, R.stg_FAILED, R.stg_SWITCHING, R.stg_SUBST, R.stg_XCHK_BAD, R.stg_RES_FLAG,
   R.stg_RES_RUN, R.stg_FAIL_CYCLE, R.stg_FAIL_PERIOD, R.stg_R, R.stg_U_A, R.stg_U_B]

def R.rows_brn_1 : List Row :=
  [R.stg_SENSE_TH, R.stg_XHAT, R.stg_INNOV, R.stg_XCHK, R.prt_KP, R.prt_KI, R.prt_KT, R.prt_LIM, R.prt_XI,
   R.prt_CAND, R.prt_ERR, R.prt_IBASE, R.prt_VBASE, R.prt_TBASE, R.prt_RAMP_UP, R.prt_RAMP_DN, R.prt_IMAX,
   R.prt_VMIN, R.prt_NSHARE, R.prt_BIND, R.prt_THERM_OL, R.prt_NO_STAGES, R.prt_DIR, R.prt_IREF, R.prt_SHARE,
   R.prt_VMEAS, R.prt_IMEAS, R.prt_PMEAS, R.prt_DROGUE, R.prt_CEIL, R.prt_RC20, R.prt_ALPHA, R.prt_RTH,
   R.prt_TAU, R.prt_KPIN, R.prt_LTH, R.prt_EXPH, R.prt_OL_IMAX, R.prt_THS, R.prt_TC]

def R.rows_brn_2 : List Row :=
  [R.prt_HDRM_I, R.prt_THETA, R.brn_HO_STEP, R.brn_HO_ZTMO, R.brn_SEL_TMO, R.stg_SIMAX, R.stg_AVAIL,
   R.stg_LEAD, R.stg_HOSTATE, R.stg_ROUTE_PLAN, R.stg_ROUTE_SENT, R.stg_MODE_SENT, R.stg_H, R.stg_HO_ABORT,
   R.prt_PREQ, R.prt_LEAD, R.prt_NBLAST, R.prt_NAVAIL, R.prt_VTGT_LOW, R.prt_NO_LEAD, R.prt_SHORT_SS,
   R.prt_BURST, R.prt_PSTATE, R.prt_VTGT, R.prt_VRAMP, R.prt_KV, R.prt_SS_ILIM, R.prt_PRE_ILIM, R.prt_PRE_WIN,
   R.prt_SS_TIME, R.prt_VRUN, R.prt_STOP_I, R.prt_BURST_EN, R.prt_ROT_TICKS, R.prt_BURST_IN, R.prt_BLAST_LVL,
   R.prt_VR]

/-- Rows of block brn. -/
def R.rows_brn : List Row := R.rows_brn_0 ++ R.rows_brn_1 ++ R.rows_brn_2

def R.rows_brd_0 : List Row :=
  [R.brd_BIAS_K, R.brd_MOVES_MAX, R.brd_REROUTE_MIN, R.brd_BATT_EN_B, R.brd_BATT_EN_A, R.brd_BATT_CP_B,
   R.brd_BATT_CP_A, R.brd_GRP_CP, R.brd_PLAN_SEQ, R.brd_SOLVE_US, R.brd_FAILRUN, R.brd_ZEROED, R.brd_REUSED,
   R.brd_READY, R.brd_LATCH_CYCLE, R.brd_TREM_MIN, R.bcp_IMP_MAX, R.bcp_EXP_MAX, R.bcp_MARGIN, R.bcp_DEM_CAP,
   R.bcp_DEM_FLOOR, R.bcp_LIMIT, R.bcp_DEM_OVER, R.bcp_CP_OK, R.bcp_DEM_EN, R.bcp_BIAS, R.bcp_PLAN_IMP,
   R.bcp_PDEM, R.bcp_FCAST, R.bcp_GRID_MEAS, R.bcp_IMP_EFF, R.brd_DEM_LEN, R.brd_DEM_ELAPSED, R.brd_EIMP,
   R.bsk_CHG_MAX, R.bsk_DIS_MAX, R.bsk_CHG_WISH, R.bsk_SHAVE_MAX, R.bsk_PLAN, R.bsk_PLAN_NEXT]

def R.rows_brd_1 : List Row :=
  [R.bpt_REQ_EN, R.bpt_PRIO, R.bpt_DMODE, R.bpt_OVD_EN, R.bpt_REQ, R.bpt_MIN_GUAR, R.bpt_PCAP_CHG,
   R.bpt_PCAP_DIS, R.bpt_PRAMP, R.bpt_GROW, R.bpt_ICONT, R.bpt_ALLOC, R.bpt_PLAN, R.bpt_DEMAND, R.bpt_STG_CAP,
   R.bpt_THERM_CAP, R.bpt_PMEAS, R.bpt_CEIL, R.bpt_WANT, R.bpt_HAVE, R.bpt_OVD, R.bpt_GUAR_SHORT, R.bpt_DRAW,
   R.bpt_ELIG, R.bst_PIN_EN, R.bst_PIN_ROUTE, R.bst_ROUTE_NEXT, R.bst_COUNTED, R.bst_HOLD, R.lft_ECC_CNT,
   R.lft_TIME_OK, R.lft_HOLD, R.lft_WIN, R.bst_STG_PMAX]

/-- Rows of block brd. -/
def R.rows_brd : List Row := R.rows_brd_0 ++ R.rows_brd_1

def R.rows_port_0 : List Row :=
  [R.port_DISCH_EN, R.port_DISCH_CH, R.port_WELD_VEH, R.port_ISO_MON, R.port_LATCH_STOP, R.port_PP_KIND,
   R.port_KIND, R.port_CAUSE, R.port_WELD_LATE, R.port_WELD_RB, R.port_ISO_WARN_F, R.port_PAUSE_F,
   R.port_PRE_OK, R.port_VREADY, R.port_DISCH_ON, R.port_CONT_REQ, R.port_CONT_FB, R.port_STEP,
   R.port_ISO_RES, R.port_PP, R.port_PILOT, R.port_SSTATE, R.port_SESS_ID, R.port_SSTATE_CYCLE,
   R.port_EVT_PEND, R.port_EVT_DROP, R.port_VPRE, R.port_ISO_VTEST, R.port_ISO_WARN, R.port_ISO_FAULT,
   R.port_ISO_R, R.port_LINK_TMO, R.port_AUTH_TMO, R.port_READY_TMO, R.port_ISO_TMO, R.port_PRE_TMO,
   R.port_RAMP_TMO, R.port_PAUSE_TMO, R.port_WELD_TMO, R.port_CONT_TMO]

def R.rows_port_1 : List Row :=
  [R.port_DISCH_TMO, R.port_ISO_SETTLE, R.port_ISO_MEAS, R.port_HB_TMO, R.port_WELD_VMIN, R.port_CONT_IBRK,
   R.port_CP_HI, R.port_CP_LO, R.port_PP_R, R.port_CE_LVL, R.port_ID_LVL, R.port_CE_TH3_CE_TH0, R.port_ID_MAX,
   R.port_ID_MIN, R.port_CONT_OPS, R.port_LOADBRK, R.port_CONT_WELD]

/-- Rows of block port. -/
def R.rows_port : List Row := R.rows_port_0 ++ R.rows_port_1

def R.rows_vlnk_0 : List Row :=
  [R.vl_TCP_PORT, R.vl_RXBUF, R.vl_NOTLS_OK, R.vl_TLS_OK, R.vl_STREAM_EN, R.vl_STREAM_CH, R.vl_TX_REC,
   R.vl_TX_ATTN, R.vl_TX_CTYPE, R.vl_XPORT, R.vl_XTALK, R.vl_MEDIUM, R.vl_TLS, R.vl_RX_PAUSED, R.vl_STREAMING,
   R.vl_TCP, R.vl_SEC_TLS, R.vl_SLAC, R.vl_LINK, R.vl_RX_FREE, R.vl_HEAD_PTYPE, R.vl_HEAD_LEN, R.vl_RX_MSGS,
   R.vl_HEAD_CTYPE, R.vl_HEAD_STREAM, R.vl_HEAD_VALID, R.vl_TX_PTYPE, R.vl_TX_LEN, R.vl_TX_FREE,
   R.vl_TX_QUEUED, R.vl_KEY_RX, R.vl_KEY_TX, R.vl_SUITE, R.vl_SLAC_FAILS, R.vl_SDP_ANS, R.vl_TOO_BIG,
   R.vl_AUTH_FAIL, R.vl_WSEL, R.vl_WOFF, R.vl_PEER_IP]

def R.rows_vlnk_1 : List Row :=
  [R.vl_PEER_MAC]

/-- Rows of block vlnk. -/
def R.rows_vlnk : List Row := R.rows_vlnk_0 ++ R.rows_vlnk_1

def R.rows_splc_0 : List Row :=
  [R.cpl_CEN, R.cpl_BCN_OFS, R.cpl_NMK_KEY, R.cpl_TX_ATTN, R.cpl_JOIN, R.cpl_STA_CNT, R.cpl_BSTATE,
   R.cpl_IMP_BLANK, R.cpl_JOIN_REF, R.cpl_IMP_TH, R.splc_TM_REFRESH, R.splc_TM_MARGIN, R.splc_LEAVE_TMO,
   R.splc_MASK, R.splc_TM_ENTRY, R.splc_TM_DIR, R.splc_TM_MAP, R.splc_LAST_REF, R.dsp_MAC_LO, R.dsp_LISTED,
   R.dsp_COUP, R.dsp_MAC_HI, R.dsp_PORT_MASK, R.dsp_DSTATE, R.dsp_FAILRUN, R.dsp_RATE_DN, R.dsp_RATE_UP,
   R.dsp_TM_AGE, R.dsp_EVT_SEQ, R.dsp_PB_RETX, R.dsp_FRM_FAIL, R.splc_RX_MSGS, R.splc_RX_SRC, R.splc_RX_LEN,
   R.splc_TX_QUEUED, R.splc_TX_DEST, R.splc_TX_PRIO, R.splc_TX_LEN, R.splc_WSEL]

/-- Rows of block splc. -/
def R.rows_splc : List Row := R.rows_splc_0

def R.rows_mtr_0 : List Row :=
  [R.mtr_CAP_DLY3_CAP_DLY0, R.mtr_MSW, R.mtr_SEAL, R.mtr_MODF_A, R.mtr_MODF_B, R.mtr_MODF_C, R.mtr_MCLK_DRV,
   R.mtr_PEN, R.mtr_PQTY, R.mtr_PMTR, R.mtr_PW, R.mtr_PULSE_K, R.mtr_PCNT, R.mtr_POVF, R.mtr_PEND, R.mt_MODE,
   R.mt_RATED_P, R.mt_CREEP_PPM, R.mt_VNOM, R.mt_ZC_TMO, R.mt_PRES_PCT, R.mt_ZC_LOST, R.mt_PRESENT, R.mt_GAP,
   R.mt_FAULT, R.mt_FAST_VALID, R.mt_REV, R.mt_DIR, R.mt_FAULT_TIME, R.mt_REV_CNT, R.mt_V_FAST, R.mt_I_FAST,
   R.mt_P_FAST, R.mt_V_CYC, R.mt_I_CYC, R.mt_P_CYC, R.mt_VRMS, R.mt_IRMS, R.mt_FREQ, R.mt_E_POS]

def R.rows_mtr_1 : List Row :=
  [R.mt_E_NEG, R.mt_E_NET, R.mt_E_CYCLE, R.mt_SNAP_POS, R.mt_SNAP_NEG, R.mt_SNAP_NET, R.mt_SNAP_V,
   R.mt_SNAP_I, R.mt_SNAP_P, R.mt_SNAP_CYCLE, R.mt_SNAP_PERIOD, R.mt_LOAD_POS, R.mt_LOAD_NEG, R.mt_LOAD_NET,
   R.ch_FS, R.ch_INV, R.ch_OFS, R.ch_GAIN, R.ch_DELAY, R.ch_SEG_N, R.ch_MODF, R.ch_OVR, R.ch_SEG_USE,
   R.ch_RAW_MEAN, R.ch_SEG_LIM, R.ch_SEG_DELAY, R.ch_SEG_GAIN]

/-- Rows of block mtr. -/
def R.rows_mtr : List Row := R.rows_mtr_0 ++ R.rows_mtr_1

def R.rows_bill_0 : List Row :=
  [R.bill_DEF_CAUSE, R.bill_DEFAULT, R.bill_TARIFF, R.bill_TARIFF_NEXT, R.bill_DEM_ALIGN, R.bill_DEM_MIN,
   R.bill_CAL_VALID, R.bill_DISP_EN, R.bill_BILL_REQ, R.bill_OPEN, R.bill_LAST_BOUND, R.bill_OPEN_START,
   R.bill_OPEN_END, R.bill_OPEN_FLAGS, R.bill_SHADOW_ACK, R.bill_SLOT_PEND, R.bill_REC_SEQ, R.bill_BREC,
   R.bill_REQ_TAIL, R.bill_LOG_SEQ, R.bill_SEAL_FREE, R.bill_DISP_PORTS, R.bill_DISC_TMO, R.bill_LAST_TOKEN,
   R.bill_MONO, R.bill_CREDIT_KEY, R.bill_TARIFF_KEY, R.bill_SIGN_KEY, R.bill_OCMF_VER, R.leg_REG_POS,
   R.leg_REG_NEG, R.leg_REG_NET, R.leg_TREG_POS, R.leg_TREG_NEG, R.leg_D_POS, R.leg_D_NEG, R.leg_D_NET,
   R.leg_D_FLAGS, R.leg_MD_POS, R.leg_MD_NEG]

def R.rows_bill_1 : List Row :=
  [R.leg_DEM_E, R.pre_DISC_FAIL, R.pre_DISC_SENT, R.pre_LOW, R.pre_PREPAY, R.pre_SESS_ID, R.pre_BAL,
   R.pre_LOW_AT, R.pre_SESS_E, R.pre_CODE, R.pre_PARAM, R.pre_DUR]

/-- Rows of block bill. -/
def R.rows_bill : List Row := R.rows_bill_0 ++ R.rows_bill_1

def R.rows_thrm_0 : List Row :=
  [R.thrm_ONEPIN_OL, R.thrm_TMAX, R.thrm_TMIN, R.thrm_PTRIP, R.thrm_PIN_LOST, R.thrm_TD1, R.thrm_TD0,
   R.thrm_TD3, R.thrm_TD2, R.thrm_TD_VALID, R.thrm_SD_PEND, R.thrm_BAND_FAIL, R.thrm_BAND, R.thrm_THR_LVL,
   R.thrm_THR_ON, R.thrm_THR_HYST, R.thrm_THR_MODE, R.thrm_TSD_PLATE, R.cool_EN, R.cool_DIR, R.cool_SEL,
   R.cool_CH, R.cool_GEN_MASK, R.cool_PORT_MASK, R.cool_SET, R.cool_FAIL_DUTY, R.cool_KP, R.cool_KI,
   R.cool_DMAX, R.cool_DMIN, R.cool_TIN, R.cool_DUTY, R.cool_NOSRC, R.cool_REFUSED, R.tin_KIND, R.tin_NBR,
   R.tin_XTOL, R.tin_ACT, R.tin_XCNT, R.tin_P1]

def R.rows_thrm_1 : List Row :=
  [R.tin_P2, R.tin_OFS, R.tin_HYST, R.tin_WARN, R.tin_TRIP, R.tin_NEAR, R.tin_RATE_MAX, R.tin_TEMP,
   R.tin_TRIP_F, R.tin_WARN_F, R.tin_FAST, R.tin_SUSPECT, R.tin_RATE, R.tin_RANGE, R.tin_SHORT, R.tin_OPEN,
   R.tin_VALID, R.tin_MEAS]

/-- Rows of block thrm. -/
def R.rows_thrm : List Row := R.rows_thrm_0 ++ R.rows_thrm_1

def R.rows_lsw_0 : List Row :=
  [R.lsw_VRAIL, R.lsw_TCASE, R.lsw_RAIL_LOSS, R.lsw_CASE_TRIP, R.lsw_LIMP_EN_IN, R.lsw_RAIL_LOW,
   R.lch_RETRY_DLY, R.lch_HOLD, R.lch_RETRY, R.lch_LIMP_DEF, R.lch_LIMP_SEL, R.lch_BLK_EACH, R.lch_MODE,
   R.lch_ILIM_INR, R.lch_ILIM, R.lch_BLK, R.lch_TLIM, R.lch_OPEN_TH, R.lch_DT_LIM, R.lch_DT_TIME, R.lch_PER,
   R.lch_PHS, R.lch_DUTY, R.lch_I_MEAS, R.lch_DT, R.lch_RETRY_END, R.lch_OPEN_LOAD, R.lch_TRIP_CASE,
   R.lch_TRIP_DT, R.lch_TRIP_I, R.lch_LIMIT, R.lch_INRUSH, R.lch_OUT, R.lch_I_PEAK, R.lch_RETRY_CNT,
   R.lch_CH_SRC]

/-- Rows of block lsw. -/
def R.rows_lsw : List Row := R.rows_lsw_0

def R.rows_safe_0 : List Row :=
  [R.safe_SID_SW, R.safe_SF_STATE, R.safe_SID_CALC, R.safe_PERMIT, R.safe_PPERMIT, R.safe_TWORD,
   R.safe_PAIR_RUN, R.safe_ZSTATE, R.safe_CAUSE, R.safe_SRC, R.safe_TRIPS, R.safe_IN_NORM, R.safe_DISC_FLT,
   R.safe_RAW_A, R.safe_RAW_B, R.safe_PSTATE, R.safe_RMV_DONE, R.safe_RCAUSE, R.safe_I0, R.sout_Q_REQ,
   R.sout_HS_I, R.sout_LS_I, R.sout_TERM, R.sout_OUT_FLT, R.sout_HS_STUCK, R.sout_LS_STUCK, R.sout_OPEN_COIL,
   R.sout_SH_STUCK, R.sout_DP, R.sout_CMD, R.scfg_KIND, R.scfg_DISC, R.scfg_FILT, R.scfg_ZMASK, R.scfg_PORTS,
   R.scfg_OUTS, R.scfg_RAMP_MS, R.scfg_RST_IN, R.scfg_ZEN, R.scfg_EN]

def R.rows_safe_1 : List Row :=
  [R.scfg_DLY, R.scfg_DP_INT, R.scfg_PAIR, R.scfg_DP_LEN, R.scfg_IRATED]

/-- Rows of block safe. -/
def R.rows_safe : List Row := R.rows_safe_0 ++ R.rows_safe_1

def R.rows_xch_0 : List Row :=
  [R.xch_CRUN, R.xch_TX_CNT, R.xch_CID, R.xch_EN, R.xch_DUAL, R.xch_SEQ_WIN, R.xch_ZONES, R.xch_WDOG_MS,
   R.xch_SRC_LO, R.xch_SRC_HI, R.xpr_CID_X, R.xpr_CID_Y, R.xpr_EN, R.xpr_DUAL, R.xpr_WDOG_MS, R.xpr_SEND_MS,
   R.xpr_DEST_LO, R.xpr_DEST_HI, R.xch_LAST_SEQ, R.xch_CSTATE, R.xch_CRC_ERR, R.xch_SEQ_ERR, R.xch_WDOG_EXP,
   R.xch_DUAL_ERR, R.xch_AGE, R.xch_RXDATA]

/-- Rows of block xch. -/
def R.rows_xch : List Row := R.rows_xch_0

def R.rows_teth_0 : List Row :=
  [R.teth_JOIN_WAIT, R.teth_STALE_MAX, R.teth_MODE, R.teth_PAIR_EN, R.teth_TAKE_CAUSE, R.teth_DEMOTED,
   R.teth_HOLDUP, R.teth_FALLBACK, R.teth_TDOWN, R.teth_LANE_FLT, R.teth_MODE_FORCED, R.teth_TAKE_BLOCKED,
   R.teth_SILENT, R.teth_HLTH_LOST, R.teth_SYNCED, R.teth_NEXT_CLAIM, R.teth_CLAIM, R.teth_TAKE_CYCLE,
   R.teth_TSTATE, R.teth_ACTIVE, R.teth_TAKE_PERIOD, R.teth_ENV_LEN, R.teth_ENV_ADDR, R.teth_IMG_SEQ,
   R.teth_IMG_BAD, R.teth_IMG_LATE, R.teth_DEMOTIONS, R.teth_TAKEOVERS, R.teth_METER_TOL, R.teth_ALIGN_MTR,
   R.teth_ENV_SEQ, R.tethp_P_CLAIM, R.tethp_P_FLAGS, R.tethp_P_TSTATE, R.tethp_SELFTEST, R.tethp_P_SELFTEST,
   R.tethp_P_CYCLE, R.tethp_P_CFG_ID, R.tethp_P_IMG_ACK, R.tethp_P_FW]

def R.rows_teth_1 : List Row :=
  [R.tethp_CFG_ID, R.tethp_HLTH_AGE, R.tethp_P_HEARD]

/-- Rows of block teth. -/
def R.rows_teth : List Row := R.rows_teth_0 ++ R.rows_teth_1

def R.rows_blst_0 : List Row :=
  [R.ring_EXPECT, R.ring_MEAS_CYC, R.ring_LOSS_N, R.ring_CONV_PER, R.ring_MON_TMO, R.ring_HUSH_EN,
   R.ring_BAL_EN, R.ring_OV, R.ring_UV, R.ring_OV_HW, R.ring_UV_HW, R.ring_CHG_VHI, R.ring_DIS_VLO,
   R.ring_VHYS, R.ring_WIRE_DEV, R.ring_WIRE_TOL, R.ring_SUM_TOL, R.ring_OW_TH, R.ring_BAL_I, R.ring_LIM_CHG,
   R.ring_LIM_DIS, R.ring_CHG_MAX, R.ring_DIS_MAX, R.ring_RSTATE, R.ring_N_A, R.ring_N_B, R.ring_BREAK_AT,
   R.ring_TRIP, R.ring_FCODE, R.ring_LIM_HI, R.ring_LIM_LO, R.ring_PHASE, R.ring_LOST_ANY, R.ring_TRIP_MON,
   R.ring_BAD_BLK, R.ring_LOST, R.ring_SLOT_CYCLE, R.mon_MSUM, R.mon_TEMP, R.mon_MSTATE]

def R.rows_blst_1 : List Row :=
  [R.mon_OV, R.mon_UV, R.mon_CMP, R.mon_SUM_ERR, R.mon_SUSPECT, R.mon_OW_RUN, R.mon_BAL, R.mon_TIMEOUT,
   R.mon_FCELL, R.mon_BAL_ADJ, R.mon_WIRE_OPEN, R.cell_V, R.mon_BAL_REQ, R.mon_RW]

/-- Rows of block blst. -/
def R.rows_blst : List Row := R.rows_blst_0 ++ R.rows_blst_1

def R.rows_can_0 : List Row :=
  [R.can_PAIRMODE, R.can_SELF_RX, R.can_RX_MODE, R.can_TXP, R.can_ABO, R.can_PXE, R.can_FDOE, R.can_ROM,
   R.can_MON, R.can_NBRP, R.can_NTSEG1, R.can_NTSEG2, R.can_NSJW, R.can_DBRP, R.can_DTSEG1, R.can_DTSEG2,
   R.can_DSJW, R.can_TDC_EN, R.can_TDCO, R.can_REC, R.can_TEC, R.can_FSTATE, R.can_ROM_ACT, R.can_INTEG,
   R.can_LEC, R.can_RX_LOST, R.can_BO_CNT, R.can_RX_HEAD, R.obj_IDE, R.obj_RTR, R.obj_FDF, R.obj_ID,
   R.obj_DIR, R.obj_SS, R.obj_BRS, R.obj_ESI, R.obj_OVW, R.obj_CPEND, R.obj_DLC, R.obj_STATE]

def R.rows_can_1 : List Row :=
  [R.obj_TXEVT, R.obj_EVT_EN, R.obj_NEWDAT, R.obj_WSEQ, R.obj_TS_CYCLE, R.obj_TS_PERIOD, R.obj_DATA]

/-- Rows of block can. -/
def R.rows_can : List Row := R.rows_can_0 ++ R.rows_can_1

def R.rows_reel_0 : List Row :=
  [R.reel_ACT_VALID, R.reel_ACT_CH, R.reel_BEATS, R.rch_PRIO, R.rch_WORLD, R.rch_PC_HI, R.rch_PC_LO,
   R.rch_CUR_PC, R.rch_STATE, R.rch_ECODE, R.rch_CUR_PC_HI, R.rch_FLAGGED, R.rch_SA, R.rch_DA, R.rch_DA_HI,
   R.rch_SA_HI, R.rch_LCNT1, R.rch_LCNT0, R.rch_LAST_LEN, R.rch_SPLITS, R.rch_PREEMPT, R.rch_BYTES]

/-- Rows of block reel. -/
def R.rows_reel : List Row := R.rows_reel_0

def R.rows_key_0 : List Row :=
  [R.key_LC, R.key_DEBUG_EN, R.key_DBG_ARMED, R.key_TEST_ROOT, R.key_LC_BUSY, R.key_LC_FUSE, R.key_LC_CODE,
   R.key_LC_TARGET, R.key_CLR_SLOT, R.key_INFLIGHT, R.key_JOBS_DONE, R.reg_BASE, R.reg_SIZE, R.reg_EN,
   R.reg_RD, R.reg_WR, R.jr_JR_BASE, R.jr_CR_BASE, R.jr_JEN, R.jr_JR_LOG, R.jr_JQ, R.jr_W_INFLIGHT,
   R.keyr_BREQ_WR_W2, R.keyr_BREQ_WR_W0, R.slot_TYPE, R.slot_LCMASK, R.slot_WORLD, R.slot_DBG_OK, R.slot_LOCK,
   R.slot_USE, R.slot_ENGINE, R.slot_UNIT, R.slot_VALID, R.slot_KEYID]

/-- Rows of block key. -/
def R.rows_key : List Row := R.rows_key_0

def R.rows_sys_0 : List Row :=
  [R.sys_OPT_RESTARTS, R.sys_BOOT_FAIL, R.sys_BANK_FALL, R.sys_OPT_FAIL, R.sys_OPT_ONE, R.sys_OPT_COPY,
   R.sys_OPT_DONE, R.sys_OPT_SEQ, R.sys_RST_MAP, R.sys_SERIAL, R.sys_ERASE_PEND, R.sys_FL_ADDR, R.sys_FL_DATA,
   R.sys_FL_BUSY]

/-- Rows of block sys. -/
def R.rows_sys : List Row := R.rows_sys_0

def R.rows_rst_0 : List Row :=
  [R.rst_MODE, R.rst_LAST_LEVEL, R.rst_CAUSE, R.rst_CLK_FAIL, R.rst_IDLE_TO, R.rst_IDLE_TMO, R.rst_SW_LEVEL,
   R.rst_G_WDG_MS, R.rst_B_WDG_MS, R.rst_E_WDG_MS, R.rst_CYC_MARK, R.rst_HELD, R.rst_RETRY_BLK, R.rst_RST_L1,
   R.rst_RST_L2]

/-- Rows of block rst. -/
def R.rows_rst : List Row := R.rows_rst_0

def R.rows_pwr_0 : List Row :=
  [R.pwr_VIN_A, R.pwr_VIN_B, R.pwr_IIN_A, R.pwr_IIN_B, R.pwr_VCAP, R.pwr_HU_DONE, R.pwr_HOLDUP,
   R.pwr_CLASS_OK, R.pwr_B_OK, R.pwr_A_OK, R.pwr_HU_COUNT, R.pwr_HU_US, R.pwr_PIN]

/-- Rows of block pwr. -/
def R.rows_pwr : List Row := R.rows_pwr_0

def R.rows_clk_0 : List Row :=
  [R.clk_REF_OK, R.clk_PLL_LOCK, R.clk_CLK_OK, R.clk_LOCK_LOSS]

/-- Rows of block clk. -/
def R.rows_clk : List Row := R.rows_clk_0

def R.rows_hdr_0 : List Row :=
  [R.hdr_IDLE_REQ, R.hdr_EN, R.hdr_ERR, R.hdr_COMMIT_PEND, R.hdr_IRQ_RAW, R.hdr_IRQ_EN, R.hdr_OWN_READ,
   R.hdr_OWN_WRITE, R.hdr_CODE, R.hdr_COUNT, R.hdr_EVENT, R.hdr_BOUND, R.hdr_COMMIT_SEQ]

/-- Rows of block hdr. -/
def R.rows_hdr : List Row := R.rows_hdr_0

end Sys2Proof.Machine
end

