-- ==== Sys2Proof/Machine/State.lean ====
section
/-! DEFINITION. The state of the block. Every register field that holds a value stands in `regs` (Rows.lean);
the structures here hold the rest: what the engines remember between commands. -/

namespace Sys2Proof.Machine

/-- An armed commit (R35): its boundary kind and event as read at acceptance, the number of control periods
started by then, and whether its event has fired since (R37, R85). -/
structure Arm where
  unit : CommitUnit
  bound : Nat
  event : Nat
  at_ : Nat
  fired : Bool
  deriving DecidableEq, Repr

/-- A step or slew of wall time that waits (R77): the value, AUTH, and the control periods started at APPLY. -/
structure WallStep where
  value : Nat
  auth : Bool
  at_ : Nat
  deriving DecidableEq, Repr

/-- What Spar has fixed for the next port loop tick at the start of the period before it (R59, R621): the accumulator
frequency and whether it is a slew or clamped, the phase error, whether that is a jump, the partner's skew, and whether
the reference is lost and for its rate of change (R63). -/
structure SparNext where
  freq : Nat
  slewing : Bool
  phi : Int
  jump : Bool
  skew : Int
  lost : Bool
  rocof : Bool
  deriving DecidableEq, Repr

/-- Spar's own state (03_spar_mains_time.md). -/
structure SparS where
  /-- 48-bit phase accumulator (R58). Reset 0. -/
  acc : Nat
  /-- Accumulator increment for each 5 ns clock (R58, R59). Reset 0. -/
  inc : Nat
  /-- Accumulator frequency in units of 10^-12 Hz (R621). Reset 0. -/
  freq : Nat
  /-- Cycle number (R58). Reset 0. -/
  cycle : Nat
  /-- Period index 0-799 (R58). Reset 0. -/
  period : Nat
  /-- Control periods started since reset. Reset 0. -/
  serial : Nat
  /-- Length of the last control period in 5 ns clocks. Reset 0. -/
  clocks : Nat
  /-- Lengths of the last control periods in 5 ns clocks, newest first, at most 8 (R147, R621). Reset empty. -/
  lens : List Nat
  /-- What is fixed for the next port loop tick (R59, R621). Reset none. -/
  next : Option SparNext
  /-- Angle 0x0000 reached and its cycle-start actions still to run. Reset false. -/
  cycleDue : Bool
  /-- The current period began with a cycle start or enable and its per-period actions are still to run. -/
  periodDue : Bool
  /-- The current period is a port loop tick that has not run. Reset false. -/
  tickDue : Bool
  /-- The state QUALIFY was entered from (R61, R62). Reset 1. -/
  qualFrom : Nat
  /-- Qualifying cycles counted (R61). Reset 0. -/
  qualCount : Nat
  /-- Whole reference cycles judged since QUALIFY was entered. Reset 0. -/
  refCycles : Nat
  /-- Frequencies of reference cycles that met the criteria, newest first, with their number (R64). -/
  good : List (Nat × Nat)
  /-- Whether the last whole reference cycle met the seek criteria (R62). Reset false. -/
  refGood : Bool
  /-- Frequency of the last whole reference cycle, µHz (R621). Reset 0. -/
  refFreq : Nat
  /-- Rate of change of frequency of the last whole reference cycle, mHz/s (R63). Reset 0. -/
  refRocof : Int
  /-- Consecutive ticks with low amplitude (R63). Reset 0. -/
  lowTicks : Nat
  /-- Integrator F_I of the loop filter, 10^-12 Hz (R621). Reset 0. -/
  fInt : Int
  /-- Phase error sampled for the tick before, if there was one (R69). Reset none. -/
  phiPrev : Option Int
  /-- Holdover frequency, µHz (R64). Reset 0. -/
  hold : Nat
  /-- Accumulator frequency of the partner's last valid report, µHz (R71). Reset 0. -/
  partnerFreq : Nat
  /-- An alignment of R73 is still due. Reset false. -/
  alignDue : Bool
  /-- Cycle number of the partner's valid report the alignment waits with (R73). Reset none. -/
  alignCycle : Option Nat
  /-- A time frame's cycle number to take at the next angle 0x0000 (R75). Reset none. -/
  alignFrame : Option Nat
  /-- Wall time in units of 5 ps, 2*10^8 a millisecond (R76). Reset 0. -/
  wall : Nat
  /-- Wall-time slew still to make, units of 5 ps, signed (R77). Reset 0. -/
  slewRem : Int
  /-- Wall-time step that waits for the next control period start (R77). Reset none. -/
  step : Option WallStep
  /-- ANGLE and PERIOD latched by each world's CYCLE read (R90). Reset 0. -/
  latch : Vector (Nat × Nat) 10
  /-- High word of WALL latched by each world's read (R90). Reset 0. -/
  wallHi : Vector Nat 10
  /-- Wall-mode events whose occurrences a wall step passed over (R83). Reset empty. -/
  skipped : List Nat
  /-- Events whose instant was already past when they were armed or became able to fire (R81, R82, R83). -/
  latePend : List Nat
  /-- For events armed or fired: the serial number of the first period they may fire in (R82, R85). -/
  notBefore : List (Nat × Nat)
  /-- Strobe events deferred by R88. Reset empty. -/
  deferred : List Nat
  /-- Serial number of the period of the last boundary strobe (R88). Reset none. -/
  lastStrobe : Option Nat
  /-- Serial number of the period of the last snapshot (R88). Reset none. -/
  lastSnap : Option Nat
  /-- Events that fired in the current period (R85). Reset empty. -/
  firedNow : List Nat
  /-- Time frames sent at the last angle 0x0000, one for each ring port (R89). Reset none. -/
  frameOut : Option TimeFrame
  deriving DecidableEq, Repr

/-- A frame at a ring port (R24): IEEE 802.1Q priority, destination address where the spec gives it, EtherType, payload,
and the image chunk it carries (R467). -/
structure RingFrame where
  prio : Nat
  dst : Option Nat
  etherType : Nat
  payload : List Byte
  chunk : Option Chunk
  deriving DecidableEq, Repr

/-- The egress of one ring port (R24). -/
structure EgressS where
  /-- The frame on the wire and the 5 ns clocks it still takes. Reset none. -/
  wire : Option (RingFrame × Nat)
  /-- Frames that wait, oldest first. Reset empty. -/
  queue : List RingFrame
  /-- Frames completed in the last control period, oldest first. Reset empty. -/
  done : List RingFrame
  deriving DecidableEq, Repr

/-- A ring port's egress at reset. -/
def EgressS.reset : EgressS := { wire := none, queue := [], done := [] }

/-- Host access state (02_register_pages_and_host_access.md). -/
structure HostS where
  /-- Requests accepted and not executed, oldest first (R50, R54). Reset empty. -/
  reqs : List HostReq
  /-- Response kept for each world and tag (R50). Reset empty. -/
  kept : List HostResp
  /-- Number of the next response datagram of W3-W8, 64-bit (R48). Reset 1. -/
  nonceOut : Vector Nat 6
  /-- The response datagrams sent by the last command that sent any, oldest first (R51). Reset empty. -/
  out : List RespDatagram
  /-- What the last bus read of each world returned (R40, R56). Reset 0. -/
  rdata : Vector (List Word) 10
  /-- The last PCIe read got a Completer Abort (R52). Reset false. -/
  pcieAbort : Bool
  deriving DecidableEq, Repr

/-- A memory: (address, byte) pairs with rising addresses, none of them 0; an unlisted address reads 0 (log entry 17). -/
abbrev Memory := List Host.Cell

/-- What a crypto job leaves until it completes (R556): status, output length, material for its destination slot. -/
structure JobOut where
  status : Nat
  len : Nat
  slot : Option (Nat × List Byte)
  deriving DecidableEq, Repr

/-- A crypto job in flight (R555, R556): its world, descriptor index and descriptor fields. -/
structure Job where
  world : Nat
  idx : Nat
  tag : Nat
  op : Nat
  fence : Bool
  mode : Nat
  alg : Nat
  k1 : Nat
  k2 : Nat
  src : Nat
  srcLen : Nat
  dst : Nat
  dstLen : Nat
  aux : Nat
  auxLen : Nat
  /-- A reserved field is not zero (R557). -/
  resv : Bool
  /-- Its outcome, once the engine has run it. -/
  out : Option JobOut
  deriving DecidableEq, Repr

/-- Keys, jobs and life cycle beside the registers (20_worlds_keys_lifecycle.md). -/
structure KeyS where
  /-- Key material of each slot that holds some (R545). Reset: none. -/
  mat : List (Nat × List Byte)
  /-- Jobs in flight, in order of acceptance (R555). Reset: none. -/
  jobs : List Job
  /-- Descriptors accepted and completions written for W0-W2, modulo 2^32 (R555). Reset 0. -/
  acc : Vector Nat 3
  comp : Vector Nat 3
  /-- The world whose turn it is (R555). Reset 0. -/
  turn : Nat
  /-- Crypto interrupts raised to the cores of W0-W2 (R556). Reset 0. -/
  irq : Vector Nat 3
  /-- The random source has failed its health test (R557). Reset false. -/
  rngBad : Bool
  /-- Life-cycle fuses (R559), and the target of a burn in progress (R560). Reset 0 (log entry 4), none. -/
  fuse : Nat
  burn : Option Nat
  deriving DecidableEq, Repr

/-- One stage line at the module (04_stage_line.md). -/
structure LineS where
  /-- Consecutive missing uplinks (R115). Reset 0. -/
  misses : Nat
  /-- An ATTACH frame waits for the next window (R120). Reset false. -/
  attachPend : Bool
  /-- Periods since ATTACH was sent (R120). Reset none. -/
  attachTmr : Option Nat
  /-- FAULT_CLR goes with the next COMMAND frame (R121). Reset false. -/
  faultClr : Bool
  /-- PROBE goes in this period's window (R119). Reset false. -/
  probe : Bool
  /-- A PROBE has been sent and its IDENT may come (R118). Reset false. -/
  probed : Bool
  /-- A good MEAS arrived in this period (R103). Reset false. -/
  upGood : Bool
  /-- Measurements of this period that are valid samples, by bit (R98, R115). Reset 0. -/
  yOk : Nat
  /-- Claims heard in the partner's window, newest first, at most 8 periods (R121). Reset empty. -/
  heard : List Nat
  /-- Consecutive uplinks whose CLAIM_ECHO is above the module's own claim (R115). Reset 0. -/
  higher : Nat
  /-- Fault bits of the last good STATUS (R121, DRV_FAULT). Reset 0. -/
  faults : Nat
  /-- Every period of this cycle so far gave what HEARD counts (R465). Reset true. -/
  heardAll : Bool
  /-- What counted in the period in progress (R465). Reset false. -/
  heardNow : Bool
  /-- The downlink frame sent in the last window (R104). Reset none. -/
  out : Option DownFrame
  deriving DecidableEq, Repr

/-- Every line at reset. -/
def LineS.reset : LineS :=
  { misses := 0, attachPend := false, attachTmr := none, faultClr := false, probe := false, probed := false,
    upGood := false, yOk := 0, heard := [], higher := 0, faults := 0, heardAll := true, heardNow := false, out := none }

/-- A command a stage driver has obeyed (R106), with the PERIOD_LEN it brings (R112). -/
structure DrvCmd where
  mode : Nat
  route : Nat
  seq : Nat
  refA : Nat
  refB : Nat
  faultClr : Bool
  len : Nat
  deriving DecidableEq, Repr

/-- A stage driver at the far end of a line: the node whose rules R105-R118 give. -/
structure DrvS where
  /-- Attached, its stage number and its expected SEQ (R111, R118). Reset unattached. -/
  attached : Bool
  stage : Nat
  expSeq : Nat
  /-- Highest claim of each of the last 8 reception periods, the current one first (R106). Reset zeros. -/
  hist : List Nat
  /-- Claims of the COMMAND frames of the current period (R107). Reset empty. -/
  claims : List Nat
  /-- The command staged for the next period start (R105). Reset none. -/
  staged : Option DrvCmd
  /-- What the frames of this period say of gate permit at the next start (R108). Reset none. -/
  gpNext : Option Bool
  /-- Gate permit in force (R108). Reset false. -/
  gp : Bool
  /-- MODE and ROUTE in force, references in force, SEQ of the command applied (R97). Reset OFF, open. -/
  mode : Nat
  route : Nat
  refA : Nat
  refB : Nat
  seqEcho : Nat
  /-- Gating, and gating at the last period start (R116). Reset false. -/
  gating : Bool
  gateAtStart : Bool
  /-- Whole periods for which gating has been stopped (R116). Reset 0. -/
  stopped : Nat
  /-- Consecutive missed periods (R113). Reset 0. -/
  missed : Nat
  /-- Output current magnitude at ramp start, and the local current limit of the ramp (R113). Reset none. -/
  rampFrom : Nat
  limit : Option Nat
  /-- Stopped after silence until FAULT_CLR; its selectors still to open; and opened (R102, R113). Reset false. -/
  silence : Bool
  opening : Bool
  opened : Bool
  /-- Fault causes present: OV, OT, DESAT, AUXLOW by bit; and the latched FAULT (R114). Reset 0, false. -/
  causes : Nat
  faulted : Bool
  /-- Periods the safe-stop ceiling still lasts, the ceiling, and whether SS = 1 came in this period (R108). -/
  ssLeft : Nat
  ssLimit : Nat
  ssSeen : Bool
  /-- ROUTE of the command in force, and selectors moving to a route (R113, R116). Reset open, none. -/
  want : Nat
  selTo : Option Nat
  /-- STATUS counters and flags (R102): CRCERR, MISS, and the flags of the period in progress and of the last. -/
  crcErr : Nat
  miss : Nat
  tie : Bool
  mismatch : Bool
  badField : Bool
  refused : Bool
  flagsLast : Nat
  selWeld : Bool
  hwlim : Bool
  /-- PERIOD_LEN in use (R112). Reset 3125 (25 µs; DESIGN CHOICE, log entry 186). -/
  periodLen : Nat
  /-- SEQ of an out-of-sequence COMMAND of the last and of this period (R111). Reset none. -/
  oosPrev : Option Nat
  oosNow : Option Nat
  /-- SEQ adopted from an obeyed frame of this period, the expected SEQ from the next start on (R111). Reset none. -/
  adopted : Option Nat
  /-- An IDENT is due at the next period, or sent in this one (R118). Reset false. -/
  identDue : Bool
  identNow : Bool
  /-- The uplink body sent in this period, MEAS or IDENT (R97, R117, R118). Reset none. -/
  out : Option (List Byte)
  deriving DecidableEq, Repr

/-- Every driver after its own reset: unattached, selectors open (R118). PERIOD_LEN before any frame has given one has no
stated value: 3,125, the period at 50 Hz (DESIGN CHOICE, log entry 186). -/
def DrvS.reset : DrvS :=
  { attached := false, stage := 0, expSeq := 0, hist := List.replicate 8 0, claims := [], staged := none,
    gpNext := none, gp := false, mode := 0, route := 4, refA := 0, refB := 0, seqEcho := 0, gating := false,
    gateAtStart := false, stopped := 0, missed := 0, rampFrom := 0, limit := none, silence := false, opening := false, opened := false,
    causes := 0, faulted := false, ssLeft := 0, ssLimit := 0, ssSeen := false, want := 4, selTo := none, crcErr := 0, miss := 0,
    tie := false, mismatch := false, badField := false, refused := false, flagsLast := 0, selWeld := false,
    hwlim := false, periodLen := 3125, oosPrev := none, oosNow := none, adopted := none, identDue := false, identNow := false,
    out := none }

/-- History of one notch (R134): the inputs and outputs of the last two periods. -/
structure NotchS where
  x1 : Int
  x2 : Int
  w1 : Int
  w2 : Int
  deriving DecidableEq, Repr

/-- What Burner keeps for one stage beside its registers (05_burner_control_engine.md,
06_stage_regulation_and_routing.md). -/
structure StgS where
  /-- Converted measurements y0-y3 of the last computation, Q2.29 (R124). Reset 0. -/
  y : Vector Int 4
  /-- Commands sent, with their SEQ, newest first, one for each SEQ (R127). Reset empty. -/
  sent : List (Nat × Int × Int)
  /-- The last command whose SEQ the driver has echoed (R127). Reset 0. -/
  echoed : Int × Int
  /-- The partner's command that applies in this period, and the one heard for the next (R154). Reset 0. -/
  heard : Int × Int
  heardNext : Int × Int
  /-- Notch histories of commands A and B (R128, R134). Reset 0. -/
  notchA : NotchS
  notchB : NotchS
  /-- The notches of the bank in use restart at their present input (R128). Reset true. -/
  restart : Bool
  /-- The mode in force was a switching mode at the last computation (R128). Reset false. -/
  wasSw : Bool
  /-- Consecutive flagged periods of each measurement, 0-3 (R150). Reset 0. -/
  resCnt : Vector Nat 4
  /-- Consecutive flagged periods of measurement 0 with XCHK_BAD (R152). Reset 0. -/
  xchkRun : Nat
  /-- The command for the next period is ready (R131). Reset false. -/
  ready : Bool
  /-- The command computed in the period before, for the present one (R468). Reset 0. -/
  uLast : Int × Int
  /-- Stage mode (R172), by the codes of MODE. Reset 0 OFF. -/
  mode : Nat
  /-- Stage reference of this period, signed mA (R129). Reset 0. -/
  rMa : Int
  /-- Counted in n at the last tick (R146). Reset false. -/
  inN : Bool
  /-- ROUTE a handover moves to, and the port it leaves or enters (R181). Reset 4, 0. -/
  hoTarget : Nat
  hoPort : Nat
  /-- The handover reference is negative: the port discharges (R181). Reset false. -/
  hoNeg : Bool
  /-- Periods of steps 1 and 2 since h first reached 0, and of step 3 (R182). Reset none, 0. -/
  hoZero : Option Nat
  hoMove : Nat
  /-- Periods for which FAULT has been sent, and ROUTE = 4 is being sent after them (R178). Reset 0, false. -/
  faultAge : Nat
  faultOpen : Bool
  deriving DecidableEq, Repr

/-- Every stage at reset. -/
def StgS.reset : StgS :=
  { y := Vector.replicate 4 0, sent := [], echoed := (0, 0), heard := (0, 0), heardNext := (0, 0),
    notchA := ⟨0, 0, 0, 0⟩, notchB := ⟨0, 0, 0, 0⟩, restart := true, wasSw := false, resCnt := Vector.replicate 4 0,
    xchkRun := 0, ready := false, uLast := (0, 0), mode := 0, rMa := 0, inN := false, hoTarget := 4, hoPort := 0, hoNeg := false, hoZero := none,
    hoMove := 0, faultAge := 0, faultOpen := false }

/-- What Burner keeps for one port beside its registers. -/
structure PrtS where
  /-- The reference of the last tick, Q2.29, a magnitude (R142). Reset 0. -/
  prev : Int
  /-- Direction the loops compute in: 0 none, 1 charge, 2 discharge (R142). Reset 0. -/
  dirPrev : Nat
  /-- CEIL supplied by the safety island during a Rip panel stop, mA (R143, R432). Reset none. -/
  ceil : Option Nat
  /-- Hot-spot rise, coolant temperature and hot spot, 1/65536 degrees C (R147, R622). Reset 0. -/
  th : Int
  tc : Int
  ths : Int
  /-- The lead stage (R168). Reset none. -/
  lead : Option Nat
  /-- Periods since entry to SOFTSTART, whether V has exceeded 20 % of VTGT, SS_TIME at entry (R167). Reset 0. -/
  ssCount : Nat
  ssOver : Bool
  ssTime : Nat
  /-- Consecutive ticks with a low current, the first stage of the last BLAST set, ticks since it moved on (R174).
  Reset 0, none, 0. -/
  burstLow : Nat
  burstStart : Option Nat
  rotCnt : Nat
  /-- The port signals as the last tick left them (R156, R157). Reset empty, each zero. -/
  held : List Int
  /-- IREF and the count n by which the references of the running period are formed: those in force before a tick of the
  period (R19, R146). Reset 0. -/
  use : Int × Nat
  deriving DecidableEq, Repr

/-- Every port at reset. -/
def PrtS.reset : PrtS :=
  { prev := 0, dirPrev := 0, ceil := none, th := 0, tc := 0, ths := 0, lead := none, ssCount := 0, ssOver := false,
    ssTime := 0, burstLow := 0, burstStart := none, rotCnt := 0, held := [], use := (0, 0) }

/-- Coefficient banks and Spool (R133-R138, R156-R161). -/
structure BrnS where
  /-- State of each bank: 0 EMPTY, 1 VALID, 2 INVALID, 3 CHECKING (R135). Reset EMPTY. -/
  bankSt : Vector Nat 16
  /-- Bank words, by 192 b + word, those that are not 0 (R133). Reset 0. -/
  bankMem : List (Nat × Nat)
  /-- Spool samples, by 65,536 n + slot, those that are not 0 (R156). Reset 0. -/
  spool : List (Nat × Int)
  /-- Next slot of each probe's ring (R156). Reset 0. -/
  pos : Vector Nat 16
  /-- Samples each probe still records after the trigger (R158). Reset 0. -/
  left : Vector Nat 16
  /-- Last sample of the probe compared for KIND 1 (R159). Reset none. -/
  last : Option Int
  /-- Periods recorded since ARM, and the samples of this period are written (R156). Reset 0, false. -/
  armed : Nat
  done : Bool
  deriving DecidableEq, Repr

/-- What Bridle takes of a port at the tick of period 792 (R187): V in mV, HDRM_I, BIND and PSTATE. -/
structure Lat792 where
  v : Int
  hdrm : Nat
  bind : Nat
  ps : Nat
  ths : Nat
  deriving DecidableEq, Repr

/-- A plan: port allocations in W, stage routes, stack setpoints in W (R185). -/
structure BrdPlan where
  alloc : List Int
  route : List Nat
  stack : List Int
  deriving DecidableEq, Repr

/-- What a solve finds for one port (R188-R211, R221). -/
structure BrdPort where
  elig : Bool
  d : Int
  ceil : Nat
  draw : Bool
  stgCap : Nat
  thermCap : Nat
  want : Nat
  have_ : Nat
  ovd : Bool
  short : Bool
  deriving DecidableEq, Repr

/-- What a solve finds for one connection point (R192-R203, R220). -/
structure BrdCp where
  bias : Int
  pdem : Int
  fcast : Int
  impEff : Nat
  planImp : Int
  limit : Bool
  above : Bool
  ok : Bool
  deriving DecidableEq, Repr

/-- The outcome of a solve of the latched inputs (R185). -/
structure BrdSol where
  plan : BrdPlan
  ports : List BrdPort
  cps : List BrdCp
  counted : List Bool
  ok : Bool
  deriving DecidableEq, Repr

/-- Bridle's state beside its registers (07_bridle_site_allocation.md). -/
structure BrdS where
  /-- Port inputs of the tick of period 792 (R187). Reset 0. -/
  lat : Vector Lat792 32
  /-- The solve in progress: what it will find from the inputs latched (R185). Reset none. -/
  solving : Option BrdSol
  /-- The plan completed for the next cycle (R185). Reset none. -/
  ready : Option BrdPlan
  /-- A plan of this cycle has been discarded (R215). Reset false. -/
  discarded : Bool
  /-- Loft table words, by 4 e + word, those that are not 0 (R206). Reset 0. -/
  loft : List (Nat × Nat)
  /-- Loft entries whose ECC fails (R210). Reset empty. -/
  loftBad : List Nat
  /-- Lookup results of the last latch: KIND, INDEX, VALUE_A, VALUE_B (R208, R209). Reset empty. -/
  loftRes : List (Nat × Nat × Int × Int)
  /-- Cycles for which LOFT_HOLD has been set (R209). Reset 0. -/
  holdCycles : Nat
  /-- The module became active in this cycle (R218). Reset false. -/
  takeover : Bool
  /-- The plan of the partner's image of this cycle (R218). Reset none. -/
  img : Option BrdPlan
  /-- The Reel request line 36 is asserted (R200, R532). Reset false. -/
  req : Bool
  deriving DecidableEq, Repr
/-- One port's session beside its registers (08_port_sessions.md). -/
structure SessS where
  /-- Internal events not yet acted on (R235): RIP, CONT_FAIL, ISO_FAIL, DISCH_FAIL, LATCH, VSUSP, HB_LOST, the
  state's own timeout, and the completion of the step. Reset false. -/
  rip : Bool
  contFail : Bool
  isoFail : Bool
  dischFail : Bool
  latch : Bool
  vsusp : Bool
  hbLost : Bool
  tmo : Bool
  stepDone : Bool
  /-- DISCH_TMO has come in step 2 of the weld check (R246). Reset false. -/
  dischTmo : Bool
  /-- Cause of the stop in progress, 0 none (R236). Reset 0. -/
  cause : Nat
  /-- CONT_WELD or DISCH_FAIL was set in the weld check in progress (R246). Reset false. -/
  bad : Bool
  /-- VS, mV (R246). Reset 0. -/
  vs : Int
  /-- FAULT was entered by UNPLUG or PERR in an energised state (R248). Reset false. -/
  unplugged : Bool
  /-- The plug was already present on entry to IDLE, so that its PLUG is still to come (R237, R253). Reset false. -/
  plugNew : Bool
  /-- When the state and its step were entered, when the last measurement of Riso under ISO_MON began and when HB was
  written last (R237, R242, R243, R250), clocks of `now`. Reset 0. -/
  stAt : Nat
  stepAt : Nat
  isoAt : Nat
  hbAt : Nat
  /-- Since when CONT_FB has differed from CONT_REQ (R240). Reset none. -/
  contAt : Option Nat
  /-- The time each of these runs for, in ms, as its register stood when it was started (R252). Reset 0, and for the heartbeat
  the reset value of HB_TMO. -/
  stMs : Nat
  stepMs : Nat
  isoMs : Nat
  hbMs : Nat
  contMs : Nat
  deriving DecidableEq, Repr

/-- Every session at reset. -/
def SessS.reset : SessS :=
  { rip := false, contFail := false, isoFail := false, dischFail := false, latch := false, vsusp := false, hbLost := false,
    tmo := false, stepDone := false, dischTmo := false, cause := 0, bad := false, vs := 0, unplugged := false, plugNew := false
    stAt := 0, stepAt := 0, isoAt := 0, hbAt := 0, contAt := none, stMs := 0, stepMs := 0, isoMs := 0, hbMs := 500, contMs := 0 }
/-- A received message or record of a vehicle link (R268, R271): payload type, content type, length, its bytes (none
once streamed), whether it was streamed. -/
structure VlMsg where
  ptype : Nat
  ctype : Nat
  len : Nat
  data : List Byte
  streamed : Bool
  deriving DecidableEq, Repr

/-- A message being streamed (R269): payload type, content type, length (0 while its header is not there), bytes received and
consumed, bytes waiting; for a record streamed before it is verified its header, its ciphertext so far and the bytes of the
message ahead of it (R272), with those bytes where they hold the message's header (none where its length is known) and how
many bytes of the record were presented before (R273); the bytes that follow the message and wait behind it, and where the
first of them, or that record, stands: TCP number, record number, offset in it. -/
structure VlStream where
  ptype : Nat
  ctype : Nat
  len : Nat
  got : Nat
  used : Nat
  buf : List Byte
  record : Option (List Byte × List Byte × Nat)
  lead : Option (List Byte)
  skip : Nat
  after : List Byte
  mark : Nat × Nat × Nat
  deriving DecidableEq, Repr

/-- A queued message to send (R266): payload type, content type, its bytes with the V2GTP header where it has one, and
its bytes on the wire still to be acknowledged, once they are formed. -/
structure VlTx where
  ptype : Nat
  ctype : Nat
  data : List Byte
  wire : Option (List Byte)
  deriving DecidableEq, Repr

/-- What the link engine sends (R257-R272). -/
inductive VlOut where
  | slacParamCnf (runId : List Byte)
  | attenChar (profile : List Nat)
  | validateCnf
  | matchCnf (runId : List Byte) (nid : List Byte)
  | dadSolicit (ip : Nat)
  | neighbourAdv (ip : Nat) (mac : Nat)
  | echoReply (data : List Byte)
  | sdpResponse (ip : Nat) (port : Nat) (tcp : Bool) (security : Nat)
  | synAck (seq : Nat) (ack : Nat) (mss : Nat)
  | reset
  | ack (ack : Nat) (window : Nat)
  | data (seq : Nat) (bytes : List Byte)
  | alert (record : List Byte)
  deriving DecidableEq, Repr

/-- A record key switched on (R270): slot, suite, next record sequence number. -/
structure VlKey where
  slot : Nat
  suite : Nat
  seq : Nat
  deriving DecidableEq, Repr

/-- One vehicle link beside its registers (09_vehicle_links.md). -/
structure VlS where
  /-- RunID and MAC recorded (R259). Reset none. -/
  run : Option (List Byte × Nat)
  /-- Number of sounds announced and received, attenuation sums of the 58 groups (R259). Reset 0, 0, none. -/
  sounds : Nat
  heard : Nat
  atten : List Nat
  /-- Attenuation sums and sounds of the last RunID heard that another port recorded (R261). Reset none. -/
  cross : Option (List Byte × Nat × Nat)
  /-- NMK and NID in the modem (R259, R260). Reset none. -/
  nmk : List Byte
  nid : List Byte
  /-- The match response has been sent and the vehicle is awaited in the station list (R259). Reset false. -/
  matching : Bool
  /-- Duplicate address detection runs (R257). Reset false. -/
  dad : Bool
  /-- A connection of the module that was active before may still send (R274). Reset false. -/
  stale : Bool
  /-- The connection is processed as TLS records (R271). Reset false. -/
  tls : Bool
  /-- Next byte expected and next byte to acknowledge from the vehicle: TCP sequence numbers (R263). Reset 0. -/
  rcvNxt : Nat
  sndUna : Nat
  /-- The vehicle's FIN has been received; `rcvNxt` counts it (R263). Reset false. -/
  fin : Bool
  /-- Retransmissions of the oldest segment (R263). Reset 0. -/
  retx : Nat
  /-- Record bytes received and not processed (R271). Reset none. -/
  raw : List Byte
  /-- The message being received: its bytes so far, and where it began: TCP number, record number, bytes of that
  record ahead of it (R265, R269, R273). Reset none, 0. -/
  part : List Byte
  partSeq : Nat
  partRec : Nat
  partOff : Nat
  /-- Bytes of the next record already presented (R273). Reset 0. -/
  skip : Nat
  /-- Complete messages, oldest first (R268), and the message being streamed (R269). Reset none. -/
  rx : List VlMsg
  strm : Option VlStream
  /-- Transmit staging area, its bytes that are not 0 (R266), and the queue. Reset none. -/
  stage : Memory
  tx : List VlTx
  /-- Keys switched on (R270). Reset none. -/
  rxKey : Option VlKey
  txKey : Option VlKey
  /-- What the last command made the link engine send. Reset none. -/
  out : List VlOut
  deriving DecidableEq, Repr

/-- Every link at reset. -/
def VlS.reset : VlS :=
  { run := none, sounds := 0, heard := 0, atten := [], cross := none, nmk := [], nid := [], matching := false, dad := false,
    stale := false, tls := false, rcvNxt := 0, sndUna := 0, fin := false, retx := 0, raw := [], part := [], partSeq := 0, partRec := 0,
    partOff := 0, skip := 0, rx := [], strm := none, stage := [], tx := [], rxKey := none, txKey := none, out := [] }
/-- What a coupling sends: a beacon with the next start in 10.24 µs units, the coordinator's MAC and the network identifier
(R280, R282, R283, R294); a STATE frame to an entry at a channel-access priority (R287, R289); a queued message (R289); a
leave (R285), an association answer (R284), a tone-map estimation and the uplink maps (R290), an acknowledgement (R288). -/
inductive SplcOut where
  | beacon (c : Nat) (next : Nat) (mac : Nat) (nid : List Byte)
  | state (d : Nat) (prio : Nat) (seq : Nat) (body : List Byte)
  | msg (d : Nat) (prio : Nat) (data : List Byte)
  | ack (d : Nat) (seq : Nat)
  | maps (d : Nat) (records : List (List Byte))
  | leave (d : Nat)
  | accept (d : Nat) (tei : Nat)
  | refuse (mac : Nat)
  | sound (d : Nat)
  deriving DecidableEq, Repr

/-- One feeder coupling beside its registers (10_site_feeder_plc.md). -/
structure CplS where
  /-- Entry being estimated and beacon periods since its start (R290). Reset none. -/
  est : Option (Nat × Nat)
  /-- Control period in which the last beacon was sent (R282). Reset none. -/
  sentAt : Option Nat
  /-- Carrier mask, bit k switching carrier k off (R279, R292). Reset Config.hpavMask (log entry 23). -/
  mask : BitVec 920
  deriving DecidableEq, Repr

/-- One dispenser entry beside its registers (R285-R293), and the dispenser's own out-of-service indication (R286). -/
structure DspS where
  /-- Whole beacon periods in a row without an acknowledged frame, and whether this one does not count: a frame was
  acknowledged in it, or the entry was taken in it (R285). Reset 0, false. -/
  unacked : Nat
  acked : Bool
  /-- Windsock is due (R290). Reset false. -/
  due : Bool
  /-- Number of the next message sent (R288). Reset 0. -/
  seqOut : Nat
  /-- Tone-map records, 4 per direction, downlink first (R292). Reset none. -/
  maps : List (List Byte)
  /-- When the last valid maps came, in 5 ns clocks (R290, R298). Reset none. -/
  mapsAt : Option Nat
  /-- The dispenser shows out of service (R286). Reset false. -/
  oos : Bool
  deriving DecidableEq, Repr

/-- Every entry at reset. -/
def DspS.reset : DspS := { unacked := 0, acked := false, due := false, seqOut := 0, maps := [], mapsAt := none, oos := false }

/-- A queued message (R289): entry, priority, bytes with header, transmissions. -/
structure SplcTx where
  dest : Nat
  prio : Nat
  data : List Byte
  sent : Nat
  deriving DecidableEq, Repr

/-- The site feeder network (10_site_feeder_plc.md). -/
structure SplcS where
  cpl : Vector CplS 4
  dsp : Vector DspS 32
  /-- Receive queue: entry and bytes (R289). Transmit queue and staging area. Reset empty. -/
  rx : List (Nat × List Byte)
  tx : List SplcTx
  stage : Memory
  /-- What the last command sent. Reset none. -/
  out : List SplcOut
  deriving DecidableEq, Repr

/-- The network at reset. -/
def SplcS.reset : SplcS :=
  { cpl := Vector.replicate 4 ⟨none, none, Config.hpavMask⟩, dsp := Vector.replicate 32 DspS.reset, rx := [], tx := [], stage := [],
    out := [] }
/-- A closed step of a meter that has not been added (R318, R321): energy in W µs, DIR, the cycle it ended in, the
tariff index in force, and the billing session of the port that had begun, by its number (R361). -/
structure StepM where
  e : Int
  dir : Nat
  cycle : Nat
  tariff : Nat
  sess : Option Nat
  deriving DecidableEq, Repr

/-- One meter beside its registers (11_metrology_channels.md). Everything resets to 0 or empty. -/
structure MtrS where
  /-- Remainders below 1 mWh of E_POS, E_NEG and E_NET, W µs (R320). -/
  posR : Nat
  negR : Nat
  netR : Nat
  /-- Energy in W µs and clocks of the open step (R318). -/
  openE : Int
  openT : Nat
  /-- Closed steps not yet added, oldest first (R321). -/
  steps : List StepM
  /-- DIR of the last step that was not creep (R319). -/
  lastDir : Nat
  /-- Time-weighted sums of V, I and P for the next cycle latch, their clocks, and whether a period was in fault: up to
  the period before the last, since a latch ends with period 798 (R307, R325). -/
  sumV : Int
  sumI : Int
  sumP : Int
  sumW : Nat
  cycFault : Bool
  /-- The same of the last control period alone (R307). -/
  lastV : Int
  lastI : Int
  lastP : Int
  lastW : Nat
  lastBad : Bool
  /-- Clocks of FAULT_TIME below 1 ms (R335). -/
  ftRem : Nat
  /-- Control periods of the fault that lasts (R326). -/
  faultRun : Nat
  deriving DecidableEq, Repr

/-- A meter right after reset. -/
def MtrS.reset : MtrS := ⟨0, 0, 0, 0, 0, [], 0, 0, 0, 0, 0, false, 0, 0, 0, 0, false, 0, 0⟩

/-- One channel beside its registers (R305, R309, R325, R336). Everything resets to 0 or empty. -/
structure ChanS where
  /-- The last 58 bits captured, the newest at bit 0, and how many of them have come (R305). -/
  win : BitVec 58
  seen : Nat
  /-- Corrected samples, newest first, at most 17 (R309). -/
  hist : List Int
  /-- Last valid raw sample (R325). -/
  last : Int
  /-- The sample that runs: raw value, validity, over-range (R305, R324). -/
  cur : Int
  curOk : Bool
  curOvr : Bool
  /-- Samples missing in a row, and whether a clock takeover caused the gap (R325). -/
  miss : Nat
  bridged : Bool
  /-- MODF has held in the running control period (R324). -/
  modf : Bool
  /-- It has held since a rise in this period, or in the gap of a clock takeover that still runs (R325). -/
  stall : Bool
  /-- Weighted sum of raw samples since the last cycle start, and its clocks (RAW_MEAN). -/
  rawSum : Int
  rawW : Nat
  deriving DecidableEq, Repr

/-- A channel right after reset. -/
def ChanS.reset : ChanS := ⟨0, 0, [], 0, 0, true, false, 0, false, false, false, 0, 0⟩

/-- Sums of squares of a phase: voltage, current, clocks (R314). -/
structure RmsS where
  v : Nat
  i : Nat
  w : Nat
  deriving DecidableEq, Repr

/-- One phase of a grid meter (R314, R315). Everything resets to 0 or none. -/
structure PhaseS where
  /-- The zero-crossing detector is armed (R315). -/
  armed : Bool
  /-- Crossings in the running control period, clocks from its start. -/
  cross : List Nat
  /-- Instant of the last crossing, 5 ns clocks; none since reset and while ZC_LOST is set. -/
  lastAt : Option Nat
  /-- Instant from which ZC_TMO runs: the last crossing, or the reset of the block (R316). -/
  since : Nat
  /-- The sums since the last crossing begin at one (R314). -/
  opened : Bool
  /-- Sums since the last crossing, of the last complete cycle, and since the last cycle start. -/
  run : RmsS
  done : RmsS
  cyc : RmsS
  /-- The last samples of the last control period, newest first: squares and clocks of each, for a crossing found in it
  after its end (R314). -/
  tail : List RmsS
  deriving DecidableEq, Repr

/-- A phase right after reset. -/
def PhaseS.reset : PhaseS := ⟨false, [], none, 0, false, ⟨0, 0, 0⟩, ⟨0, 0, 0⟩, ⟨0, 0, 0⟩, []⟩

/-- One pulse output (R327, R328): counter C, the instant from which the next pulse may start and the interval in 5 ns
clocks. Reset 0. -/
structure PulS where
  c : Int
  next : Nat
  gap : Nat
  deriving DecidableEq, Repr

/-- An entry of the metrology event log (R372). -/
structure LogE where
  seq : Nat
  wall : Nat
  cycle : Nat
  code : Nat
  unit : Nat
  flags : Nat
  d0 : Nat
  d1 : Nat
  crc : Nat
  deriving DecidableEq, Repr
/-- What the MRAM shadow holds of one meter (R322, R352): SNAP_POS, SNAP_NEG, SNAP_NET, SNAP_V, SNAP_I, SNAP_P, the tariff
accumulators, REV_CNT and FAULT_TIME. -/
structure ShM where
  pos : Nat
  neg : Nat
  net : Int
  v : Nat
  i : Int
  p : Int
  tpos : List Int
  tneg : List Int
  rev : Nat
  ft : Nat
  deriving DecidableEq, Repr

/-- What a boundary strobe was armed for (R353, R355-R358). -/
structure Why where
  /-- E000: an interval end, a tariff switch or a calendar activation. -/
  bound : Bool
  /-- E001 in hold-up (R355). -/
  power : Bool
  /-- E001 at boot (R356). -/
  boot : Bool
  /-- E001 for entry to the default, return from it or a set-back (R357, R358). -/
  time : Bool
  /-- E000 passed by a forward step, so that it fires late (R358). -/
  late : Bool
  /-- E001 after a ring supply has returned within hold-up (R355). -/
  back : Bool
  deriving DecidableEq, Repr

/-- A slot of the MRAM shadow (R352): STROBE_SEQ, cycle, period, wall time, WALL_STAT, MONO, the tariff before and
after, the meters, what the strobe was armed for and the instant of its boundary in ms, whether it opens no interval in
hold-up (R355), whether wall time was stepped or set back after it (R348), and the CRC over it. -/
structure ShadowS where
  seq : Nat
  cycle : Nat
  period : Nat
  wall : Nat
  valid : Bool
  auth : Bool
  slewing : Bool
  setback : Bool
  mono : Nat
  t0 : Nat
  t1 : Nat
  meters : List ShM
  why : Why
  instant : Nat
  held : Bool
  chg : Bool
  crc : Nat
  deriving DecidableEq, Repr

/-- Opening readings of a meter in the open demand interval (R347, R348). -/
structure OpenM where
  pos : Nat
  neg : Nat
  net : Int
  rev : Nat
  ft : Nat
  deriving DecidableEq, Repr

/-- A committed boundary record (R353, R354): its slot, whether it closed an interval, that interval's flags, each
meter's D_POS, D_NEG, D_NET and flags, the balances and the open sessions' readings. -/
structure BRecS where
  slot : ShadowS
  closed : Bool
  flags : Nat
  dems : List (Int × Int × Int × Nat)
  bals : List (Nat × Int)
  sess : List (Nat × Nat × Nat)
  deriving DecidableEq, Repr

/-- An OCMF record (R366, R367): REC_SEQ, port, SESS_ID, its bytes, and whether a READ has returned it (R368). -/
structure OcmfS where
  seq : Nat
  port : Nat
  sid : Nat
  bytes : List Byte
  read : Bool
  deriving DecidableEq, Repr

/-- The watch over a port from its first BILL_DISC (R363): SESS_ID and MONO time of it, whether CONT_FB has read open since,
whether the port's meter closed a step of DIR 1 while it read open, and whether DISC_FAIL has been set. -/
structure DiscW where
  sess : Nat
  since : Nat
  opened : Bool
  stepOpen : Bool
  failed : Bool
  deriving DecidableEq, Repr

/-- A billing session of a port (R360, R361, R365, R366). -/
structure BSessS where
  /-- Number of the port's billing sessions so far, which names this one, and whether it is prepaid; both stay when it
  closes, so that its last steps are still booked to it (R361). Reset 0, false. -/
  serial : Nat
  prepaid : Bool
  /-- Open: SESSION_OPEN was accepted. Reset false. -/
  isOpen : Bool
  /-- Its B reading has been taken. Reset false. -/
  begun : Bool
  /-- A B or E reading waits for the snapshot of E002. Reset false. -/
  beginPend : Bool
  endPend : Bool
  /-- Credit received, µ-units. Reset 0. -/
  credit : Nat
  /-- Import at each tariff, W µs (R361). Reset 0. -/
  se : Vector Nat 16
  /-- Identification fields IS, IL, IF, IT, ID and TT as given. Reset empty. -/
  ident : List (List Byte)
  /-- FAULT was set since the previous record of the port (R367, EF). Reset false. -/
  faulted : Bool
  /-- What Bremus watches from the first BILL_DISC of the port's session on (R363). Reset none. -/
  disc : Option DiscW
  /-- SSTATE of the port as Bremus saw it last (R366). Reset 0. -/
  lastSt : Nat
  deriving DecidableEq, Repr

/-- A port without a billing session. -/
def BSessS.reset : BSessS := ⟨0, false, false, false, false, false, 0, Vector.replicate 16 0, [], false, none, 0⟩

/-- A response ring entry (R378): TAG, TYPE, STATUS, data word. -/
structure RespS where
  tag : Nat
  typ : Nat
  status : Nat
  data : Nat
  deriving DecidableEq, Repr

/-- What the last committed record keeps beside the registers and the calendars (R353, R366, R378, R379): the billing
sessions, the response ring and the read window. -/
structure KeptS where
  sess : Vector BSessS 32
  resp : Vector RespS 64
  respNext : Nat
  rwTag : Nat
  rwKind : Nat
  rwIndex : Nat
  rwData : List Byte
  deriving DecidableEq, Repr

/-- Nothing kept. -/
def KeptS.reset : KeptS := ⟨Vector.replicate 32 BSessS.reset, Vector.replicate 64 ⟨0, 0, 0, 0⟩, 0, 0, 0, 0, []⟩

/-- Billing state beside its registers (12_billing_and_tariffs.md). -/
structure BillS where
  /-- Length of the open demand interval, ms, and the MONO time from its opening to the end of the last cycle added
  (R350). Reset 0. -/
  demL : Nat
  demT : Nat
  /-- Tariff accumulators TPOS_t and TNEG_t in W µs, key 16 m + t (R339). Reset 0. -/
  tpos : List (Nat × Int)
  tneg : List (Nat × Int)
  /-- Opening readings of the open interval (R347). Reset 0. -/
  opens : Vector OpenM 36
  /-- MONO at its opening (R347), and the tariff in force during it. Reset 0. -/
  openMono : Nat
  openTariff : Nat
  /-- MONO at the end of the last cycle whose steps were added (R350). Reset 0. -/
  addMono : Nat
  /-- The two slots of the MRAM shadow (R352). Reset none. -/
  slots : Vector (Option ShadowS) 2
  /-- What E000 and E001 are armed for. Reset none. -/
  why0 : Why
  why1 : Why
  /-- The tariffs that the strobes of E000 and E001 bring, and the instant of E000's boundary, ms (R351). Reset 0. -/
  next0 : Nat
  next1 : Nat
  at0 : Nat
  /-- A power-fail strobe has closed the interval and no strobe of the returned supply has come (R355). Reset false. -/
  held : Bool
  /-- Since the start no strobe has found wall time valid and authenticated, so that no interval opens (R356). Reset
  true. -/
  unproven : Bool
  /-- Committed boundary records, newest first (R354). Reset empty. -/
  recs : List BRecS
  /-- OCMF record store, newest first (R368). Reset empty. -/
  ocmf : List OcmfS
  /-- Metrology event log: ring and sealed area, newest first, and the CRC of the last entry (R372, R373). -/
  logRing : List LogE
  logSeal : List LogE
  logCrc : Nat
  /-- Calendar images of pages 10 and 11, by offset in the page (R341). Reset: reads 0. -/
  cal0 : Memory
  cal1 : Memory
  /-- The passive image as staged by CAL_PART (R365). Reset: reads 0. -/
  stage : Memory
  /-- Billing sessions. -/
  sess : Vector BSessS 32
  /-- Request blocks that may still be taken in this cycle (R365). Reset 0. -/
  reqLeft : Nat
  /-- Response ring, the next entry to be written, and the read window: TAG, KIND, INDEX, data (R378). Reset 0. -/
  resp : Vector RespS 64
  respNext : Nat
  rwTag : Nat
  rwKind : Nat
  rwIndex : Nat
  rwData : List Byte
  /-- Display: the port shown, the item, the MONO time at which it came up, and the last frame sent (R369, R371). Reset none,
  0, 0, empty. -/
  dPort : Option Nat
  dItem : Nat
  dAt : Nat
  dFrame : List Byte
  /-- What the last committed record keeps of the BILL pages, for the start after a reset (R379). Reset none. -/
  saved : RegFile
  saved0 : Memory
  saved1 : Memory
  kept : KeptS
  /-- BILL has been reset and Bremus has not restored its fields yet (R379). Reset true. -/
  fresh : Bool
  deriving DecidableEq, Repr

/-- Nothing armed. -/
def Why.none : Why := ⟨false, false, false, false, false, false⟩

/-- Billing at level 0 reset. -/
def BillS.reset : BillS := {
  demL := 0, demT := 0, tpos := [], tneg := [], opens := Vector.replicate 36 ⟨0, 0, 0, 0, 0⟩, openMono := 0
  openTariff := 0, addMono := 0, slots := Vector.replicate 2 Option.none, why0 := Why.none, why1 := Why.none
  next0 := 0, next1 := 0, at0 := 0, held := false, unproven := true
  recs := [], ocmf := [], logRing := [], logSeal := [], logCrc := 0, cal0 := [], cal1 := [], stage := []
  sess := Vector.replicate 32 BSessS.reset, reqLeft := 0, resp := Vector.replicate 64 ⟨0, 0, 0, 0⟩, respNext := 0
  rwTag := 0, rwKind := 0, rwIndex := 0, rwData := [], dPort := Option.none, dItem := 0, dAt := 0, dFrame := [], saved := RegFile.reset
  saved0 := [], saved1 := [], kept := KeptS.reset, fresh := true }
/-- One input beside its registers (R384, R385): a reading has been valid, the readings rejected for RATE in a row (newest
first), the period of the last reading, comparisons beyond and within XTOL in a row, and the ports whose PTRIP it has set
(R387), one bit each. -/
structure TinS where
  ever : Bool
  rej : List Int
  lastAt : Option Nat
  above : Nat
  within : Nat
  trips : Nat
  deriving DecidableEq, Repr

/-- One converter (R382): the input of its slot, and the last inputs of the odd-slot and FAST rotations. -/
structure ConvS where
  slot : Option Nat
  odd : Nat
  fast : Nat
  deriving DecidableEq, Repr

/-- Thermal management beside its registers (13_cable_and_device_thermal.md). -/
structure ThrmS where
  tins : Vector TinS 144
  convs : Vector ConvS 18
  /-- A 4-period slot has ended and its readings are still to be posted (R382). Reset false. -/
  slotDue : Bool
  /-- When THR_LVL last moved, 5 ns clocks (R393). Reset none. -/
  thrAt : Option Nat
  /-- Integrators of the cooling loops, 1/16 of 0.1 % (R389). Reset 0. -/
  coolX : Vector Int 8
  /-- When SD_PEND was set, 5 ns clocks (R394). Reset 0. -/
  sdAt : Nat
  /-- The reset of a thermal shutdown has been requested, and is held until the sensors are 10 °C below (R394). -/
  sdReq : Bool
  sdHold : Bool
  deriving DecidableEq, Repr

/-- Thermal management right after reset. -/
def ThrmS.reset : ThrmS := {
  tins := Vector.replicate 144 ⟨false, [], none, 0, 0, 0⟩, convs := Vector.replicate 18 ⟨none, 7, 7⟩, slotDue := false
  thrAt := none, coolX := Vector.replicate 8 0, sdAt := 0, sdReq := false, sdHold := false }
/-- One load switch channel beside its registers (14_load_switch_channels.md). -/
structure LchS where
  /-- Keeper latch: output state, HOLD, LIMP_DEF, LIMP_SEL (R414). Reset off, 0, off, off. -/
  keepOut : Bool
  keepHold : Nat
  keepDef : Bool
  keepSel : Bool
  /-- The keeper holds the output state (R414). Reset false. -/
  holdRun : Bool
  /-- The latched trip is older than the last reset (R415). Reset false. -/
  old : Bool
  /-- When the output last turned off, 5 ns clocks; none while it has not been on (R408). -/
  offAt : Option Nat
  /-- The running window has been extended (R409). Reset false. -/
  ext : Bool
  /-- End of the running window, 5 ns clocks (R408, R409). Reset 0. -/
  winEnd : Nat
  /-- End of the on-time of the generator cycle, 5 ns clocks, and whether it stays on for the whole cycle (R406). Reset 0,
  false. -/
  genOff : Nat
  genFull : Bool
  /-- Since when the output is on, at its limit outside the window, at DT_LIM and below OPEN_TH outside the window, and when
  the channel last tripped, 5 ns clocks (R408, R410, R411). Reset none. -/
  onAt : Option Nat
  limAt : Option Nat
  dtAt : Option Nat
  lowAt : Option Nat
  tripAt : Option Nat
  deriving DecidableEq, Repr

/-- Load switches beside their registers. -/
structure LswS where
  ch : Vector LchS 32
  /-- Control periods counted from the common origin, 48 bits; the origin is the next period start (R406). Reset 0. -/
  count : Nat
  origin : Bool
  /-- LSW has run since the reset: EN was set and a period has started (R404, R415). Reset false. -/
  ran : Bool
  /-- Levels of LIMP_IN0-31 (R404). Reset 0. -/
  limp : Nat
  /-- Since when each pin is deasserted, 5 ns clocks (R410). Reset none. -/
  limpLow : Vector (Option Nat) 32
  /-- The field rail is lost (R413). Reset false. -/
  railOff : Bool
  /-- Since when VRAIL is at 13.0 V or above, 5 ns clocks (R413). Reset none. -/
  railUp : Option Nat
  /-- The field rail at its last sample, 10 mV units, and the control period of the last sample below 16.0 V (R278, R413,
  R436). Reset 2400 (log entry 219), none. -/
  rail : Nat
  low16 : Option Nat
  /-- The keepers have been written from the registers since the first option load (R414). Reset false. -/
  kept : Bool
  deriving DecidableEq, Repr

/-- Load switches at power-on. -/
def LswS.reset : LswS :=
  ⟨Vector.replicate 32 ⟨false, 0, false, false, false, false, none, false, 0, 0, false, none, none, none, none, none⟩, 0, false, false, 0,
    Vector.replicate 32 none, false, none, 2400, none, false⟩
/-- One safety input pair beside its registers (R425, R426, R441). -/
structure PairS where
  /-- Last sampled level of each channel and how many consecutive samples agree with it, at most 511. Reset low, 0. -/
  rawA : Bool
  runA : Nat
  rawB : Bool
  runB : Nat
  /-- Samples since the accepted channels last agreed; none while they agree. Reset none. -/
  disc : Option Nat
  /-- After DISC_FLT the pair has shown the demand state, agreed. Reset false. -/
  seen : Bool
  /-- Samples in demand since the pair left the normal state; none where it did not come from it. Reset none. -/
  dem : Option Nat
  deriving DecidableEq, Repr

/-- A Rip panel stop that waits for its ramp start (R431): the control period it starts in, T_RAMP in ms, SS_SRC, and the
removal cause where it is not the ramp's own (R440, R449). -/
structure RipDue where
  at_ : Nat
  ms : Nat
  src : Nat
  cause : Option Nat
  deriving DecidableEq, Repr

/-- Rip panel stop of one port beside its registers (R430-R434). -/
structure RipS where
  due : List RipDue
  /-- Ramp starts and T_RAMP in 5 ns clocks, first the stop's own (R430). Reset none. -/
  ramps : List (Nat × Nat)
  /-- SS_SRC of the stop, 0 none (R431, R452). Reset 0. -/
  ss : Nat
  /-- Removal cause in place of DONE, LATE and NOCUR (R440, R449). Reset none. -/
  cause : Option Nat
  /-- Start of power removal, 5 ns clocks; none where none has run since RUN or the last restart (R434). Reset none. -/
  tR : Option Nat
  deriving DecidableEq, Repr

/-- One safe output beside its registers (R435-R439): both switch currents in mA, when it last turned off, the switch the
next test turns off, since when its current is below 20 mA while it is on, and when a switch was last tested. Reset 0, 0,
none, high side, none, none. -/
structure QoutS where
  hs : Nat
  ls : Nat
  offAt : Option Nat
  dpLow : Bool
  lowAt : Option Nat
  dpAt : Option Nat
  /-- When the test pulse in progress ends, 5 ns clocks (R437, R457). Reset none. -/
  dpEnd : Option Nat
  deriving DecidableEq, Repr

/-- A copy of a dual-path frame that waits for the other one (R447): SEQ, PATH, when it came, safe data. -/
structure DualCopy where
  seq : Nat
  path : Bool
  at_ : Nat
  data : List Byte
  deriving DecidableEq, Repr

/-- One consumed Xatch connection beside its registers (R444, R447). -/
structure XconS where
  /-- When the last frame was accepted, 5 ns clocks. Reset none. -/
  accAt : Option Nat
  /-- LAST_SEQ is set in WAIT. Reset false. -/
  got : Bool
  /-- Copies that wait, oldest first (R447). Reset none. -/
  dual : List DualCopy
  /-- A dual-path mismatch stands until the next accepted frame (R428). Reset false. -/
  bad : Bool
  deriving DecidableEq, Repr

/-- The safety island beside its registers (15_safety_functions.md). -/
structure SafeS where
  /-- The island's own copy of the configuration: the entries of SAFE page 2 and XCH page 1 (R421). Reset none. -/
  copy : List (Nat × Nat)
  pairs : Vector PairS 48
  rip : Vector RipS 32
  out : Vector QoutS 40
  /-- The partner's last good safety word and its age in control periods (R448). Reset none, 0. -/
  pw : Option SafetyWord
  pwAge : Nat
  /-- The standby's kept output commands have timed out (R450). Reset false. -/
  sbOff : Bool
  conn : Vector XconS 16
  /-- SEQ of the next frame of each produced connection (R446). Reset 0. -/
  prod : Vector Nat 8
  /-- When each produced connection last sent, 5 ns clocks (R446). Reset none. -/
  sentAt : Vector (Option Nat) 8
  /-- When a switch of any output was last tested, 5 ns clocks (R437). Reset none. -/
  dpLast : Option Nat
  /-- Xatch frames sent last: ring port B, destination, payload (R446). Reset none. -/
  xsent : List (Bool × Nat × List Byte)
  /-- When SAFE entered RUN, 5 ns clocks (R446). Reset 0. -/
  runAt : Nat
  /-- The safety word sent last (R448). Reset none. -/
  word : Option SafetyWord
  deriving DecidableEq, Repr

/-- The safety island at power-on. -/
def SafeS.reset : SafeS :=
  { copy := [], pairs := Vector.replicate 48 ⟨false, 0, false, 0, none, false, none⟩
    rip := Vector.replicate 32 ⟨[], [], 0, none, none⟩, out := Vector.replicate 40 ⟨0, 0, none, false, none, none, none⟩, pw := none, pwAge := 0
    sbOff := false, conn := Vector.replicate 16 ⟨none, false, [], false⟩, prod := Vector.replicate 8 0, sentAt := Vector.replicate 8 none, dpLast := none, xsent := []
    runAt := 0, word := none }
/-- The redundant pair beside its registers (16_redundant_pair.md). -/
structure TethS where
  /-- Newest claim known, kept in MRAM (R462, R476). Reset 0. -/
  known : Nat
  /-- TSTATE at the moment of loss, kept in MRAM (R487). Reset 0. -/
  lostState : Nat
  /-- PRIO_SWAP as read at the last level 0 or 1 reset (R461). Reset off. -/
  prio : Bool
  /-- Control period in which RELEASE was received, and in which it was sent (R474). Reset none. -/
  relRx : Option Nat
  relTx : Option Nat
  /-- TAKE was accepted (R475). Reset false. -/
  force : Bool
  /-- The partner is ACTIVE with an older claim: TAKEREQ is sent (R479). Reset false. -/
  takereq : Bool
  /-- Control periods since a good partner COMMAND frame was heard on a line (R473). Reset 0. -/
  quiet : Nat
  /-- Mains cycles in JOIN with the partner in JOIN, and with nothing of the partner heard (R481). Reset 0. -/
  joinBoth : Nat
  joinQuiet : Nat
  /-- Something of the partner was heard in this cycle. Reset false. -/
  heardAny : Bool
  /-- The partner's CFG_ID differs (R480). Reset false. -/
  cfgBad : Bool
  /-- A report with an equal CFG_ID has come since EN was set (R480). Reset false. -/
  cfgOk : Bool
  /-- The partner's last report has another VERSION (R482). Reset false. -/
  verBad : Bool
  /-- TSTATE when the hold-up began (R487). Reset 0. -/
  atLoss : Nat
  /-- Lines with SILENCE_TRIP whose first COMMAND frame carries FAULT_CLR and OFF (R477). Reset none. -/
  offLines : List Nat
  /-- HEARD of the last cycle (R465). Reset 0. -/
  heardMask : Nat
  /-- Lines that carried a good partner COMMAND frame in this cycle (R468). Reset none. -/
  rxAny : List Nat
  /-- Lines whose last LINE_TX test failed (R468). Reset none. -/
  txBad : List Nat
  /-- Lines whose LINE_TX burst goes in the coming window (R468). Reset none. -/
  txDue : List Nat
  /-- Consecutive periods in which a stage's command differed from the partner's, those not 0 (R468). Reset none. -/
  burn : List (Nat × Nat)
  /-- Image being received (R469). Reset none. -/
  rx : List Chunk
  /-- Cycles since an image was applied (R471). Reset none. -/
  applied : Option Nat
  /-- Image being sent: its cycle and its chunks' contents as they stood at angle 0x0000 (R469). Reset none. -/
  snapCycle : Nat
  snap : List (List (Nat × Int))
  /-- That image is FULL (R470). Reset false. -/
  snapFull : Bool
  /-- The own metering values latched at the last angle 0x0000, with that cycle and the meters that ran (R472). -/
  latch : Option (Nat × List (Nat × Int))
  latchOn : List Nat
  /-- Meters whose next alignment makes no comparison (R472). Reset none. -/
  noTol : List Nat
  /-- The partner's last Tether word. Reset none. -/
  pword : Option TethWord
  /-- Tether word, health report and image chunk sent last, and whether the chunk went in a fallback frame. Reset none. -/
  word : Option TethWord
  report : List Byte
  chunk : Option Chunk
  fallback : Bool
  /-- Claims of the good COMMAND frames of the partner's last window (R478). Reset none. -/
  lastHeard : List Nat
  /-- The partner's ring MAC, learnt from its Spar time frames (R467). Reset none. -/
  mac : Option Nat
  deriving DecidableEq, Repr

/-- The redundant pair at power-on. -/
def TethS.reset : TethS := {
  known := 0, lostState := 0, prio := false, relRx := none, relTx := none, force := false, takereq := false, quiet := 0
  joinBoth := 0, joinQuiet := 0, heardAny := false, cfgBad := false, cfgOk := false, verBad := false, atLoss := 0, offLines := [], heardMask := 0, rxAny := [], txBad := []
  txDue := [], burn := [], rx := [], applied := none, snapCycle := 0, snap := [], snapFull := false, latch := none, latchOn := []
  noTol := [], pword := none, word := none, report := [], chunk := none, fallback := false, lastHeard := [], mac := none }
/-- A cell monitor of a Ballast ring (R490, R491, R498-R500). -/
structure MonS where
  /-- Address, 0 for none. Reset 0. -/
  addr : Nat
  /-- OV_HW, UV_HW and MON_TMO as last configured. Reset 0. -/
  ovHw : Nat
  uvHw : Nat
  tmo : Nat
  /-- Balance map and comparator mask of the last BALANCE, and whether the map is in force. Reset 0, false. -/
  map : Nat
  mask : Nat
  bal : Bool
  /-- The last CONVERT ran the open-wire test. Reset false. -/
  test : Bool
  /-- When it received its last valid frame (R500), clocks of `now`. Reset 0. -/
  heard : Nat
  /-- TIMEOUT and CMP of MSTAT, and whether the fault code is sent. Reset false. -/
  timeout : Bool
  cmp : Bool
  fault : Bool
  /-- Comparators tripped against OV_HW and UV_HW, bit k - 1 for cell k, and an internal fault. Reset 0, false. -/
  ov : Nat
  uv : Nat
  intern : Bool
  /-- The hops towards the A end and the B end are broken. Reset false. -/
  brkA : Bool
  brkB : Bool
  /-- Converted cells in 0.1 mV, module sum in mV, temperature in 1/16 °C. Reset none, 0. -/
  cells : List Nat
  msum : Nat
  temp : Nat
  /-- What it sent last and whether towards the B end. Reset none. -/
  out : Option (Bool × List Byte)
  deriving DecidableEq, Repr

/-- What BLST keeps of one monitor beside its registers. -/
structure BmonS where
  /-- Consecutive slots without its block (R500). Reset 0. -/
  miss : Nat
  /-- Wires with SUSPECT (R501), and whether the open-wire test is due (R502). Reset 0, false. -/
  susp : Nat
  due : Bool
  /-- Its map in the last BALANCE (R496). Reset 0. -/
  bal : Nat
  deriving DecidableEq, Repr

/-- One Ballast ring beside its registers (17_ballast_cell_rings.md). -/
structure RingS where
  /-- The monitors, in order from the A end. -/
  mons : Vector MonS 64
  /-- BLST's record of the monitors by address. -/
  bm : Vector BmonS 64
  /-- Enumeration from the B end runs, with the monitors the A end reached (R492). Reset none. -/
  enumB : Option Nat
  /-- Commands go from both ends (R493). Reset false. -/
  both : Bool
  /-- Monitors under the open-wire test in this slot, bit m - 1 (R494, R502). Reset 0. -/
  owMap : Nat
  /-- The slot under way, with whether this module was active when it began (R494, R505). Reset none. -/
  slot : Option Bool
  /-- CONVERT of the slot is sent, READ is not (R494). Reset false. -/
  conv : Bool
  /-- READ is sent and its blocks are to come (R494). Reset false. -/
  reading : Bool
  /-- The fault code arrives on the ring (R498). Reset false. -/
  code : Bool
  /-- A TRIP waits for the first block that reports CMP (R498). Reset false. -/
  look : Bool
  /-- Frames of the last step, each with whether it goes from the B end. Reset none. -/
  tx : List (Bool × List Byte)
  deriving DecidableEq, Repr

/-- A monitor and a ring at power-on. -/
def MonS.reset : MonS := {
  addr := 0, ovHw := 0, uvHw := 0, tmo := 0, heard := 0, map := 0, mask := 0, bal := false, test := false, timeout := false, cmp := false
  fault := false, ov := 0, uv := 0, intern := false, brkA := false, brkB := false, cells := [], msum := 0, temp := 0
  out := none }

/-- A ring at power-on. -/
def RingS.reset : RingS := {
  mons := .replicate 64 .reset, bm := .replicate 64 ⟨0, 0, false, 0⟩, enumB := none, both := false, owMap := 0, slot := none, conv := false
  reading := false, code := false, look := false, tx := [] }
/-- One CAN controller beside its registers (18_can_controllers.md). -/
structure CanS where
  /-- Mode in force: 0 normal, 1 restricted operation, 2 monitoring (R518, R519). Reset 0. -/
  mode : Nat
  /-- Object that transmits (R512). Reset none. -/
  cur : Option (Fin 128)
  /-- A frame is in progress, with the cycle and period index of its SOF (R513, R520). Reset false, 0. -/
  busy : Bool
  sofCycle : Nat
  sofPeriod : Nat
  /-- A write of EN = 0 waits for the end of the frame in progress (R520). Reset false. -/
  off : Bool
  deriving DecidableEq, Repr

/-- A controller at reset. -/
def CanS.reset : CanS := { mode := 0, cur := none, busy := false, sofCycle := 0, sofPeriod := 0, off := false }
/-- A piece of a burst under way (R530, R534): where it reads and writes, its bytes, what the line offered, whether
its END was set, the bytes read so far and how many of them are written. -/
structure PieceS where
  src : Nat
  dst : Nat
  len : Nat
  offered : Nat
  fin : Bool
  buf : List Byte
  put : Nat
  deriving DecidableEq, Repr

/-- A MOVE in progress (R527, R530): bytes not yet in a piece, of the MOVE and of its burst, the burst's start
addresses and the bytes of it already moved, the bytes moved in all, and the piece under way. -/
structure MoveS where
  req : Bool
  eom : Bool
  sinc : Bool
  dinc : Bool
  line : Nat
  burst : Nat
  left : Nat
  bleft : Nat
  bsrc : Nat
  bdst : Nat
  boff : Nat
  moved : Nat
  piece : Option PieceS
  deriving DecidableEq, Repr

/-- A WAIT in progress (R528): kind, index, control period starts still to come, and periods until WAIT_TMO. -/
structure WaitS where
  kind : Nat
  index : Nat
  n : Nat
  tmo : Option Nat
  deriving DecidableEq, Repr

/-- One Reel channel beside its registers (19_reel_dma.md). -/
structure ChS where
  /-- MOVE and WAIT in progress. Reset none. -/
  move : Option MoveS
  wait : Option WaitS
  /-- Loop counters active (R528). Reset false. -/
  lact0 : Bool
  lact1 : Bool
  /-- Prefetched program line: its Reel address and its 64 bytes (R535). Reset none. -/
  line : Option (Nat × List Byte)
  /-- A STOP waits for the end of the writes (R538). Reset false. -/
  stopping : Bool
  /-- The channel held the engine last among those of its PRIO (R533). Reset false. -/
  held : Bool
  deriving DecidableEq, Repr

/-- Every channel at reset. -/
def ChS.reset : ChS := { move := none, wait := none, lact0 := false, lact1 := false, line := none, stopping := false, held := false }
/-- Reset, clock, supply and start-up state beside its registers (21_power_reset_startup.md). -/
structure RstS where
  /-- Block b is held in reset (R584). Reset true, but for SYS, RST, PWR and CLK, which run from the monitor oscillator. -/
  inReset : Vector Bool 28
  /-- A release of block b has been asked for and waits (R584). Reset true where the block is in reset. -/
  relPend : Vector Bool 28
  /-- First pages of the units whose BRST waits for IDLE, with when it was written (R586). Reset none. -/
  brst : List (Nat × Nat)
  /-- Sources raised and not yet accepted, bits as CAUSE (R575). Reset none. -/
  req : Nat
  /-- Level of the accepted reset that waits for its holds, its sources, and the level asked for by software
  (R577, R578, R583). Reset none, none, 1. -/
  acc : Option Nat
  accSrc : Nat
  swLevel : Nat
  /-- A level 3 reset of the Bremus cores was accepted (R575). Reset false. -/
  accB : Bool
  /-- The cores of Gondola, Bremus and Envelope run (R596). Reset none. -/
  run0 : Bool
  run1 : Bool
  run2 : Bool
  /-- Milliseconds left on the watchdogs of Gondola, Bremus and Envelope (R582). Reset to their timeouts. -/
  wdg : Vector Nat 3
  /-- When HOLDUP was set, 5 ns clocks; HU_W0, HU_W1 (R572). Reset none, not set. -/
  huAt : Option Nat
  huW0 : Bool
  huW1 : Bool
  /-- Flash operation in progress: FL_CMD, address, data (R598). Reset none. -/
  flOp : Option (Nat × Nat × Nat)
  /-- ERASE_PEND list in MRAM (R590). Reset none. -/
  erase : List Nat
  /-- The option load has not been completed since the last reset of level 0 or 1 (R592). Reset true. -/
  loading : Bool
  /-- Fuses: RST_MAP, serial number, SHA-384 digest of the firmware authority key (R575, R596, R598). Reset: RST_MAP the
  shipped levels, the others 0 and empty (DESIGN CHOICE, log entry 4). -/
  fuseMap : Nat
  fuseSerial : Nat
  fuseFw : List Byte
  /-- Options without a register: VMAC_BASE, SPLC_MAC, BOOT_BANK (R593). Reset 0 (DESIGN CHOICE, log entry 3). -/
  vmac : Nat
  splcMac : Nat
  bootBank : Nat
  /-- Options with a register as loaded: NOMINAL, PHASES, VNOM, PAIR_EN, then HOLD, LIMP_DEF and LIMP_SEL of channels 0-31
  (R593). Reset none (DESIGN CHOICE, log entry 3). -/
  opt : List Nat
  /-- When the last reset of level 0 or 1 was applied, 5 ns clocks: MONO counts from it (R347). Reset 0. -/
  mono0 : Nat
  /-- When the accumulator file was last written to, 5 ns clocks (R580). Reset none. -/
  accWrite : Option Nat
  deriving DecidableEq, Repr

/-- Levels as shipped (R575), source n at [2n+1:2n]; the lowest level software may ask for is 1 (DESIGN CHOICE, log entry
4). -/
def shippedMap : Nat :=
  [1, 1, 1, 1, 2, 3, 1, 1, 1, 1, 1, 1].foldr (fun l acc => l + 4 * acc) 0

/-- The reset controller at power-on. -/
def RstS.reset : RstS := {
  inReset := Vector.ofFn (fun b : Fin 28 => decide (4 ≤ b.val)), relPend := Vector.ofFn (fun b : Fin 28 => decide (4 ≤ b.val))
  brst := [], req := 0, acc := none, accSrc := 0, swLevel := 1, accB := false
  run0 := false, run1 := false, run2 := false, wdg := #v[1000, 1000, 0], huAt := none, huW0 := false, huW1 := false
  flOp := none, erase := [], loading := true, fuseMap := shippedMap, fuseSerial := 0, fuseFw := [], vmac := 0, splcMac := 0
  bootBank := 0, opt := [], mono0 := 0, accWrite := none }

/-- Why the machine stops with a fault. No command of this block faults: the spec gives every command an effect,
and ignores or records what it does not allow (R10, R11, R42, R43). -/
inductive Fault where
  /-- Raised by no command: the block has no behaviour that stops it. Safe. -/
  | none
  deriving DecidableEq, Repr

/-- Why a command has no meaning here. -/
inductive Refusal where
  /-- Raised by an arm of the dispatch whose command has no meaning yet. Safe: nothing can be proved of its effect. -/
  | notModelled (mnemonic : String)
  deriving DecidableEq, Repr

/-- The whole state of the block. Reset values are those of `State.reset`. -/
structure State where
  /-- Every register field of the register tables (R29, R30 and each chapter's tables). Reset: each field's reset value, with EN = 1 in the blocks that reset to it (R599). -/
  regs : RegFile
  /-- Armed commits (R35, R162). Reset: none. -/
  arms : List Arm
  /-- 5 ns clocks counted by Spar since reset (R58). Reset 0. -/
  now : Nat
  /-- The model's own: how many free values have been taken (log entry 1). Reset 0 (DESIGN CHOICE). -/
  freeCtr : Nat
  /-- The model's own: commands that wait, first in first out. Reset: none. -/
  pending : List Instr
  /-- Spar (chapter 3). -/
  spar : SparS
  /-- Host access (chapter 2). -/
  host : HostS
  /-- The slot strap of the backplane: false X, true Y (R104, R457). Reset X (DESIGN CHOICE, log entry 4). -/
  slotY : Bool
  /-- The egress of ring ports A and B (R24). -/
  ring : Vector EgressS 2
  /-- The stage lines at the module (chapter 4). -/
  lines : Vector LineS 128
  /-- The stage drivers at the far ends of the lines (R105-R118). -/
  drivers : Vector DrvS 128
  /-- The uplink window of the current period has closed (R103). Reset true: no period runs. -/
  windowClosed : Bool
  /-- The module's own downlink window of the current period has passed (R103, R104). Reset true: no period runs. -/
  windowSent : Bool
  /-- Burner's stages (chapters 5 and 6). -/
  stages : Vector StgS 128
  /-- Burner's ports (chapters 5 and 6). -/
  ports : Vector PrtS 32
  /-- Coefficient banks and Spool (chapter 5). -/
  brn : BrnS
  /-- Bridle (chapter 7). -/
  brd : BrdS
  /-- Port sessions (chapter 8). -/
  sess : Vector SessS 32
  /-- Vehicle links (chapter 9). -/
  links : Vector VlS 32
  /-- Site feeder power-line network (chapter 10). -/
  splc : SplcS
  /-- Meters (chapter 11). -/
  mtrs : Vector MtrS 36
  /-- Meter channels by bitstream B00-B87 (chapter 11). -/
  chans : Vector ChanS 88
  /-- Phases of the grid meters, 3c + L (R314, R315). -/
  phases : Vector PhaseS 12
  /-- Clocks MCLK0-3 taken over since the last control period start, which a gap may follow (R304, R325). Reset false. -/
  mclkTook : Vector Bool 4
  /-- 5 ns clocks of the running fine sample that reach into the next control period (R305). Reset 0. -/
  fineLeft : Nat
  /-- Pulse outputs (R327, R328). -/
  pulses : Vector PulS 8
  /-- The start of period 2 has come and the steps of the cycle before are still to be added (R321). Reset false. -/
  addDue : Bool
  /-- Billing (chapter 12). -/
  bill : BillS
  /-- Thermal management (chapter 13). -/
  thrm : ThrmS
  /-- Load switch channels (chapter 14). -/
  lsw : LswS
  /-- The safety island and Xatch (chapter 15). -/
  safe : SafeS
  /-- The redundant pair (chapter 16). -/
  teth : TethS
  /-- The Ballast rings A and B (chapter 17). -/
  blst : Vector RingS 2
  /-- The CAN controllers (chapter 18). -/
  can : Vector CanS 4
  /-- Reel channels (chapter 19). -/
  reel : Vector ChS 64
  /-- Keys, crypto jobs and life cycle (chapter 20). -/
  key : KeyS
  /-- DRAM, 4 GiB, by byte offset (R543). Reset: reads 0 (DESIGN CHOICE, log entry 17). -/
  dram : Memory
  /-- Private SRAM of Gondola, 2 MiB (R544, R577). Reset: cleared. -/
  sram0 : Memory
  /-- Private SRAM of Bremus, 1 MiB, the billing request ring at its base (R544, R577). Reset: cleared. -/
  sram1 : Memory
  /-- Reset, clocks, supplies and start-up (chapter 21). -/
  rst : RstS
  /-- Flash: option sector and banks, by flash address (R590, R598). Reset: unlisted bytes read 0 (DESIGN CHOICE, log entry 17). -/
  flash : Memory
  deriving DecidableEq, Repr

/-- The block right after reset (R576, R595; log entries 3 and 4 where the spec gives no value). -/
def State.reset : State where
  regs := [0, 1, 2, 3, 16, 384].foldl (fun f p => f.put R.hdr_EN [p] 1) RegFile.reset
  arms := []
  now := 0
  freeCtr := 0
  pending := []
  spar := { acc := 0, inc := 0, freq := 0, cycle := 0, period := 0, serial := 0, clocks := 0, lens := [], next := none, cycleDue := false, periodDue := false, tickDue := false, qualFrom := 1, qualCount := 0, refCycles := 0, good := [], refGood := false, refFreq := 0, refRocof := 0, lowTicks := 0, fInt := 0, phiPrev := none, hold := 0, partnerFreq := 0, alignDue := false, alignCycle := none, alignFrame := none, wall := 0, slewRem := 0, step := none, latch := Vector.replicate 10 (0, 0), wallHi := Vector.replicate 10 0, skipped := [], latePend := [], notBefore := [], deferred := [], lastStrobe := none, lastSnap := none, firedNow := [], frameOut := none }
  host := { reqs := [], kept := [], nonceOut := Vector.replicate 6 1, out := [], rdata := Vector.replicate 10 [], pcieAbort := false }
  slotY := false
  ring := Vector.replicate 2 EgressS.reset
  lines := Vector.replicate 128 LineS.reset
  drivers := Vector.replicate 128 DrvS.reset
  windowClosed := true
  windowSent := true
  stages := Vector.replicate 128 StgS.reset
  ports := Vector.replicate 32 PrtS.reset
  brn := { bankSt := Vector.replicate 16 0, bankMem := [], spool := [], pos := Vector.replicate 16 0, left := Vector.replicate 16 0, last := none, armed := 0, done := false }
  brd := { lat := Vector.replicate 32 ⟨0, 0, 9, 0, 0⟩, solving := none, ready := none, discarded := false, loft := [], loftBad := [], loftRes := [], holdCycles := 0, takeover := false, img := none, req := false }
  sess := Vector.replicate 32 SessS.reset
  links := Vector.replicate 32 VlS.reset
  splc := SplcS.reset
  mtrs := Vector.replicate 36 MtrS.reset
  chans := Vector.replicate 88 ChanS.reset
  phases := Vector.replicate 12 PhaseS.reset
  mclkTook := Vector.replicate 4 false
  fineLeft := 0
  pulses := Vector.replicate 8 ⟨0, 0, 0⟩
  addDue := false
  bill := BillS.reset
  thrm := ThrmS.reset
  lsw := LswS.reset
  safe := SafeS.reset
  teth := TethS.reset
  blst := .replicate 2 .reset
  can := .replicate 4 .reset
  reel := Vector.replicate 64 ChS.reset
  key := { mat := [], jobs := [], acc := Vector.replicate 3 0, comp := Vector.replicate 3 0, turn := 0, irq := Vector.replicate 3 0, rngBad := false, fuse := 0, burn := none }
  dram := []
  sram0 := []
  sram1 := []
  rst := RstS.reset
  flash := []

end Sys2Proof.Machine
end

