-- ==== Sys2Proof/Machine/Ops.lean ====
section
/-! DEFINITION. The named operations over registers: fields, error codes, interrupts, grants, commits, frozen and
shadowed writes (02_register_pages_and_host_access.md). -/

namespace Sys2Proof.Machine

open Sys2Proof

/-! ## Bits and numbers -/

/-- `v` read as a signed number of `w` bits. -/
def sext (w v : Nat) : Int := if v % 2 ^ w < 2 ^ (w - 1) then Int.ofNat (v % 2 ^ w) else Int.ofNat (v % 2 ^ w) - 2 ^ w

/-- The low `w` bits of a signed number. -/
def trunc (w : Nat) (v : Int) : Nat := (v % 2 ^ w).toNat

/-- `v` clamped to `lo`..`hi`. -/
def clampI (lo hi v : Int) : Int := if v < lo then lo else if hi < v then hi else v

/-- `v` clamped to a signed number of `w` bits. -/
def satI (w : Nat) (v : Int) : Int := clampI (-(2 ^ (w - 1))) (2 ^ (w - 1) - 1) v

/-- Bits `lo`.. of width `w` of `v`. -/
def bits (v lo w : Nat) : Nat := (v >>> lo) % 2 ^ w

/-- Bit `i` of `v`. -/
def bitB (v i : Nat) : Bool := (v >>> i) % 2 == 1

/-- `v` with bit `i` set or cleared. -/
def setBit (v i : Nat) (b : Bool) : Nat := if b then v ||| 2 ^ i else v ^^^ (v &&& 2 ^ i)

/-- 1 for true, 0 for false. -/
def b2n (b : Bool) : Nat := if b then 1 else 0

/-- `a / b` to the nearest integer, halves up; 0 where b is 0. -/
def divRound (a b : Nat) : Nat := (2 * a + b) / (2 * b)

/-- Round half up: `a / b` for positive b. -/
def rhu (a : Int) (b : Nat) : Int := if b = 0 then 0 else (2 * a + b) / (2 * b)

/-- `a / b` rounded up. -/
def divCeil (a b : Nat) : Nat := (a + b - 1) / b

/-- Signed difference of two cycle numbers (R7). -/
def cycDiff (a b : Nat) : Int := sext 32 (a + 2 ^ 32 - b % 2 ^ 32)

/-- One entry of a vector changed. -/
def vupd {α : Type} {n : Nat} (v : Vector α n) (i : Fin n) (f : α → α) : Vector α n := v.set i (f v[i]) i.isLt

/-- Little-endian value of bytes (R9). -/
def leNat : List Byte → Nat
  | [] => 0
  | b :: t => b.toNat + 256 * leNat t

/-- The `n` little-endian bytes of a value. -/
def leBytes : Nat → Nat → List Byte
  | 0, _ => []
  | n + 1, v => BitVec.ofNat 8 v :: leBytes n (v / 256)

/-- One bit of a reflected CRC with polynomial `poly`. -/
def crcBit (poly c : Nat) : Nat := if c % 2 = 1 then (c / 2) ^^^ poly else c / 2

/-- One byte of a reflected CRC. -/
def crcByte (poly c : Nat) (b : Byte) : Nat :=
  let c := c ^^^ b.toNat
  let c := crcBit poly (crcBit poly (crcBit poly (crcBit poly c)))
  crcBit poly (crcBit poly (crcBit poly (crcBit poly c)))

/-- CRC-32C (R99): polynomial 0x1EDC6F41 reflected, initial value and final XOR 0xFFFFFFFF. -/
def crc32c (l : List Byte) : Nat := (l.foldl (crcByte 0x82F63B78) 0xFFFFFFFF) ^^^ 0xFFFFFFFF

/-- CRC-32 of IEEE 802.3 (R591). -/
def crc32 (l : List Byte) : Nat := (l.foldl (crcByte 0xEDB88320) 0xFFFFFFFF) ^^^ 0xFFFFFFFF

/-- One bit of a CRC-16 with polynomial 0x1021, most significant bit first. -/
def crc16Bit (c : Nat) : Nat := if c / 32768 % 2 = 1 then ((c * 2) % 65536) ^^^ 0x1021 else (c * 2) % 65536

/-- One byte of CRC-16/CCITT. -/
def crc16Byte (c : Nat) (b : Byte) : Nat :=
  let c := c ^^^ (b.toNat * 256)
  let c := crc16Bit (crc16Bit (crc16Bit (crc16Bit c)))
  crc16Bit (crc16Bit (crc16Bit (crc16Bit c)))

/-- CRC-16/CCITT-FALSE: initial value 0xFFFF (R421). -/
def crc16 (l : List Byte) : Nat := l.foldl crc16Byte 0xFFFF

/-! ## Register fields -/

/-- A field's value in use. -/
def State.rd (s : State) (r : Row) (ix : List Nat) : Nat := s.regs.get r ix

/-- A field's value in use, read as signed. -/
def State.rdI (s : State) (r : Row) (ix : List Nat) : Int := sext r.w (s.rd r ix)

/-- A one-bit field. -/
def State.rdB (s : State) (r : Row) (ix : List Nat) : Bool := s.rd r ix != 0

/-- A field written by the hardware. -/
def State.wr (s : State) (r : Row) (ix : List Nat) (v : Nat) : State := { s with regs := s.regs.put r ix v }

/-- A field written by the hardware with a signed value. -/
def State.wrI (s : State) (r : Row) (ix : List Nat) (v : Int) : State := s.wr r ix (trunc r.w v)

/-- A one-bit field written by the hardware. -/
def State.wrB (s : State) (r : Row) (ix : List Nat) (b : Bool) : State := s.wr r ix (b2n b)

/-- A counter field advanced, wrapping at its width. -/
def State.inc (s : State) (r : Row) (ix : List Nat) : State := s.wr r ix (s.rd r ix + 1)

/-- A counter field advanced, saturating at its width. -/
def State.satInc (s : State) (r : Row) (ix : List Nat) : State :=
  if s.rd r ix + 1 < 2 ^ r.w then s.wr r ix (s.rd r ix + 1) else s

/-- One bit of a field set or cleared. -/
def State.wrBit (s : State) (r : Row) (ix : List Nat) (i : Nat) (b : Bool) : State :=
  s.wr r ix (setBit (s.rd r ix) i b)

/-- A free value of `w` bits: whatever the hardware gives where the spec leaves a value undefined (log entry 1). -/
def State.free (s : State) (w : Nat) : Nat := Config.free s.freeCtr % 2 ^ w

/-- The next free value is another. -/
def State.took (s : State) : State := { s with freeCtr := s.freeCtr + 1 }

/-- Fold over a list of indexes. -/
def foldS {α : Type} (l : List α) (f : State → α → State) (s : State) : State := l.foldl f s

/-! ## Errors and interrupts -/

/-- A block's error: CODE, COUNT saturating at 255, and STAT.ERR (R29, ERRCODE and STAT). -/
def State.setErr (s : State) (page code : Nat) : State :=
  ((s.wr R.hdr_CODE [page] code).satInc R.hdr_COUNT [page]).wr R.hdr_ERR [page] 1

/-- An event sets its IRQ_RAW bit (R29). -/
def State.raise (s : State) (page bit : Nat) : State := s.wrBit R.hdr_IRQ_RAW [page] bit true

/-- A reset source is raised (R575), by its bit in CAUSE. -/
def requestReset (n : Nat) (s : State) : State := { s with rst := { s.rst with req := setBit s.rst.req n true } }

/-! ## Pages, blocks and enables -/

/-- Block index of a page (R40, R599); none where no page covers the address. -/
def blockOf (p : Nat) : Option Nat :=
  if p < 5 then some p
  else if 8 ≤ p ∧ p < 12 then some 5
  else if 16 ≤ p ∧ p < 20 then some 6
  else if 24 ≤ p ∧ p < 32 then some 7
  else if 32 ≤ p ∧ p < 64 then some 8
  else if 64 ≤ p ∧ p < 128 then some 9
  else if 128 ≤ p ∧ p < 160 then some 10
  else if 160 ≤ p ∧ p < 192 then some 11
  else if 192 ≤ p ∧ p < 224 then some 12
  else if 224 ≤ p ∧ p < 232 then some 13
  else if 256 ≤ p ∧ p < 304 then some 14
  else if 304 ≤ p ∧ p < 320 then some 15
  else if 320 ≤ p ∧ p < 324 then some 16
  else if 328 ≤ p ∧ p < 330 then some 17
  else if 336 ≤ p ∧ p < 340 then some 18
  else if 344 ≤ p ∧ p < 348 then some 19
  else if 352 ≤ p ∧ p < 354 then some 20
  else if 360 ≤ p ∧ p < 364 then some 21
  else if 368 ≤ p ∧ p < 384 then some (24 + (p - 368) / 4)
  else if 384 ≤ p ∧ p < 388 then some 22
  else none

/-- Block code of a page (R40). -/
def blockCode (p : Nat) : Nat :=
  match blockOf p with
  | some 0 => 0x5359 | some 1 => 0x5253 | some 2 => 0x5057 | some 3 => 0x434B | some 4 => 0x5350
  | some 5 => 0x484F | some 6 => 0x4B59 | some 7 => 0x524C | some 8 => 0x4C4E | some 9 => 0x424E
  | some 10 => 0x4244 | some 11 => 0x5054 | some 12 => 0x564C | some 13 => 0x534C | some 14 => 0x4D54
  | some 15 => 0x4249 | some 16 => 0x5448 | some 17 => 0x4C53 | some 18 => 0x5346 | some 19 => 0x5843
  | some 20 => 0x5445 | some 21 => 0x4252 | some 22 => 0x4554
  | some b => 0x4330 + (b - 24)
  | none => 0

/-- First page of each block (R40). -/
def firstPage (b : Nat) : Nat :=
  match b with
  | 0 => 0 | 1 => 1 | 2 => 2 | 3 => 3 | 4 => 4 | 5 => 8 | 6 => 16 | 7 => 24 | 8 => 32 | 9 => 64 | 10 => 128
  | 11 => 160 | 12 => 192 | 13 => 224 | 14 => 256 | 15 => 304 | 16 => 320 | 17 => 328 | 18 => 336 | 19 => 344
  | 20 => 352 | 21 => 360 | 22 => 384
  | b => 368 + 4 * (b - 24)

/-- Pages of each block (R40). -/
def pageCount (b : Nat) : Nat :=
  match b with
  | 0 => 1 | 1 => 1 | 2 => 1 | 3 => 1 | 4 => 1 | 5 => 4 | 6 => 4 | 7 => 8 | 8 => 32 | 9 => 64 | 10 => 32
  | 11 => 32 | 12 => 32 | 13 => 8 | 14 => 48 | 15 => 16 | 16 => 4 | 17 => 2 | 18 => 4 | 19 => 4
  | 20 => 2 | 21 => 4 | 22 => 4
  | b => if 24 ≤ b ∧ b < 28 then 4 else 0

/-- The page whose EN, IDLE_REQ and BRST decide for a page: its own in PORT, VLNK and MTR, else the block's first
(R31, R254, R331; log entry 8 for MTR). -/
def enPage (p : Nat) : Nat :=
  match blockOf p with
  | some 11 => p
  | some 12 => p
  | some 14 => p
  | some b => firstPage b
  | none => p

/-- A block is in reset (R584). -/
def State.inReset (s : State) (b : Nat) : Bool := s.rst.inReset[b]?.getD false

/-- EN of the unit a page belongs to. -/
def State.enOf (s : State) (p : Nat) : Bool := s.rdB R.hdr_EN [enPage p]

/-- STAT.RUN of a page: out of reset with EN = 1 (R29). -/
def State.runs (s : State) (p : Nat) : Bool := s.enOf p && !s.inReset ((blockOf p).getD 28)

/-- STAT.RUN of Spar (R38). -/
def State.sparRuns (s : State) : Bool := s.runs 4

/-- Reduced mode: hold-up lasts (R571). -/
def State.reduced (s : State) : Bool := s.rdB R.pwr_HOLDUP []

/-! ## Worlds and grants -/

/-- The OWNER.WRITE bits in force: those the hardware holds fixed are as R41 and R45 state. MTR and BILL pages
reset to 0x002 and have bit 1 alone. -/
def ownWrite (p raw : Nat) : Nat :=
  match blockOf p with
  | some 14 => (raw ^^^ 3) &&& 2
  | some 15 => (raw ^^^ 3) &&& 2
  | some 5 => 1
  | some 6 => 1
  | _ => raw ||| 1

/-- What an OWNER write keeps for WRITE. -/
def ownWriteEnc (p v : Nat) : Nat :=
  match blockOf p with
  | some 14 => (v &&& 2) ^^^ 3
  | some 15 => (v &&& 2) ^^^ 3
  | some 5 => 1
  | some 6 => 1
  | _ => v

/-- The OWNER.READ bits in force: W0 always (R41); HOST pages W0 alone (R45). -/
def ownRead (p raw : Nat) : Nat := if blockOf p = some 5 then 1 else raw ||| 1

/-- OWNER.WRITE of a page. -/
def State.ownW (s : State) (p : Nat) : Nat := ownWrite p (s.rd R.hdr_OWN_WRITE [p])

/-- OWNER.READ of a page. -/
def State.ownR (s : State) (p : Nat) : Nat := ownRead p (s.rd R.hdr_OWN_READ [p])

/-- A page that no world can reach: no page there, or its block held in reset after CLK_FAIL (R40, R584). -/
def State.dead (s : State) (p : Nat) : Bool :=
  match blockOf p with
  | none => true
  | some b => s.inReset b && bitB (s.rd R.rst_CLK_FAIL []) b

/-- Write access (R42). -/
def State.canWrite (s : State) (w : World) (p : Nat) : Bool := !s.dead p && bitB (s.ownW p) w.val

/-- Read access (R42). -/
def State.canRead (s : State) (w : World) (p : Nat) : Bool :=
  !s.dead p && (bitB (s.ownR p) w.val || bitB (s.ownW p) w.val)

/-- A violation of the grants: ignored but for the world's counter (R11, R43). -/
def State.violate (s : State) (w : World) : State := s.satInc R.host_VIOL [w.val]

/-- A write by a world to a page: done under the grant, a violation without it (R43). -/
def State.asWriter (s : State) (w : World) (p : Nat) (f : State → State) : State :=
  if s.canWrite w p then f s else s.violate w

/-- A write that one world alone may make, whatever OWNER grants: under the grant and by that world it acts, by
another world it is ignored (R71, R77, R484, R598, R599; log entry 13). -/
def State.onlyBy (s : State) (u w : World) (p : Nat) (f : State → State) : State :=
  s.asWriter w p (fun s => if w = u then f s else s)

/-! ## Commits -/

/-- The key of a commit unit's COMMIT_PEND or A_PEND. -/
def unitPend (u : CommitUnit) (s : State) : Bool :=
  match u with
  | .page p => s.rdB R.hdr_COMMIT_PEND [p.val]
  | .area i => s.rdB R.stgA_A_PEND [i.val]

/-- COMMIT_PEND or A_PEND written. -/
def unitSetPend (u : CommitUnit) (b : Bool) (s : State) : State :=
  match u with
  | .page p => s.wrB R.hdr_COMMIT_PEND [p.val] b
  | .area i => s.wrB R.stgA_A_PEND [i.val] b

/-- COMMIT_SEQ or A_COMMIT_SEQ advanced. -/
def unitAdvance (u : CommitUnit) (s : State) : State :=
  match u with
  | .page p => s.inc R.hdr_COMMIT_SEQ [p.val]
  | .area i => s.inc R.stgA_A_COMMIT_SEQ [i.val]

/-- The page of a commit unit. -/
def unitPage (u : CommitUnit) : Nat :=
  match u with
  | .page p => p.val
  | .area i => 65 + i.val / 4

/-- The byte addresses a commit unit covers (R31, R162). -/
def unitRange (u : CommitUnit) : Nat × Nat :=
  match u with
  | .page p => (p.val * 0x1000, p.val * 0x1000 + 0x1000)
  | .area i => (0x41000 + 0x400 * i.val, 0x41400 + 0x400 * i.val)

/-- BRN pages 1-32: the header's commit acts on no field (R31, R162). -/
def isAreaPage (p : Nat) : Bool := decide (65 ≤ p) && decide (p ≤ 96)

/-- The boundary kind and event a unit's COMMIT_AT or A_COMMIT_AT selects. -/
def unitSelect (u : CommitUnit) (s : State) : Nat × Nat :=
  match u with
  | .page p => (s.rd R.hdr_BOUND [p.val], s.rd R.hdr_EVENT [p.val])
  | .area i => (s.rd R.stgA_A_BOUND [i.val], s.rd R.stgA_A_EVENT [i.val])

/-- Accept a commit (R35): not while one is pending, and without effect at EN = 0 or while Spar does not run (R38). -/
def armCommit (u : CommitUnit) (s : State) : State :=
  if unitPend u s || !s.enOf (unitPage u) || !s.sparRuns then s
  else
    let sel := unitSelect u s
    unitSetPend u true { s with arms := s.arms ++ [⟨u, sel.1, sel.2, s.spar.serial, false⟩] }

/-- The commit of a unit ends: no longer pending. -/
def dropArm (u : CommitUnit) (s : State) : State :=
  unitSetPend u false { s with arms := s.arms.filter (fun a => a.unit ≠ u) }

/-- Discard a pending commit: the shadow reverts and ERRCODE takes `code` (R37, R311). -/
def discardCommit (u : CommitUnit) (code : Nat) (s : State) : State :=
  if unitPend u s then
    let s := dropArm u s
    let s := { s with regs := s.regs.revert (unitRange u).1 (unitRange u).2 }
    s.setErr (unitPage u) code
  else s

/-- CANCEL: a pending commit is discarded with COMMIT_CANCELLED (R37). -/
def cancelCommit (u : CommitUnit) (s : State) : State := discardCommit u 0x0005 s

/-- An armed commit's boundary has come (R35, R37): its kind of boundary has started since acceptance. -/
def Arm.due (a : Arm) (s : State) : Bool :=
  let d := s.spar.serial - a.at_
  match a.bound with
  | 0 => decide (0 < d)
  | 1 => decide (s.spar.period % 8 < d)
  | 2 => decide (s.spar.period < d)
  | _ => a.fired

/-- The whole shadow of a unit becomes active, COMMIT_SEQ advances, COMMIT_PEND clears (R34). -/
def applyCommit (u : CommitUnit) (s : State) : State :=
  unitAdvance u (dropArm u { s with regs := s.regs.commit (unitRange u).1 (unitRange u).2 })

/-- Commits armed on event `n` before this period started become due (R85). -/
def fireArms (n : Nat) (s : State) : State :=
  { s with arms := s.arms.map (fun a =>
      if a.bound = 3 ∧ a.event = n ∧ a.at_ < s.spar.serial then { a with fired := true } else a) }

/-- EN of a unit cleared: the shadow of its pages is active at once and a pending commit has nothing left to do
(R38; log entry 9). -/
def shadowNow (p : Nat) (s : State) : State :=
  let e := enPage p
  let n := match blockOf p with
    | some 11 => 1 | some 12 => 1 | some 14 => 1 | some b => pageCount b | none => 1
  let inside := fun (q : Nat) => decide (e ≤ q) && decide (q < e + n)
  let s := s.arms.foldl (fun s a => if inside (unitPage a.unit) then unitSetPend a.unit false s else s) s
  { s with
    arms := s.arms.filter (fun a => !inside (unitPage a.unit))
    regs := s.regs.commit (e * 0x1000) ((e + n) * 0x1000) }

/-! ## Durations (5 ns clocks of `now`; log entry 206) -/

/-- What began at `t` has lasted `n` clocks now, or before the running control period ends. -/
def heldFor (s : State) (t : Option Nat) (n : Nat) : Bool :=
  match t with
  | some a => decide (a + n ≤ s.now + s.spar.clocks)
  | none => false

/-- Since when a condition holds: from now on, or from before. -/
def since (s : State) (b : Bool) (t : Option Nat) : Option Nat := if b then some (t.getD s.now) else none

end Sys2Proof.Machine
end

