-- ==== Sys2Proof/Machine/Line.lean ====
section
/-! DEFINITION. Stage lines at the module: frames, uplinks, line states, mooring (04_stage_line.md). The close of
the uplink window, which starts Burner's computation, and the downlink window are in Downlink.lean. -/

namespace Sys2Proof.Machine

open Sys2Proof

/-- A change of one line's own state. -/
def State.lineF (s : State) (i : Stage) (f : LineS → LineS) : State := { s with lines := vupd s.lines i f }

/-- One line's own state. -/
def State.line (s : State) (i : Stage) : LineS := s.lines[i]

/-- LINE page of a stage (R30). -/
def linePage (i : Stage) : Nat := 32 + i.val / 4

/-- An event of a line: bit 4i + n of its page (R121). -/
def lineIrq (i : Stage) (n : Nat) (s : State) : State := s.raise (linePage i) (4 * (i.val % 4) + n)

/-- LSTATE values (R121). -/
def lsDisabled : Nat := 0
def lsSearch : Nat := 1
def lsFound : Nat := 2
def lsAttached : Nat := 3
def lsLost : Nat := 4

/-- LSTATE of a line. -/
def lstate (s : State) (i : Stage) : Nat := s.rd R.line_LSTATE [i.val]

/-- ACTIVE of the module (R163, R482). -/
def State.active (s : State) : Bool := s.rdB R.teth_ACTIVE []

/-! ## Frames -/

/-- MODEs in which the driver switches when GP = 1 (R101). -/
def modeSwitches (m : Nat) : Bool := m == 1 || m == 2 || m == 3 || m == 4 || m == 6 || m == 7

/-- `n` bytes of a body from offset `o`, as a little-endian number. -/
def fld (b : List Byte) (o n : Nat) : Nat := leNat ((b.drop o).take n)

/-- The CRC of a body with its virtual prefix (R99). -/
def frameCrc (pre : Nat) (b : List Byte) : Nat := crc32c (leBytes 2 pre ++ b)

/-- The body of a downlink frame without its CRC (R96). -/
def downBody (f : DownFrame) : List Byte :=
  leBytes 1 f.typ ++ leBytes 2 f.claim ++ leBytes 1 f.seq ++ leBytes 1 (f.mode * 16 + f.route * 2) ++
    leBytes 1 f.safety ++ leBytes 1 f.safetyN ++ leBytes 3 f.refA ++ leBytes 3 f.refB ++ leBytes 2 f.startDelay ++
    leBytes 2 f.periodLen ++ leBytes 1 (b2n f.faultClr)

/-- The CRC prefix of a downlink frame for stage `i`: its number for COMMAND and SAFE, 0xFFFF for PROBE and ATTACH
(R99). -/
def downPrefix (typ i : Nat) : Nat := if typ = 2 ∨ typ = 3 then 0xFFFF else i

/-- The 22 bytes of a downlink frame's body (R96, R99). -/
def downBytes (f : DownFrame) (i : Nat) : List Byte :=
  downBody f ++ leBytes 4 (frameCrc (downPrefix f.typ i) (downBody f))

/-- The fields of a 22-byte downlink body (R96). -/
def downDecode (b : List Byte) : DownFrame :=
  { typ := fld b 0 1, claim := fld b 1 2, seq := fld b 3 1, mode := fld b 4 1 / 16, route := fld b 4 1 / 2 % 8,
    safety := fld b 5 1, safetyN := fld b 6 1, refA := fld b 7 3, refB := fld b 10 3, startDelay := fld b 13 2,
    periodLen := fld b 15 2, faultClr := fld b 17 1 % 2 == 1 }

/-- A downlink body with good length and CRC for a prefix (R99, R112). -/
def downGood (b : List Byte) (pre : Nat) : Bool := b.length == 22 && fld b 18 4 == frameCrc pre (b.take 18)

/-- An uplink body with good length and CRC for a prefix (R97, R99). -/
def upGoodCrc (b : List Byte) (pre : Nat) : Bool := b.length == 28 && fld b 24 4 == frameCrc pre (b.take 24)

/-- The fields of a MEAS body (R97). -/
def measDecode (b : List Byte) : MeasFrame :=
  { claimEcho := fld b 1 2, seqEcho := fld b 3 1, inforce := fld b 4 1,
    y := [fld b 5 3, fld b 8 3, fld b 11 3, fld b 14 3], status := fld b 17 4, auxSel := fld b 21 1,
    auxVal := fld b 22 2 }

/-- The fields of an IDENT body (R97). -/
def identDecode (b : List Byte) : IdentFrame :=
  { vendor := fld b 1 2, model := fld b 3 2, serial := fld b 5 4, proto := fld b 9 1, cmdKind := fld b 10 1,
    y3Kind := fld b 11 1, fs := [fld b 12 3, fld b 15 3, fld b 18 3, fld b 21 3] }

/-- The value that means "no valid sample" (R98). -/
def noSample : Nat := 0x800000

/-- A measurement's physical value from its sample and full scale: Y * FSn / 2^23, in units of 10 of its unit times
10 (R97, R98), rounded toward minus infinity (log entry 11). -/
def physical (y : Int) (fs : Nat) : Int := y * (10 * fs) / 8388608

/-! ## Uplinks -/

/-- An uplink with a coding or CRC error (R121). -/
def upCrcError (i : Stage) (s : State) : State := s.satInc R.line_UP_CRC [i.val]

/-- D in ns (R118). -/
def lineD (s : State) (i : Stage) : Nat := s.rd R.line_RTT [i.val] / 2

/-- Fault bits of STATUS that raise DRV_FAULT: OV, OT, DESAT, AUXLOW, SILENCE_TRIP (R121). -/
def faultBits (st : Nat) : Nat := (st &&& 0x3C) ||| (st &&& 0x4000)

/-- Write the last good sample of each measurement that is valid (R98, R121). -/
def putSamples (i : Stage) (y : List Nat) (s : State) : State :=
  foldS (List.range 4) (fun s j =>
    let v := y.getD j noSample
    if v = noSample then s else s.wrI R.line_Y [i.val, j] (sext 24 v)) s

/-- Which of a frame's samples are valid, by bit. -/
def samplesOk (y : List Nat) : Nat :=
  ((List.range 4).filter (fun j => y.getD j noSample ≠ noSample)).foldl (fun a j => a + 2 ^ j) 0

/-- Claims above the module's own, judged while ACTIVE (R115). -/
def claimHigher (i : Stage) (echo : Nat) (s : State) : State :=
  if s.active && decide (s.rd R.teth_CLAIM [] < echo) then
    let n := (s.line i).higher + 1
    let s := s.lineF i (fun l => { l with higher := n })
    if n = 2 then lineIrq i 2 s else s
  else s.lineF i (fun l => { l with higher := 0 })

/-- A good MEAS attaches the line: within 8 periods of ATTACH while active, always while not active (R119, R120). -/
def measAttach (i : Stage) (s : State) : State :=
  let ls := lstate s i
  let yes :=
    if s.active then (ls == lsFound || ls == lsLost) && (match (s.line i).attachTmr with | some n => decide (n ≤ 8) | none => false)
    else ls == lsSearch || ls == lsFound || ls == lsLost
  if yes then (s.wr R.line_LSTATE [i.val] lsAttached).lineF i (fun l => { l with attachTmr := none, misses := 0 }) else s

/-- A good MEAS frame updates the line's measurements (R97, R103, R115, R118). RTT has 10 bits and the spec does not say what
it reads beyond them: it saturates at 1,023 ns (DESIGN CHOICE, log entry 189). -/
def takeMeas (i : Stage) (f : MeasFrame) (sof : Nat) (s : State) : State :=
  let s := s.wr R.line_RTT [i.val] (min 1023 (2 * (sof - 1120)))
  let s := ((s.wr R.line_CLAIM_ECHO [i.val] f.claimEcho).wr R.line_SEQ_ECHO [i.val] f.seqEcho).wr
    R.line_INFORCE [i.val] f.inforce
  let s := ((s.wr R.line_STATUS [i.val] f.status).wr R.line_AUX_SEL [i.val] f.auxSel).wr R.line_AUX_VAL [i.val] f.auxVal
  let s := putSamples i f.y s
  let new := decide (faultBits f.status &&& (faultBits f.status ^^^ (s.line i).faults) ≠ 0)
  let s := if new then lineIrq i 3 s else s
  let s := s.lineF i (fun l => { l with
    upGood := true, yOk := samplesOk f.y, faults := faultBits f.status, heardNow := l.heardNow || s.active })
  measAttach i (claimHigher i f.claimEcho s)

/-- UPLINK_MEAS: a MEAS frame arrives on line `i`, its SOF `sof` ns after the period start (R97, R103, R115). -/
def execUplinkMeas (i : Stage) (body : List Byte) (coding : Bool) (sof : Nat) (s : State) :
    Host.Outcome State Fault Refusal :=
  if !s.runs 32 || lstate s i == lsDisabled || s.windowClosed then .next s
  else if !coding || !upGoodCrc body i.val then .next (upCrcError i s)
  else if fld body 0 1 = 9 then .next (takeMeas i (measDecode body) sof s)
  else .next s

/-- A good IDENT (R118, R120). One refused for PROTO or length leaves RTT and the IDENT registers as they were; the spec does
not say whether they show it (DESIGN CHOICE, log entry 190). -/
def takeIdent (i : Stage) (f : IdentFrame) (sof : Nat) (s : State) : State :=
  let rtt := sof - 1120
  if f.proto ≠ 1 then s.setErr (linePage i) 0x0102
  else if 800 < rtt then s.setErr (linePage i) 0x0101
  else
    let s := ((s.wr R.line_MODEL [i.val] f.model).wr R.line_VENDOR [i.val] f.vendor).wr R.line_SERIAL [i.val] f.serial
    let s := ((s.wr R.line_Y3_KIND [i.val] f.y3Kind).wr R.line_CMD_KIND [i.val] f.cmdKind).wr R.line_PROTO [i.val] f.proto
    let s := foldS (List.range 4) (fun s j => s.wr R.line_FS [i.val, j] (f.fs.getD j 0)) s
    let s := s.wr R.line_RTT [i.val] rtt
    lineIrq i 0 (s.wr R.line_LSTATE [i.val] lsFound)

/-- UPLINK_IDENT: an IDENT frame answers a probe (R93, R118, R120). One this module did not probe for, the answer to a PROBE
of the partner, is ignored (DESIGN CHOICE, log entry 191). -/
def execUplinkIdent (i : Stage) (body : List Byte) (coding : Bool) (sof : Nat) (s : State) :
    Host.Outcome State Fault Refusal :=
  if !s.runs 32 || lstate s i != lsSearch || !(s.line i).probed then .next s
  else if !coding || !upGoodCrc body 0xFFFF then .next (upCrcError i s)
  else if fld body 0 1 = 10 then
    .next ((takeIdent i (identDecode body) sof s).lineF i (fun l => { l with probed := false }))
  else .next s

/-- The close of the uplink window on one line: a missing uplink counts while ATTACHED or LOST, and ends a sequence of higher
claims on every line (R103, R115). -/
def closeLine (i : Stage) (s : State) : State :=
  let l := s.line i
  let s := s.wrB R.line_UP_OK [i.val] l.upGood
  let ls := lstate s i
  if l.upGood then s.lineF i (fun l => { l with misses := 0 })
  else if ls = lsAttached ∨ ls = lsLost then
    (s.satInc R.line_UP_MISS [i.val]).lineF i (fun l => { l with misses := l.misses + 1, yOk := 0, higher := 0 })
  else s.lineF i (fun l => { l with yOk := 0, higher := 0 })

/-- LINE_LOST: 3 consecutive missing uplinks on an attached line (R115, R120). -/
def execLineLost (i : Stage) (s : State) : Host.Outcome State Fault Refusal :=
  if lstate s i = lsAttached ∧ 3 ≤ (s.line i).misses then
    .next (lineIrq i 1 (s.wr R.line_LSTATE [i.val] lsLost))
  else .next s

/-- ATTACH written: for a FOUND or LOST line an ATTACH frame waits for the next window; else ERRCODE ATTACH_STATE
(R120, R121). -/
def lineAttach (i : Stage) (s : State) : State :=
  if lstate s i = lsFound ∨ lstate s i = lsLost then s.lineF i (fun l => { l with attachPend := true })
  else s.setErr (linePage i) 0x0100

/-- LINE_ATTACH. -/
def execLineAttach (w : World) (i : Stage) (s : State) : Host.Outcome State Fault Refusal :=
  .next (s.asWriter w (linePage i) (lineAttach i))

/-- ATTACH_TIMEOUT: no good MEAS within 8 periods of ATTACH (R120). -/
def execAttachTimeout (i : Stage) (s : State) : Host.Outcome State Fault Refusal :=
  match (s.line i).attachTmr with
  | some n =>
    if (8 < n ∨ (n = 8 ∧ s.windowClosed = true)) ∧ (lstate s i = lsFound ∨ lstate s i = lsLost) then
      .next (((s.wr R.line_LSTATE [i.val] lsSearch).lineF i (fun l => { l with attachTmr := none })).setErr
        (linePage i) 0x0103)
    else .next s
  | none => .next s

/-- LEN written: 0 disables the line, 1 moves it from DISABLED to SEARCH (R120). -/
def lineLen (i : Stage) (b : Bool) (s : State) : State :=
  let s := s.wrB R.line_LEN [i.val] b
  if b then (if lstate s i = lsDisabled then s.wr R.line_LSTATE [i.val] lsSearch else s)
  else ((s.wr R.line_LSTATE [i.val] lsDisabled).wr R.line_PARTNER_HEARD [i.val] 0).lineF i (fun l =>
    { l with
      misses := 0, attachPend := false, attachTmr := none, probe := false, probed := false, upGood := false, yOk := 0
      higher := 0 })

/-- LINE_LEN_WRITE. -/
def execLineLenWrite (w : World) (i : Stage) (b : Bool) (s : State) : Host.Outcome State Fault Refusal :=
  .next (s.asWriter w (linePage i) (lineLen i b))

/-- FAULT_CLR written: it goes with the next COMMAND frame (R121). -/
def lineFaultClr (i : Stage) (s : State) : State := s.lineF i (fun l => { l with faultClr := true })

/-- LINE_FAULT_CLR. -/
def execLineFaultClr (w : World) (i : Stage) (s : State) : Host.Outcome State Fault Refusal :=
  .next (s.asWriter w (linePage i) (lineFaultClr i))

/-- CNT_CLR written: UP_MISS and UP_CRC clear (R121). -/
def lineCntClr (i : Stage) (s : State) : State := (s.wr R.line_UP_MISS [i.val] 0).wr R.line_UP_CRC [i.val] 0

/-- LINE_CNT_CLR. -/
def execLineCntClr (w : World) (i : Stage) (s : State) : Host.Outcome State Fault Refusal :=
  .next (s.asWriter w (linePage i) (lineCntClr i))

/-- The start of a period on one line: a new uplink is awaited, nothing of the partner is heard yet (R121), timers of ATTACH count, the sweep marks its set
(R103, R119, R120). -/
def linePeriod (i : Stage) (s : State) : State :=
  let sweep := s.active && decide (s.spar.period = i.val / 4) && decide (lstate s i = lsSearch) &&
    s.rdB R.line_MOOR_EN [i.val]
  (s.wr R.line_PARTNER_HEARD [i.val] 0).lineF i (fun l => { l with
    upGood := false, probe := sweep, attachTmr := l.attachTmr.map (· + 1),
    heardAll := l.heardAll && l.heardNow, heardNow := false })

/-- A line with nothing to do at a period start: neither enabled nor waiting. -/
def lineIdle (s : State) (i : Stage) : Bool := lstate s i == lsDisabled

end Sys2Proof.Machine
end

