-- ==== Sys2Proof/Machine/Spool.lean ====
section
/-! DEFINITION. Spool: probes, rings, trigger (05_burner_control_engine.md, R156-R160). -/

namespace Sys2Proof.Machine

open Sys2Proof

/-- A change of the banks and Spool. -/
def State.brnF (s : State) (f : BrnS → BrnS) : State := { s with brn := f s.brn }

/-- A change of one stage. -/
def State.stgF (s : State) (i : Stage) (f : StgS → StgS) : State := { s with stages := vupd s.stages i f }

/-- A change of one port. -/
def State.prtF (s : State) (p : Port) (f : PrtS → PrtS) : State := { s with ports := vupd s.ports p f }

/-- One stage. -/
def State.stg (s : State) (i : Stage) : StgS := s.stages[i]

/-- One port. -/
def State.prt (s : State) (p : Port) : PrtS := s.ports[p]

/-- Spool states (R158). -/
def spIdle : Nat := 0
def spArmed : Nat := 1
def spTriggered : Nat := 2
def spDone : Nat := 3

/-- Spool's STATE. -/
def spoolState (s : State) : Nat := s.rd R.spl_STATE []

/-- A stage signal (R157); 19 is the stage's STAT word. -/
def stageSignal (s : State) (i : Stage) (n : Nat) : Int :=
  if n < 4 then (s.stg i).y.toList.getD n 0
  else if n < 12 then s.rdI R.stg_XHAT [i.val, n - 4]
  else if n < 16 then s.rdI R.stg_INNOV [i.val, n - 12]
  else if n = 16 then s.rdI R.stg_U_A [i.val]
  else if n = 17 then s.rdI R.stg_U_B [i.val]
  else if n = 18 then s.rdI R.stg_R [i.val]
  else if n = 19 then
    sext 32 (s.rd R.stg_SAT_CNT [i.val] * 2 ^ 24 + s.rd R.stg_BANK_INUSE [i.val] * 2 ^ 16 +
      s.rd R.stg_CAUSE [i.val] * 2 ^ 12 + s.rd R.stg_FAILED [i.val] * 2 ^ 11 + s.rd R.stg_SWITCHING [i.val] * 2 ^ 10 +
      s.rd R.stg_SUBST [i.val] * 2 ^ 9 + s.rd R.stg_XCHK_BAD [i.val] * 2 ^ 8 + s.rd R.stg_RES_FLAG [i.val] * 16 +
      s.rd R.stg_RES_RUN [i.val])
  else 0

/-- A port signal as it stands (R157). -/
def portSignalNow (s : State) (p : Port) (n : Nat) : Int :=
  if n < 6 then s.rdI R.prt_CAND [p.val, n]
  else if n = 6 then s.rdI R.prt_IREF [p.val]
  else if n = 7 then s.rd R.prt_BIND [p.val]
  else if n = 8 then s.rd R.prt_VMEAS [p.val]
  else if n = 9 then s.rdI R.prt_IMEAS [p.val]
  else if n = 10 then s.rdI R.prt_PMEAS [p.val]
  else if n = 11 then s.rdI R.prt_THS [p.val]
  else if n = 12 then s.rdI R.prt_HDRM_I [p.val]
  else if n = 13 then s.rdI R.prt_CEIL [p.val]
  else if n = 14 then s.rdI R.prt_DROGUE [p.val]
  else 0

/-- A port signal as it is recorded: held from the last tick (R156). -/
def portSignal (s : State) (p : Port) (n : Nat) : Int := (s.prt p).held.getD n 0

/-- A probe's signal; reserved kinds, indexes and signals record zero (R157). -/
def probeSignal (s : State) (n : Nat) : Int :=
  let k := s.rd R.prb_KIND [n]
  let i := s.rd R.prb_INDEX [n]
  let g := s.rd R.prb_SIGNAL [n]
  if k = 0 then (if h : i < 128 then stageSignal s ⟨i, h⟩ g else 0)
  else if k = 1 then (if h : i < 32 then portSignal s ⟨i, h⟩ g else 0)
  else 0

/-- Spool is triggered: each probe has (8 - PRE) * 8,192 samples left, and the trigger period and the slots written
in it are latched (R158). A probe that writes none in the trigger period (DEC > 0) latches its write position, or the slot
below it once the period's computation is done (DESIGN CHOICE, log entry 195). -/
def spoolTrigger (s : State) : State :=
  if spoolState s = spArmed then
    let s := ((s.wr R.spl_STATE [] spTriggered).wr R.brn_TRIG_CYCLE [] s.spar.cycle).wr R.brn_TRIG_PERIOD [] s.spar.period
    let s := foldS (List.finRange 16) (fun s n =>
      s.wr R.brn_TRIG_INDEX [n.val] ((s.brn.pos[n] + (if s.brn.done then 65535 else 0)) % 65536)) s
    s.brnF (fun b => { b with left := Vector.replicate 16 ((8 - s.rd R.spl_PRE []) * 8192) })
  else s

/-- The trigger where KIND and, for KIND 2-4, INDEX match (R159). -/
def spoolKind (kind index : Nat) (s : State) : State :=
  if s.rd R.brn_TRG_KIND [] = kind ∧ (kind = 5 ∨ kind = 6 ∨ s.rd R.brn_TRG_INDEX [] = index) then spoolTrigger s else s

/-- The compared probe's sample crosses TRIG_LEVEL (R159). -/
def crosses (s : State) (prev now : Int) : Bool :=
  let lv := s.rdI R.brn_TRIG_LEVEL []
  if s.rdB R.brn_TRG_EDGE [] then decide (lv < prev) && decide (now ≤ lv) else decide (prev < lv) && decide (lv ≤ now)

/-- A probe writes a sample in this period (R156, R158). -/
def spoolDue (s : State) (n : Fin 16) : Bool :=
  s.rdB R.prb_EN [n.val] && decide (s.brn.armed % 2 ^ s.rd R.prb_DEC [n.val] = 0) &&
    (decide (spoolState s = spArmed) || (decide (spoolState s = spTriggered) && decide (s.brn.left[n] ≠ 0)))

/-- Write one probe's sample of this period, if one is due (R156, R158). -/
def spoolProbe (n : Fin 16) (s : State) : State :=
  if spoolDue s n then
    let v := sext 32 (trunc 32 (probeSignal s n.val))
    s.brnF (fun b => { b with
      spool := sput 0 b.spool (65536 * n.val + b.pos[n]) v
      pos := vupd b.pos n (fun k => (k + 1) % 65536)
      left := if spoolState s = spTriggered then vupd b.left n (· - 1) else b.left
      last := if s.rd R.brn_TRG_PROBE [] = n.val then some v else b.last })
  else s

/-- The compared probe wrote a sample that crosses the level (R159). -/
def spoolLevel (was : Option Int) (s : State) : State :=
  match was, s.brn.last with
  | some q, some v => if s.rd R.brn_TRG_KIND [] = 1 ∧ crosses s q v = true then spoolTrigger s else s
  | _, _ => s

/-- The end of Burner's computation: enabled probes write their samples, and the level is judged (R156, R159). -/
def spoolRecord (s : State) : State :=
  if spoolState s = spArmed ∨ spoolState s = spTriggered then
    let was := if spoolDue s ⟨s.rd R.brn_TRG_PROBE [] % 16, by omega⟩ then s.brn.last else none
    let s := foldS (List.finRange 16) (fun s n => spoolProbe n s) s
    spoolLevel was (s.brnF (fun b => { b with armed := b.armed + 1, done := true }))
  else s

/-- ARM written: from IDLE or DONE the rings start at slot 0 (R158; log entry 14). -/
def spoolArm (s : State) : State :=
  if spoolState s = spIdle ∨ spoolState s = spDone then
    (s.wr R.spl_STATE [] spArmed).brnF (fun b => { b with
      pos := Vector.replicate 16 0, left := Vector.replicate 16 0, last := none, armed := 0, done := false })
  else s

/-- SPOOL_ARM. -/
def execSpoolArm (w : World) (s : State) : Host.Outcome State Fault Refusal := .next (s.asWriter w 64 spoolArm)

/-- STOP written: IDLE from any state, the memory stays (R158). -/
def spoolStop (s : State) : State := s.wr R.spl_STATE [] spIdle

/-- SPOOL_STOP. -/
def execSpoolStop (w : World) (s : State) : Host.Outcome State Fault Refusal := .next (s.asWriter w 64 spoolStop)

/-- SWTRIG: triggers an armed Spool whatever KIND is (R159). -/
def execSwtrig (w : World) (s : State) : Host.Outcome State Fault Refusal := .next (s.asWriter w 64 spoolTrigger)

/-- Every enabled probe has recorded its samples. -/
def spoolAllStopped (s : State) : Bool :=
  (List.finRange 16).all (fun n => !s.rdB R.prb_EN [n.val] || s.brn.left[n] == 0)

/-- SPOOL_DONE (R158). -/
def execSpoolDone (s : State) : Host.Outcome State Fault Refusal :=
  if spoolState s = spTriggered ∧ spoolAllStopped s = true then .next (s.wr R.spl_STATE [] spDone) else .next s

end Sys2Proof.Machine
end

