-- ==== Sys2Proof/Machine/Burner.lean ====
section
/-! DEFINITION. Burner's arithmetic, coefficient banks, stage law, residuals and stage failure
(05_burner_control_engine.md, R122-R138, R150-R154, R162-R164). -/

namespace Sys2Proof.Machine

open Sys2Proof

/-! ## Arithmetic (R122-R125) -/

/-- A value and how many saturations formed it (R123). -/
structure SatV where
  v : Int
  n : Nat
  deriving DecidableEq, Repr

/-- Saturate to `-m`..`m'`, counting. -/
def satTo (lo hi v : Int) (n : Nat) : SatV := if v < lo then ⟨lo, n + 1⟩ else if hi < v then ⟨hi, n + 1⟩ else ⟨v, n⟩

/-- Saturate to Q2.29's range, -4.0 to 4.0 - 2^-29 (R123). -/
def satQ (v : Int) (n : Nat) : SatV := satTo (-(2 ^ 31)) (2 ^ 31 - 1) v n

/-- Add a product to a 64-bit accumulator, which saturates at ±(2^63 - 1) (R122). -/
def acc64 (a : SatV) (p : Int) : SatV := satTo (-(2 ^ 63 - 1)) (2 ^ 63 - 1) (a.v + p) a.n

/-- A sum of products returned to Q2.29: rounded half up by 31 - E bits and saturated (R123). -/
def toQ (e : Nat) (a : SatV) : SatV := satQ ((a.v + 2 ^ (30 - e)) / 2 ^ (31 - e)) a.n

/-- A sum of products in its own accumulator, in Q2.29 (R122, R123). -/
def dotQ (e : Nat) (l : List (Int × Int)) : SatV := toQ e (l.foldl (fun a p => acc64 a (p.1 * p.2)) ⟨0, 0⟩)

/-- Q2.29 values added exactly and saturated (R123). -/
def addQ (a b : SatV) : SatV := satQ (a.v + b.v) (a.n + b.n)

/-- Q2.29 values subtracted exactly and saturated. -/
def subQ (a b : SatV) : SatV := satQ (a.v - b.v) (a.n + b.n)

/-- The gain 10 FS / (BASE 2^23) as mantissa and exponent, m 2^-s with bit 31 of m set, rounded half up (R124). -/
def gainOf (fs base : Nat) : Nat × Nat :=
  let num := 10 * fs
  let den := base * 2 ^ 23
  if num = 0 ∨ den = 0 then (0, 31)
  else
    let s0 := 31 + den.log2 - num.log2
    let s := if num * 2 ^ s0 < den * 2 ^ 31 then s0 + 1 else s0
    let m := divRound (num * 2 ^ s) den
    if m = 2 ^ 32 then (2 ^ 31, s - 1) else (m, s)

/-- A measurement in Q2.29 (R124). -/
def convY (y : Int) (g : Nat × Nat) : SatV :=
  let p := y * g.1
  if g.2 ≤ 29 then satQ (p * 2 ^ (29 - g.2)) 0 else satQ ((p + 2 ^ (g.2 - 30)) / 2 ^ (g.2 - 29)) 0

/-- A command as REF_A or REF_B: rounded to Q2.21 (R98, R125). A command within 2^-22 of 4.0 rounds to 4.0, which the field
cannot hold and for which no saturation is named: it wraps to -4.0 (DESIGN CHOICE, log entry 193). -/
def refOf (u : Int) : Nat := trunc 24 ((u + 2 ^ 7) / 2 ^ 8)

/-! ## Coefficient banks (R133-R138) -/

/-- The word at byte offset `o` of bank `b` (R133). -/
def bankW (s : State) (b o : Nat) : Nat := sget 0 s.brn.bankMem (192 * b + o / 4)

/-- The word at an offset, signed. -/
def bankI (s : State) (b o : Nat) : Int := sext 32 (bankW s b o)

/-- State of a bank. -/
def bankState (s : State) (b : Nat) : Nat := s.brn.bankSt.toList.getD b 0

/-- NX, NY, NU of a bank (DIM). -/
def bankNX (s : State) (b : Nat) : Nat := bits (bankW s b 0) 0 4
def bankNY (s : State) (b : Nat) : Nat := bits (bankW s b 0) 4 4
def bankNU (s : State) (b : Nat) : Nat := bits (bankW s b 0) 8 2

/-- E of matrix `k`: A, B, C, L, K, Kr, notch (EXP). -/
def bankE (s : State) (b k : Nat) : Nat := bits (bankW s b 4) (4 * k) 4

/-- A notch is enabled (NCFG). -/
def bankN (s : State) (b q : Nat) : Bool := bitB (bankW s b 0x38) q

/-- The CRC of a bank matches: CRC-32C over the words at 0x000-0x2F8 (R133). -/
def bankCrcOk (s : State) (b : Nat) : Bool :=
  crc32c ((List.range 191).flatMap (fun k => leBytes 4 (bankW s b (4 * k)))) == bankW s b 0x2FC

/-- Coefficient `k` of notch `q`: b0, b1, b2, a1, a2. -/
def notchC (s : State) (b q k : Nat) : Int := bankI s b (0x2C8 + 20 * q + 4 * k)

/-- |a2| < 1 and |a1| < 1 + a2 (R135). -/
def notchOk (s : State) (b q : Nat) : Bool :=
  let one : Int := 2 ^ (31 - bankE s b 6)
  decide ((notchC s b q 4).natAbs < one) && decide ((notchC s b q 3).natAbs < one + notchC s b q 4)

/-- The load check of a bank (R135). -/
def bankLoads (s : State) (b : Nat) : Bool :=
  bankCrcOk s b && decide (1 ≤ bankNX s b ∧ bankNX s b ≤ 8) && decide (1 ≤ bankNY s b ∧ bankNY s b ≤ 4) &&
    decide (1 ≤ bankNU s b ∧ bankNU s b ≤ 2) &&
    (List.range 7).all (fun k => decide (2 ≤ bankE s b k ∧ bankE s b k ≤ 9)) &&
    (List.range (bankNU s b)).all (fun q => decide (bankI s b (0x18 + 8 * q) < bankI s b (0x1C + 8 * q))) &&
    (List.range (bankNY s b)).all (fun j => bankW s b (8 + 4 * j) != 0) &&
    (List.range 2).all (fun q => !bankN s b q || notchOk s b q)

/-- The page a bank lies in. -/
def bankPage (b : Nat) : Nat := 97 + b / 4

/-- A bank is locked: in use by a stage that is not failed, or named by a pending commit (R136). A stage whose bank is not
VALID counts as failed, as it is from reset on (R138). -/
def bankLocked (s : State) (b : Nat) : Bool :=
  (List.range 128).any (fun i =>
    (s.rd R.stg_BANK_INUSE [i] == b && !s.rdB R.stg_FAILED [i] && bankState s b == 1) ||
      (s.rdB R.stgA_A_PEND [i] && s.regs.getShadow R.stg_BANK [i] == b))

/-- A bank's state set. -/
def setBank (b : Fin 16) (v : Nat) (s : State) : State := s.brnF (fun n => { n with bankSt := n.bankSt.set b v })

/-- The bits of bank word `k` that are not reserved (R10, R133). -/
def bankMask (k : Nat) : Nat :=
  if k = 0 then 0x3FF
  else if k = 1 then 0x0FFFFFFF
  else if k = 14 then 3
  else if k = 15 ∨ (188 ≤ k ∧ k ≤ 190) then 0
  else 0xFFFFFFFF

/-- A bank word written: ignored on a locked bank, else stored and the bank EMPTY (R135, R136). -/
def bankWrite (b : Fin 16) (k v : Nat) (s : State) : State :=
  if bankLocked s b.val then s.setErr (bankPage b.val) 0x0102
  else setBank b 0 (s.brnF (fun n => { n with bankMem := sput 0 n.bankMem (192 * b.val + k) (v &&& bankMask k) }))

/-- BANK_WRITE. -/
def execBankWrite (w : World) (b : Fin 16) (k : Fin 192) (v : Word) (s : State) : Host.Outcome State Fault Refusal :=
  .next (s.asWriter w (bankPage b.val) (bankWrite b k.val v.toNat))

/-- BANK_CHECK written: the load check of each bank that is not locked starts (R135, R136). -/
def bankCheck (v : Nat) (s : State) : State :=
  foldS (List.finRange 16) (fun s b => if bitB v b.val && !bankLocked s b.val then setBank b 3 s else s) s

/-- BANK_CHECK. -/
def execBankCheck (w : World) (v : Word) (s : State) : Host.Outcome State Fault Refusal :=
  .next (s.asWriter w 64 (bankCheck v.toNat))

/-- BANK_DONE: a load check ends, VALID or INVALID (R135). A bank that was written while CHECKING is EMPTY, and its check ends
without BANK_DONE (DESIGN CHOICE, log entry 211). -/
def execBankDone (b : Fin 16) (s : State) : Host.Outcome State Fault Refusal :=
  if bankState s b.val = 3 then
    if bankLoads s b.val then .next ((setBank b 1 s).raise 64 0)
    else .next ((((setBank b 2 s).setErr (bankPage b.val) 0x0100).raise 64 0).raise 64 1)
  else .next s

/-- The bank in use of a stage. -/
def bankOf (s : State) (i : Stage) : Nat := s.rd R.stg_BANK_INUSE [i.val]

/-- The bank in use is VALID. -/
def bankOk (s : State) (i : Stage) : Bool := bankState s (bankOf s i) == 1

/-! ## What the driver reports -/

/-- Mode, route and gate permit in force (R97, INFORCE). -/
def modeForce (s : State) (i : Stage) : Nat := bits (s.rd R.line_INFORCE [i.val]) 4 4
def routeForce (s : State) (i : Stage) : Nat := bits (s.rd R.line_INFORCE [i.val]) 1 3
def gpForce (s : State) (i : Stage) : Bool := bitB (s.rd R.line_INFORCE [i.val]) 0

/-- The port of a stage's route in force; none for ROUTE 4 (R101, R172, R180). -/
def portOf (s : State) (i : Stage) : Option Port :=
  let r := routeForce s i
  if h : r < 4 then some ⟨4 * (i.val / 16) + r, by have := i.isLt; omega⟩ else none

/-- The line of a stage is ATTACHED. -/
def attachedL (s : State) (i : Stage) : Bool := lstate s i == lsAttached

/-- Stages of a port's group. -/
def groupOf (p : Port) : List Stage :=
  (List.finRange 16).map (fun j => ⟨16 * (p.val / 4) + j.val, by have := p.isLt; have := j.isLt; omega⟩)

/-- Attached stages whose route in force is a port. -/
def routed (s : State) (p : Port) : List Stage :=
  (groupOf p).filter (fun i => attachedL s i && portOf s i == some p)

/-- Output current of a stage, mA, from its last good sample (R97; log entry 11). -/
def y0mA (s : State) (i : Stage) : Int := physical (s.rdI R.line_Y [i.val, 0]) (s.rd R.line_FS [i.val, 0])

/-! ## Failure (R150-R153) -/

/-- BRN page of a stage. -/
def stagePage (i : Stage) : Nat := 65 + i.val / 4

/-- An event of a stage: bit 4i + n of its page (R164). -/
def stageIrq (i : Stage) (n : Nat) (s : State) : State := s.raise (stagePage i) (4 * (i.val % 4) + n)

/-- Mark a stage failed with a cause (R152, R153): the period is recorded, IRQ FAILED, Spool triggers 3 and 6. -/
def markFailed (i : Stage) (cause : Nat) (s : State) : State :=
  let s := (s.wr R.stg_FAILED [i.val] 1).wr R.stg_CAUSE [i.val] cause
  let s := (s.wr R.stg_FAIL_CYCLE [i.val] s.spar.cycle).wr R.stg_FAIL_PERIOD [i.val] s.spar.period
  spoolKind 6 0 (spoolKind 3 i.val (stageIrq i 0 s))

/-- The cause of a failure by residuals (R152). -/
def failCause (s : State) (i : Stage) : Nat :=
  if 3 ≤ (s.stg i).resCnt[0] then (if 3 ≤ (s.stg i).xchkRun then 2 else 1) else 3

/-- A measurement of a stage has 3 consecutive flagged periods. -/
def resFull (s : State) (i : Stage) : Bool := (s.stg i).resCnt.toList.any (fun n => decide (3 ≤ n))

/-- STAGE_FAILED: a measurement reaches 3 consecutive flagged periods (R152). -/
def execStageFailed (i : Stage) (s : State) : Host.Outcome State Fault Refusal :=
  if resFull s i && !s.rdB R.stg_FAILED [i.val] then .next (markFailed i (failCause s i) s) else .next s

/-- Prediction of a stage set to zero. -/
def zeroXhat (i : Stage) (s : State) : State := foldS (List.range 8) (fun s k => s.wr R.stg_XHAT [i.val, k] 0) s

/-- FAIL_CLR written: only with OFF in force and a VALID bank (R153). -/
def failClr (i : Stage) (s : State) : State :=
  if modeForce s i = 0 ∧ bankOk s i = true then
    let s := ((s.wr R.stg_FAILED [i.val] 0).wr R.stg_CAUSE [i.val] 0).wr R.stg_RES_RUN [i.val] 0
    (zeroXhat i s).stgF i (fun g => { g with resCnt := Vector.replicate 4 0, xchkRun := 0 })
  else s

/-- FAIL_SET: cause FW (R153). -/
def execFailSet (w : World) (i : Stage) (s : State) : Host.Outcome State Fault Refusal :=
  .next (s.asWriter w (stagePage i) (markFailed i 4))

/-- FAIL_CLR. -/
def execFailClr (w : World) (i : Stage) (s : State) : Host.Outcome State Fault Refusal :=
  .next (s.asWriter w (stagePage i) (failClr i))

/-- SAT_CLR. -/
def execSatClr (w : World) (i : Stage) (s : State) : Host.Outcome State Fault Refusal :=
  .next (s.asWriter w (stagePage i) (fun s => s.wr R.stg_SAT_CNT [i.val] 0))

/-- LOAD_CLR written: MAX_NS and OVERRUN clear (R163). -/
def loadClr (s : State) : State := (s.wr R.brn_MAX_NS [] 0).wr R.brn_OVERRUN [] 0

/-- LOAD_CLR. -/
def execLoadClr (w : World) (s : State) : Host.Outcome State Fault Refusal := .next (s.asWriter w 64 loadClr)

/-- A stage whose bank in use is not VALID is marked failed, NOBANK (R138). -/
def noBank (i : Stage) (s : State) : State :=
  if bankOk s i || s.rdB R.stg_FAILED [i.val] then s else (s.wr R.stg_FAILED [i.val] 1).wr R.stg_CAUSE [i.val] 5

/-- A committed BANK takes effect or is refused (R137). -/
def bankSwap (i : Stage) (s : State) : State :=
  let b := s.rd R.stg_BANK [i.val]
  let o := bankOf s i
  if b = o then s
  else if bankState s b ≠ 1 then (stageIrq i 2 s).setErr (stagePage i) 0x0103
  else
    let same := decide (bankNX s b = bankNX s o) && decide (bankNU s b = bankNU s o)
    if !same && modeSwitches (modeForce s i) then (stageIrq i 2 s).setErr (stagePage i) 0x0101
    else
      let s := s.stgF i (fun g => { g with
        restart := g.restart || decide (bankN s b 0 ≠ bankN s o 0) || decide (bankN s b 1 ≠ bankN s o 1) })
      let s := s.wr R.stg_BANK_INUSE [i.val] b
      if same then s else zeroXhat i s

/-! ## The stage law (R126-R132) -/

/-- One notch (R134): output and new history; on a restart the filter is in steady state (R128). -/
def notchStep (s : State) (b q : Nat) (restart : Bool) (h : NotchS) (x : Int) : SatV × NotchS :=
  let h := if restart then ⟨x, x, x, x⟩ else h
  let w := dotQ (bankE s b 6) [(notchC s b q 0, x), (notchC s b q 1, h.x1), (notchC s b q 2, h.x2),
    (-notchC s b q 3, h.w1), (-notchC s b q 4, h.w2)]
  (w, ⟨x, h.x1, w.v, h.w1⟩)

/-- The result of a stage law. -/
structure LawR where
  y : List SatV
  e : List SatV
  xhat : List SatV
  u : List SatV
  notchA : NotchS
  notchB : NotchS
  deriving DecidableEq, Repr

/-- Σ_j M(i,j) v_j of a bank's matrix with J columns at `base`. -/
def mulRow (s : State) (b base cols e i : Nat) (v : List Int) : SatV :=
  dotQ e ((List.range v.length).map (fun j => (bankI s b (base + 4 * (i * cols + j)), v.getD j 0)))

/-- One command: Kr r - K x̂, the notch, the clamp (R126, R128). -/
def lawCmd (s : State) (b q : Nat) (r : Int) (xhat : List Int) (restart : Bool) (h : NotchS) : SatV × NotchS :=
  let v := subQ (dotQ (bankE s b 5) [(bankI s b (0x2C0 + 4 * q), r)]) (mulRow s b 0x280 8 (bankE s b 4) q xhat)
  let w := if bankN s b q then notchStep s b q restart h v.v else (⟨v.v, 0⟩, h)
  (⟨clampI (bankI s b (0x18 + 8 * q)) (bankI s b (0x1C + 8 * q)) w.1.v, v.n + w.1.n⟩, w.2)

/-- The stage law of R126 for bank `b`: measurements (none where one is missing), prediction, command in force,
reference. -/
def law (s : State) (b : Nat) (meas : List (Option SatV)) (xhat u : List Int) (r : Int) (restart : Bool)
    (hA hB : NotchS) : LawR :=
  let nx := bankNX s b
  let ny := bankNY s b
  let nu := bankNU s b
  let xh := (List.range nx).map (fun i => xhat.getD i 0)
  let pred := (List.range ny).map (fun j => mulRow s b 0x180 8 (bankE s b 2) j xh)
  let y := (List.range ny).map (fun j => match meas.getD j none with | some v => v | none => pred.getD j ⟨0, 0⟩)
  let e := (List.range ny).map (fun j =>
    match meas.getD j none with
    | some v => subQ v (pred.getD j ⟨0, 0⟩)
    | none => ⟨0, (pred.getD j ⟨0, 0⟩).n⟩)
  let ev := e.map (·.v)
  let xc := (List.range nx).map (fun i => addQ ⟨xh.getD i 0, 0⟩ (mulRow s b 0x200 4 (bankE s b 3) i ev))
  let xcv := xc.map (·.v)
  let uv := (List.range nu).map (fun q => u.getD q 0)
  let xn := (List.range nx).map (fun i =>
    addQ (mulRow s b 0x40 8 (bankE s b 0) i xcv) (mulRow s b 0x140 2 (bankE s b 1) i uv))
  let xnv := xn.map (·.v)
  let a := lawCmd s b 0 r xnv restart hA
  let c := if nu = 2 then lawCmd s b 1 r xnv restart hB else (⟨0, 0⟩, hB)
  { y := y, e := e, xhat := (List.range nx).map (fun i => ⟨xnv.getD i 0, (xn.getD i ⟨0, 0⟩).n + (xc.getD i ⟨0, 0⟩).n⟩),
    u := [a.1, c.1], notchA := a.2, notchB := c.2 }

/-- Saturations of a law, each counted once. -/
def LawR.sats (l : LawR) : Nat := (l.e ++ l.xhat ++ l.u).foldl (fun n v => n + v.n) 0

/-- Measurements of a stage in Q2.29; none where one is missing (R115, R124). -/
def measOf (s : State) (i : Stage) : List (Option SatV) :=
  (List.range 4).map (fun j =>
    if bitB (s.line i).yOk j then
      some (convY (s.rdI R.line_Y [i.val, j]) (gainOf (s.rd R.line_FS [i.val, j]) (bankW s (bankOf s i) (8 + 4 * j))))
    else none)

/-- Checks are suspended, and the prediction uses u = 0: no switching mode in force, or GP in force 0 (R127). -/
def suspended (s : State) (i : Stage) : Bool := !modeSwitches (modeForce s i) || !gpForce s i

/-- The command applied at the start of this period (R127, R154). -/
def appliedU (s : State) (i : Stage) : Int × Int :=
  if suspended s i then (0, 0) else if s.active then (s.stg i).echoed else (s.stg i).heard

/-- The last command whose SEQ the driver has echoed (R127). -/
def takeEcho (i : Stage) (s : State) : State :=
  if (s.line i).upGood then
    match (s.stg i).sent.find? (fun c => c.1 == s.rd R.line_SEQ_ECHO [i.val]) with
    | some c => s.stgF i (fun g => { g with echoed := c.2 })
    | none => s
  else s

/-- SEQ of the command computed in this period: 800 N + k + 1 (R100). -/
def nextSeq (s : State) : Nat := (800 * s.spar.cycle + s.spar.period + 1) % 256

/-- The reference in Q2.29: mA over BASE_Y0, rounded half up (R129, R622). -/
def perUnit (ma : Int) (base : Nat) : Int :=
  if base = 0 then 0 else (2 * ma * 2 ^ 29 + base) / (2 * base)

/-- Cross-check of a routed stage (R151). -/
def xchkOf (s : State) (i : Stage) : Option Int :=
  match portOf s i with
  | some p =>
    if s.rdB R.stg_XCHK_EN [i.val] && s.rdB R.mt_FAST_VALID [p.val] then
      let others := ((routed s p).filter (· ≠ i)).foldl (fun a j => a + y0mA s j) 0
      some (y0mA s i - (s.rdI R.mt_I_FAST [p.val] - others))
    else none
  | none => none

/-- A cross-check value lies beyond SENSE_TH (R151). -/
def xchkBad (s : State) (i : Stage) : Bool :=
  match xchkOf s i with | some v => decide (s.rdI R.stg_SENSE_TH [i.val] < v.natAbs) | none => false

/-- XCHK and XCHK_BAD of a routed stage (R151). -/
def putXchk (i : Stage) (s : State) : State :=
  let bad := xchkBad s i
  match xchkOf s i with
  | some v => (s.wrI R.stg_XCHK [i.val] v).wrB R.stg_XCHK_BAD [i.val] bad
  | none => s.wr R.stg_XCHK_BAD [i.val] 0

/-- Residual flags and cross-check of a period (R150, R151). -/
def residuals (i : Stage) (meas : List (Option SatV)) (e : List SatV) (s : State) : State :=
  let b := bankOf s i
  let ny := bankNY s b
  let live := s.rdB R.stg_RES_EN [i.val] && !suspended s i
  let flag := fun (j : Nat) => live && decide (j < ny) && (meas.getD j none).isSome &&
    bankW s b (0x28 + 4 * j) != 0 && decide (bankW s b (0x28 + 4 * j) < (e.getD j ⟨0, 0⟩).v.natAbs)
  let subst := fun (j : Nat) => decide (j < ny) && (meas.getD j none).isNone
  let s := s.stgF i (fun g => { g with
    resCnt := Vector.ofFn (fun j : Fin 4 =>
      if flag j.val then min 3 (g.resCnt[j] + 1) else if subst j.val then g.resCnt[j] else 0) })
  let bad := xchkBad s i
  let s := s.stgF i (fun g => { g with
    xchkRun := if flag 0 then (if bad then g.xchkRun + 1 else 0) else if subst 0 then g.xchkRun else 0 })
  let flags := (List.range 4).foldl (fun a j => a + (if flag j then 2 ^ j else 0)) 0
  putXchk i (((s.wr R.stg_RES_FLAG [i.val] flags).wrB R.stg_SUBST [i.val] ((List.range 4).any subst)).wr R.stg_RES_RUN
    [i.val] ((s.stg i).resCnt.toList.foldl max 0))

/-- SAT_CNT advances by each saturation, IRQ SAT (R123, R164). -/
def countSat (i : Stage) (n : Nat) (s : State) : State :=
  if n = 0 then s else stageIrq i 1 (s.wr R.stg_SAT_CNT [i.val] (min 255 (s.rd R.stg_SAT_CNT [i.val] + n)))

/-- One stage's law in a period (R126-R129). -/
def stageLaw (i : Stage) (s : State) : State :=
  let s := takeEcho i s
  let uOld := (s.rdI R.stg_U_A [i.val], s.rdI R.stg_U_B [i.val])
  let b := bankOf s i
  let g := s.stg i
  let meas := measOf s i
  let u := appliedU s i
  let r := satQ (perUnit g.rMa (bankW s b 8)) 0
  let sw := modeSwitches (modeForce s i)
  let restart := g.restart || (sw && !g.wasSw)
  let l := law s b meas ((List.range 8).map (fun k => s.rdI R.stg_XHAT [i.val, k])) [u.1, u.2] r.v restart g.notchA g.notchB
  let s := foldS (List.range 8) (fun s k => s.wrI R.stg_XHAT [i.val, k] ((l.xhat.getD k ⟨0, 0⟩).v)) s
  let s := foldS (List.range 4) (fun s k => s.wrI R.stg_INNOV [i.val, k] ((l.e.getD k ⟨0, 0⟩).v)) s
  let ua := (l.u.getD 0 ⟨0, 0⟩).v
  let ub := (l.u.getD 1 ⟨0, 0⟩).v
  let s := ((s.wrI R.stg_R [i.val] r.v).wrI R.stg_U_A [i.val] ua).wrI R.stg_U_B [i.val] ub
  let s := s.wrB R.stg_SWITCHING [i.val] (sw && gpForce s i)
  let s := s.stgF i (fun g => { g with
    y := Vector.ofFn (fun j : Fin 4 => (l.y.getD j.val ⟨0, 0⟩).v), notchA := l.notchA, notchB := l.notchB
    restart := false, wasSw := sw, ready := true, uLast := uOld })
  countSat i (l.sats + r.n) (residuals i meas l.e s)

/-- What a period without a law shows: nothing substituted or flagged in it, so that the counts of flagged periods end (R150),
the cross-check of a routed stage (R151), SWITCHING as the driver reports (R164). The driver of a line that is not ATTACHED
reports nothing, and SWITCHING reads 0 there (DESIGN CHOICE, log entry 212). -/
def noLawShow (i : Stage) (s : State) : State :=
  let s := s.stgF i (fun g => { g with resCnt := Vector.replicate 4 0, xchkRun := 0 })
  let s := ((s.wr R.stg_SUBST [i.val] 0).wr R.stg_RES_FLAG [i.val] 0).wr R.stg_RES_RUN [i.val] 0
  let s := if attachedL s i then putXchk i s else s.wr R.stg_XCHK_BAD [i.val] 0
  s.wrB R.stg_SWITCHING [i.val] (attachedL s i && modeSwitches (modeForce s i) && gpForce s i)

/-- A stage without a law: x̂ and commands at zero where its bank is not VALID (R136, R138). -/
def noLaw (i : Stage) (s : State) : State :=
  let s := noLawShow i (s.stgF i (fun g => { g with ready := attachedL s i }))
  if bankOk s i then s
  else noBank i (((zeroXhat i s).wr R.stg_U_A [i.val] 0).wr R.stg_U_B [i.val] 0)

/-- MAC of a stage's law (R130). -/
def stageMac (s : State) (i : Stage) : Nat :=
  let b := bankOf s i
  let x := bankNX s b
  let y := bankNY s b
  let u := bankNU s b
  2 * x * y + x * x + 2 * x * u + u + 5 * (b2n (bankN s b 0) + b2n (bankN s b 1))

/-- A stage's law runs: ATTACHED with a VALID bank (R126, R136). -/
def lawRuns (s : State) (i : Stage) : Bool := attachedL s i && bankOk s i

/-- Bound on the computation time of a period, ns (R130). -/
def lawBound (s : State) : Nat :=
  let m := (List.finRange 128).foldl (fun a i => if lawRuns s i then a + stageMac s i else a) 0
  divCeil (5 * divCeil m 8) 2 + (if s.spar.period % 8 = 0 then 400 else 0)

/-- Time from the close of the uplink window to the slot's deadline, ns (R103, R131). -/
def lawWindow (s : State) : Nat :=
  s.rd R.spar_PERIOD_PS [] / 1000 - (if s.slotY then 7960 else 10400)

/-- The computation time of a period, ns: a function of the stages computed, their banks' dimensions and whether the period
holds a tick, within the bound (R130; its value is not stated, log entry 15). -/
def lawTime (s : State) : Nat :=
  let l := ((List.finRange 128).filter (fun i => lawRuns s i)).map (fun i =>
    (i.val, bankW s (bankOf s i) 0 % 1024 + 1024 * (bankW s (bankOf s i) 0x38 % 4)))
  Config.lawTime l (s.spar.period % 8 == 0) % (lawBound s + 1)

/-- Burner's stage laws of a period, with the time they took (R126, R130). A command not ready in time is not sent
(R131). -/
def stageLaws (s : State) : State :=
  let t := lawTime s
  let late := decide (lawWindow s < t)
  let s := (s.wr R.brn_LAST_NS [] t).wr R.brn_MAX_NS [] (max t (s.rd R.brn_MAX_NS []))
  let s := foldS (List.finRange 128) (fun s i => if lawRuns s i then stageLaw i s else noLaw i s) s
  if late then
    foldS (List.finRange 128) (fun s i =>
      if lawRuns s i then ((s.stgF i (fun g => { g with ready := false })).satInc R.brn_OVERRUN []).setErr 64 0x0104
      else s) s
  else s

end Sys2Proof.Machine
end

