-- ==== Sys2Proof/Machine/Ring.lean ====
section
/-! DEFINITION. The egress of the ring ports: strict priority, and a frame on the wire is completed (R24). -/

namespace Sys2Proof.Machine

open Sys2Proof

/-- The payload of an Ethernet frame, padded to the Ethernet minimum (R89, R443; log entry 180). -/
def ethPad (l : List Byte) : List Byte := l ++ List.replicate (46 - l.length) 0

/-- Bytes of a frame with its addresses, 802.1Q tag, EtherType and check sequence; an image chunk has 1,024 bytes of its
own, a response datagram its IPv6 and UDP headers: 1,522 at most (R24, R47, R469). -/
def RingFrame.size (f : RingFrame) : Nat :=
  22 + f.payload.length + (if f.chunk.isSome then 1024 else 0) + (if f.etherType = 0x86DD then 48 else 0)

/-- 5 ns clocks a frame takes at 1000 Mbit/s (R24). -/
def RingFrame.clocks (f : RingFrame) : Nat := divCeil (8 * f.size) 5

/-- The highest priority that waits. -/
def EgressS.top (e : EgressS) : Nat := e.queue.foldl (fun m f => max m f.prio) 0

/-- The next frame goes on an idle wire: the oldest of the highest priority (R24). -/
def EgressS.start (e : EgressS) : EgressS :=
  match e.wire with
  | some _ => e
  | none =>
    match e.queue.find? (fun f => f.prio == e.top) with
    | none => e
    | some f => { e with wire := some (f, f.clocks), queue := e.queue.erase f }

/-- A frame joins the egress of a ring port. -/
def EgressS.put (f : RingFrame) (e : EgressS) : EgressS := EgressS.start { e with queue := e.queue ++ [f] }

/-- `n` clocks pass: the frame on the wire is completed, then the next one starts; at most `k` frames. -/
def EgressS.run : Nat → Nat → EgressS → EgressS
  | 0, _, e => e
  | k + 1, n, e =>
    match e.wire with
    | none => e
    | some (f, c) =>
      if c ≤ n then EgressS.run k (n - c) (EgressS.start { e with wire := none, done := e.done ++ [f] })
      else { e with wire := some (f, c - n) }

/-- A frame is handed to a ring port: 0 is A, 1 is B. -/
def ringPut (r : Fin 2) (f : RingFrame) (s : State) : State := { s with ring := vupd s.ring r (EgressS.put f) }

/-- A control period of `n` clocks has passed at both ring ports. -/
def ringPass (n : Nat) (s : State) : State :=
  { s with ring := s.ring.map (fun e => EgressS.run (e.queue.length + 1) n { e with done := [] }) }

end Sys2Proof.Machine
end

