-- ==== Sys2Proof/Machine/Sequence.lean ====
section
/-! DEFINITION. The positive-sequence fundamental of three phases (R57), in fixed point: phasors as pairs of a real and an
imaginary part in units of 10^-12 mV (log entry 178). -/

namespace Sys2Proof.Machine

open Sys2Proof

/-- Units per turn: 6 for one angle unit, so that a third of a turn is whole. -/
def turnUnits : Nat := 393216

/-- 10^12, the scale of sines and cosines. -/
def trigOne : Int := 1000000000000

/-- 1 - x²/d1 (1 - x²/d2 (1 - ...)): a Taylor series in the scale `trigOne`, for the square `x2` of its argument. -/
def trigSeries (x2 : Int) : List Int → Int
  | [] => trigOne
  | d :: t => trigOne - rhu (x2 * trigSeries x2 t) (d * trigOne).toNat

/-- Sine and cosine of `r` units within the first quarter of a turn, in 10^-12. -/
def trigQuarter (r : Nat) : Int × Int :=
  let x : Int := rhu (Config.twoPi * r) turnUnits
  let x2 := rhu (x * x) trigOne.toNat
  (rhu (x * trigSeries x2 [6, 20, 42, 72, 110, 156, 210, 272, 342]) trigOne.toNat,
    trigSeries x2 [2, 12, 30, 56, 90, 132, 182, 240, 306])

/-- Cosine and sine of `k` units, in 10^-12. -/
def unitAt (k : Nat) : Int × Int :=
  let q := turnUnits / 4
  let t := trigQuarter (k % q)
  match k / q % 4 with
  | 0 => (t.2, t.1)
  | 1 => (-t.1, t.2)
  | 2 => (-t.2, -t.1)
  | _ => (t.1, -t.2)

/-- A phasor of `amp` mV at `ang` angle units, turned on by `shift` units. -/
def vecOf (amp ang shift : Nat) : Int × Int :=
  let u := unitAt (6 * ang + shift)
  (amp * u.1, amp * u.2)

/-- The largest root below 2^`k` whose square is at most `n`. -/
def rootBits (k n : Nat) : Nat :=
  (List.range k).foldl (fun r i => let t := r + 2 ^ (k - 1 - i); if t * t ≤ n then t else r) 0

/-- Amplitude of a sum of three phasors, over 3, to the nearest mV. -/
def vecAmp (v : Int × Int) : Nat :=
  divRound (rootBits 90 (v.1 * v.1 + v.2 * v.2).toNat) (3 * trigOne.toNat)

/-- Angle within the first quarter of a turn of a phasor with parts x > 0, y ≥ 0, in half angle units: the largest whose
direction does not pass it. -/
def quarterAng (x y : Int) : Nat :=
  (List.range 15).foldl (fun r i =>
    let t := r + 2 ^ (14 - i)
    let u := unitAt (3 * t)
    if t ≤ 32768 ∧ x * u.2 ≤ y * u.1 then t else r) 0

/-- Angle of a phasor to the nearest angle unit; that of a zero phasor is no value the spec states (log entry 178). -/
def vecAng (v : Int × Int) : Nat :=
  let half := fun (n : Nat) (x y : Int) => ((quarterAng x y + 1) / 2 + 16384 * n) % 65536
  if v.1 = 0 ∧ v.2 = 0 then Config.zeroAngle % 65536
  else if 0 < v.1 ∧ 0 ≤ v.2 then half 0 v.1 v.2
  else if v.1 ≤ 0 ∧ 0 < v.2 then half 1 v.2 (-v.1)
  else if v.1 < 0 ∧ v.2 ≤ 0 then half 2 (-v.1) (-v.2)
  else half 3 (-v.2) v.1

/-- The three phases turned so that a positive sequence L1-L2-L3 adds up in the direction of L1: L2 on by a third of a
turn, L3 by two (R57). -/
def seqParts (p1 p2 p3 : Phasor) : List (Int × Int) :=
  [vecOf p1.amp p1.ang 0, vecOf p2.amp p2.ang (turnUnits / 3), vecOf p3.amp p3.ang (2 * (turnUnits / 3))]

/-- Sum of phasors. -/
def vecSum (l : List (Int × Int)) : Int × Int := l.foldl (fun a v => (a.1 + v.1, a.2 + v.2)) (0, 0)

/-- The positive-sequence fundamental of L1, L2 and L3 (R57). -/
def posSeq (p1 p2 p3 : Phasor) : Phasor :=
  let v := vecSum (seqParts p1 p2 p3)
  ⟨vecAmp v, vecAng v⟩

/-- A quantity of the sum as each phase's share in the sum weighs it; of a zero sum it is no value the spec states (log
entries 178 and 209). -/
def seqMean (parts : List (Int × Int)) (vals : List Int) (none_ : Int) : Int :=
  let v := vecSum parts
  let den := (v.1 * v.1 + v.2 * v.2).toNat
  if den = 0 then none_
  else rhu ((parts.zip vals).foldl (fun a pv => a + pv.2 * (pv.1.1 * v.1 + pv.1.2 * v.2)) 0) den

/-- The positive-sequence fundamental over a whole reference cycle: amplitude and angle of the sum, frequency and rate of
change of frequency as the rate at which that sum turns (R57, R62; log entry 209). -/
def posSeqCycle (c1 c2 c3 : RefCycle) : RefCycle :=
  let parts := seqParts ⟨c1.amp, c1.ang⟩ ⟨c2.amp, c2.ang⟩ ⟨c3.amp, c3.ang⟩
  let v := vecSum parts
  ⟨vecAmp v, (seqMean parts [c1.freq, c2.freq, c3.freq] Config.zeroFreq).toNat,
    seqMean parts [c1.rocof, c2.rocof, c3.rocof] Config.zeroRocof, vecAng v⟩

end Sys2Proof.Machine
end

