-- ==== Sys2Proof/Machine/Spar.lean ====
section
/-! DEFINITION. Spar: the accumulator, the lock states, the loop filter, following a partner, wall time and the
event entries (03_spar_mains_time.md). What an event or a period start does to other blocks is in Time.lean. -/

namespace Sys2Proof.Machine

open Sys2Proof

/-- A change of Spar's own state. -/
def State.sparF (s : State) (f : SparS → SparS) : State := { s with spar := f s.spar }

/-- LOCK values (R61). -/
def lockOff : Nat := 0
def lockFree : Nat := 1
def lockQualify : Nat := 2
def lockLocked : Nat := 3
def lockHoldover : Nat := 4

/-- 10^12: frequencies of the accumulator are held in units of 10^-12 Hz (log entry 7). -/
def pico : Nat := 1000000000000

/-- Nominal frequency, 10^-12 Hz (R61). -/
def nominalFreq (s : State) : Nat := if s.rdB R.spar_NOMINAL [] then 60 * pico else 50 * pico

/-- Accumulator increment for a frequency: F * 2^48 / 200 MHz to the nearest unit (R58; log entry 7). -/
def incOf (f : Nat) : Nat := divRound (f * 2 ^ 48) (200000000 * pico)

/-- Length of a control period at a frequency, ps (R59; log entry 7). -/
def periodPs (f : Nat) : Nat := if f = 0 then 0 else divRound (pico * pico) (800 * f)

/-- Accumulator value at which period `k` begins, k = 1-800 (R58). -/
def boundary (k : Nat) : Nat := if k < 800 then divCeil (k * 2 ^ 32) 800 * 2 ^ 16 else 2 ^ 48

/-- Clocks from the accumulator's value to the start of period `k`. -/
def clocksTo (s : State) (k : Nat) : Nat := divCeil (boundary k - s.spar.acc) s.spar.inc

/-- Angle of the accumulator (R58). -/
def angleOf (acc : Nat) : Nat := acc / 2 ^ 32 % 65536

/-- The lowest and the highest accumulator frequency, 10^-12 Hz: 45.0 Hz - 2 % and 66.0 Hz + 2 %, the limits of a control
period's length across every state and every slew (R68). -/
def minFreq : Nat := 44100000000000
def maxFreq : Nat := 67320000000000

/-- A frequency within the limits of R68. -/
def boundFreq (f : Nat) : Nat := max minFreq (min maxFreq f)

/-- Set the accumulator frequency, within the limits of R68: the increment and PERIOD_PS follow (R59). -/
def setFreq (f : Nat) (s : State) : State :=
  let f := boundFreq f
  (s.sparF (fun p => { p with freq := f, inc := incOf f })).wr R.spar_PERIOD_PS [] (periodPs f)

/-- Wall time in ms (R76). -/
def wallMs (s : State) : Nat := s.spar.wall / 200000000

/-- Wall time runs on for `n` 5 ns clocks of the reference, at 1.001 or 0.999 of it while a slew lasts (R76, R77). -/
def passWall (n : Nat) (s : State) : State :=
  let r := s.spar.slewRem
  let d : Int := if r < 0 then (if -r < n then r else -(n : Int)) else (if r < n then r else (n : Int))
  { s with
    now := s.now + n
    spar := { s.spar with slewRem := r - d, wall := ((s.spar.wall : Int) + 1000 * n + d).toNat } }

/-- A control period of `n` 5 ns clocks passes (R58, R76). -/
def passClocks (n : Nat) (s : State) : State :=
  (passWall n s).sparF (fun p => { p with clocks := n, lens := (n :: p.lens).take 8 })

/-- Measured length of the last eight control periods, 5 ns clocks (R147, R621). -/
def lastEight (s : State) : Nat := s.spar.lens.foldl (· + ·) 0

/-- Nothing waits: while Spar runs, time passes with its control periods; while it does not, one 5 ns clock of the
reference passes, at the ring ports too (R24, R76; DESIGN CHOICE, log entry 10). -/
def sparIdle (s : State) : State := if s.sparRuns then s else ringPass 1 (passWall 1 s)

/-! ## Lock states -/

/-- LOCK. -/
def lockOf (s : State) : Nat := s.rd R.spar_LOCK []

/-- Partner time arrives: FOLLOW = 1 and the Tether is up (R71, R75). -/
def followsTether (s : State) : Bool := s.rdB R.spar_FOLLOW [] && !s.rdB R.teth_TDOWN []

/-- The partner's time steers: from the alignment on (R71, R73). -/
def partnerSteers (s : State) : Bool := followsTether s && s.rdB R.spar_ALIGNED []

/-- Enter LOCKED: IRQ_RAW.LOCK, and F_I starts at FREF, unless the partner steers, whose loop C0's lock states leave alone
(R61, R71, R621). -/
def enterLocked (s : State) : State :=
  let keep := partnerSteers s
  ((s.wr R.spar_LOCK [] lockLocked).sparF (fun p => { p with fInt := if keep then p.fInt else p.refFreq * 1000000 })).raise 4 0

/-- Enter HOLDOVER at a frequency in µHz: FREQ reads it, IRQ_RAW.HOLDOVER (R61, R64, R90). -/
def enterHoldover (f : Nat) (s : State) : State :=
  (((s.wr R.spar_LOCK [] lockHoldover).sparF (fun p => { p with hold := f, lowTicks := 0 })).wr R.spar_FREQ [] f).raise 4 1

/-- Enter QUALIFY from state `q` (R61). -/
def enterQualify (q : Nat) (s : State) : State :=
  (s.wr R.spar_LOCK [] lockQualify).sparF (fun p => { p with qualFrom := q, qualCount := 0, refCycles := 0, good := [] })

/-- A frequency in µHz lies in the range of R62. -/
def freqInRange (s : State) (f : Nat) : Bool :=
  if s.rdB R.spar_NOMINAL [] then decide (54000000 ≤ f) && decide (f ≤ 66000000)
  else decide (45000000 ≤ f) && decide (f ≤ 55000000)

/-- The seek criteria over one whole reference cycle (R62). -/
def seekOk (s : State) (amp freq : Nat) (rocof : Int) : Bool :=
  decide (s.rd R.spar_SEEK_PCT [] * s.rd R.spar_VNOM [] ≤ amp * 100) && freqInRange s freq &&
    decide (rocof.natAbs ≤ s.rd R.spar_ROCOF_MAX [])

/-- QUAL_CYCLES, at least 2 (R90). -/
def qualCycles (s : State) : Nat := max 2 (s.rd R.spar_QUAL_CYCLES [])

/-- A whole reference cycle that met the criteria, kept for R64. -/
def keepGood (f : Nat) (s : State) : State :=
  s.sparF (fun p => { p with good := ((f, p.refCycles) :: p.good).take 3 })

/-- The frequency last taken from the partner, µHz; where none has been, that of C0, and the nominal one before C0 has been
measured (R67, R72; log entry 7). -/
def lastPartner (s : State) : Nat :=
  if s.spar.partnerFreq ≠ 0 then s.spar.partnerFreq
  else if s.spar.refFreq ≠ 0 then s.spar.refFreq
  else nominalFreq s / 1000000

/-- FOLLOW = 1 with the Tether down (R75). -/
def followsOwn (s : State) : Bool := s.rdB R.spar_FOLLOW [] && s.rdB R.teth_TDOWN []

/-- Every port allocation and stack setpoint in force becomes zero, and with them the ports' ALLOC limits (R65, R217); a
module that is not active keeps those mirrored from its partner (R218). -/
def allocZero (s : State) : State :=
  if s.rdB R.teth_ACTIVE [] then
    foldS (List.range 2) (fun s k => s.wr R.bsk_PLAN [k] 0)
      (foldS (List.range 32) (fun s p => (s.wr R.bpt_ALLOC [p] 0).wr R.prt_LIM [p, 4] 0) s)
  else s

/-- What a judged reference cycle of the frequency f does to the lock state (R61, R62, R72); one that fails while Spar
follows with the Tether down leads into HOLDOVER from every state, at the frequency `held` (R75). -/
def judgeCycle (ok : Bool) (f held : Nat) (s : State) : State :=
  let lk := lockOf s
  if !ok && followsOwn s && decide (lk ≠ lockHoldover) then enterHoldover held s
  else if lk = lockFree ∨ lk = lockHoldover then (if ok then enterQualify lk s else s)
  else if lk = lockQualify then
    if ok then
      let s := (keepGood f s).sparF (fun p => { p with qualCount := p.qualCount + 1 })
      if qualCycles s ≤ s.spar.qualCount then enterLocked s else s
    else if s.spar.qualFrom = lockHoldover then enterHoldover s.spar.hold s
    else allocZero (s.wr R.spar_LOCK [] lockFree)
  else if lk = lockLocked then (if ok then keepGood f s else s)
  else s

/-- The reference over a whole cycle: L1's fundamental with PHASES = 1, else the positive sequence of L1-L3 (R57). -/
def refCycle (s : State) (l1 l2 l3 : RefCycle) : RefCycle :=
  if s.rdB R.spar_PHASES [] then l1 else posSeqCycle l1 l2 l3

/-- The reference at a sample: L1's fundamental with PHASES = 1, else the positive sequence of L1-L3 (R57). -/
def refSample (s : State) (m : TickRef) : Phasor :=
  if s.rdB R.spar_PHASES [] then m.l1 else posSeq m.l1 m.l2 m.l3

/-- A measured reference cycle is reported and judged (R62, R70). -/
def takeCycle (r : RefCycle) (s : State) : State :=
  let ok := seekOk s r.amp r.freq r.rocof
  let held := lastPartner s
  let s := s.sparF (fun p =>
    { p with refGood := ok, refFreq := r.freq, refRocof := r.rocof, refCycles := p.refCycles + 1 })
  let s := (s.wrI R.spar_ROCOF [] r.rocof).wr R.spar_VAMP [] r.amp
  let s := judgeCycle ok r.freq held s
  if lockOf s = lockHoldover then s else s.wr R.spar_FREQ [] r.freq

/-- REFERENCE_CYCLE: what L1, L2 and L3 of C0 gave over a whole reference cycle (R57, R62). -/
def execReferenceCycle (l1 l2 l3 : RefCycle) (s : State) : Host.Outcome State Fault Refusal :=
  .next (if s.sparRuns then takeCycle (refCycle s l1 l2 l3) s else s)

/-- The holdover frequency on a loss declared in `lk` (R64). F_I is cut to whole µHz, the unit in which FREQ reads the held
value (DESIGN CHOICE, log entry 183). -/
def holdoverFreq (lk : Nat) (s : State) : Nat :=
  match s.spar.good.find? (fun g => decide (g.2 + 2 ≤ s.spar.refCycles)) with
  | some g => g.1
  | none => if lk = lockLocked then (s.spar.fInt / 1000000).toNat else s.spar.hold

/-- Consecutive ticks with a low amplitude (R63). -/
def lowCount (amp : Nat) (s : State) : Nat :=
  if amp * 100 < s.rd R.spar_LOSS_PCT [] * s.rd R.spar_VNOM [] then s.spar.lowTicks + 1 else 0

/-- The rate of change of frequency over the last whole cycle exceeds ROCOF_MAX (R63). -/
def rocofHigh (s : State) : Bool := decide (s.rd R.spar_ROCOF_MAX [] < s.spar.refRocof.natAbs)

/-- The lock states in which a loss of reference is declared (R61, R63). -/
def lossWatched (s : State) : Bool :=
  decide (lockOf s = lockLocked) || (decide (lockOf s = lockQualify) && decide (s.spar.qualFrom = lockHoldover))

/-- The reference is lost, `low` consecutive ticks having had a low amplitude (R63). -/
def refLost (low : Nat) (s : State) : Bool :=
  lossWatched s && (decide (4 ≤ low) || !freqInRange s s.spar.refFreq || rocofHigh s)

/-- Loss of reference declared at a tick (R63, R64): ERRCODE NO_REF, and HOLDOVER. ROCOF follows it where the rate of change
of frequency was the reason, and stands alone nowhere (DESIGN CHOICE, log entry 184). -/
def lossOfReference (rocof : Bool) (s : State) : State :=
  if lossWatched s then
    let lk := lockOf s
    let s := s.setErr 4 0x0100
    let s := if rocof then s.setErr 4 0x0102 else s
    enterHoldover (if followsOwn s then lastPartner s else holdoverFreq lk s) s
  else s

/-! ## The loop filter (R621) -/

/-- ωn = 2π BW in units of 10^-12 rad/s: BW is 1, 2, 5 or 10 Hz (R90). -/
def omega (s : State) : Nat :=
  Config.twoPi * (match s.rd R.spar_BW [] with | 0 => 1 | 1 => 2 | 2 => 5 | _ => 10)

/-- KP φ in 10^-12 Hz for a phase error in angle units: KP = 2 * 0.7071 * ωn. -/
def kpTerm (s : State) (phi : Int) : Int := (14142 * (omega s : Int) * phi) / (10000 * 65536)

/-- KI φ Δt in 10^-12 Hz: KI = ωn^2, Δt the clocks of the last eight periods. -/
def kiTerm (s : State) (phi : Int) : Int :=
  ((omega s : Int) * omega s * phi * lastEight s) / ((pico : Int) * 65536 * 200000000)

/-- One evaluation of the loop for a source frequency in µHz (R67, R621): F, whether it is a slew or clamped, and F_I
afterwards. The slew regime beyond 0x0040, else the linear regime with its clamp, where F_I is not advanced in a direction
that deepens the clamp; F is held within R68 besides, as a clamp. F uses F_I as it stands before this tick's advance (DESIGN
CHOICE, log entry 185). -/
def loopFilter (fref : Nat) (phi : Int) (s : State) : Nat × Bool × Int :=
  let fr : Int := fref * 1000000
  let hi : Int := boundFreq (fr * 102 / 100).toNat
  let lo : Int := boundFreq (fr * 98 / 100).toNat
  if 0x40 < phi.natAbs then ((if 0 < phi then hi else lo).toNat, true, fr)
  else
    let f := clampI lo hi (s.spar.fInt + kpTerm s phi)
    let deep := (decide (f = hi) && decide (0 < phi)) || (decide (f = lo) && decide (phi < 0))
    (f.toNat, decide (f = hi) || decide (f = lo), if deep then s.spar.fInt else s.spar.fInt + kiTerm s phi)

/-- The loop does not run: the frequency the lock state states, in HOLDOVER also that of a loss about to be declared (R61,
R64). -/
def plainFreq (lost : Bool) (s : State) : Nat :=
  let lk := lockOf s
  if lost then (if followsOwn s then lastPartner s else holdoverFreq lk s) * 1000000
  else if lk = lockHoldover ∨ (lk = lockQualify ∧ s.spar.qualFrom = lockHoldover) then s.spar.hold * 1000000
  else nominalFreq s

/-- The phase error moved by more than 0x0400 since the sample before (R69). -/
def isJump (phi : Int) (s : State) : Bool :=
  match s.spar.phiPrev with
  | some q => decide (0x400 < (sext 16 (trunc 16 (phi - q))).natAbs)
  | none => false

/-- The phase error of a sample: the steering source's angle minus the accumulator's (R621). -/
def phaseErr (s : State) (m : TickRef) : Int :=
  sext 16 ((if partnerSteers s then m.partner else (refSample s m).ang) % 65536 + 65536 - angleOf s.spar.acc)

/-- The start of the period before a tick: the phase is sampled and all that the tick does is fixed (R59, R63, R71,
R621). -/
def sparSample (m : TickRef) (s : State) : State :=
  let c0 := refSample s m
  let low := lowCount c0.amp s
  let lost := refLost low s
  let phi := phaseErr s m
  let loops := partnerSteers s || (decide (lockOf s = lockLocked) && !lost)
  let r := if loops then loopFilter (if partnerSteers s then lastPartner s else s.spar.refFreq) phi s
    else (plainFreq lost s, false, s.spar.fInt)
  s.sparF (fun p => { p with
    lowTicks := low, fInt := r.2.2, phiPrev := some phi
    next := some ⟨r.1, r.2.1, phi, loops && isJump phi s, sext 16 (m.partner % 65536 + 65536 - c0.ang % 65536), lost,
      rocofHigh s⟩ })

/-- Spar at a port loop tick: what was fixed in the period before takes effect, with loss of reference, skew, phase error
and phase jump (R59, R63, R69, R71, R621). -/
def sparFixed (x : SparNext) (s : State) : State :=
  let s := if x.lost then lossOfReference x.rocof s else s
  let s := if followsTether s then
      let s := s.wrI R.spar_PARTNER_SKEW [] x.skew
      if 0x100 < x.skew.natAbs then s.raise 4 7 else s
    else s
  let s := s.wrI R.spar_PHASE_ERR [] x.phi
  let s := if x.jump then (s.setErr 4 0x0101).raise 4 2 else s
  (setFreq x.freq s).wrB R.spar_SLEWING [] x.slewing

/-- Spar's work at a port loop tick; the first one after a start or an alignment has no sample and changes nothing. -/
def sparTick (s : State) : State :=
  let s := match s.spar.next with
    | some x => sparFixed x s
    | none => s
  s.sparF (fun p => { p with next := none, tickDue := false })

/-! ## Start, stop, follow -/

/-- CYC_MARK is written at an angle 0x0000 whose cycle number is a multiple of 4,096 (R581). -/
def cycMark (s : State) : State :=
  if s.spar.cycle % 4096 = 0 then s.wr R.rst_CYC_MARK [] s.spar.cycle else s

/-- Spar starts: FREE at CYCLE_LOAD and angle 0x0000 (R61). -/
def sparStart (s : State) : State :=
  let s := allocZero (s.wr R.spar_LOCK [] lockFree)
  let s := s.sparF (fun p => { p with
    acc := 0, cycle := s.rd R.spar_CYCLE_LOAD [], period := 0, serial := p.serial + 1, lens := [], next := none,
    cycleDue := true, periodDue := true, tickDue := true, qualFrom := lockFree, qualCount := 0, good := [],
    lowTicks := 0, phiPrev := none })
  cycMark (setFreq (nominalFreq s) s)

/-- Spar stops: OFF (R61). -/
def sparStop (s : State) : State :=
  ((s.wr R.spar_LOCK [] lockOff).wr R.spar_SLEWING [] 0).sparF (fun p =>
    { p with cycleDue := false, periodDue := false, tickDue := false, freq := 0, inc := 0, clocks := 0, next := none })

/-- EN of Spar set from 0 to 1 (R61). -/
def sparEnable (s : State) : State :=
  if s.enOf 4 then s
  else
    let s := s.wr R.hdr_EN [4] 1
    if s.inReset 4 then s else sparStart s

/-- SPAR_ENABLE: a world sets EN in Spar's CTRL. -/
def execSparEnable (w : World) (s : State) : Host.Outcome State Fault Refusal := .next (s.asWriter w 4 sparEnable)

/-- FOLLOW set from 0 to 1: an alignment becomes due (R73). -/
def followSet (s : State) : State :=
  if s.rdB R.spar_FOLLOW [] then s
  else
    ((((s.wr R.spar_FOLLOW [] 1).wr R.spar_ALIGNED [] 0).wrB R.spar_FOLLOW_SRC [] (s.rdB R.teth_TDOWN [])).sparF
      (fun p => { p with alignDue := true, alignCycle := none, alignFrame := none }))

/-- FOLLOW_SET: W0 alone (R71). -/
def execFollowSet (w : World) (s : State) : Host.Outcome State Fault Refusal := .next (s.onlyBy 0 w 4 followSet)

/-- FOLLOW cleared: Spar goes on from the partner's phase in the state kept on C0; F_I starts at C0's frequency where the
partner steered (R72, R621). -/
def followClear (s : State) : State :=
  if !s.rdB R.spar_FOLLOW [] then s
  else
    let f := lastPartner s
    let lk := lockOf s
    let by_ := partnerSteers s
    let s := ((s.wr R.spar_FOLLOW [] 0).wr R.spar_FOLLOW_SRC [] 0).sparF
      (fun p => { p with alignDue := false, alignCycle := none, alignFrame := none })
    if lk = lockOff then s
    else if !s.spar.refGood then enterHoldover f s
    else if lk = lockLocked then (if by_ then s.sparF (fun p => { p with fInt := p.refFreq * 1000000 }) else s)
    else if lk = lockHoldover then s
    else if lk = lockFree then (enterQualify lockHoldover s).sparF (fun p => { p with hold := f })
    else s.sparF (fun p => { p with qualFrom := lockHoldover, hold := f })

/-- FOLLOW_CLEAR: W0 alone (R71). -/
def execFollowClear (w : World) (s : State) : Host.Outcome State Fault Refusal := .next (s.onlyBy 0 w 4 followClear)

/-- TSTATE is JOIN or STANDBY: the only states in which an alignment is taken (R74). -/
def mayAlign (s : State) : Bool := s.rd R.teth_TSTATE [] == 1 || s.rd R.teth_TSTATE [] == 2

/-- The alignment has been taken: ALIGNED, IRQ_RAW.ALIGN, F_I at FREF of the source that steers, C0 while the Tether is
down (R73, R75, R621). -/
def aligned (s : State) : State :=
  let f := if s.rdB R.teth_TDOWN [] then s.spar.refFreq else lastPartner s
  ((s.wr R.spar_ALIGNED [] 1).sparF (fun p =>
    { p with alignDue := false, alignCycle := none, alignFrame := none, fInt := f * 1000000 })).raise 4 8

/-- Spar takes the partner's cycle number, period index and angle in one step, unless they agree within a clock
(R73, R74). -/
def alignTo (cycle period acc : Nat) (s : State) : State :=
  let same := decide (s.spar.cycle = cycle) && decide (s.spar.period = period) &&
    decide (((s.spar.acc : Int) - acc).natAbs ≤ s.spar.inc)
  let s := if same then s else s.sparF (fun p => { p with
    cycle := cycle, period := period % 800, acc := acc % 2 ^ 48, serial := p.serial + 1, periodDue := true, next := none,
    tickDue := decide (period % 8 = 0), cycleDue := decide (period % 800 = 0) })
  aligned s

/-- ALIGN: the partner's next period start after a valid report, at a period index and 48-bit angle (R73, R74). -/
def execAlign (period angle : Nat) (s : State) : Host.Outcome State Fault Refusal :=
  match s.spar.alignCycle with
  | some c =>
    if s.sparRuns && followsTether s && s.spar.alignDue && mayAlign s then .next (alignTo c period angle s) else .next s
  | none => .next s

/-- A partner time frame while the Tether is down (R75): its cycle number is checked, and a due alignment is taken from it. -/
def checkFrame (f : TimeFrame) (s : State) : State :=
  let s := if f.cycle = s.spar.cycle then s else (s.setErr 4 0x0104).raise 4 7
  if s.spar.alignDue && mayAlign s then s.sparF (fun p => { p with alignFrame := some ((f.cycle + 1) % 2 ^ 32) }) else s

/-- SPAR_TIME_FRAME_RX: a time frame of the partner arrives; the module learns the address it came from (R467). -/
def execSparTimeFrameRx (f : HeardTimeFrame) (s : State) : Host.Outcome State Fault Refusal :=
  let s := { s with teth := { s.teth with mac := some f.src, heardAny := true } }
  .next (if s.sparRuns && followsOwn s then checkFrame f.frame s else s)

/-- The Tether went down or came back: where an alignment has been taken the source of phase changes and F_I starts at its
frequency; before, C0 steers throughout (R75, R621). -/
def followSource (s : State) : State :=
  if s.rdB R.spar_FOLLOW [] then
    let down := s.rdB R.teth_TDOWN []
    let s := s.wrB R.spar_FOLLOW_SRC [] down
    let f := if down then s.spar.refFreq else lastPartner s
    let s := if s.rdB R.spar_ALIGNED [] then s.sparF (fun p => { p with fInt := f * 1000000 }) else s
    if down && !s.spar.refGood && decide (lockOf s ≠ lockOff) then enterHoldover (lastPartner s) s else s
  else s

/-! ## Wall time -/

/-- Instant of a wall-mode event, ms: TIME1 and TIME0 (R81). -/
def evtWall (s : State) (n : Nat) : Nat := s.rd R.evt_TIME1 [n] * 2 ^ 32 + s.rd R.evt_TIME0 [n]

/-- Wall-mode events that are armed. -/
def armedWall (s : State) (n : Nat) : Bool := s.rdB R.evt_ARM [n] && s.rdB R.evt_MODE [n]

/-- Armed wall-mode events whose instant a new wall time has passed or reached: they fire late (R81, R83). -/
def lateWall (s : State) (ms : Nat) : List Nat :=
  (List.range 256).filter (fun n => armedWall s n && decide (evtWall s n < ms))

/-- Wall time becomes valid with AUTH (R77). Events that waited for VALID and are past fire late (R81). -/
def wallValid (auth : Bool) (s : State) : State :=
  let was := s.rdB R.wall_VALID []
  let s := (s.wr R.wall_VALID [] 1).wrB R.wall_AUTH [] auth
  if was then s else s.sparF (fun p => { p with latePend := p.latePend ++ lateWall s (wallMs s) })

/-- Wall time steps to a value: a step to an earlier time is a set-back (R77, R78). -/
def wallStepTo (ms : Nat) (auth : Bool) (s : State) : State :=
  let old := wallMs s
  let back := decide (ms * 200000000 < s.spar.wall)
  let s := if back then
      (((s.wr R.wall_SETBACK [] 1).wr R.spar_SETBACK_FROM [] old).wr R.spar_SETBACK_CYCLE [] s.spar.cycle).raise 4 5
    else s.sparF (fun p => { p with
      skipped := p.skipped ++ (List.range 256).filter (fun n =>
        armedWall s n && s.rdB R.evt_REPEAT [n] && decide (old < evtWall s n) && decide (evtWall s n ≤ ms))
      latePend := p.latePend ++ (List.range 256).filter (fun n =>
        armedWall s n && s.rdB R.wall_VALID [] && decide (old < evtWall s n) && decide (evtWall s n < ms)) })
  let s := (s.sparF (fun p => { p with wall := ms * 200000000, slewRem := 0, step := none })).wr R.wall_SLEWING [] 0
  wallValid auth s

/-- APPLY written (R77): a slew within 1,000 ms, else a step at the next control period start, or at once while
Spar does not run. -/
def wallApply (s : State) : State :=
  let v := s.rd R.spar_WALL_SET []
  let auth := s.rdB R.wset_AUTH []
  let diff : Int := (v : Int) * 200000000 - s.spar.wall
  if s.rdB R.wset_SLEW [] && decide (diff.natAbs ≤ 1000 * 200000000) then
    wallValid auth ((s.sparF (fun p => { p with slewRem := diff, step := none })).wr R.wall_SLEWING [] 1)
  else if s.sparRuns then s.sparF (fun p => { p with step := some ⟨v, auth, p.serial⟩ })
  else wallStepTo v auth s

/-- WALL_SLEW_END: a slew has reached its target (R77). -/
def execWallSlewEnd (s : State) : Host.Outcome State Fault Refusal :=
  if s.rdB R.wall_SLEWING [] && decide (s.spar.slewRem = 0) then .next (s.wr R.wall_SLEWING [] 0) else .next s

/-- SETBACK_CLEAR: a write of 1 to SETBACK (R90). -/
def execSetbackClear (w : World) (s : State) : Host.Outcome State Fault Refusal :=
  .next (s.asWriter w 4 (fun s => s.wr R.wall_SETBACK [] 0))

/-! ## Event entries -/

/-- May a world write entry `n`: E000-E031 W1 alone and without a grant, the others under the grant (R80). -/
def mayWriteEntry (s : State) (w : World) (n : Nat) : Bool :=
  if n < 32 then w == 1 && !s.dead 4 else s.canWrite w 4

/-- Period in which a mains-mode event fires: cycle and index (R81). -/
def evtMains (s : State) (n : Nat) : Nat × Nat :=
  let k := divCeil (s.rd R.evt_TIME1 [n] * 800) 65536
  if k = 800 then ((s.rd R.evt_TIME0 [n] + 1) % 2 ^ 32, 0) else (s.rd R.evt_TIME0 [n], k)

/-- Periods by which a mains-mode event's instant is past, negative before it (R7, R81). -/
def evtPast (s : State) (n : Nat) : Int :=
  cycDiff s.spar.cycle (evtMains s n).1 * 800 + ((s.spar.period : Int) - (evtMains s n).2)

/-- The instant of an entry has come (R81). -/
def evtReached (s : State) (n : Nat) : Bool :=
  s.rdB R.evt_ARM [n] &&
    (if s.rdB R.evt_MODE [n] then s.rdB R.wall_VALID [] && decide (evtWall s n ≤ wallMs s)
     else decide (0 ≤ evtPast s n))

/-- An armed event fires now: its instant has come, and a period has started since it was armed or last fired (R81,
R82). -/
def evtDue (s : State) (n : Nat) : Bool :=
  evtReached s n && decide (sget 0 s.spar.notBefore n ≤ s.spar.serial)

/-- A write to word +8 of entry `n` (R84): an armed entry takes only a disarm; a disarmed one takes all. An instant
already past when armed fires late (R82). -/
def entryWrite8 (n v : Nat) (s : State) : State :=
  let arm := bitB v 31
  if s.rdB R.evt_ARM [n] && arm then s.setErr 4 0x0103
  else
    let s := ((((s.wrB R.evt_ARM [n] arm).wrB R.evt_MODE [n] (bitB v 30)).wr R.evt_KIND [n] (bits v 28 2)).wrB
      R.evt_IRQ [n] (bitB v 27))
    s.sparF (fun p => { p with
      latePend := if arm && evtReached s n then n :: p.latePend.filter (· ≠ n) else p.latePend.filter (· ≠ n)
      deferred := p.deferred.filter (· ≠ n), skipped := p.skipped.filter (· ≠ n)
      notBefore := sput 0 p.notBefore n (p.serial + 1) })

/-- EVENT_ENTRY_WRITE: a world writes word +8 of an entry (R80, R84). -/
def execEventEntryWrite (w : World) (n : Fin 256) (v : Word) (s : State) : Host.Outcome State Fault Refusal :=
  .next (if mayWriteEntry s w n then entryWrite8 n v.toNat s else s.violate w)

/-- EVT_FIRED_CLEAR: a write of 1 clears bits of EVT_FIRED or EVT_LATE (R90). -/
def execEvtFiredClear (w : World) (late : Bool) (i : Fin 8) (v : Word) (s : State) : Host.Outcome State Fault Refusal :=
  .next (s.asWriter w 4 (fun s =>
    let r := if late then R.spar_EVT_LATE else R.spar_EVT_FIRED
    s.wr r [i.val] ((BitVec.ofNat 32 (s.rd r [i.val]) &&& ~~~v).toNat)))

/-- Advance a repeating event's instant, or disarm a one-shot (R82, R83). -/
def evtAdvance (n : Nat) (s : State) : State :=
  let rep := s.rd R.evt_REPEAT [n]
  if rep = 0 then s.wr R.evt_ARM [n] 0
  else if s.rdB R.evt_MODE [n] then
    let t := evtWall s n
    let step := rep * 1000
    let t' := if n ∈ s.spar.skipped then t + step * ((wallMs s - t) / step + 1) else t + step
    ((s.wr R.evt_TIME0 [n] t').wr R.evt_TIME1 [n] (t' / 2 ^ 32)).sparF
      (fun p => { p with skipped := p.skipped.filter (· ≠ n) })
  else s.wr R.evt_TIME0 [n] (s.rd R.evt_TIME0 [n] + rep)

/-- The event fired late: mains mode by its instant, else as recorded when it became past (R82, R83, R88). A repeating
wall-mode event whose advanced instant is still past fires again without LATE, a mains-mode one with it (DESIGN CHOICE, log
entry 57). -/
def evtLate (s : State) (n : Nat) : Bool :=
  decide (n ∈ s.spar.latePend) || decide (n ∈ s.spar.deferred) ||
    (!s.rdB R.evt_MODE [n] && decide (0 < evtPast s n))

/-- Set an event's LATE bit, IRQ_RAW.LATE (R82, R88). -/
def markLate (n : Nat) (s : State) : State :=
  (s.wrBit R.spar_EVT_LATE [n / 32] (n % 32) true).raise 4 6

/-- An event's own bits change together at its firing: FIRED, COUNT, LATE, IRQ, the commits armed on it, and its
next instant (R82, R85). -/
def evtFireSelf (n : Nat) (s : State) : State :=
  let s := if evtLate s n then markLate n s else s
  let s := (s.wrBit R.spar_EVT_FIRED [n / 32] (n % 32) true).inc R.evt_COUNT [n]
  let s := if s.rdB R.evt_IRQ [n] then s.raise 4 3 else s
  let s := fireArms n s
  let s := s.sparF (fun p => { p with
    notBefore := sput 0 p.notBefore n (p.serial + 1), firedNow := n :: p.firedNow, latePend := p.latePend.filter (· ≠ n), deferred := p.deferred.filter (· ≠ n) })
  evtAdvance n s

/-- The event raises the boundary strobe: KIND 2 in E000-E031 (R86, R87). -/
def isStrobe (s : State) (n : Nat) : Bool := decide (n < 32) && s.rd R.evt_KIND [n] == 2

/-- The event latches a snapshot: KIND 1 or 2 (R86, R87). -/
def isSnap (s : State) (n : Nat) : Bool := s.rd R.evt_KIND [n] == 1 || s.rd R.evt_KIND [n] == 2

/-- A strobe now would fall within 3 periods after the last one (R88). -/
def strobeTooSoon (s : State) : Bool :=
  match s.spar.lastStrobe with
  | some k => decide (k < s.spar.serial) && decide (s.spar.serial ≤ k + 3)
  | none => false

end Sys2Proof.Machine
end

