-- ==== Sys2Proof/Machine/PortLoop.lean ====
section
/-! DEFINITION. The port outer loops and the cable thermal observer (05_burner_control_engine.md, R139-R149, R155,
R622). -/

namespace Sys2Proof.Machine

open Sys2Proof

/-- BRN page of a port. -/
def portAreaPage (p : Port) : Nat := 101 + p.val / 2

/-- An event of a port: bit 8j + n of its page (R165). -/
def portAreaIrq (p : Port) (n : Nat) (s : State) : State := s.raise (portAreaPage p) (8 * (p.val % 2) + n)

/-- An exact quotient in Q2.29, rounded half up and saturated (R622). -/
def quoQ (a : Int) (b : Nat) : SatV := if b = 0 then ⟨0, 0⟩ else satQ (rhu (a * 2 ^ 29) b) 0

/-- A product of Q2.29 values, rounded half up and saturated (R622). -/
def mulQ (a b : Int) : SatV := satQ (rhu (a * b) (2 ^ 29)) 0

/-- PSTATE values (R184). -/
def psIdle : Nat := 0
def psSoft : Nat := 1
def psPre : Nat := 2
def psRun : Nat := 3
def psStopping : Nat := 4
def psShort : Nat := 5

/-- PSTATE of a port. -/
def pstate (s : State) (p : Port) : Nat := s.rd R.prt_PSTATE [p.val]

/-- IBASE of a port. -/
def ibase (s : State) (p : Port) : Nat := s.rd R.prt_IBASE [p.val]

/-- A Q2.29 current in whole mA: times IBASE, rounded half up (R622). -/
def toMa (s : State) (p : Port) (q : Int) : Int := rhu (q * ibase s p) (2 ^ 29)

/-- A current in mA in Q2.29. -/
def ofMa (s : State) (p : Port) (ma : Int) : SatV := quoQ ma (ibase s p)

/-- A base in force is 0: the port runs no loop (R140). -/
def baseZero (s : State) (p : Port) : Bool :=
  s.rd R.prt_IBASE [p.val] == 0 || s.rd R.prt_VBASE [p.val] == 0 || s.rd R.prt_TBASE [p.val] == 0

/-- DIR from the sign of the allocation: 0 none, 1 charge, 2 discharge (R140). -/
def dirOf (s : State) (p : Port) : Nat :=
  let a := s.rdI R.prt_LIM [p.val, 4]
  if a = 0 then 0 else if 0 < a then 1 else 2

/-- Sign of a direction: discharge is negative (R5). -/
def signOf (d : Nat) : Int := if d = 2 then -1 else 1

/-- The fold-back f(V / VREF) times LIMR, whole mA rounded half up (R170). -/
def foldBack (limr v : Int) (vref : Nat) : Int :=
  if vref = 0 ∨ v * 20 ≤ vref then rhu limr 10
  else if (vref : Int) * 6 ≤ v * 10 then limr
  else rhu (limr * (11 * vref + 180 * v - 9 * vref)) (110 * vref)

/-- V of a port, mV, unsigned (R4, R139). -/
def vMeas (s : State) (p : Port) : Int := s.rd R.prt_VMEAS [p.val]

/-- DROGUE of a port, mA (R143, R170). -/
def drogueMa (s : State) (p : Port) : Int :=
  let ps := pstate s p
  let v := vMeas s p
  if ps = psSoft ∨ ps = psPre then foldBack (s.rdI R.prt_SS_ILIM [p.val]) v (s.rd R.prt_VTGT [p.val])
  else if ps = psRun ∨ ps = psStopping then foldBack (s.rd R.prt_IMAX [p.val]) v (s.rd R.prt_VRUN [p.val])
  else s.rd R.prt_IMAX [p.val]

/-- CEIL of a port, mA: the safety island's during a Rip panel stop, else IMAX (R143). -/
def ceilMa (s : State) (p : Port) : Nat := (s.prt p).ceil.getD (s.rd R.prt_IMAX [p.val])

/-- A current as the page reports it: its Q2.29 value times IBASE (R622). -/
def reportMa (s : State) (p : Port) (ma : Int) : Int := toMa s p (ofMa s p ma).v

/-- The thermal trip of a port's cable (R387). -/
def ptrip (s : State) (p : Port) : Bool := bitB (s.rd R.thrm_PTRIP []) p.val

/-! ## The six loops -/

/-- Error e of loop `i` in direction `d` (R141): each input enters as its own quotient, rounded and saturated, before the
error is formed (R622). Temperatures, currents and powers are signed, voltages unsigned (R4, log entry 77). -/
def loopErr (s : State) (p : Port) (d i : Nat) : SatV :=
  let lim : Int := if i = 1 then s.rd R.prt_LIM [p.val, i] else s.rdI R.prt_LIM [p.val, i]
  let vb := s.rd R.prt_VBASE [p.val]
  let tb := s.rd R.prt_TBASE [p.val]
  let volt := fun (v : Int) => quoQ v vb
  let watt := fun (w : Int) => quoQ (w * 1000000) (s.rd R.prt_IBASE [p.val] * vb)
  let v := vMeas s p
  let pw : Int := (s.rdI R.prt_PMEAS [p.val]).natAbs
  if i = 0 then subQ (quoQ lim tb) (quoQ (s.prt p).ths (tb * 4096))
  else if i = 1 then (if d = 2 then subQ (volt v) (volt (s.rd R.prt_VMIN [p.val])) else subQ (volt lim) (volt v))
  else if i = 3 then subQ (watt lim) (watt pw)
  else if i = 4 then subQ (watt lim.natAbs) (watt pw)
  else ⟨0, 0⟩

/-- Feedforward ff of loop `i` (R139, R141). -/
def loopFf (s : State) (p : Port) (i : Nat) : SatV :=
  let ib := s.rd R.prt_IBASE [p.val]
  let v20 := max (20 * vMeas s p) (s.rd R.prt_VBASE [p.val])
  let lim : Int := if i = 4 then (s.rdI R.prt_LIM [p.val, 4]).natAbs else s.rdI R.prt_LIM [p.val, i]
  if i = 2 ∨ i = 5 then quoQ lim ib
  else if i = 3 ∨ i = 4 then quoQ (lim * 20000000) (v20.toNat * ib)
  else ⟨0, 0⟩

/-- One loop at a tick: error, unclamped and clamped candidate (R142, R149, R387). -/
structure LoopR where
  e : Int
  cu : Int
  c : Int
  n : Nat
  deriving DecidableEq, Repr

/-- Evaluate loop `i` in direction `d`. -/
def loopEval (s : State) (p : Port) (d i : Nat) : LoopR :=
  let e := loopErr s p d i
  let ff := loopFf s p i
  let k := mulQ (s.rdI R.prt_KP [p.val, i]) e.v
  let cu := satQ (ff.v + k.v + s.rdI R.prt_XI [p.val, i]) 0
  let imax := ofMa s p (s.rd R.prt_IMAX [p.val])
  let ol := if i = 0 ∧ s.rdB R.prt_THERM_OL [p.val] = true then ofMa s p (max 0 (s.rdI R.prt_OL_IMAX [p.val])) else imax
  let c := min (clampI 0 imax.v cu.v) ol.v
  let c := if i = 0 ∧ ptrip s p = true then 0 else c
  ⟨e.v, cu.v, c, e.n + ff.n + k.n + cu.n + imax.n + (if i = 0 then ol.n else 0)⟩

/-- The lowest candidate, the lowest index on a tie (R142). -/
def lowest (l : List LoopR) : Nat × Int :=
  ((List.range l.length).foldl (fun (a : Option (Nat × Int)) i =>
    let c := (l.getD i ⟨0, 0, 0, 0⟩).c
    match a with | some (j, m) => if c < m then some (i, c) else some (j, m) | none => some (i, c)) none).getD (0, 0)

/-- BIND codes beside the loops. -/
def bindRamp : Nat := 6
def bindDrogue : Nat := 7
def bindSafety : Nat := 8
def bindZero : Nat := 9

/-- BIND set; a change is BIND_CHANGE and Spool trigger KIND 2 (R159, R165). -/
def setBind (p : Port) (b : Nat) (s : State) : State :=
  if s.rd R.prt_BIND [p.val] = b then s
  else spoolKind 2 p.val (portAreaIrq p 0 (s.wr R.prt_BIND [p.val] b))

/-- Saturations of port-loop arithmetic set the port's SAT interrupt (R123). -/
def portSat (p : Port) (n : Nat) (s : State) : State := if n = 0 then s else portAreaIrq p 3 s

/-- The issued reference of a period: the lesser of the tick's reference and CEIL (R143); BIND reads SAFETY when
CEIL binds. The magnitude is rounded half up to whole mA and then takes its sign, so that on a tie discharge rounds as charge
does (R622; DESIGN CHOICE, log entry 194). -/
def issueRef (p : Port) (s : State) : State :=
  let ceil := ofMa s p (ceilMa s p)
  let ref := (s.prt p).prev
  let s := s.wrI R.prt_IREF [p.val] (signOf (s.prt p).dirPrev * toMa s p (min ref ceil.v))
  portSat p ceil.n (if ceil.v < ref then setBind p bindSafety s else s)

/-- Every loop's integrator, candidate and error zero. -/
def zeroLoops (p : Port) (s : State) : State :=
  foldS (List.range 6) (fun s i => ((s.wr R.prt_XI [p.val, i] 0).wr R.prt_CAND [p.val, i] 0).wr R.prt_ERR [p.val, i] 0) s

/-- A port in RUN or STOPPING with a base of 0: loops, reference and issued current at zero, BIND ZERO, ERRCODE 0x0106
(R140). -/
def baseStop (p : Port) (s : State) : State :=
  let s := (zeroLoops p s).prtF p (fun q => { q with prev := 0, dirPrev := 0 })
  (setBind p bindZero (s.wr R.prt_IREF [p.val] 0)).setErr (portAreaPage p) 0x0106

/-- The reference of a period of a port in RUN or STOPPING (R140, R143). -/
def periodRef (p : Port) (s : State) : State := if baseZero s p then baseStop p s else issueRef p s

/-- Integrators zero. -/
def zeroXi (p : Port) (s : State) : State := foldS (List.range 6) (fun s i => s.wr R.prt_XI [p.val, i] 0) s

/-- Anti-windup by tracking towards `ref` (R142, R144): the number of saturations and the new state. -/
def track (p : Port) (ls : List LoopR) (ref : Int) (s : State) : Nat × State :=
  let imax := ofMa s p (s.rd R.prt_IMAX [p.val])
  (List.range 6).foldl (fun a i =>
    let s := a.2
    let l := ls.getD i ⟨0, 0, 0, 0⟩
    let ki := mulQ (s.rdI R.prt_KI [p.val, i]) l.e
    let d := satQ (ref - l.cu) 0
    let kt := mulQ (s.rdI R.prt_KT [p.val, i]) d.v
    let x := satQ (s.rdI R.prt_XI [p.val, i] + ki.v + kt.v) 0
    let x' := if i = 0 ∧ ptrip s p = true then 0 else clampI (-imax.v) imax.v x.v
    (a.1 + ki.n + d.n + kt.n + x.n, s.wrI R.prt_XI [p.val, i] x')) (imax.n, s)

/-- The choice of R142 for a port in RUN or STOPPING. Where DIR turns between charge and discharge with prev already at 0, the
integrators are set to zero as after a reversal (DESIGN CHOICE, log entry 210). -/
def portLoop (p : Port) (s : State) : State :=
  let d := dirOf s p
  let q := s.prt p
  let s := s.wr R.prt_DIR [p.val] d
  if baseZero s p then baseStop p s
  else
    let rev := decide (d ≠ q.dirPrev) && decide (0 < q.prev)
    let s := if !rev && decide (d ≠ q.dirPrev) then zeroXi p s else s
    let dp := if rev then q.dirPrev else d
    if dp = 0 then
      setBind p bindZero (((zeroLoops p s).prtF p (fun q => { q with prev := 0, dirPrev := 0 })).wr R.prt_IREF [p.val] 0)
    else
      let ls := (List.range 6).map (loopEval s p dp)
      let w := lowest ls
      let target := if rev then 0 else w.2
      let b := if rev then bindZero else w.1
      let up := addQ ⟨q.prev, 0⟩ (ofMa s p (s.rdI R.prt_RAMP_UP [p.val]))
      let dn := subQ ⟨q.prev, 0⟩ (ofMa s p (s.rdI R.prt_RAMP_DN [p.val]))
      let r := (target, b)
      let r := if up.v < r.1 then (up.v, bindRamp) else r
      let r := if r.1 < dn.v then (dn.v, bindRamp) else r
      let drogue := ofMa s p (drogueMa s p)
      let r := if drogue.v < r.1 then (drogue.v, bindDrogue) else r
      let ceil := ofMa s p (ceilMa s p)
      let r := if ceil.v < r.1 then (ceil.v, bindSafety) else r
      let s := foldS (List.range 6) (fun s i =>
        let l := ls.getD i ⟨0, 0, 0, 0⟩
        (s.wrI R.prt_CAND [p.val, i] (toMa s p l.c)).wrI R.prt_ERR [p.val, i] l.e) s
      let t := track p ls r.1 s
      let s := if rev && decide (r.1 = 0) then zeroXi p t.2 else t.2
      let s := s.prtF p (fun q => { q with prev := r.1, dirPrev := dp })
      let s := setBind p r.2 (s.wrI R.prt_IREF [p.val] (signOf dp * toMa s p r.1))
      portSat p (t.1 + up.n + dn.n + drogue.n + ceil.n + ls.foldl (fun n l => n + l.n) 0) s

/-- The loops at a tick in any PSTATE: they run in RUN and STOPPING; elsewhere integrators and reference are held at
zero (R140, R142, R143, R169; log entry 16). -/
def portLoopTick (p : Port) (s : State) : State :=
  if pstate s p = psRun ∨ pstate s p = psStopping then portLoop p s
  else ((zeroLoops p s).wr R.prt_DIR [p.val] (dirOf s p)).prtF p (fun q => { q with prev := 0, dirPrev := 0 })

/-! ## Share (R146) -/

/-- Σh: the references of the port's stages in HANDOVER, signed mA. -/
def sumH (s : State) (p : Port) : Int :=
  (groupOf p).foldl (fun a i =>
    if (s.stg i).mode = 7 ∧ (s.stg i).hoPort = p.val then
      a + (if (s.stg i).hoNeg then -1 else 1) * (s.rd R.stg_H [i.val] : Int)
    else a) 0

/-- A share of a reference, rounded toward zero, whole mA (R146, R622). -/
def shareVal (iref sum : Int) (n : Nat) : Int := if n = 0 then 0 else (iref - sum).tdiv n

/-- The per-stage share, rounded toward zero (R146, R622); in SOFTSTART the lead stage's share with n = 1, in
PRECHARGE none (R169). -/
def sharePort (p : Port) (s : State) : State :=
  let ps := pstate s p
  let iref := s.rdI R.prt_IREF [p.val]
  if ps = psSoft then (s.wrI R.prt_SHARE [p.val] iref).wr R.prt_NO_STAGES [p.val] 0
  else if ps = psPre then (s.wr R.prt_SHARE [p.val] 0).wr R.prt_NO_STAGES [p.val] 0
  else
    let n := s.rd R.prt_NSHARE [p.val]
    if n = 0 then
      let s := s.wr R.prt_SHARE [p.val] 0
      if iref = 0 then s.wr R.prt_NO_STAGES [p.val] 0 else portAreaIrq p 1 (s.wr R.prt_NO_STAGES [p.val] 1)
    else (s.wrI R.prt_SHARE [p.val] (shareVal iref (sumH s p) n)).wr R.prt_NO_STAGES [p.val] 0

/-! ## The thermal observer (R147-R149) -/

/-- Integer square root of numbers below 2^64, rounded down. -/
def isqrt (n : Nat) : Nat := (List.range 32).foldl (fun r k => let t := r + 2 ^ (31 - k); if t * t ≤ n then t else r) 0

/-- A temperature input's reading in 1/65536 degrees C, where it is valid (R388). -/
def tempOf (s : State) (i : Nat) : Option Int :=
  if s.rdB R.tin_VALID [i] then some (s.rdI R.tin_TEMP [i] * 4096) else none

/-- 1 + alpha (t - 20 degrees C) in Q2.29. -/
def heatFac (alpha : Nat) (t : Int) : Int := 2 ^ 29 + rhu ((alpha : Int) * (t - 20 * 65536) * 2 ^ 29) (65536 * 1000000)

/-- A number of the observer's signed 64-bit arithmetic; beyond the range it saturates (R622; log entry 213). -/
def sat64 (v : Int) : Int := satI 64 v

/-- HDRM_I before the clamps of R149 and R387 (R148): the numerator in 1/65536 K, the factors of the denominator multiplied in
Q2.29, their product and the quotient in mA² rounded half up (R622; DESIGN CHOICE in these scales, log entry 213). -/
def headroom (s : State) (p : Port) (tc th : Int) : Nat :=
  let lim := s.rdI R.prt_LIM [p.val, 0] * 4096
  let exph := s.rdI R.prt_EXPH [p.val]
  let imax := s.rd R.prt_IMAX [p.val]
  let num := max 0 (sat64 ((lim - tc) - rhu (th * exph) (2 ^ 29)))
  let fac := sat64 (rhu ((2 ^ 29 - exph) * heatFac (s.rd R.prt_ALPHA [p.val]) lim) (2 ^ 29))
  let den := fac * (s.rd R.prt_RTH [p.val] * s.rd R.prt_RC20 [p.val])
  if den ≤ 0 then (if 0 < num then imax else 0)
  else min imax (isqrt (min (imax * imax) (rhu (num * 10 ^ 15 * 2 ^ 29) (65536 * den.toNat)).toNat))

/-- The thermal observer of one port at a tick (R147-R149, R387, R388). -/
def thermalTick (p : Port) (s : State) : State :=
  let q := s.prt p
  let pins := [tempOf s (4 * p.val), tempOf s (4 * p.val + 1)].filterMap id
  let cool := [tempOf s (4 * p.val + 2), tempOf s (4 * p.val + 3)].filterMap id
  let ol := pins.isEmpty || cool.isEmpty || (s.rdB R.thrm_ONEPIN_OL [] && decide (pins.length = 1))
  let tc := match cool with | [a, b] => rhu (a + b) 2 | [a] => a | _ => q.tc
  let i := s.rdI R.prt_IMEAS [p.val]
  let base := sat64 (rhu (i * i * s.rd R.prt_RC20 [p.val]) 1000000000)
  let w := sat64 (rhu (base * heatFac (s.rd R.prt_ALPHA [p.val]) q.ths) (2 ^ 29))
  let dt := (satQ (rhu ((lastEight s : Int) * 5 * 2 ^ 29) (1000000 * max 1 (s.rd R.prt_TAU [p.val]))) 0).v
  let rise := sat64 (rhu ((s.rd R.prt_RTH [p.val] : Int) * w * 65536) 1000000)
  let corr := match pins with
    | [] => 0
    | a :: t =>
      sat64 (rhu (s.rdI R.prt_LTH [p.val] * ((t.foldl max a - tc) - rhu (s.rdI R.prt_KPIN [p.val] * q.th) (2 ^ 29))) (2 ^ 29))
  let th := sat64 (q.th + rhu (dt * (rise - q.th)) (2 ^ 29) + corr)
  let h := headroom s p tc th
  let h := if ol then min h (s.rdI R.prt_OL_IMAX [p.val]).toNat else h
  let h := if ptrip s p then 0 else h
  let was := s.rdB R.prt_THERM_OL [p.val]
  let s := (s.prtF p (fun q => { q with th := th, tc := tc, ths := tc + th })).wrB R.prt_THERM_OL [p.val] ol
  let s := if ol && !was then portAreaIrq p 2 s else s
  (((s.wrI R.prt_THS [p.val] (rhu (tc + th) 4096)).wrI R.prt_TC [p.val] (rhu tc 4096)).wrI R.prt_THETA [p.val]
    (rhu th 4096)).wr R.prt_HDRM_I [p.val] h

end Sys2Proof.Machine
end

