-- ==== Sys2Proof/Machine/Route.lean ====
section
/-! DEFINITION. Port regulation states, soft start, stage modes, burst operation, handovers
(06_stage_regulation_and_routing.md). -/

namespace Sys2Proof.Machine

open Sys2Proof

/-- Stage modes, by the codes of MODE (R101). -/
def mOff : Nat := 0
def mPre : Nat := 1
def mSoft : Nat := 2
def mRun : Nat := 3
def mBlast : Nat := 4
def mGlide : Nat := 5
def mDrogue : Nat := 6
def mHandover : Nat := 7
def mFault : Nat := 8

/-- HOSTATE values (R184). -/
def hoNone : Nat := 0
def hoRampDn : Nat := 1
def hoZeroS : Nat := 2
def hoMoveS : Nat := 3
def hoRampUp : Nat := 4
def hoAborted : Nat := 5

/-- HOSTATE of a stage. -/
def hostate (s : State) (i : Stage) : Nat := s.rd R.stg_HOSTATE [i.val]

/-- Stage mode. -/
def smode (s : State) (i : Stage) : Nat := (s.stg i).mode

/-- Availability of a stage (R168). -/
def availNow (s : State) (i : Stage) : Bool :=
  attachedL s i && !s.rdB R.stg_FAILED [i.val] && bankOk s i && modeForce s i != mFault &&
    !bitB (s.rd R.line_STATUS [i.val]) 6 && !bitB (s.rd R.line_STATUS [i.val]) 14 && !s.rdB R.stg_HO_ABORT [i.val]

/-- STAT.AVAIL set from the stage's condition (R168). -/
def putAvail (i : Stage) (s : State) : State := s.wrB R.stg_AVAIL [i.val] (availNow s i)

/-- Available stages of a port: route in force is the port (R168, R174). -/
def availOn (s : State) (p : Port) : List Stage := (groupOf p).filter (fun i => availNow s i && portOf s i == some p)

/-- The lowest-numbered of them. -/
def lowestAvail (s : State) (p : Port) : Option Nat := (availOn s p).head?.map (·.val)

/-- A stage leads the port of its route in force (R168). -/
def leads (s : State) (i : Stage) : Bool :=
  match portOf s i with
  | some p => (s.prt p).lead == some i.val
  | none => false

/-- The lead stage of a port shown in its area, and STAT.LEAD of the stages of its group (R168, R184). -/
def putLead (p : Port) (l : Option Nat) (s : State) : State :=
  let s := (s.prtF p (fun q => { q with lead := l })).wr R.prt_LEAD [p.val] (l.getD 0)
  foldS (groupOf p) (fun s i => if s.rdB R.stg_LEAD [i.val] = leads s i then s else s.wrB R.stg_LEAD [i.val] (leads s i)) s

/-- PREQ of a port. -/
def preq (s : State) (p : Port) : Nat := s.rd R.prt_PREQ [p.val]

/-- A port in a regulation state that issues no reference (R169, R171; log entry 16). -/
def portOff (p : Port) (ps : Nat) (s : State) : State :=
  let s := (s.wr R.prt_PSTATE [p.val] ps).prtF p (fun q => { q with prev := 0, dirPrev := 0, burstLow := 0 })
  let s := ((s.wr R.prt_IREF [p.val] 0).wr R.prt_BURST [p.val] 0).wr R.prt_NBLAST [p.val] 0
  setBind p bindZero (zeroLoops p s)

/-- V has exceeded 20 % of VTGT (R167). -/
def over20 (s : State) (p : Port) : Bool := decide ((s.rd R.prt_VTGT [p.val] : Int) < 5 * vMeas s p)

/-- A request finds the port IDLE (R167): SOFTSTART, or NO_LEAD and VTGT_LOW. -/
def startSoft (p : Port) (s : State) : State :=
  let l := lowestAvail s p
  let low := decide (s.rd R.prt_VTGT [p.val] < 50000)
  if l.isSome && !low then
    let s := ((s.wr R.prt_PSTATE [p.val] psSoft).wr R.prt_NO_LEAD [p.val] 0).wr R.prt_VTGT_LOW [p.val] 0
    let s := s.wr R.prt_VR [p.val] (s.rd R.prt_VMEAS [p.val])
    putLead p l (s.prtF p (fun q => { q with
      ssCount := 0, ssOver := over20 s p, ssTime := s.rd R.prt_SS_TIME [p.val] }))
  else
    let s := putLead p l (if l.isNone then s.wr R.prt_NO_LEAD [p.val] 1 else s)
    if low then s.wr R.prt_VTGT_LOW [p.val] 1 else s

/-- The lead in SOFTSTART and PRECHARGE (R168): lost with no other stage, IDLE and NO_LEAD; lost with another, that
one leads from the following period, and the ramp continues from V. -/
def keepLead (p : Port) (s : State) : State :=
  match (s.prt p).lead with
  | some l =>
    if (availOn s p).any (fun i => i.val == l) then s
    else if (lowestAvail s p).isNone then portOff p psIdle ((putLead p none s).wr R.prt_NO_LEAD [p.val] 1)
    else putLead p none s
  | none =>
    match lowestAvail s p with
    | some l => putLead p (some l) (s.wr R.prt_VR [p.val] (s.rd R.prt_VMEAS [p.val]))
    | none => portOff p psIdle (s.wr R.prt_NO_LEAD [p.val] 1)

/-- V has reached VTGT - PRE_WIN (R167). -/
def atTarget (s : State) (p : Port) : Bool :=
  decide ((s.rd R.prt_VTGT [p.val] : Int) - s.rd R.prt_PRE_WIN [p.val] ≤ vMeas s p)

/-- PSTATE at a control period start (R167), but for the changes marked tick and for SHORT. Where several rows hold at once, the
order is the model's: V at its target before PREQ = STOP, the loss of the lead besides either, STOP before SHORT (DESIGN
CHOICE, log entry 214). -/
def pstatePeriod (p : Port) (s : State) : State :=
  let ps := pstate s p
  let rq := preq s p
  if rq = 0 then
    let s := if ps = psIdle then s else portOff p psIdle (if ps = psShort then s.wr R.prt_SHORT_SS [p.val] 0 else s)
    putLead p (lowestAvail s p) s
  else if ps = psIdle then
    if rq = 1 ∨ rq = 2 then startSoft p s else putLead p (lowestAvail s p) s
  else if ps = psSoft then
    let s := s.prtF p (fun q => { q with ssCount := q.ssCount + 1, ssOver := q.ssOver || over20 s p })
    if atTarget s p then keepLead p (s.wr R.prt_PSTATE [p.val] psPre)
    else
      let s := keepLead p s
      if rq = 3 ∧ pstate s p = psSoft then portOff p psIdle s else s
  else if ps = psPre then
    let s := keepLead p s
    if rq = 3 ∧ pstate s p = psPre then portOff p psIdle s else s
  else
    let s := putLead p (lowestAvail s p) s
    if ps = psRun ∧ rq = 3 then s.wr R.prt_PSTATE [p.val] psStopping else s

/-- DROGUE and CEIL as the page shows them, the limits of the port's present state; a base too small for one of them saturates
(R123, R143, R170). -/
def showLimits (p : Port) (s : State) : State :=
  let d := drogueMa s p
  let c : Int := ceilMa s p
  portSat p ((ofMa s p d).n + (ofMa s p c).n)
    ((s.wrI R.prt_DROGUE [p.val] (reportMa s p d)).wrI R.prt_CEIL [p.val] (reportMa s p c))

/-- The voltage ramp and reference of SOFTSTART and PRECHARGE (R169, R170, R143). -/
def softPeriod (p : Port) (s : State) : State :=
  let ps := pstate s p
  if ps = psSoft ∨ ps = psPre then
    let v := vMeas s p
    let vr := min (s.rd R.prt_VTGT [p.val]) (s.rd R.prt_VR [p.val] + s.rd R.prt_VRAMP [p.val])
    let s := s.wr R.prt_VR [p.val] vr
    let lim := drogueMa s p
    let lim := max 0 (if ps = psPre then min lim (s.rdI R.prt_PRE_ILIM [p.val]) else lim)
    let want := (s.rd R.prt_KV [p.val] : Int) * (vr - v) / 1000
    let lim' := match (s.prt p).ceil with | some c => min lim c | none => lim
    let s := s.wrI R.prt_IREF [p.val] (clampI 0 lim' want)
    setBind p (if lim' < lim ∧ lim' < want then bindSafety else bindZero) s
  else s

/-- SHORT_SOFTSTART: SS_TIME periods in SOFTSTART without V above 20 % of VTGT (R167, R171). -/
def execShortSoftstart (p : Port) (s : State) : Host.Outcome State Fault Refusal :=
  let q := s.prt p
  if pstate s p = psSoft ∧ q.ssTime ≤ q.ssCount ∧ q.ssOver = false then
    .next (showLimits p (foldS (groupOf p) (fun s i =>
      if portOf s i = some p ∧ smode s i ≠ mFault then s.stgF i (fun g => { g with mode := mOff, rMa := 0 }) else s)
      ((portOff p psShort s).wr R.prt_SHORT_SS [p.val] 1)))
  else .next s

/-! ## Stage modes (R172) -/

/-- HOSTATE and mode of a stage set; leaving a handover its h is zero (R181, R183). -/
def setMode (i : Stage) (m : Nat) (s : State) : State :=
  let s := if smode s i = mHandover ∧ m ≠ mHandover then
    (if hostate s i = hoAborted then s else s.wr R.stg_HOSTATE [i.val] hoNone).wr R.stg_H [i.val] 0 else s
  s.stgF i (fun g => { g with
    mode := m, faultAge := if g.mode = m then g.faultAge else 0, faultOpen := decide (g.mode = m) && g.faultOpen })

/-- A port has the local island's permit (R110, R183). -/
def permitted (s : State) (p : Port) : Bool := bitB (s.rd R.safe_PERMIT []) p.val

/-- A stage's ramp-up begins: h from 0 (R181). -/
def startRampUp (i : Stage) (p : Port) (s : State) : State :=
  ((setMode i mHandover s).wr R.stg_HOSTATE [i.val] hoRampUp).wr R.stg_H [i.val] 0 |>.stgF i (fun g => { g with
    hoPort := p.val, hoTarget := p.val % 4, hoNeg := decide ((s.prt p).dirPrev = 2), hoZero := none, hoMove := 0 })

/-- A stage's ramp-down begins: h from its last reference (R181). -/
def startRampDn (i : Stage) (p : Port) (s : State) : State :=
  let r := (s.stg i).rMa
  ((setMode i mHandover s).wr R.stg_HOSTATE [i.val] hoRampDn).wr R.stg_H [i.val] r.natAbs |>.stgF i (fun g => { g with
    hoPort := p.val, hoTarget := s.rd R.stg_ROUTE_PLAN [i.val], hoNeg := decide (r < 0)
    hoZero := if r = 0 then some 0 else none, hoMove := 0 })

/-- The rows of R172 but 10, 11 and 12, for a stage on a port in use, by its mode. A stage that becomes lead in PRECHARGE takes
PRECHARGE at once, the lead's mode there (R168, R169; no row names it: DEDUCED, log entry 79). -/
def modeOnPort (i : Stage) (p : Port) (tick : Bool) (s : State) : State :=
  let m := smode s i
  let ps := pstate s p
  let plan := s.rd R.stg_ROUTE_PLAN [i.val]
  let lead := decide ((s.prt p).lead = some i.val)
  let running := decide (ps = psRun) || decide (ps = psStopping)
  if (m = mRun ∨ m = mDrogue ∨ m = mBlast ∨ m = mGlide) ∧ tick = true ∧ plan ≠ routeForce s i then startRampDn i p s
  else if m = mHandover then
    if hostate s i = hoRampUp then
      if ps ≠ psRun then setMode i mOff s
      else if tick && decide ((s.rdI R.prt_SHARE [p.val]).natAbs ≤ s.rd R.stg_H [i.val]) then setMode i mRun s
      else s
    else s
  else if m = mOff then
    if availNow s i && decide (ps = psRun) && decide (plan = routeForce s i) && permitted s p then startRampUp i p s
    else if lead && decide (ps = psSoft) then setMode i mSoft s
    else if lead && decide (ps = psPre) then setMode i mPre s
    else s
  else if m = mSoft then
    if lead && decide (ps = psPre) then setMode i mPre s
    else if lead && decide (ps = psSoft) then s
    else setMode i mOff s
  else if m = mPre then
    if tick && decide (ps = psRun) then setMode i mRun s
    else if lead && decide (ps = psPre) then s
    else setMode i mOff s
  else if m = mRun ∨ m = mDrogue ∨ m = mBlast ∨ m = mGlide then (if running then s else setMode i mOff s)
  else s

/-- The mode of one stage (R172): rows 1-3, then those of its port. While Spar is FREE the module applies no power, and every
stage is OFF (R65). -/
def modeStep (i : Stage) (tick : Bool) (s : State) : State :=
  let m := smode s i
  if modeForce s i = mFault ∨ s.rdB R.stg_FAILED [i.val] = true then setMode i mFault s
  else if m = mFault ∧ modeForce s i = mOff then setMode i mOff s
  else if !attachedL s i || lockOf s == lockFree then setMode i mOff s
  else
    match portOf s i with
    | none => setMode i mOff s
    | some p =>
      if pstate s p = psIdle ∨ pstate s p = psShort then setMode i mOff s else modeOnPort i p tick s

/-- Rows 11 and 12: a share above SIMAX, or BIND = DROGUE (R172). -/
def modeDrogue (i : Stage) (s : State) : State :=
  let m := smode s i
  if m = mRun ∨ m = mDrogue then
    match portOf s i with
    | some p =>
      let above := decide (s.rdI R.stg_SIMAX [i.val] < (s.rdI R.prt_SHARE [p.val]).natAbs) ||
        decide (s.rd R.prt_BIND [p.val] = bindDrogue)
      setMode i (if above then mDrogue else mRun) s
    | none => s
  else s

/-- The stage reference of a period with a share of its port, signed mA (R129, R172). -/
def refWith (s : State) (i : Stage) (share : Int) : Int :=
  let m := smode s i
  match portOf s i with
  | some p =>
    if m = mRun ∨ m = mBlast ∨ m = mSoft then share
    else if m = mPre then s.rdI R.prt_IREF [p.val]
    else if m = mDrogue then (if share < 0 then -1 else 1) * min (share.natAbs : Int) (s.rdI R.stg_SIMAX [i.val])
    else if m = mHandover then (if (s.stg i).hoNeg then -1 else 1) * (s.rd R.stg_H [i.val] : Int)
    else 0
  | none => 0

/-- The stage reference of a period, signed mA. -/
def refMa (s : State) (i : Stage) : Int :=
  refWith s i (match portOf s i with | some p => s.rdI R.prt_SHARE [p.val] | none => 0)

/-- Set a stage's reference. -/
def putRef (i : Stage) (s : State) : State := s.stgF i (fun g => { g with rMa := refMa s i })

/-- At a tick the references in use stay until the next period (R19, R129), but those of modes whose r is 0. -/
def putRefTick (i : Stage) (s : State) : State :=
  if smode s i = mOff ∨ smode s i = mGlide ∨ smode s i = mFault then s.stgF i (fun g => { g with rMa := 0 }) else s

/-- IREF and n as they stand are those by which the period's references are formed. -/
def takeUse (p : Port) (s : State) : State :=
  s.prtF p (fun q => { q with use := (s.rdI R.prt_IREF [p.val], s.rd R.prt_NSHARE [p.val]) })

/-- The share by which the references of the running period are formed: of IREF and n as they stood before a tick of the
period, whose results act from the next period on (R19, R146); in SOFTSTART that of the lead alone. -/
def shareUse (s : State) (p : Port) : Int :=
  if pstate s p = psSoft then (s.prt p).use.1 else shareVal (s.prt p).use.1 (sumH s p) (s.prt p).use.2

/-- A port's share is formed anew within a period, with the references that follow it (R146). -/
def reshare (p : Port) (s : State) : State :=
  let sh := shareUse s p
  foldS (groupOf p) (fun s i => if portOf s i = some p then s.stgF i (fun g => { g with rMa := refWith s i sh }) else s)
    (sharePort p s)

/-! ## Handover (R181-R183) -/

/-- h in RAMPUP: a step more, at most the share (R181). -/
def hoRise (s : State) (h : Nat) (share : Int) : Nat := (min ((h : Int) + s.rdI R.brn_HO_STEP []) share.natAbs).toNat

/-- h of a stage in HANDOVER in a period (R181), and the periods of its steps (R182). -/
def hoPeriod (i : Stage) (s : State) : State :=
  if smode s i ≠ mHandover then s
  else
    let st := hostate s i
    let h := s.rd R.stg_H [i.val]
    let g := s.stg i
    if st = hoRampDn then
      let n := s.rd R.prt_NSHARE [g.hoPort]
      let h' := (min ((h : Int) - s.rdI R.brn_HO_STEP []) ((s.rdI R.prt_IREF [g.hoPort]).natAbs / (n + 1))).toNat
      (s.wr R.stg_H [i.val] h').stgF i (fun g => { g with
        hoZero := match g.hoZero with | some k => some (k + 1) | none => if h' = 0 then some 0 else none })
    else if st = hoZeroS then s.stgF i (fun g => { g with hoZero := g.hoZero.map (· + 1) })
    else if st = hoMoveS then s.stgF i (fun g => { g with hoMove := g.hoMove + 1 })
    else if st = hoRampUp then
      s.wr R.stg_H [i.val] (hoRise s h (s.rdI R.prt_SHARE [g.hoPort]))
    else s

/-- |Y0| at most 1 % of FS0 in this period's sample. -/
def smallSample (s : State) (i : Stage) : Bool :=
  bitB (s.line i).yOk 0 && decide ((s.rdI R.line_Y [i.val, 0]).natAbs * 100 ≤ 8388608)

/-- The driver of a stage reports SEL_WELD (R102). -/
def welded (s : State) (i : Stage) : Bool := bitB (s.rd R.line_STATUS [i.val]) 6

/-- A stage enters RAMPUP on port `p` in the middle of a period: its first h by the share in use, and the port's other
references follow (R19, R181). -/
def enterRampUp (i : Stage) (p : Port) (s : State) : State :=
  let h := hoRise s 0 (shareUse s p)
  reshare p ((startRampUp i p s).wr R.stg_H [i.val] h)

/-- What the period's uplink moves in a handover (R181): from RAMPDN to ZERO, to MOVE, to RAMPUP or OFF; a welded selector moves
nothing, its handover is to be aborted (R182). -/
def hoUplink (i : Stage) (s : State) : State :=
  if smode s i ≠ mHandover ∨ (s.line i).upGood = false ∨ welded s i = true then s
  else
    let st := hostate s i
    if st = hoRampDn then
      if s.rd R.stg_H [i.val] = 0 ∧ smallSample s i = true then s.wr R.stg_HOSTATE [i.val] hoZeroS else s
    else if st = hoZeroS then
      if modeForce s i = mOff then
        (s.wr R.stg_HOSTATE [i.val] hoMoveS).stgF i (fun g => { g with hoMove := 0 })
      else s
    else if st = hoMoveS then
      if routeForce s i = (s.stg i).hoTarget ∧ bitB (s.rd R.line_STATUS [i.val]) 7 = false then
        match portOf s i with
        | some p =>
          if pstate s p = psRun ∧ availNow s i = true ∧ permitted s p = true then enterRampUp i p s
          else putRef i (setMode i mOff s)
        | none => putRef i (setMode i mOff s)
      else s
    else s

/-- A handover has run out of time, or the driver reports SEL_WELD, in any of its steps (R182). -/
def hoExpired (s : State) (i : Stage) : Bool :=
  let st := hostate s i
  let g := s.stg i
  decide (g.mode = mHandover) &&
    (welded s i || ((st == hoRampDn || st == hoZeroS) &&
        (match g.hoZero with | some k => decide (s.rd R.brn_HO_ZTMO [] ≤ k) | none => false)) ||
      (st == hoMoveS && decide (s.rd R.brn_SEL_TMO [] ≤ g.hoMove)))

/-- HANDOVER_ABORT (R182): OFF with ROUTE = 4, HOSTATE ABORTED, HO_ABORT. -/
def execHandoverAbort (i : Stage) (s : State) : Host.Outcome State Fault Refusal :=
  if hoExpired s i then
    let s := (setMode i mOff s).wr R.stg_HOSTATE [i.val] hoAborted
    .next (putRef i (putAvail i (s.wr R.stg_HO_ABORT [i.val] 1)))
  else .next s

/-- HO_ABORT cleared: only with route 4 and OFF in force (R182). -/
def hoAbortClear (i : Stage) (s : State) : State :=
  if routeForce s i = 4 ∧ modeForce s i = mOff ∧ s.rdB R.stg_HO_ABORT [i.val] = true then
    (s.wr R.stg_HO_ABORT [i.val] 0).wr R.stg_HOSTATE [i.val] hoNone
  else s

/-- HO_ABORT_CLEAR. -/
def execHoAbortClear (w : World) (i : Stage) (s : State) : Host.Outcome State Fault Refusal :=
  .next (s.asWriter w (stagePage i) (hoAbortClear i))

/-! ## Burst operation (R174) -/

/-- Available stages of a port not in HANDOVER. -/
def burstStages (s : State) (p : Port) : List Stage := (availOn s p).filter (fun i => smode s i != mHandover)

/-- nb, the stages that BLAST; `n` is n_avail. -/
def burstNb (s : State) (p : Port) (n : Nat) : Nat :=
  let i := (s.rdI R.prt_IREF [p.val]).natAbs
  let l := s.rdI R.prt_BLAST_LVL [p.val]
  min n (max 1 (if l = 0 then n else if l < 0 then 0 else divCeil i l.toNat))

/-- Stages in ascending order from number `k` on, wrapping round. -/
def wrapFrom (l : List Stage) (k : Nat) : List Stage := l.filter (fun i => decide (k ≤ i.val)) ++ l.filter (fun i => decide (i.val < k))

/-- The BLAST set starts at stage number `k`; the rest of the port's stages GLIDE. -/
def burstSet (p : Port) (k : Nat) (s : State) : State :=
  let l := wrapFrom (burstStages s p) k
  let nb := burstNb s p l.length
  let blast := l.take nb
  let s := foldS l (fun s i =>
    let m := smode s i
    if m = mRun ∨ m = mDrogue ∨ m = mBlast ∨ m = mGlide then setMode i (if i ∈ blast then mBlast else mGlide) s else s) s
  (s.wr R.prt_NBLAST [p.val] nb).prtF p (fun q => { q with burstStart := some ((l.head?.map (·.val)).getD k) })

/-- Burst ends: every BLAST and GLIDE stage to RUN. -/
def burstLeave (p : Port) (s : State) : State :=
  let s := foldS (groupOf p) (fun s i =>
    if portOf s i = some p ∧ (smode s i = mBlast ∨ smode s i = mGlide) then setMode i mRun s else s) s
  ((s.wr R.prt_BURST [p.val] 0).wr R.prt_NBLAST [p.val] 0).prtF p (fun q => { q with burstLow := 0, rotCnt := 0 })

/-- Burst operation at a tick: the entry condition is counted, the sets formed anew, or burst is left (R174). -/
def burstTick (p : Port) (s : State) : State :=
  let n := (burstStages s p).length
  let s := s.wr R.prt_NAVAIL [p.val] n
  let on := decide (pstate s p = psRun) && s.rdB R.prt_BURST_EN [p.val]
  if s.rdB R.prt_BURST [p.val] then
    if !on || burstNb s p n == n then burstLeave p s
    else burstSet p ((s.prt p).burstStart.getD 0) (s.prtF p (fun q => { q with rotCnt := q.rotCnt + 1 }))
  else
    let low := on && decide (((s.rdI R.prt_IREF [p.val]).natAbs : Int) ≤ s.rdI R.prt_BURST_IN [p.val] * n)
    s.prtF p (fun q => { q with burstLow := if low then q.burstLow + 1 else 0 })

/-- The count n at a tick (R146). -/
def countN (p : Port) (s : State) : State :=
  let l := (groupOf p).filter (fun i =>
    let m := smode s i
    portOf s i == some p && (m == mRun || m == mBlast || m == mSoft || m == mDrogue) && !s.rdB R.stg_FAILED [i.val])
  s.wr R.prt_NSHARE [p.val] l.length

/-- Modes changed at a tick are settled before n, and with it the share (R146, R172). -/
def settle (p : Port) (s : State) : State :=
  foldS (groupOf p) (fun s i => if portOf s i = some p then putRefTick i s else s) (sharePort p (countN p s))

/-- BURST_ENTRY: the 8th consecutive tick with a low current (R174). Where nb would equal n_avail, at which burst is left at the
same tick, it is not entered (DESIGN CHOICE, log entry 80). -/
def execBurstEntry (p : Port) (s : State) : Host.Outcome State Fault Refusal :=
  let n := (burstStages s p).length
  if 8 ≤ (s.prt p).burstLow ∧ s.rdB R.prt_BURST [p.val] = false ∧ burstNb s p n < n then
    .next (settle p (burstSet p ((s.prt p).burstStart.elim 0 (· + 1))
      ((s.wr R.prt_BURST [p.val] 1).prtF p (fun q => { q with burstLow := 0, rotCnt := 0 }))))
  else .next s

/-- BURST_ROTATE: after ROT_TICKS ticks the starting point moves on by one stage (R174). -/
def execBurstRotate (p : Port) (s : State) : Host.Outcome State Fault Refusal :=
  let r := s.rd R.prt_ROT_TICKS [p.val]
  if s.rdB R.prt_BURST [p.val] = true ∧ r ≠ 0 ∧ r ≤ (s.prt p).rotCnt then
    .next (settle p (burstSet p ((s.prt p).burstStart.elim 0 (· + 1)) (s.prtF p (fun q => { q with rotCnt := 0 }))))
  else .next s

/-! ## Failed stages (R178) -/

/-- A failed stage's current is judged small (R178), by the last good sample also in a period whose own is missing (DESIGN CHOICE,
log entry 215). -/
def smallCurrent (s : State) (i : Stage) : Bool :=
  if s.rd R.stg_CAUSE [i.val] = 2 then
    match portOf s i with
    | some p =>
      let others := ((routed s p).filter (· ≠ i)).foldl (fun a j => a + y0mA s j) 0
      decide ((s.rdI R.mt_I_FAST [p.val] - others).natAbs * 100 ≤ 10 * s.rd R.line_FS [i.val, 0])
    | none => true
  else decide ((s.rdI R.line_Y [i.val, 0]).natAbs * 100 ≤ 8388608)

/-- FAULT_ROUTE_OPEN: after 8 periods in FAULT, ROUTE = 4 once the current is small (R178). -/
def execFaultRouteOpen (i : Stage) (s : State) : Host.Outcome State Fault Refusal :=
  if smode s i = mFault ∧ 8 ≤ (s.stg i).faultAge ∧ smallCurrent s i = true then
    .next (s.stgF i (fun g => { g with faultOpen := true }))
  else .next s

/-- MODE a stage is sent (R172, R181). -/
def modeOut (s : State) (i : Stage) : Nat :=
  if smode s i = mHandover ∧ (hostate s i = hoZeroS ∨ hostate s i = hoMoveS) then mOff else smode s i

/-- ROUTE a stage is sent (R173, R178, R181, R182). -/
def routeOut (s : State) (i : Stage) : Nat :=
  let m := smode s i
  if s.rdB R.stg_HO_ABORT [i.val] then 4
  else if m = mFault then (if (s.stg i).faultOpen then 4 else routeForce s i)
  else if m = mHandover then
    (if hostate s i = hoMoveS ∨ hostate s i = hoRampUp then (s.stg i).hoTarget else routeForce s i)
  else if m = mOff then s.rd R.stg_ROUTE_PLAN [i.val]
  else routeForce s i

/-! ## A period and a tick -/

/-- What the meters deliver to Burner for a port (R139). -/
def portMeasure (p : Port) (s : State) : State :=
  ((s.wr R.prt_VMEAS [p.val] (s.rd R.mt_V_FAST [p.val])).wr R.prt_IMEAS [p.val] (s.rd R.mt_I_FAST [p.val])).wr
    R.prt_PMEAS [p.val] (s.rd R.mt_P_FAST [p.val])

/-- One stage at a period start: availability, mode, handover, periods in FAULT. -/
def stagePeriod (i : Stage) (s : State) : State :=
  let s := putAvail i s
  let s := s.stgF i (fun g => { g with faultAge := if g.mode = mFault then g.faultAge + 1 else 0, heard := g.heardNext })
  hoPeriod i (modeStep i false s)

/-- A stage that Burner has nothing to do for: not attached, OFF, neither failed nor shown as available. -/
def stageIdle (s : State) (i : Stage) : Bool :=
  !attachedL s i && smode s i == mOff && modeForce s i == mOff && !s.rdB R.stg_FAILED [i.val] && !s.rdB R.stg_AVAIL [i.val]

/-- Burner at a control period start (R146, R167-R174, R181). -/
def burnerPeriod (s : State) : State :=
  let s := foldS (List.finRange 32) (fun s p =>
    let s := softPeriod p (showLimits p (pstatePeriod p (portMeasure p s)))
    if pstate s p = psRun ∨ pstate s p = psStopping then periodRef p s else s) s
  let s := foldS (List.finRange 128) (fun s i => if stageIdle s i then s else stagePeriod i s) s
  let s := foldS (List.finRange 32) (fun s p =>
    let ps := pstate s p
    let s := if ps = psIdle ∨ ps = psShort then (s.wr R.prt_SHARE [p.val] 0).wr R.prt_NO_STAGES [p.val] 0 else sharePort p s
    takeUse p s) s
  foldS (List.finRange 128) (fun s i => if stageIdle s i then s else putRef i (modeDrogue i s)) s

/-- Changes of PSTATE marked tick, before the loops: PRECHARGE to RUN, VRUN latched (R167). -/
def pstateTick (p : Port) (s : State) : State :=
  if pstate s p = psPre ∧ preq s p = 2 then
    (s.wr R.prt_PSTATE [p.val] psRun).wr R.prt_VRUN [p.val] (s.rd R.prt_VMEAS [p.val])
  else s

/-- After the loops: STOPPING to IDLE (R167). -/
def stopTick (p : Port) (s : State) : State :=
  if pstate s p = psStopping ∧ (s.prt p).prev = 0 ∧
      ((s.rdI R.prt_IMEAS [p.val]).natAbs : Int) ≤ s.rdI R.prt_STOP_I [p.val] then portOff p psIdle s
  else s

/-- The port signals are kept as they stand at the end of a tick (R156). -/
def holdSignals (p : Port) (s : State) : State :=
  s.prtF p (fun q => { q with held := (List.range 15).map (portSignalNow s p) })

/-- Burner at a port loop tick (R142, R146, R147, R172, R174): the loops, the modes in the order of the rows of R172, burst
operation among the stages that are left, n, share, and the port signals. -/
def burnerTick (s : State) : State :=
  let s := foldS (List.finRange 32) (fun s p => stopTick p (portLoopTick p (pstateTick p (thermalTick p s)))) s
  let s := foldS (List.finRange 128) (fun s i => if stageIdle s i then s else modeStep i true s) s
  let s := foldS (List.finRange 32) (fun s p =>
    let s := countN p (burstTick p (showLimits p s))
    if pstate s p = psIdle ∨ pstate s p = psShort then s else sharePort p s) s
  let s := foldS (List.finRange 128) (fun s i => if stageIdle s i then s else putRefTick i (modeDrogue i s)) s
  foldS (List.finRange 32) (fun s p => holdSignals p s) s

/-! ## CEIL within a period, and takeover -/

/-- A signed reference with its magnitude limited. -/
def limitTo (c v : Int) : Int := if v < 0 then -(min (-v) c) else min v c

/-- The period's reference of a port is limited anew to its CEIL, in the period in which a Rip panel stop begins (R143, R431). -/
def ceilActs (p : Port) (s : State) : State :=
  let s := showLimits p s
  let ps := pstate s p
  let low := fun (s : State) => s.prtF p (fun q => { q with use := (limitTo (reportMa s p (ceilMa s p)) q.use.1, q.use.2) })
  if ps = psRun ∨ ps = psStopping then reshare p (low (periodRef p s))
  else if ps = psSoft ∨ ps = psPre then
    let c := ceilMa s p
    if c < (s.rdI R.prt_IREF [p.val]).natAbs then
      reshare p (takeUse p (setBind p bindSafety (s.wr R.prt_IREF [p.val] c)))
    else s
  else s

/-- A module becomes active: each port's prev is |I|, the tracking update is applied, and the reference issued starts from
that current (R155). The errors and candidates of that update are formed anew with the period's measurements, and what
saturates in them counts (R123; DESIGN CHOICE, log entry 74). -/
def portTakeover (p : Port) (s : State) : State :=
  let ps := pstate s p
  if (ps = psRun ∨ ps = psStopping) ∧ baseZero s p = false then
    let ref := ofMa s p (s.rdI R.prt_IMEAS [p.val]).natAbs
    let d := (s.prt p).dirPrev
    let s := s.prtF p (fun q => { q with prev := ref.v })
    let ls := if d = 0 then [] else (List.range 6).map (loopEval s p d)
    let t := if d = 0 then (0, s) else track p ls ref.v s
    portSat p (ref.n + t.1 + ls.foldl (fun n l => n + l.n) 0) (reshare p (takeUse p (issueRef p t.2)))
  else s

end Sys2Proof.Machine
end

