-- ==== Sys2Proof/Machine/Key.lean ====
section
/-! DEFINITION. Memories and their grants, key slots, crypto jobs, life cycle (20_worlds_keys_lifecycle.md). -/

namespace Sys2Proof.Machine

open Sys2Proof

/-- A change of the key state. -/
def State.keyF (s : State) (f : KeyS → KeyS) : State := { s with key := f s.key }

/-! ## Memories (R542-R544) -/

/-- The canonical form of a memory. -/
def Memory.wf (m : Memory) : Bool := swf (0 : Byte) m

/-- A byte of a memory. -/
def memGet (m : Memory) (a : Nat) : Byte := sget (0 : Byte) m a

/-- A byte of a memory written. -/
def memPut (m : Memory) (a : Nat) (b : Byte) : Memory := sput (0 : Byte) m a b

/-- `n` bytes from an address. -/
def memBytes (m : Memory) (a n : Nat) : List Byte := (List.range n).map (fun i => memGet m (a + i))

/-- Bytes written from an address. -/
def memWrite (m : Memory) : Nat → List Byte → Memory
  | _, [] => m
  | a, b :: t => memWrite (memPut m a b) (a + 1) t

/-- Region `r` of DRAM covers a byte for a world (R543). -/
def regionGives (s : State) (w : Nat) (a : Nat) (write : Bool) (r : Nat) : Bool :=
  let base := s.rd R.reg_BASE [r] * 65536
  let size := (if s.rd R.reg_SIZE [r] = 0 then 65536 else s.rd R.reg_SIZE [r]) * 65536
  s.rdB R.reg_EN [r] && decide (base ≤ a) && decide (a < base + size) &&
    (bitB (s.rd R.reg_WR [r]) w || (!write && bitB (s.rd R.reg_RD [r]) w))

/-- A world may access a DRAM byte (R543). -/
def dramOk (s : State) (w a : Nat) (write : Bool) : Bool :=
  decide (a < 2 ^ 32) && (List.range 16).any (regionGives s w a write)

/-- Bytes of private SRAM: Gondola 2 MiB, Bremus 1 MiB (chapter 1). -/
def sramSize (w : Nat) : Nat := if w = 0 then 2097152 else 1048576

/-- Bytes of the billing request ring at the base of Bremus SRAM (R365, R544). -/
def ringSize : Nat := 16388

/-- A world may access a byte of its own memory: SRAM for W0 and W1, DRAM for the others (R543, R544). -/
def worldOk (s : State) (w a : Nat) (write : Bool) : Bool :=
  if w < 2 then decide (a < sramSize w) else dramOk s w a write

/-- A byte of a world's own memory as the world reads it; 0 outside the grant (R11). -/
def worldGet (s : State) (w a : Nat) : Byte :=
  if worldOk s w a false then memGet (if w = 0 then s.sram0 else if w = 1 then s.sram1 else s.dram) a else 0

/-- A byte of a world's own memory written; outside the grant the write is ignored. -/
def worldPut (w a : Nat) (b : Byte) (s : State) : State :=
  if worldOk s w a true then
    (if w = 0 then { s with sram0 := memPut s.sram0 a b }
     else if w = 1 then { s with sram1 := memPut s.sram1 a b }
     else { s with dram := memPut s.dram a b })
  else s

/-- An access of `n` bytes as world `w`: a byte outside the grant makes it one violation (R11, R542, R555). -/
def worldCount (w a n : Nat) (write : Bool) (s : State) : State :=
  if (List.range n).all (fun i => worldOk s w (a + i) write) then s else s.satInc R.host_VIOL [w]

/-- Bytes of a world's own memory. -/
def worldBytes (s : State) (w a n : Nat) : List Byte := (List.range n).map (fun i => worldGet s w (a + i))

/-- A little-endian word of a world's own memory. -/
def worldWord (s : State) (w a : Nat) : Nat := leNat (worldBytes s w a 4)

/-- Bytes of a world's own memory written. -/
def worldWrite (w : Nat) : Nat → List Byte → State → State
  | _, [], s => s
  | a, b :: t, s => worldWrite w (a + 1) t (worldPut w a b s)

/-! ## Slots (R545-R550) -/

/-- Bytes of key material by TYPE (R545). -/
def typeBytes (t : Nat) : Nat := [0, 16, 32, 32, 48, 96, 48, 64, 96, 48, 28, 44, 16].getD t 0

/-- USE bits (R545). -/
def uEncrypt : Nat := 0
def uDecrypt : Nat := 1
def uSign : Nat := 2
def uVerify : Nat := 3
def uDerive : Nat := 4
def uWrap : Nat := 5
def uExport : Nat := 6
def uImport : Nat := 7
def uPubread : Nat := 8

/-- Material of a slot. -/
def slotMat (s : State) (k : Nat) : List Byte := sget [] s.key.mat k

/-- A slot's USE bit. -/
def slotUse (s : State) (k u : Nat) : Bool := bitB (s.rd R.slot_USE [k]) u

/-- What R546 asks of every slot: valid, of one of the types, in this life-cycle state, and fit for debugging. -/
def slotBase (s : State) (k : Nat) (types : List Nat) : Bool :=
  decide (k < 256) && s.rdB R.slot_VALID [k] && types.contains (s.rd R.slot_TYPE [k]) &&
    bitB (s.rd R.slot_LCMASK [k]) (s.rd R.key_LC []) && (s.rdB R.slot_DBG_OK [k] || !s.rdB R.key_DEBUG_EN [])

/-- A slot usable by a crypto job of a world (R546). -/
def jobSlot (s : State) (w k : Nat) (types : List Nat) (use : Nat) : Bool :=
  slotBase s k types && slotUse s k use && s.rd R.slot_ENGINE [k] == 0 && bitB (s.rd R.slot_WORLD [k]) w

/-- A slot usable by an engine's unit (R546). -/
def engineSlot (s : State) (k engine unit : Nat) (types uses : List Nat) : Bool :=
  slotBase s k types && uses.all (slotUse s k) && s.rd R.slot_ENGINE [k] == engine && s.rd R.slot_UNIT [k] == unit

/-- TYPE of a record key by SUITE (R546). -/
def suiteType (suite : Nat) : Nat := 8 + suite

/-- A slot the record engine of a port may use (R546). -/
def recordSlot (s : State) (p k suite use : Nat) : Bool :=
  decide (0 < suite) && engineSlot s k 1 p [suiteType suite] [use]

/-- A slot a host session may use (R546). -/
def sessionSlot (s : State) (w k : Nat) : Bool := engineSlot s k 2 w [1] [uEncrypt, uDecrypt]

/-- A slot an SPLC coupling may use (R546): no USE bit is named for it. -/
def couplingSlot (s : State) (c k : Nat) : Bool := engineSlot s k 3 c [12] []

/-- A slot that may receive material from a job (R547). -/
def destSlot (s : State) (w k : Nat) (types : List Nat) : Bool :=
  decide (k < 256) && slotUse s k uImport && types.contains (s.rd R.slot_TYPE [k]) && bitB (s.rd R.slot_WORLD [k]) w

/-- Material put into a slot. -/
def putSlot (k : Nat) (m : List Byte) (s : State) : State :=
  (s.keyF (fun q => { q with mat := sput [] q.mat k m })).wr R.slot_VALID [k] 1

/-- A slot zeroised (R548). -/
def zeroise (k : Nat) (s : State) : State :=
  (s.keyF (fun q => { q with mat := sput [] q.mat k [] })).wr R.slot_VALID [k] 0

/-- A slot's attribute words (R545). -/
def slotWord0 (s : State) (k : Nat) : Nat :=
  s.rd R.slot_TYPE [k] * 2 ^ 28 + s.rd R.slot_LCMASK [k] * 2 ^ 24 + s.rd R.slot_WORLD [k] * 2 ^ 14 +
    s.rd R.slot_DBG_OK [k] * 2 ^ 13 + s.rd R.slot_LOCK [k] * 2 ^ 11 + s.rd R.slot_USE [k]
def slotWord1 (s : State) (k : Nat) : Nat :=
  s.rd R.slot_ENGINE [k] * 2 ^ 28 + s.rd R.slot_UNIT [k] * 2 ^ 22 + s.rd R.slot_VALID [k] * 2 ^ 21 +
    s.rd R.slot_KEYID [k]

/-- `new` sets a bit that `old` has not. -/
def setsBit (old new : Nat) : Bool := (new &&& old) != new

/-- Word 0 written (R548); bits 9 and 10 of USE are reserved. -/
def slotWrite0 (k v : Nat) (s : State) : State :=
  let z := s.rdB R.slot_VALID [k] && (s.rd R.slot_TYPE [k] != bits v 28 4 || setsBit (s.rd R.slot_USE [k]) (bits v 0 9) ||
    setsBit (s.rd R.slot_WORLD [k]) (bits v 14 10) || setsBit (s.rd R.slot_LCMASK [k]) (bits v 24 4) ||
    setsBit (s.rd R.slot_DBG_OK [k]) (bits v 13 1))
  let s := if z then zeroise k s else s
  (((((s.wr R.slot_TYPE [k] (bits v 28 4)).wr R.slot_LCMASK [k] (bits v 24 4)).wr R.slot_WORLD [k] (bits v 14 10)).wr
    R.slot_DBG_OK [k] (bits v 13 1)).wr R.slot_LOCK [k] (bits v 11 1)).wr R.slot_USE [k] (bits v 0 9)

/-- Word 1 written (R548). -/
def slotWrite1 (k v : Nat) (s : State) : State :=
  let z := s.rdB R.slot_VALID [k] && (s.rd R.slot_ENGINE [k] != bits v 28 4 || s.rd R.slot_UNIT [k] != bits v 22 6)
  let s := if z then zeroise k s else s
  ((s.wr R.slot_ENGINE [k] (bits v 28 4)).wr R.slot_UNIT [k] (bits v 22 6)).wr R.slot_KEYID [k] (bits v 0 16)

/-- A write of a slot's word (R545, R548, R549): K000 is fixed, a locked slot ignores it. -/
def slotWrite (k : Nat) (second : Bool) (v : Nat) (s : State) : State :=
  if k = 0 then s.setErr 16 0x0101
  else if s.rdB R.slot_LOCK [k] then s
  else if second then slotWrite1 k v s else slotWrite0 k v s

/-- SLOT_ATTRIBUTE_WRITE: a world writes a slot's word (R548). -/
def execSlotAttributeWrite (w : World) (k : Fin 256) (second : Bool) (v : Word) (s : State) :
    Host.Outcome State Fault Refusal := .next (s.asWriter w 17 (slotWrite k.val second v.toNat))

/-- CLR_GO: slot CLR_SLOT is zeroised, locked or not; K000 is not reached (R548, R549). -/
def clrGo (s : State) : State :=
  let k := s.rd R.key_CLR_SLOT []
  if k = 0 then s.setErr 16 0x0101 else zeroise k s

/-- CLR_GO (R548). -/
def execClrGo (w : World) (s : State) : Host.Outcome State Fault Refusal := .next (s.asWriter w 16 clrGo)

/-- A word of a grant region written (R543, R566): 0 BASE and SIZE, 1 EN and RD, 2 WR; the fourth is reserved. -/
def regionWrite (r k v : Nat) (s : State) : State :=
  if k = 0 then (s.wr R.reg_BASE [r] (bits v 16 16)).wr R.reg_SIZE [r] (bits v 0 16)
  else if k = 1 then (s.wr R.reg_EN [r] (bits v 31 1)).wr R.reg_RD [r] (bits v 0 10)
  else if k = 2 then s.wr R.reg_WR [r] (bits v 0 10)
  else s

/-- REGION_WRITE: a world writes a grant region (R543, R44). -/
def execRegionWrite (w : World) (r : Fin 16) (k : Fin 4) (v : Word) (s : State) : Host.Outcome State Fault Refusal :=
  .next (s.asWriter w 18 (regionWrite r.val k.val v.toNat))

/-! ## The job queue (R554-R556) -/

/-- log2 of a world's ring size: values outside 4-9 act as the nearer end (R566). -/
def jrLog (s : State) (w : Nat) : Nat := max 4 (min 9 (s.rd R.jr_JR_LOG [w]))

/-- Entries of a world's rings. -/
def jrSize (s : State) (w : Nat) : Nat := 2 ^ jrLog s w

/-- A world's producer count PI: the word after the last descriptor (R554). -/
def jobPi (s : State) (w : Nat) : Nat := worldWord s w (s.rd R.jr_JR_BASE [w] + 64 * jrSize s w)

/-- A world's consumed count: the word after the completion count (R554). -/
def jobConsumed (s : State) (w : Nat) : Nat := worldWord s w (s.rd R.jr_CR_BASE [w] + 16 * jrSize s w + 4)

/-- A per-world count. -/
def at3 (v : Vector Nat 3) (w : Nat) : Nat := v.toList.getD w 0

/-- A per-world count changed, modulo 2^32. -/
def put3 (v : Vector Nat 3) (w n : Nat) : Vector Nat 3 :=
  if h : w < 3 then v.set w (n % 2 ^ 32) h else v

/-- Jobs of a world in flight. -/
def inflight (s : State) (w : Nat) : Nat := (s.key.jobs.filter (fun j => j.world == w)).length

/-- The engine takes another descriptor of a world (R555). -/
def canAccept (s : State) (w : Nat) : Bool :=
  s.rdB R.jr_JEN [w] && jobPi s w != at3 s.key.acc w &&
    decide (inflight s w < s.rd R.jr_JQ [w]) &&
    decide (inflight s w + (at3 s.key.comp w + 2 ^ 32 - jobConsumed s w) % 2 ^ 32 < jrSize s w) &&
    decide (s.key.jobs.length < 512)

/-- A descriptor as it lies in memory (R556). -/
def readJob (s : State) (w i : Nat) : Job :=
  let d := worldBytes s w (s.rd R.jr_JR_BASE [w] + 64 * (i % jrSize s w)) 64
  let f := fun (a n : Nat) => leNat ((d.drop a).take n)
  { world := w, idx := i % jrSize s w, tag := f 0 2, op := f 2 1, fence := bitB (f 3 1) 0, mode := bits (f 3 1) 1 3,
    alg := bits (f 3 1) 4 2, k1 := f 4 2, k2 := f 6 2, src := f 8 8, srcLen := f 16 4, dst := f 20 8, dstLen := f 28 4,
    aux := f 32 8, auxLen := f 40 4, resv := bits (f 3 1) 6 2 != 0 || f 44 20 != 0, out := none }

/-- INFLIGHT and W_INFLIGHT as they stand. -/
def showInflight (s : State) : State :=
  foldS (List.range 3) (fun s w => s.wr R.jr_W_INFLIGHT [w] (inflight s w)) (s.wr R.key_INFLIGHT [] s.key.jobs.length)

/-- One descriptor accepted from a world, and the turn passes on (R555). -/
def acceptJob (w : Nat) (s : State) : State :=
  let s := worldCount w (s.rd R.jr_JR_BASE [w] + 64 * (at3 s.key.acc w % jrSize s w)) 64 false s
  s.keyF (fun q => { q with
    jobs := q.jobs ++ [readJob s w (at3 q.acc w)], acc := put3 q.acc w (at3 q.acc w + 1), turn := (w + 1) % 3 })

/-- New descriptors are accepted, one at a time and in turns, as long as any world may have one taken (R555). -/
def acceptJobs : Nat → State → State
  | 0, s => s
  | n + 1, s =>
    match [s.key.turn, (s.key.turn + 1) % 3, (s.key.turn + 2) % 3].find? (canAccept s) with
    | some w => acceptJobs n (acceptJob w s)
    | none => s

/-- The counts the engine reads for each enabled ring: PI, and the completions consumed (R555). -/
def readCounts (s : State) : State :=
  foldS (List.range 3) (fun s w =>
    if s.rdB R.jr_JEN [w] then
      worldCount w (s.rd R.jr_CR_BASE [w] + 16 * jrSize s w + 4) 4 false
        (worldCount w (s.rd R.jr_JR_BASE [w] + 64 * jrSize s w) 4 false s)
    else s) s

/-- JOB_ACCEPT at a control period start (R555). -/
def jobAccept (s : State) : State := showInflight (acceptJobs 512 (readCounts s))

/-- A ring that is off starts its counts anew (R558; log entry 208). -/
def ringRestart (w : Nat) (s : State) : State :=
  if s.rdB R.jr_JEN [w] then s else s.keyF (fun q => { q with acc := put3 q.acc w 0, comp := put3 q.comp w 0 })

/-- The job at a descriptor index of a world. -/
def jobAt (s : State) (w i : Nat) : Option Job := s.key.jobs.find? (fun j => j.world == w && j.idx == i)

/-- A job may start: it has not, and no fence holds it (R556). Jobs of a ring stand in order of acceptance. -/
def mayStart (s : State) (j : Job) : Bool :=
  let before := (s.key.jobs.filter (fun k => k.world == j.world)).takeWhile (fun k => k.idx != j.idx)
  j.out.isNone && (!j.fence || before.isEmpty) && before.all (fun k => !k.fence || k.out.isSome)

/-- A job's outcome recorded: the engine has run it, and it waits to complete. -/
def finish (j : Job) (o : JobOut) (s : State) : State :=
  s.keyF (fun q => { q with jobs := q.jobs.map (fun k => if k = j then { k with out := some o } else k) })

/-- Job statuses (R557). -/
def stOk : Nat := 0
def stDenied : Nat := 1
def stAuth : Nat := 2
def stBad : Nat := 3
def stPoint : Nat := 4
def stRng : Nat := 5

/-- What running a job gives: its outcome, the bytes at DST, and how many free values it took. -/
structure JobRun where
  out : JobOut
  dst : List Byte
  took : Nat
  deriving DecidableEq, Repr

/-- A job that ends with a status and writes nothing. -/
def jobEnd (st : Nat) : JobRun := ⟨⟨st, 0, none⟩, [], 0⟩

/-- A job that writes bytes at DST. -/
def jobWrites (l : List Byte) (took : Nat) : JobRun := ⟨⟨stOk, l.length, none⟩, l, took⟩

/-- A job that fills a slot. -/
def jobFills (k : Nat) (m : List Byte) (pub : List Byte) (took : Nat) : JobRun := ⟨⟨stOk, pub.length, some (k, m)⟩, pub, took⟩

/-- Bytes of a digest, of a private key and of a coordinate by algorithm. -/
def algBytes (alg : Nat) : Nat := if alg = 1 then 48 else 32

/-- Random bytes: what the random source gives (log entry 1). -/
def randomBytes (s : State) (n : Nat) : List Byte := leBytes n (s.free (8 * n))

/-- Bytes of a job's SRC, AUX. -/
def jobSrc (s : State) (j : Job) : List Byte := worldBytes s j.world j.src j.srcLen
def jobAux (s : State) (j : Job) : List Byte := worldBytes s j.world j.aux j.auxLen

/-- HASH (R557). -/
def runHash (s : State) (j : Job) : JobRun :=
  if j.dstLen < algBytes j.alg then jobEnd stBad else jobWrites ((Config.digest j.alg (jobSrc s j)).take (algBytes j.alg)) 0

/-- HMAC: computes the tag, or compares it with AUX in MODE 1 (R557). -/
def runHmac (s : State) (j : Job) : JobRun :=
  if j.mode > 1 ∨ (j.mode = 0 ∧ j.dstLen < algBytes j.alg) ∨ (j.mode = 1 ∧ j.auxLen ≠ algBytes j.alg) then jobEnd stBad
  else if jobSlot s j.world j.k1 [3 + j.alg] uSign then
    let t := (Config.hmac j.alg (slotMat s j.k1) (jobSrc s j)).take (algBytes j.alg)
    if j.mode = 0 then jobWrites t 0 else jobEnd (if t = jobAux s j then stOk else stAuth)
  else jobEnd stDenied

/-- GCM_ENC (R557): ciphertext and tag at DST. -/
def runGcmEnc (s : State) (j : Job) : JobRun :=
  if j.auxLen < 12 ∨ j.dstLen < j.srcLen + 16 then jobEnd stBad
  else if jobSlot s j.world j.k1 [1 + j.alg] uEncrypt then
    let a := jobAux s j
    jobWrites (Config.gcmSeal (slotMat s j.k1) (a.take 12) (a.drop 12) (jobSrc s j)) 0
  else jobEnd stDenied

/-- GCM_DEC (R557): SRC is ciphertext and tag; AUTH_FAIL writes nothing. -/
def runGcmDec (s : State) (j : Job) : JobRun :=
  if j.auxLen < 12 ∨ j.srcLen < 16 ∨ j.dstLen < j.srcLen - 16 then jobEnd stBad
  else if jobSlot s j.world j.k1 [1 + j.alg] uDecrypt then
    let a := jobAux s j
    let c := jobSrc s j
    match Config.gcmOpen (slotMat s j.k1) (a.take 12) (a.drop 12) (c.take (c.length - 16)) (c.drop (c.length - 16)) with
    | some p => jobWrites p 0
    | none => jobEnd stAuth
  else jobEnd stDenied

/-- The private part of an ECC slot's material. -/
def privOf (alg : Nat) (m : List Byte) : List Byte := m.take (algBytes alg)

/-- The public key a slot gives (R545): stored, or computed on use. -/
def pubOfSlot (s : State) (k : Nat) : List Byte :=
  let m := slotMat s k
  match s.rd R.slot_TYPE [k] with
  | 5 => m.drop 32
  | 6 => Config.pubOf 1 m
  | _ => m

/-- SIGN (R557): r and s at DST. -/
def runSign (s : State) (j : Job) : JobRun :=
  if j.srcLen ≠ algBytes j.alg ∨ j.dstLen < 2 * algBytes j.alg then jobEnd stBad
  else if jobSlot s j.world j.k1 [5 + j.alg] uSign then
    if s.key.rngBad then jobEnd stRng
    else jobWrites (Config.ecSign j.alg (privOf j.alg (slotMat s j.k1)) (jobSrc s j) (s.free 384)) 1
  else jobEnd stDenied

/-- VERIFY (R557). -/
def runVerify (s : State) (j : Job) : JobRun :=
  let n := 2 * algBytes j.alg
  if j.srcLen ≠ algBytes j.alg ∨ j.auxLen ≠ n ∨ (j.k1 = 0xFFFF ∧ j.dstLen ≠ n) then jobEnd stBad
  else if j.k1 = 0xFFFF ∨ jobSlot s j.world j.k1 [5 + j.alg, 7 + j.alg] uVerify = true then
    let pub := if j.k1 = 0xFFFF then worldBytes s j.world j.dst j.dstLen else pubOfSlot s j.k1
    if Config.onCurve j.alg pub then jobEnd (if Config.ecVerify j.alg pub (jobSrc s j) (jobAux s j) then stOk else stAuth)
    else jobEnd stPoint
  else jobEnd stDenied

/-- KEYGEN (R557): new material of the destination's TYPE; public key at DST for the ECC types. -/
def runKeygen (s : State) (j : Job) : JobRun :=
  let t := s.rd R.slot_TYPE [j.k2]
  if destSlot s j.world j.k2 [1, 2, 3, 4, 5, 6, 9, 10, 11, 12] then
    if t = 5 ∧ j.dstLen < 64 ∨ t = 6 ∧ j.dstLen < 96 then jobEnd stBad
    else if s.key.rngBad then jobEnd stRng
    else if t = 5 then
      let m := randomBytes s 32
      jobFills j.k2 (m ++ (Config.pubOf 0 m).take 64) ((Config.pubOf 0 m).take 64) 1
    else if t = 6 then
      let m := randomBytes s 48
      jobFills j.k2 m ((Config.pubOf 1 m).take 96) 1
    else jobFills j.k2 (randomBytes s (typeBytes t)) [] 1
  else jobEnd stDenied

/-- ECDH (R557): HKDF-Extract of the shared secret into K2. -/
def runEcdh (s : State) (j : Job) : JobRun :=
  if j.srcLen ≠ 2 * algBytes j.alg then jobEnd stBad
  else if jobSlot s j.world j.k1 [5 + j.alg] uDerive && destSlot s j.world j.k2 [3, 4] then
    if Config.onCurve j.alg (jobSrc s j) then
      jobFills j.k2 (Config.ecdh j.alg (privOf j.alg (slotMat s j.k1)) (jobSrc s j) (jobAux s j)
        (typeBytes (s.rd R.slot_TYPE [j.k2]))) [] 0
    else jobEnd stPoint
  else jobEnd stDenied

/-- KDF (R557): MODE 0 into TYPE 10 or 11, the others into any symmetric type. -/
def runKdf (s : State) (j : Job) : JobRun :=
  if j.mode > 2 then jobEnd stBad
  else if jobSlot s j.world j.k1 [3, 4] uDerive &&
      destSlot s j.world j.k2 (if j.mode = 0 then [10, 11] else [1, 2, 3, 4, 9, 10, 11, 12]) then
    jobFills j.k2 (Config.kdf j.mode j.alg (slotMat s j.k1) (jobAux s j) (typeBytes (s.rd R.slot_TYPE [j.k2]))) [] 0
  else jobEnd stDenied

/-- IMPORT (R547, R557): material from SRC, never into a slot with ENGINE 2. -/
def runImport (s : State) (j : Job) : JobRun :=
  if destSlot s j.world j.k2 [1, 2, 3, 4, 5, 6, 7, 8, 9, 10, 11, 12] && s.rd R.slot_ENGINE [j.k2] != 2 then
    if j.srcLen ≠ typeBytes (s.rd R.slot_TYPE [j.k2]) then jobEnd stBad
    else jobFills j.k2 (jobSrc s j) [] 0
  else jobEnd stDenied

/-- WRAP (R551): words 0 and 1, nonce, sealed material and tag. -/
def runWrap (s : State) (j : Job) : JobRun :=
  if jobSlot s j.world j.k1 [1, 2, 3, 4, 5, 6, 7, 8, 9, 10, 11, 12] uExport && jobSlot s j.world j.k2 [2] uWrap then
    let m := slotMat s j.k1
    if j.dstLen < 36 + m.length then jobEnd stBad
    else if s.key.rngBad then jobEnd stRng
    else
      let words := leBytes 4 (slotWord0 s j.k1) ++ leBytes 4 (slotWord1 s j.k1)
      let nonce := randomBytes s 12
      jobWrites (words ++ nonce ++ Config.gcmSeal (slotMat s j.k2) nonce words m) 1
  else jobEnd stDenied

/-- Words 0 and 1 agree, VALID and KEYID aside (R551). -/
def sameWords (a0 a1 b0 b1 : Nat) : Bool := a0 == b0 && a1 / 2 ^ 22 == b1 / 2 ^ 22 && bits a1 16 5 == bits b1 16 5

/-- UNWRAP (R551): the blob has the length of its TYPE (R557). -/
def runUnwrap (s : State) (j : Job) : JobRun :=
  if j.srcLen < 36 then jobEnd stBad
  else
    let b := jobSrc s j
    let w0 := leNat (b.take 4)
    let w1 := leNat ((b.drop 4).take 4)
    if jobSlot s j.world j.k1 [2] uWrap && destSlot s j.world j.k2 [1, 2, 3, 4, 5, 6, 7, 8, 9, 10, 11, 12] &&
        sameWords w0 w1 (slotWord0 s j.k2) (slotWord1 s j.k2) then
      if j.srcLen ≠ 36 + typeBytes (s.rd R.slot_TYPE [j.k2]) then jobEnd stBad
      else match Config.gcmOpen (slotMat s j.k1) ((b.drop 8).take 12) (b.take 8) ((b.drop 20).take (b.length - 36))
          (b.drop (b.length - 16)) with
      | some m => jobFills j.k2 m [] 0
      | none => jobEnd stAuth
    else jobEnd stDenied

/-- RANDOM (R557). -/
def runRandom (s : State) (j : Job) : JobRun :=
  if s.key.rngBad then jobEnd stRng else jobWrites (randomBytes s j.dstLen) 1

/-- PUBREAD (R557). -/
def runPubread (s : State) (j : Job) : JobRun :=
  if jobSlot s j.world j.k1 [5, 6, 7, 8] uPubread then
    let m := pubOfSlot s j.k1
    if j.dstLen < m.length then jobEnd stBad else jobWrites m 0
  else jobEnd stDenied

/-- What a job reads and writes counts against its world (R11, R555): its operands unless it ends before they are read,
with BAD_JOB, KEY_DENIED or RNG_FAIL, the blob of an UNWRAP in every case that its length suits, and its output. -/
def jobTraffic (j : Job) (r : JobRun) (s : State) : State :=
  let ran := r.out.status != stBad && r.out.status != stDenied && r.out.status != stRng
  let src := (ran && [1, 2, 3, 4, 5, 6, 8, 10].contains j.op) || (j.op == 12 && !j.resv && decide (36 ≤ j.srcLen))
  let aux := ran && ([3, 4, 6, 8, 9].contains j.op || (j.op == 2 && j.mode == 1))
  let s := if src then worldCount j.world j.src j.srcLen false s else s
  let s := if aux then worldCount j.world j.aux j.auxLen false s else s
  let s := if ran && j.op == 6 && j.k1 == 0xFFFF then worldCount j.world j.dst j.dstLen false s else s
  worldCount j.world j.dst r.dst.length true s

/-- Run a job: the job at a descriptor index, if it has this OP and may start. A reserved field that is not zero or
an unknown algorithm is BAD_JOB (R557). Outputs at DST are written as the submitting world (R555). -/
def runJob (op : Nat) (run : State → Job → JobRun) (w : Fin 3) (i : Nat) (s : State) : State :=
  match jobAt s w.val i with
  | none => s
  | some j =>
    if j.op = op ∧ mayStart s j = true then
      let r := if j.resv || decide (1 < j.alg) then jobEnd stBad else run s j
      let s := worldWrite j.world j.dst r.dst (jobTraffic j r s)
      let s := { s with freeCtr := s.freeCtr + r.took }
      finish j r.out s
    else s

/-- HASH (R557). -/
def execHash (w : Fin 3) (i : Nat) (s : State) : Host.Outcome State Fault Refusal := .next (runJob 1 runHash w i s)
/-- HMAC (R557). -/
def execHmac (w : Fin 3) (i : Nat) (s : State) : Host.Outcome State Fault Refusal := .next (runJob 2 runHmac w i s)
/-- GCM_ENC (R557). -/
def execGcmEnc (w : Fin 3) (i : Nat) (s : State) : Host.Outcome State Fault Refusal := .next (runJob 3 runGcmEnc w i s)
/-- GCM_DEC (R557). -/
def execGcmDec (w : Fin 3) (i : Nat) (s : State) : Host.Outcome State Fault Refusal := .next (runJob 4 runGcmDec w i s)
/-- SIGN (R557). -/
def execSign (w : Fin 3) (i : Nat) (s : State) : Host.Outcome State Fault Refusal := .next (runJob 5 runSign w i s)
/-- VERIFY (R557). -/
def execVerify (w : Fin 3) (i : Nat) (s : State) : Host.Outcome State Fault Refusal := .next (runJob 6 runVerify w i s)
/-- KEYGEN (R557). -/
def execKeygen (w : Fin 3) (i : Nat) (s : State) : Host.Outcome State Fault Refusal := .next (runJob 7 runKeygen w i s)
/-- ECDH (R557). -/
def execEcdh (w : Fin 3) (i : Nat) (s : State) : Host.Outcome State Fault Refusal := .next (runJob 8 runEcdh w i s)
/-- KDF (R557). -/
def execKdf (w : Fin 3) (i : Nat) (s : State) : Host.Outcome State Fault Refusal := .next (runJob 9 runKdf w i s)
/-- IMPORT (R557). -/
def execImportKey (w : Fin 3) (i : Nat) (s : State) : Host.Outcome State Fault Refusal := .next (runJob 10 runImport w i s)
/-- WRAP (R551). -/
def execWrap (w : Fin 3) (i : Nat) (s : State) : Host.Outcome State Fault Refusal := .next (runJob 11 runWrap w i s)
/-- UNWRAP (R551). -/
def execUnwrap (w : Fin 3) (i : Nat) (s : State) : Host.Outcome State Fault Refusal := .next (runJob 12 runUnwrap w i s)
/-- RANDOM (R557). -/
def execRandom (w : Fin 3) (i : Nat) (s : State) : Host.Outcome State Fault Refusal := .next (runJob 13 runRandom w i s)
/-- PUBREAD (R557). -/
def execPubread (w : Fin 3) (i : Nat) (s : State) : Host.Outcome State Fault Refusal := .next (runJob 14 runPubread w i s)

/-- The 16 bytes of a completion entry (R556; their order is log entry 18). -/
def completion (j : Job) (o : JobOut) : List Byte :=
  leBytes 2 j.tag ++ leBytes 1 o.status ++ leBytes 1 j.op ++ leBytes 4 j.idx ++ leBytes 4 o.len ++ leBytes 4 0

/-- A job completes: its slot is written, its completion entry and the count, and its world's interrupt is raised
(R556). -/
def complete (j : Job) (o : JobOut) (s : State) : State :=
  let s := match o.slot with | some (k, m) => putSlot k m s | none => s
  let n := at3 s.key.comp j.world
  let base := s.rd R.jr_CR_BASE [j.world]
  let put := fun (a : Nat) (l : List Byte) (s : State) => worldWrite j.world a l (worldCount j.world a l.length true s)
  let s := put (base + 16 * (n % jrSize s j.world)) (completion j o) s
  let s := put (base + 16 * jrSize s j.world) (leBytes 4 (n + 1)) s
  let s := s.keyF (fun q => { q with jobs := q.jobs.filter (fun k => k ≠ j), comp := put3 q.comp j.world (n + 1),
                                     irq := put3 q.irq j.world (at3 q.irq j.world + 1) })
  let s := if o.status = stRng then s.raise 16 2 else s
  showInflight (s.inc R.key_JOBS_DONE [])

/-- JOB_COMPLETE: a job that has run completes (R556); one with a reserved OP completes as BAD_JOB (R557). -/
def execJobComplete (w : Fin 3) (i : Nat) (s : State) : Host.Outcome State Fault Refusal :=
  .next (match jobAt s w.val i with
    | none => s
    | some j =>
      match j.out with
      | some o => complete j o s
      | none => if (j.op = 0 ∨ 14 < j.op) ∧ mayStart s j = true then complete j ⟨stBad, 0, none⟩ s else s)

/-- RNG_FAIL: the random source fails its health test (R557, R567). -/
def execRngFail (s : State) : Host.Outcome State Fault Refusal :=
  .next ((s.keyF (fun q => { q with rngBad := true })).raise 16 2)

/-! ## Life cycle (R559-R562) -/

/-- Fuse pattern of a life-cycle state (R559). -/
def lcPattern (n : Nat) : Nat := [0, 0x000F, 0x00FF, 0xFFFF].getD n 0

/-- Life-cycle state of the fuse bits: the highest whose pattern is all there (R559). -/
def lcState (fuse : Nat) : Nat :=
  if fuse &&& 0xFFFF = 0xFFFF then 3 else if fuse &&& 0xFF = 0xFF then 2 else if fuse &&& 0xF = 0xF then 1 else 0

/-- LC_GO: the missing bits of the target's pattern are to be burned, or the request is refused (R560). -/
def lcGo (s : State) : State :=
  let t := s.rd R.key_LC_TARGET []
  if t ≤ s.rd R.key_LC [] ∨ s.rd R.key_LC_CODE [] ≠ 0x5A ∨ s.key.burn.isSome = true then (s.setErr 16 0x0100).raise 16 1
  else (s.keyF (fun q => { q with burn := some t })).wr R.key_LC_BUSY [] 1

/-- LC_GO (R560): W0 alone advances the state. -/
def execLcGo (w : World) (s : State) : Host.Outcome State Fault Refusal := .next (s.onlyBy 0 w 16 lcGo)

/-- LC_DONE: the burn is complete; the new state applies from the next level 0 or 1 reset (R560). -/
def execLcDone (s : State) : Host.Outcome State Fault Refusal :=
  .next (match s.key.burn with
    | none => s
    | some t =>
      ((s.keyF (fun q => { q with burn := none, fuse := q.fuse ||| lcPattern t })).wr R.key_LC_BUSY [] 0).raise 16 0)

/-- DBG_ARM: debug is armed for the next level 0 or 1 reset (R562). -/
def execDbgArm (w : World) (s : State) : Host.Outcome State Fault Refusal :=
  .next (s.onlyBy 0 w 16 (fun s => s.wr R.key_DBG_ARMED [] 1))

end Sys2Proof.Machine
end

