-- ==== Sys2Proof/Machine/Vlnk.lean ====
section
/-! DEFINITION. Vehicle links: the link engine of each port (09_vehicle_links.md). -/

namespace Sys2Proof.Machine

open Sys2Proof

/-- VLNK page of a port. -/
def vlPage (p : Port) : Nat := 192 + p.val

/-- One link. -/
def State.vl (s : State) (p : Port) : VlS := s.links[p]

/-- A change of one link. -/
def State.vlF (s : State) (p : Port) (f : VlS → VlS) : State := { s with links := vupd s.links p f }

/-- What the link engine sends in this step. -/
def vlSend (p : Port) (o : VlOut) (s : State) : State := s.vlF p (fun v => { v with out := v.out ++ [o] })

/-- A step's output begins empty. -/
def vlBegin (p : Port) (s : State) : State := s.vlF p (fun v => { v with out := [] })

/-- LINK values (R275). -/
def lkDown : Nat := 0
def lkWait : Nat := 1
def lkUp : Nat := 2
def lkDad : Nat := 3

/-- TCP values (R275). -/
def tcpClosed : Nat := 0
def tcpListen : Nat := 1
def tcpEst : Nat := 2
def tcpClosing : Nat := 3

/-- SLAC values (R275). -/
def slIdle : Nat := 0
def slWait : Nat := 1
def slSound : Nat := 2
def slMatching : Nat := 3
def slMatched : Nat := 4

/-- LINK, TCP, SLAC of a port. -/
def linkOf (s : State) (p : Port) : Nat := s.rd R.vl_LINK [p.val]
def tcpOf (s : State) (p : Port) : Nat := s.rd R.vl_TCP [p.val]
def slacOf (s : State) (p : Port) : Nat := s.rd R.vl_SLAC [p.val]

/-- The link engine of a port acts: enabled, on the active module (R274). -/
def vlOn (s : State) (p : Port) : Bool := s.runs (vlPage p) && s.active && !s.reduced

/-- Receive buffer of a port in bytes (R267). -/
def vlBuf (s : State) (p : Port) : Nat := 4096 * (s.rd R.vl_RXBUF [p.val] + 1)

/-- Bytes of the buffer in use: complete messages, the partial one, the stream, records not processed. -/
def vlUsed (v : VlS) : Nat :=
  (v.rx.foldl (fun n m => n + m.data.length) 0) + v.part.length + v.raw.length +
    (match v.strm with | some t => t.buf.length + t.after.length | none => 0)

/-- MAC address of a port: VMAC_BASE + p (R257). -/
def vlMac (s : State) (p : Port) : Nat := (s.rst.vmac + p.val) % 2 ^ 48

/-- The link-local address of a MAC by modified EUI-64 (R257). -/
def linkLocal (mac : Nat) : Nat :=
  0xFE80 * 2 ^ 112 + ((mac / 2 ^ 24) ^^^ 0x020000) * 2 ^ 40 + 0xFFFE * 2 ^ 24 + mac % 2 ^ 24

/-- The only IPv6 address of a port (R257). -/
def vlIp (s : State) (p : Port) : Nat := linkLocal (vlMac s p)

/-- Bytes of the transmit buffer in use. -/
def vlTxUsed (v : VlS) : Nat := v.tx.foldl (fun n m => n + m.data.length) 0

/-- The message that streams stands at the head. -/
def vlStreaming (v : VlS) : Bool := v.strm.isSome && v.rx.isEmpty

/-- RX_FREE, the head registers, TX_FREE, TX_QUEUED and STREAMING as they stand (R266, R268, R269). -/
def vlShow (p : Port) (s : State) : State :=
  let v := s.vl p
  let h := v.rx.head?
  let s := s.wr R.vl_RX_FREE [p.val] (if s.enOf (vlPage p) then vlBuf s p - vlUsed v else 0)
  let s := s.wr R.vl_RX_MSGS [p.val] (min 255 v.rx.length)
  let s := s.wrB R.vl_HEAD_VALID [p.val] h.isSome
  let s := s.wr R.vl_HEAD_PTYPE [p.val] (match h with | some m => m.ptype | none => 0)
  let s := s.wr R.vl_HEAD_CTYPE [p.val] (match h with | some m => m.ctype | none => 0)
  let s := s.wr R.vl_HEAD_LEN [p.val] (match h with | some m => m.len | none => 0)
  let s := s.wrB R.vl_HEAD_STREAM [p.val] (match h with | some m => m.streamed | none => false)
  let s := s.wrB R.vl_STREAMING [p.val] (vlStreaming v)
  (s.wr R.vl_TX_FREE [p.val] (16384 - vlTxUsed v)).wr R.vl_TX_QUEUED [p.val] v.tx.length

/-! ## Buffers and connections -/

/-- The connection ends: partial data, streamed data, queued messages and keys in use go; complete messages stay
(log entry 19). TCP goes to `st`, TLS to `tls`. -/
def connEnd (p : Port) (st tls : Nat) (s : State) : State :=
  let s := s.vlF p (fun v => { v with raw := [], part := [], skip := 0, strm := none, tx := [], rxKey := none,
                                      txKey := none, tls := false, retx := 0, fin := false })
  ((s.wr R.vl_TCP [p.val] st).wr R.vl_TLS [p.val] tls).wr R.vl_RX_PAUSED [p.val] 0

/-- The TCP state without a connection: LISTEN while the link is up. -/
def tcpRest (s : State) (p : Port) : Nat := if linkOf s p = lkUp then tcpListen else tcpClosed

/-- The connection is aborted with a reset and CONN_LOST is raised (R263-R265, R268). -/
def connAbort (p : Port) (s : State) : State := (connEnd p (tcpRest s p) 0 (vlSend p .reset s)).raise (vlPage p) 4

/-- A record engine whose key is gone resets its connection with TLS = FAILED (R548). -/
def tlsReset (p : Port) (s : State) : State := connEnd p (tcpRest s p) 3 (vlSend p .reset s)

/-- LINK goes DOWN (R258). -/
def linkDown (p : Port) (s : State) : State :=
  let s := if linkOf s p = lkUp then s.raise (vlPage p) 1 else s
  (s.wr R.vl_LINK [p.val] lkDown).wr R.vl_SLAC [p.val] slIdle

/-- The reset of a connection, from the active module alone: on another one the transmitter is high-impedance (R274). -/
def sendReset (p : Port) (s : State) : State := if s.active then vlSend p .reset s else s

/-- LINK_TEARDOWN: on entry to IDLE or UNAVAIL (R258). A Green PHY port loads a new random NMK. -/
def linkTeardown (p : Port) (s : State) : State :=
  let s := vlBegin p s
  let s := if tcpOf s p = tcpEst ∨ tcpOf s p = tcpClosing then sendReset p s else s
  let s := linkDown p (connEnd p tcpClosed 0 s)
  let s := s.vlF p (fun v => { v with rx := [], run := none, matching := false, dad := false, stale := false })
  let s := if s.rd R.port_KIND [p.val] = 0 then
      (s.vlF p (fun v => { v with nmk := randomBytes s 16, nid := [] })).took else s
  vlShow p s

/-- LINK_START: on entry to PLUGGED with the link down (R258). -/
def linkStart (p : Port) (s : State) : State :=
  if s.runs (vlPage p) ∧ linkOf s p = lkDown then
    let k := s.rd R.port_KIND [p.val]
    let s := ((((s.wr R.vl_PEER_IP [p.val] 0).wr R.vl_PEER_MAC [p.val] 0).wr R.vl_XTALK [p.val] 0).wr R.vl_XPORT [p.val] 0)
    if k = 0 then (s.wr R.vl_LINK [p.val] lkWait).wr R.vl_SLAC [p.val] slWait
    else if k = 1 then
      ((vlSend p (.dadSolicit (vlIp s p)) (vlBegin p s)).wr R.vl_LINK [p.val] lkWait).vlF p (fun v => { v with dad := true })
    else s
  else s

/-- Reset of a page takes the link down under R258 and returns the link engine to its start (R276); the modem keeps
the key it then holds. -/
def vlReset (p : Port) (s : State) : State :=
  if linkOf s p = lkDown then s.vlF p (fun v => { VlS.reset with nmk := v.nmk })
  else (linkTeardown p s).vlF p (fun v => { VlS.reset with nmk := v.nmk, out := v.out })

/-- Bytes of the pool taken by enabled pages (R267). -/
def poolUsed (s : State) : Nat :=
  (List.finRange 32).foldl (fun n p => if s.rdB R.hdr_EN [vlPage p] then n + vlBuf s p else n) 0

/-- EN set: the buffer is taken from the pool, or refused (R267). -/
def vlEnable (p : Port) (s : State) : State :=
  if s.rdB R.hdr_EN [vlPage p] then s
  else if 1048576 < poolUsed s + vlBuf s p then s.setErr (vlPage p) 0x0104
  else vlShow p (s.wr R.hdr_EN [vlPage p] 1)

/-- EN cleared: the link goes down and the buffer returns to the pool (R267). -/
def vlDisable (p : Port) (s : State) : State :=
  let s := linkTeardown p s
  vlShow p (s.wr R.hdr_EN [vlPage p] 0)

/-- VLNK_ENABLE (R267). -/
def execVlnkEnable (w : World) (p : Port) (s : State) : Host.Outcome State Fault Refusal :=
  .next (s.asWriter w (vlPage p) (vlEnable p))

/-- DAD_DONE: LINK goes UP, or to DAD_FAIL on a collision (R257). -/
def dadDone (p : Port) (collision : Bool) (s : State) : State :=
  if (s.vl p).dad = true ∧ vlOn s p = true then
    let s := s.vlF p (fun v => { v with dad := false })
    if collision then (connEnd p tcpClosed 0 (s.wr R.vl_LINK [p.val] lkDad)).setErr (vlPage p) 0x0107
    else if linkOf s p = lkUp then s
    else ((s.wr R.vl_LINK [p.val] lkUp).wr R.vl_TCP [p.val] tcpListen).raise (vlPage p) 0
  else s

/-- DAD_DONE (R257). -/
def execDadDone (p : Port) (collision : Bool) (s : State) : Host.Outcome State Fault Refusal :=
  .next (dadDone p collision (vlBegin p s))

/-- The port has its address: LINK is UP (R257). -/
def vlAnswers (s : State) (p : Port) : Bool := vlOn s p && decide (linkOf s p = lkUp)

/-- NEIGHBOUR_SOLICITATION: answered (R257). -/
def execNeighbourSolicitation (p : Port) (s : State) : Host.Outcome State Fault Refusal :=
  .next (let s := vlBegin p s; if vlAnswers s p then vlSend p (.neighbourAdv (vlIp s p) (vlMac s p)) s else s)

/-- ECHO_REQUEST: answered (R257). -/
def execEchoRequest (p : Port) (data : List Byte) (s : State) : Host.Outcome State Fault Refusal :=
  .next (let s := vlBegin p s; if vlAnswers s p then vlSend p (.echoReply data) s else s)

/-! ## SLAC (R259-R261) -/

/-- SLAC messages are acted on: Green PHY, PLUGGED, CP confirmed B, C or D (R259). -/
def slacActs (s : State) (p : Port) : Bool :=
  let cp := s.rd R.port_PILOT [p.val]
  vlOn s p && s.rd R.port_KIND [p.val] == 0 && s.rd R.port_SSTATE [p.val] == 1 && (cp == 1 || cp == 2 || cp == 3)

/-- The message's RunID is the recorded one. -/
def runIs (s : State) (p : Port) (run : List Byte) : Bool :=
  match (s.vl p).run with | some (r, _) => r == run | none => false

/-- CM_SLAC_PARAM.REQ: answered, RunID and MAC recorded; another RunID during a match is ignored (R259). -/
def slacParam (p : Port) (mac : Nat) (run : List Byte) (s : State) : State :=
  let during := slacOf s p = slSound ∨ slacOf s p = slMatching
  if slacActs s p = true ∧ ¬(during ∧ runIs s p run = false) then
    let s := s.vlF p (fun v => { v with run := some (run, mac), sounds := 0, heard := 0, atten := [], matching := false })
    vlSend p (.slacParamCnf run) (s.wr R.vl_SLAC [p.val] slSound)
  else s

/-- CM_SLAC_PARAM_REQ (R259). -/
def execCmSlacParamReq (p : Port) (mac : Nat) (run : List Byte) (s : State) : Host.Outcome State Fault Refusal :=
  .next (slacParam p mac run (vlBegin p s))

/-- CM_START_ATTEN_CHAR_IND: the number of sounds is taken (R259). -/
def execCmStartAttenCharInd (p : Port) (run : List Byte) (n : Nat) (s : State) : Host.Outcome State Fault Refusal :=
  .next (if slacActs s p = true ∧ runIs s p run = true ∧ slacOf s p = slSound then
    (vlBegin p s).vlF p (fun v => { v with sounds := n, heard := 0, atten := List.replicate 58 0 }) else s)

/-- A port's mean attenuation for a RunID: total over the groups and the sounds it was taken over (R261). -/
def meanFor (s : State) (run : List Byte) (p : Port) : Option (Nat × Nat) :=
  let v := s.vl p
  if runIs s p run = true ∧ 0 < v.heard then some (v.atten.foldl (· + ·) 0, v.heard)
  else match v.cross with
    | some (r, t, n) => if r = run ∧ 0 < n then some (t, n) else none
    | none => none

/-- The port with the lowest mean attenuation for a RunID, the lowest number on a tie (R261). -/
def lowestFor (s : State) (run : List Byte) : Option Nat :=
  ((List.finRange 32).foldl (fun (a : Option (Nat × Nat × Nat)) p =>
    match meanFor s run p, a with
    | some (t, n), some (q, u, m) => if t * m < u * n then some (p.val, t, n) else some (q, u, m)
    | some (t, n), none => some (p.val, t, n)
    | none, a => a) none).map (·.1)

/-- Another port has recorded a RunID. -/
def otherHas (s : State) (p : Port) (run : List Byte) : Bool :=
  (List.finRange 32).any (fun q => q != p && runIs s q run)

/-- A sound's attenuation added to what was heard of its RunID. -/
def hearSound (p : Port) (run : List Byte) (att : List Nat) (s : State) : State :=
  let a := (List.range 58).map (fun i => att.getD i 0)
  if runIs s p run then
    s.vlF p (fun v => { v with heard := v.heard + 1,
                               atten := if v.atten = [] then a else List.zipWith (· + ·) v.atten a })
  else
    let t := a.foldl (· + ·) 0
    s.vlF p (fun v => { v with cross := match v.cross with
      | some (r, u, n) => if r = run then some (r, u + t, n + 1) else some (run, t, 1)
      | none => some (run, t, 1) })

/-- CM_MNBC_SOUND_IND: averaged into the profile; a RunID that another port has recorded sets XTALK (R259, R261). -/
def slacSound (p : Port) (run : List Byte) (att : List Nat) (s : State) : State :=
  if slacActs s p = true ∧ slacOf s p = slSound then
    let s := hearSound p run att s
    if otherHas s p run then
      ((s.wr R.vl_XTALK [p.val] 1).wr R.vl_XPORT [p.val] ((lowestFor s run).getD 0)).raise (vlPage p) 11
    else s
  else s

/-- CM_MNBC_SOUND_IND (R259). -/
def execCmMnbcSoundInd (p : Port) (run : List Byte) (att : List Nat) (s : State) : Host.Outcome State Fault Refusal :=
  .next (slacSound p run att (vlBegin p s))

/-- The averaged profile (R259). -/
def profile (v : VlS) : List Nat := v.atten.map (fun a => a / max 1 v.heard)

/-- SOUNDING_END: all sounds received or the timer expired; CM_ATTEN_CHAR.IND is sent (R259). -/
def execSoundingEnd (p : Port) (s : State) : Host.Outcome State Fault Refusal :=
  .next (if slacActs s p = true ∧ slacOf s p = slSound then
    vlSend p (.attenChar (profile (s.vl p))) ((vlBegin p s).wr R.vl_SLAC [p.val] slMatching) else s)

/-- CM_VALIDATE_REQ: answered with "not required" (R259). -/
def execCmValidateReq (p : Port) (run : List Byte) (s : State) : Host.Outcome State Fault Refusal :=
  .next (if slacActs s p = true ∧ ((s.vl p).run.isNone = true ∨ runIs s p run = true) then
    vlSend p .validateCnf (vlBegin p s) else s)

/-- CM_SLAC_MATCH_REQ with the recorded RunID: the session's NMK, drawn from the random source once in a match, and its
NID are loaded, and the request is answered (R259, R260). -/
def slacMatch (p : Port) (run : List Byte) (s : State) : State :=
  if slacActs s p = true ∧ runIs s p run = true then
    if (s.vl p).matching = true ∨ slacOf s p = slMatched then vlSend p (.matchCnf run (s.vl p).nid) s else
    let k := randomBytes s 16
    let s := (s.vlF p (fun v => { v with nmk := k, nid := Config.nidOf k, matching := true })).took
    vlSend p (.matchCnf run (Config.nidOf k)) s
  else s

/-- CM_SLAC_MATCH_REQ (R259). -/
def execCmSlacMatchReq (p : Port) (run : List Byte) (s : State) : Host.Outcome State Fault Refusal :=
  .next (slacMatch p run (vlBegin p s))

/-- CM_AMP_MAP_REQ: ignored (R259). -/
def execCmAmpMapReq (_p : Port) (s : State) : Host.Outcome State Fault Refusal := .next s

/-- SLAC_MATCHED: the vehicle is in the modem's station list; a link that waits comes UP (R259), and duplicate address
detection begins; DAD_FAIL stays (R257). -/
def execSlacMatched (p : Port) (s : State) : Host.Outcome State Fault Refusal :=
  .next (if vlOn s p = true ∧ (s.vl p).matching = true then
    let mac := match (s.vl p).run with | some (_, m) => m | none => 0
    let s := (vlBegin p s).vlF p (fun v => { v with matching := false })
    let s := (s.wr R.vl_SLAC [p.val] slMatched).wr R.vl_PEER_MAC [p.val] mac
    if linkOf s p = lkUp ∨ linkOf s p = lkDad then s
    else
      let s := (vlSend p (.dadSolicit (vlIp s p)) s).vlF p (fun v => { v with dad := true })
      ((s.wr R.vl_LINK [p.val] lkUp).wr R.vl_TCP [p.val] tcpListen).raise (vlPage p) 0
    else s)

/-- SLAC_TIMEOUT: a match in progress returns to WAIT_PARAM (R259). -/
def execSlacTimeout (p : Port) (s : State) : Host.Outcome State Fault Refusal :=
  .next (if vlOn s p = true ∧ (slacOf s p = slSound ∨ slacOf s p = slMatching) then
    ((s.vlF p (fun v => { v with run := none, matching := false })).wr R.vl_SLAC [p.val] slWait).satInc
      R.vl_SLAC_FAILS [p.val]
    else s)

/-! ## SECC discovery (R262) -/

/-- The security answered to a request: none where nothing may be answered (R262). -/
def sdpChoice (reqTls tlsOk notlsOk : Bool) : Option Bool :=
  if !tlsOk && !notlsOk then none
  else if reqTls then some tlsOk else some (!notlsOk)

/-- SDP_REQUEST: answered with the chosen security (R262). -/
def sdp (p : Port) (ip mac : Nat) (reqTls : Bool) (s : State) : State :=
  if vlAnswers s p then
    match sdpChoice reqTls (s.rdB R.vl_TLS_OK [p.val]) (s.rdB R.vl_NOTLS_OK [p.val]) with
    | none => s
    | some t =>
      let s := ((s.wr R.vl_PEER_IP [p.val] ip).wr R.vl_PEER_MAC [p.val] mac).wrB R.vl_SEC_TLS [p.val] t
      (vlSend p (.sdpResponse (vlIp s p) (s.rd R.vl_TCP_PORT [p.val]) true (if t then 0x00 else 0x10)) (s.satInc R.vl_SDP_ANS [p.val])).raise (vlPage p) 2
  else s

/-- SDP_REQUEST (R262). -/
def execSdpRequest (p : Port) (ip mac : Nat) (reqTls : Bool) (s : State) : Host.Outcome State Fault Refusal :=
  .next (sdp p ip mac reqTls (vlBegin p s))

/-! ## Reception (R263-R273) -/

/-- A Reel channel waits on a request line, in a MOVE or in a WAIT (R269, R528, R530). -/
def reelWaits (s : State) (c : Fin 64) (line : Nat) : Bool :=
  s.rd R.rch_STATE [c.val] == 2 && ((match s.reel[c].move with | some m => m.req && m.line == line | none => false) ||
    (match s.reel[c].wait with | some w => w.kind == 0 && w.index == line | none => false))

/-- A program is armed: STREAM_EN = 1 and channel D(STREAM_CH) waits on the port's line (R269). -/
def vlArmed (s : State) (p : Port) : Bool :=
  s.rdB R.vl_STREAM_EN [p.val] &&
    (List.finRange 64).any (fun c => c.val == s.rd R.vl_STREAM_CH [p.val] && reelWaits s c p.val)

/-- A complete message enters the queue; at the head it raises RX_MSG (R268). -/
def vlPush (p : Port) (m : VlMsg) (s : State) : State :=
  let first := (s.vl p).rx.isEmpty
  let s := s.vlF p (fun v => { v with rx := v.rx ++ [m] })
  if first && !m.streamed then s.raise (vlPage p) 5 else s

/-- MSG_TOO_BIG: counted and raised (R269). -/
def tooBig (p : Port) (s : State) : State := ((s.setErr (vlPage p) 0x0100).satInc R.vl_TOO_BIG [p.val]).raise (vlPage p) 8

/-- Reception returns to a byte: what came after it counts as not received, a FIN too (R269, R273). -/
def vlRewind (p : Port) (seq : Nat) (s : State) : State :=
  let s := if tcpOf s p = tcpClosing then s.wr R.vl_TCP [p.val] tcpEst else s
  s.vlF p (fun v => { v with raw := [], rcvNxt := seq, fin := false })

/-- A message that does not fit: every received byte of it is discarded, and reception returns to where it began (R269,
R273). -/
def vlDrop (p : Port) (s : State) : State :=
  tooBig p (vlRewind p (s.vl p).partSeq (s.vlF p (fun v => { v with
    part := [], skip := v.partOff, rxKey := v.rxKey.map (fun k => { k with seq := v.partRec }) })))

/-- Big-endian value of bytes, as V2GTP, TLS and TCP headers hold numbers (log entry 20). -/
def beNat (l : List Byte) : Nat := l.foldl (fun a b => a * 256 + b.toNat) 0

/-- The `n` big-endian bytes of a value. -/
def beBytes (n v : Nat) : List Byte := (leBytes n v).reverse

/-- A V2GTP header passes its check: version, inverse version, no SDP payload type (R265). -/
def v2gOk (h : List Byte) : Bool :=
  h.getD 0 0 == 0x01 && h.getD 1 0 == 0xFE && beNat ((h.drop 2).take 2) != 0x9000 && beNat ((h.drop 2).take 2) != 0x9001

/-- Received bytes, plaintext or decrypted, parsed into V2GTP messages (R265, R268, R269). `mark i` is where byte `i`
of the bytes in hand stands: TCP number, record number, offset in the record. -/
def vlFeed (p : Port) (mark : Nat → Nat × Nat × Nat) : Nat → Nat → List Byte → State → State
  | 0, _, _, s => s
  | fuel + 1, i, l, s =>
    if l = [] then s
    else
      let v := s.vl p
      match v.strm with
      | some t =>
        let k := min (t.len - t.got) l.length
        if k = 0 then
          s.vlF p (fun v => { v with strm := some { t with
            after := t.after ++ l, mark := if t.after = [] then mark i else t.mark } })
        else
          let s := s.vlF p (fun v => { v with strm := some { t with got := t.got + k, buf := t.buf ++ l.take k } })
          vlFeed p mark fuel (i + k) (l.drop k) s
      | none =>
        let m := mark i
        let s := if v.part = [] then s.vlF p (fun v => { v with partSeq := m.1, partRec := m.2.1, partOff := m.2.2 }) else s
        let k := if v.part.length < 8 then min (8 - v.part.length) l.length else 0
        let h := v.part ++ l.take k
        let l := l.drop k
        if h.length < 8 then s.vlF p (fun v => { v with part := h })
        else if v2gOk h = false then connAbort p (s.setErr (vlPage p) 0x0102)
        else
          let total := 8 + beNat ((h.drop 4).take 4)
          if 8192 < total then connAbort p (s.setErr (vlPage p) 0x0101)
          else if vlBuf s p < total then
            if vlArmed s p then
              let t : VlStream := { ptype := beNat ((h.drop 2).take 2), ctype := 0, len := total, got := 8, used := 0
                                    buf := h.take 8, record := none, lead := none, skip := 0, after := [], mark := (0, 0, 0) }
              vlFeed p mark fuel (i + k) l (s.vlF p (fun v => { v with part := [], strm := some t }))
            else vlDrop p s
          else
            let j := min (total - h.length) l.length
            let b := h ++ l.take j
            if b.length < total then s.vlF p (fun v => { v with part := b })
            else
              let s := vlPush p ⟨beNat ((h.drop 2).take 2), 0, total, b, false⟩ (s.vlF p (fun v => { v with part := [] }))
              vlFeed p mark fuel (i + k + j) (l.drop j) s

/-- The length of the message that a record's plaintext `l` begins or goes on with, once its header is there and passes its
checks; none before, for a header that fails them, and for a record whose type is known to be another. -/
def streamTotal (t : VlStream) (suite : Nat) (hdr l : List Byte) : Option Nat :=
  match t.lead with
  | none => some t.len
  | some b =>
    let h := (b ++ l).take 8
    let n := 8 + beNat ((h.drop 4).take 4)
    if h.length < 8 ∨ v2gOk h = false ∨ 8192 < n ∨ (suite = 1 ∧ (hdr.getD 0 0).toNat ≠ 23) then none else some n

/-- Plaintext `l` of a streamed record, all of it so far: what is new goes to the message up to its end, the rest waits
behind it. -/
def streamPut (t : VlStream) (n : Nat) (total : Option Nat) (l : List Byte) : VlStream :=
  let new := l.drop (t.got - n + t.after.length)
  let room := match total with | some k => k - t.got | none => new.length
  { t with got := t.got + min room new.length, buf := t.buf ++ new.take room, after := t.after ++ new.drop room
           len := total.getD 0 }

/-- Bytes of a record's stream pushed in as they arrive: the plaintext they carry, before verification (R272). -/
def vlStreamRecord (p : Port) (t : VlStream) (l : List Byte) (s : State) : State :=
  match t.record, (s.vl p).rxKey with
  | some (h, c, n), some k =>
    let pl := (Config.recordPlain (slotMat s k.slot) k.suite k.seq h (c ++ l)).drop t.skip
    s.vlF p (fun v => { v with
      strm := some { streamPut t n (streamTotal t k.suite h pl) pl with record := some (h, c ++ l, n) } })
  | some (h, c, n), none =>
    s.vlF p (fun v => { v with strm := some { t with
      got := t.got + l.length, buf := t.buf ++ l
      record := if t.len ≤ t.got + l.length then none else some (h, c ++ l, n) } })
  | none, _ => s

/-- Messages acknowledged: bytes leave the front of the queue (R263). -/
def dropWire : Nat → List VlTx → List VlTx
  | _, [] => []
  | n, m :: t =>
    match m.wire with
    | none => m :: t
    | some w => if w.length ≤ n then dropWire (n - w.length) t else { m with wire := some (w.drop n) } :: t

/-- Bytes sent and not acknowledged. -/
def wireLen (l : List VlTx) : Nat := l.foldl (fun n m => n + (match m.wire with | some w => w.length | none => 0)) 0

/-- An acknowledgement taken; TX_DONE when the queue empties (R263, R276). -/
def vlAcked (p : Port) (ack : Nat) (s : State) : State :=
  let v := s.vl p
  let n := (ack + 2 ^ 32 - v.sndUna) % 2 ^ 32
  if 0 < n ∧ n ≤ wireLen v.tx then
    let s := s.vlF p (fun v => { v with tx := dropWire n v.tx, sndUna := (v.sndUna + n) % 2 ^ 32, retx := 0 })
    if (s.vl p).tx = [] then s.raise (vlPage p) 10 else s
  else s

/-- The byte after the last one of the data received: a FIN that `rcvNxt` counts stands there (R263). -/
def dataEnd (v : VlS) : Nat := if v.fin then (v.rcvNxt + 2 ^ 32 - 1) % 2 ^ 32 else v.rcvNxt

/-- The byte up to which reception is acknowledged (R269, R273): a message whose header is not whole yet from its first
byte on, records not processed, and bytes of a stream not consumed are not acknowledged. -/
def ackPoint (v : VlS) : Nat :=
  if v.strm.isNone && decide (0 < v.part.length) && decide (v.part.length < 8) then v.partSeq
  else
    let held := v.raw.length + (match v.strm with | some t => t.buf.length + t.after.length | none => 0)
    if held = 0 then v.rcvNxt else (dataEnd v + 2 ^ 32 - held % 2 ^ 32) % 2 ^ 32

/-- The acknowledgement the link engine sends: the next byte wanted and the window (R263). -/
def vlAckOut (p : Port) (s : State) : State :=
  vlSend p (.ack (ackPoint (s.vl p)) (min 65535 (s.rd R.vl_RX_FREE [p.val]))) s

/-- Received bytes wait for processing: a complete record, or a stream not consumed (R269, R271). -/
def rxWaits (v : VlS) : Bool :=
  v.strm.isSome || (decide (5 ≤ v.raw.length) && decide (5 + beNat ((v.raw.drop 3).take 2) ≤ v.raw.length))

/-- A connection that the peer has closed ends once nothing is left to send, to acknowledge or to process (R263, R266, R271;
log entry 19). -/
def closeIfDone (p : Port) (s : State) : State :=
  if tcpOf s p = tcpClosing ∧ (s.vl p).tx = [] ∧ rxWaits (s.vl p) = false then connEnd p tcpListen 0 s else s

/-- Bytes a streamed record still lacks (R272). -/
def recordLacks (v : VlS) (t : VlStream) : Nat :=
  match t.record with
  | some (h, c, _) => if v.rxKey.isSome then beNat ((h.drop 3).take 2) - c.length else t.len - t.got
  | none => 0

/-- Data in order, as much as the window holds (R263, R269, R271). -/
def vlData (p : Port) (data : List Byte) (s : State) : State :=
  let v := s.vl p
  let room := if s.rdB R.vl_RX_PAUSED [p.val] = true ∧ v.tls = false then 0 else vlBuf s p - vlUsed v
  let l := data.take (min 65535 room)
  let seq := v.rcvNxt
  let s := s.vlF p (fun v => { v with rcvNxt := (seq + l.length) % 2 ^ 32 })
  match v.strm with
  | some t =>
    if t.record.isSome then
      let k := recordLacks v t
      (vlStreamRecord p t (l.take k) s).vlF p (fun v => { v with raw := v.raw ++ l.drop k })
    else if v.tls then s.vlF p (fun v => { v with raw := v.raw ++ l })
    else vlFeed p (fun i => ((seq + i) % 2 ^ 32, 0, 0)) (2 * l.length + 2) 0 l s
  | none =>
    if v.tls then s.vlF p (fun v => { v with raw := v.raw ++ l })
    else vlFeed p (fun i => ((seq + i) % 2 ^ 32, 0, 0)) (2 * l.length + 2) 0 l s

/-- A segment of a connection that the peer has closed: what it acknowledges leaves the queue (R263). -/
def closingSegment (p : Port) (ack : Nat) (s : State) : State :=
  let s := closeIfDone p (vlAcked p ack s)
  if tcpOf s p = tcpClosing then vlAckOut p (vlShow p s) else s

/-- TCP_SEGMENT: from the peer on the connection its data are taken in order; a reset ends the connection; a segment
without a connection is answered with a reset, and one of the connection a former active module had raises CONN_LOST
(R263, R274). -/
def tcpSegment (p : Port) (ip seq ack : Nat) (data : List Byte) (rst fin : Bool) (s : State) : State :=
  if vlAnswers s p then
    if tcpOf s p = tcpClosing ∧ ip = s.rd R.vl_PEER_IP [p.val] ∧ rst = false then closingSegment p ack s
    else if (tcpOf s p = tcpEst ∨ tcpOf s p = tcpClosing) ∧ ip = s.rd R.vl_PEER_IP [p.val] then
      if rst then (connEnd p tcpListen 0 s).raise (vlPage p) 4
      else
        let s := vlAcked p ack s
        let old := ((s.vl p).rcvNxt + 2 ^ 32 - seq) % 2 ^ 32
        let s := if old ≤ data.length then vlData p (data.drop old) s else s
        let s := if fin ∧ tcpOf s p = tcpEst ∧ (s.vl p).rcvNxt = (seq + data.length) % 2 ^ 32 then
            (s.vlF p (fun v => { v with rcvNxt := (v.rcvNxt + 1) % 2 ^ 32, fin := true })).wr R.vl_TCP [p.val] tcpClosing else s
        let s := vlShow p s
        if tcpOf s p = tcpEst ∨ tcpOf s p = tcpClosing then vlAckOut p s else s
    else if rst then s
    else if (s.vl p).stale then
      ((vlSend p .reset s).vlF p (fun v => { v with stale := false })).raise (vlPage p) 4
    else vlSend p .reset s
  else s

/-- TCP_SEGMENT (R263). -/
def execTcpSegment (p : Port) (ip seq ack : Nat) (data : List Byte) (rst fin : Bool) (s : State) :
    Host.Outcome State Fault Refusal := .next (vlShow p (tcpSegment p ip seq ack data rst fin (vlBegin p s)))

/-! ## TLS records (R270-R273) -/

/-- XOR of two byte lists. -/
def xorBytes : List Byte → List Byte → List Byte
  | a :: s, b :: t => (a ^^^ b) :: xorBytes s t
  | _, _ => []

/-- Nonce of a TLS 1.3 record: the static IV and the record sequence number. -/
def recNonce (iv : List Byte) (seq : Nat) : List Byte := xorBytes iv (beBytes 12 seq)

/-- Key and static IV of a GCM record slot (R545). -/
def gcmKey (suite : Nat) (m : List Byte) : List Byte := m.take (if suite = 3 then 32 else 16)
def gcmIv (suite : Nat) (m : List Byte) : List Byte := m.drop (if suite = 3 then 32 else 16)

/-- TLS 1.3 inner plaintext: content type after the data, zero padding after it. -/
def innerOf (l : List Byte) : Nat × List Byte :=
  match l.reverse.dropWhile (· == 0) with
  | [] => (0, [])
  | c :: r => (c.toNat, r.reverse)

/-- Open a record under a key: content type and plaintext, none where it does not verify (R270, R271). -/
def openRecord (m : List Byte) (suite seq : Nat) (hdr body : List Byte) : Option (Nat × List Byte) :=
  if suite = 1 then (Config.cbcOpen m seq (hdr.getD 0 0).toNat body).map (fun t => ((hdr.getD 0 0).toNat, t))
  else (Config.gcmOpen (gcmKey suite m) (recNonce (gcmIv suite m) seq) hdr (body.take (body.length - 16))
    (body.drop (body.length - 16))).map innerOf

/-- One record sealed under a key (R270, R271). -/
def sealRecord (m : List Byte) (suite seq ctype : Nat) (l : List Byte) : List Byte :=
  if suite = 1 then
    let b := Config.cbcSeal m seq ctype l
    beBytes 1 ctype ++ beBytes 2 0x0303 ++ beBytes 2 b.length ++ b
  else
    let hdr := beBytes 1 23 ++ beBytes 2 0x0303 ++ beBytes 2 (l.length + 17)
    hdr ++ Config.gcmSeal (gcmKey suite m) (recNonce (gcmIv suite m) seq) hdr (l ++ beBytes 1 ctype)

/-- A message cut into records of at most `n` bytes of plaintext (R271): the wire bytes and the next number. -/
def sealAll (m : List Byte) (suite ctype n : Nat) : Nat → Nat → List Byte → List Byte × Nat
  | 0, seq, _ => ([], seq)
  | fuel + 1, seq, l =>
    let c := sealRecord m suite seq ctype (l.take n)
    if l.length ≤ n then (c, seq + 1)
    else
      let r := sealAll m suite ctype n fuel (seq + 1) (l.drop n)
      (c ++ r.1, r.2)

/-- The largest segment (R263). -/
def vlMss : Nat := 1440

/-- Bytes sent as segments of at most the MSS (R263). -/
def vlSegs (p : Port) : Nat → Nat → List Byte → State → State
  | 0, _, _, s => s
  | fuel + 1, seq, w, s =>
    if w = [] then s
    else vlSegs p fuel ((seq + vlMss) % 2 ^ 32) (w.drop vlMss) (vlSend p (.data seq (w.take vlMss)) s)

/-- Queued messages put on the wire, in order (R266, R271); a transmit key no longer usable fails the connection
(R548). -/
def vlPump (p : Port) : Nat → State → State
  | 0, s => s
  | fuel + 1, s =>
    let v := s.vl p
    match v.tx.find? (fun m => m.wire.isNone) with
    | none => s
    | some m =>
      let put := fun (w : List Byte) (key : Option VlKey) (s : State) =>
        let seq := ((s.vl p).sndUna + wireLen (s.vl p).tx) % 2 ^ 32
        let s := s.vlF p (fun v =>
          let done := v.tx.takeWhile (fun m => m.wire.isSome)
          { v with tx := done ++ (match v.tx.drop done.length with | m :: t => { m with wire := some w } :: t | [] => []),
                   txKey := key })
        vlPump p fuel (vlSegs p w.length seq w s)
      match v.txKey with
      | none => put m.data none s
      | some k =>
        if recordSlot s p.val k.slot k.suite uEncrypt then
          let n := max 64 (min 16384 (s.rd R.vl_TX_REC [p.val]))
          let r := sealAll (slotMat s k.slot) k.suite m.ctype n (m.data.length + 1) k.seq m.data
          put r.1 (some { k with seq := r.2 }) s
        else tlsReset p s

/-- A connection has queued messages to send: it is established, or the peer has closed its side (R266). -/
def vlSends (s : State) (p : Port) : Bool := vlAnswers s p && (tcpOf s p == tcpEst || tcpOf s p == tcpClosing)

/-- TCP_SYN: from another address it is answered with a reset; from the peer it is accepted, and a connection it finds
is aborted with its messages (R264). Messages queued without a connection are sent on the new one (R266). -/
def tcpSyn (p : Port) (ip isn : Nat) (s : State) : State :=
  if vlAnswers s p then
    if ip = s.rd R.vl_PEER_IP [p.val] ∧ ip ≠ 0 then
      let est := tcpOf s p = tcpEst ∨ tcpOf s p = tcpClosing
      let q := if est then [] else (s.vl p).tx
      let s := if est then (s.vlF p (fun v => { v with rx := [] })).raise (vlPage p) 4 else s
      let t := s.rdB R.vl_SEC_TLS [p.val]
      let s := connEnd p tcpEst (b2n t) s
      let iss := s.free 32
      let s := (s.vlF p (fun v => { v with tls := t, rcvNxt := (isn + 1) % 2 ^ 32, sndUna := (iss + 1) % 2 ^ 32,
                                           stale := false, tx := q })).took
      vlPump p 5 ((vlSend p (.synAck iss ((isn + 1) % 2 ^ 32) vlMss) s).raise (vlPage p) 3)
    else vlSend p .reset s
  else s

/-- TCP_SYN (R264). -/
def execTcpSyn (p : Port) (ip isn : Nat) (s : State) : Host.Outcome State Fault Refusal :=
  .next (vlShow p (tcpSyn p ip isn (vlBegin p s)))

/-- The record of a fatal bad_record_mac alert, under the transmit protection in force (R272; log entry 200); none where
its key is gone. -/
def alertRecord (s : State) (p : Port) : Option (List Byte) :=
  match (s.vl p).txKey with
  | none => some (beBytes 1 21 ++ beBytes 2 0x0303 ++ beBytes 2 2 ++ [2, 20])
  | some k =>
    if recordSlot s p.val k.slot k.suite uEncrypt then some (sealRecord (slotMat s k.slot) k.suite k.seq 21 [2, 20]) else none

/-- TLS_FAIL: a record failed to verify: alert, reset, TLS = FAILED (R272). -/
def tlsFail (p : Port) (s : State) : State :=
  let s := tlsReset p (match alertRecord s p with | some a => vlSend p (.alert a) s | none => s)
  ((s.setErr (vlPage p) 0x0103).satInc R.vl_AUTH_FAIL [p.val]).raise (vlPage p) 9

/-- A message for Envelope from a record (R271): raw, or of another content type. -/
def recordMsg (ptype ctype : Nat) (l : List Byte) : VlMsg := ⟨ptype, ctype, l.length, l, false⟩

/-- A verified record handed on: application data are parsed, any other type is presented and pauses (R271). -/
def vlRecord (p : Port) (ctype seq rec : Nat) (l : List Byte) (s : State) : State :=
  if ctype = 23 then
    let k := (s.vl p).skip
    let s := s.vlF p (fun v => { v with skip := 0 })
    vlFeed p (fun i => (seq, rec, k + i)) (2 * l.length + 2) 0 (l.drop k) s
  else
    (vlPush p (recordMsg 0xFFFE ctype l) (s.wr R.vl_RX_PAUSED [p.val] 1)).raise (vlPage p) 6

/-- Where the first record byte that is not processed stands. -/
def rawSeq (v : VlS) : Nat := (dataEnd v + 2 ^ 32 - v.raw.length) % 2 ^ 32

/-- The stream of a record longer than the buffer (R272): a message already streaming goes on with it; otherwise one begins,
with the bytes that earlier records carried of it. Without protection the record is the message (R271). -/
def bigStream (v : VlS) (hdr : List Byte) (n : Nat) : VlStream :=
  let q := match v.rxKey with | some k => k.seq | none => 0
  match v.strm with
  | some t => { t with record := some (hdr, [], t.got), lead := none, skip := v.skip, mark := (rawSeq v, q, 0) }
  | none =>
    let k := v.part.length
    { ptype := if v.rxKey.isSome then 0 else 0xFFFF, ctype := 0, len := if v.rxKey.isSome then 0 else n + 5
      got := k, used := 0, buf := v.part, record := some (hdr, [], k), lead := some v.part, skip := v.skip, after := []
      mark := (rawSeq v, q, 0) }

/-- A record longer than the buffer: it streams if a program is armed or its message streams already; else it alone is
dropped, and reception returns to its start (R272, R273). -/
def vlBigRecord (p : Port) (hdr body : List Byte) (n : Nat) (s : State) : State :=
  let v := s.vl p
  if v.strm.isSome || vlArmed s p then
    let t := bigStream v hdr n
    let k := recordLacks v t
    let l := (if v.rxKey.isSome then body else hdr ++ body)
    let s := s.vlF p (fun v => { v with raw := l.drop k, part := [], skip := 0, strm := some t })
    vlStreamRecord p t (l.take k) s
  else tooBig p (vlRewind p (rawSeq v) s)

/-- The next record of the connection (R271, R272). -/
def tlsRecord (p : Port) (s : State) : State :=
  let v := s.vl p
  if vlSends s p = true ∧ v.tls = true ∧ s.rdB R.vl_RX_PAUSED [p.val] = false ∧
      5 ≤ v.raw.length ∧ (match v.strm with | some t => t.record.isNone && decide (t.got < t.len) | none => true) = true then
    let n := beNat ((v.raw.drop 3).take 2)
    let hdr := v.raw.take 5
    let body := (v.raw.drop 5).take n
    if vlBuf s p < 5 + n then vlBigRecord p hdr (v.raw.drop 5) n s
    else if body.length < n then s
    else
      let at_ := rawSeq v
      let s := s.vlF p (fun v => { v with raw := v.raw.drop (5 + n) })
      match v.rxKey with
      | none => vlPush p (recordMsg 0xFFFF 0 (hdr ++ body)) s
      | some k =>
        if recordSlot s p.val k.slot k.suite uDecrypt then
          match openRecord (slotMat s k.slot) k.suite k.seq hdr body with
          | none => tlsFail p s
          | some (c, l) =>
            vlRecord p c at_ k.seq l (s.vlF p (fun v => { v with rxKey := some { k with seq := k.seq + 1 } }))
        else tlsReset p s
  else s

/-- Where byte `i` of bytes in hand stands (R273): by its offset in a record, or by its TCP number. -/
def markAt (tls : Bool) (m : Nat × Nat × Nat) (i : Nat) : Nat × Nat × Nat :=
  if tls then (m.1, m.2.1, m.2.2 + i) else ((m.1 + i) % 2 ^ 32, 0, 0)

/-- The end of a streamed message: MSG_DONE, and it stands at the head; what waited behind it follows (R269). -/
def streamEnd (p : Port) (s : State) : State :=
  match (s.vl p).strm with
  | some t =>
    if t.used = t.len ∧ t.record.isNone = true then
      let s := (vlPush p ⟨t.ptype, t.ctype, t.len, [], true⟩ (s.vlF p (fun v => { v with strm := none }))).raise (vlPage p) 7
      vlFeed p (markAt (s.vl p).tls t.mark) (2 * t.after.length + 2) 0 t.after s
    else s
  | none => s

/-- A streamed record has verified: the rest of its plaintext `l` follows. Application data go on as V2GTP: the message takes
its bytes, what follows waits behind it, a header that fails its checks aborts the connection, and one that is not whole
waits for the next record (R265, R268). A record of another content type is the message, and processing pauses (R271). -/
def streamVerified (p : Port) (t : VlStream) (h : List Byte) (n : Nat) (k : VlKey) (c : Nat) (l : List Byte) (s : State) : State :=
  let s := s.vlF p (fun v => { v with rxKey := some { k with seq := k.seq + 1 } })
  let l := l.drop t.skip
  if c ≠ 23 then
    let u := streamPut { t with buf := t.buf ++ t.after, got := t.got + t.after.length, after := [] } n none l
    let s := s.vlF p (fun v => { v with strm := some { u with
      record := none, ptype := 0xFFFE, ctype := c, len := u.got } })
    streamEnd p ((s.wr R.vl_RX_PAUSED [p.val] 1).raise (vlPage p) 6)
  else
    let b := t.lead.getD [] ++ l
    match streamTotal t 0 h l with
    | some total =>
      let u := streamPut t n (some total) l
      streamEnd p (s.vlF p (fun v => { v with strm := some { u with
        record := none, lead := none, ptype := if t.lead.isSome then beNat ((b.drop 2).take 2) else t.ptype
        mark := (t.mark.1, t.mark.2.1, t.skip + (u.got - n)) } }))
    | none =>
      if b.length < 8 then
        s.vlF p (fun v => { v with
          strm := none, part := b, partSeq := t.mark.1, partRec := t.mark.2.1, partOff := t.skip })
      else connAbort p (s.setErr (vlPage p) (if v2gOk (b.take 8) then 0x0101 else 0x0102))

/-- The end of a record streamed before verification (R272): its verification decides. -/
def vlRecordEnd (p : Port) (t : VlStream) (s : State) : State :=
  match t.record, (s.vl p).rxKey with
  | some (h, c, n), some k =>
    if c.length < beNat ((h.drop 3).take 2) then s
    else if recordSlot s p.val k.slot k.suite uDecrypt = false then tlsReset p s
    else
      match openRecord (slotMat s k.slot) k.suite k.seq h c with
      | none => tlsFail p s
      | some (y, l) => streamVerified p t h n k y l s
  | _, _ => s

/-- TLS_RECORD: the next complete record is processed, or the end of a streamed one verified (R271, R272). -/
def execTlsRecord (p : Port) (s : State) : Host.Outcome State Fault Refusal :=
  .next (let s := vlBegin p s
    vlShow p (closeIfDone p (match (s.vl p).strm with
      | some t => if t.record.isSome then vlRecordEnd p t s else tlsRecord p s
      | none => tlsRecord p s)))

/-- TCP_RETX_TIMEOUT: the oldest segment is sent again; after its 6th retransmission the connection is aborted
(R263). -/
def retxTimeout (p : Port) (s : State) : State :=
  let v := s.vl p
  if vlAnswers s p = true ∧ (tcpOf s p = tcpEst ∨ tcpOf s p = tcpClosing) ∧ 0 < wireLen v.tx then
    if v.retx < 6 then
      let b := ((v.tx.filterMap (·.wire)).flatten).take vlMss
      vlSend p (.data v.sndUna b) (s.vlF p (fun v => { v with retx := v.retx + 1 }))
    else connAbort p s
  else s

/-- TCP_RETX_TIMEOUT (R263). -/
def execTcpRetxTimeout (p : Port) (s : State) : Host.Outcome State Fault Refusal :=
  .next (vlShow p (retxTimeout p (vlBegin p s)))

/-! ## Commands of Envelope -/

/-- The staged message (R266): TX_LEN bytes of the staging area, with a V2GTP header unless it is a record of a connection,
or of the next one, that is processed as TLS records (R262, R271). -/
def vlStaged (s : State) (p : Port) : VlTx :=
  let v := s.vl p
  let n := s.rd R.vl_TX_LEN [p.val]
  let t := s.rd R.vl_TX_PTYPE [p.val]
  let b := memBytes v.stage 0 n
  let tls := if tcpOf s p = tcpEst ∨ tcpOf s p = tcpClosing then v.tls else s.rdB R.vl_SEC_TLS [p.val]
  let hdr := if tls = true ∧ 0xFFFE ≤ t then [] else [0x01, 0xFE] ++ beBytes 2 t ++ beBytes 4 n
  { ptype := t, ctype := s.rd R.vl_TX_CTYPE [p.val], data := hdr ++ b, wire := none }

/-- TX_GO: the staged message is queued, or refused (R266). -/
def txGo (p : Port) (s : State) : State :=
  let m := vlStaged s p
  let v := s.vl p
  if 4 ≤ v.tx.length ∨ 16384 < vlTxUsed v + m.data.length then s.setErr (vlPage p) 0x0105
  else
    let s := s.vlF p (fun v => { v with tx := v.tx ++ [m] })
    if vlSends s p then vlPump p 5 s else s

/-- VLNK_TX_GO (R266). -/
def execVlnkTxGo (w : World) (p : Port) (s : State) : Host.Outcome State Fault Refusal :=
  .next (s.asWriter w (vlPage p) (fun s => vlShow p (txGo p (vlBegin p s))))

/-- RX_POP: the head message is released, and the next one is presented (R268). -/
def rxPop (p : Port) (s : State) : State :=
  match (s.vl p).rx with
  | [] => s
  | _ :: t =>
    let s := s.vlF p (fun v => { v with rx := t })
    match t with
    | m :: _ => if m.streamed then s else s.raise (vlPage p) 5
    | [] => s

/-- VLNK_RX_POP (R268). -/
def execVlnkRxPop (w : World) (p : Port) (s : State) : Host.Outcome State Fault Refusal :=
  .next (s.asWriter w (vlPage p) (fun s => vlShow p (rxPop p s)))

/-- RX_RESUME (R271). -/
def execRxResume (w : World) (p : Port) (s : State) : Host.Outcome State Fault Refusal :=
  .next (s.asWriter w (vlPage p) (fun s => s.wr R.vl_RX_PAUSED [p.val] 0))

/-- A key switched on for a direction, or refused (R270). -/
def keyOn (p : Port) (rx : Bool) (s : State) : State :=
  let k := if rx then s.rd R.vl_KEY_RX [p.val] else s.rd R.vl_KEY_TX [p.val]
  let q := s.rd R.vl_SUITE [p.val]
  if recordSlot s p.val k q (if rx then uDecrypt else uEncrypt) then
    let s := s.vlF p (fun v => if rx then { v with rxKey := some ⟨k, q, 0⟩ } else { v with txKey := some ⟨k, q, 0⟩ })
    s.wr R.vl_TLS [p.val] 2
  else s.setErr (vlPage p) 0x0106

/-- KEY_RX_ON (R270). -/
def execKeyRxOn (w : World) (p : Port) (s : State) : Host.Outcome State Fault Refusal :=
  .next (s.asWriter w (vlPage p) (keyOn p true))

/-- KEY_TX_ON (R270). -/
def execKeyTxOn (w : World) (p : Port) (s : State) : Host.Outcome State Fault Refusal :=
  .next (s.asWriter w (vlPage p) (keyOn p false))

/-- ABORT: the connection is reset (R264). -/
def execAbortLink (w : World) (p : Port) (s : State) : Host.Outcome State Fault Refusal :=
  .next (s.asWriter w (vlPage p) (fun s =>
    let s := vlBegin p s
    if tcpOf s p = tcpEst ∨ tcpOf s p = tcpClosing then vlShow p (connEnd p (tcpRest s p) 0 (sendReset p s)) else s))

/-- Byte offset of the window's word `k` (R275). -/
def winOff (s : State) (p : Port) (k : Nat) : Nat := s.rd R.vl_WOFF [p.val] * 2048 + 4 * k

/-- A read of a word of the message window (R268, R269): while streaming it consumes the bytes read, and the
acknowledgement advances over them. -/
def winRead (p : Port) (k : Nat) (s : State) : Nat × State :=
  let v := s.vl p
  if s.rdB R.vl_WSEL [p.val] then (leNat (memBytes v.stage (winOff s p k) 4), s)
  else
    match v.rx, v.strm with
    | m :: _, _ => (leNat ((m.data.drop (winOff s p k)).take 4), s)
    | [], some t =>
      let b := t.buf.take 4
      let s := s.vlF p (fun v => { v with strm := some { t with buf := t.buf.drop 4, used := t.used + b.length } })
      let s := vlShow p (closeIfDone p (streamEnd p (vlBegin p s)))
      (leNat b, if vlSends s p then vlAckOut p s else s)
    | [], none => (0, s)

/-- A write of a word of the message window: the staging area takes it; the receive head does not (R275). -/
def winWrite (p : Port) (k v : Nat) (s : State) : State :=
  if s.rdB R.vl_WSEL [p.val] then s.vlF p (fun l => { l with stage := memWrite l.stage (winOff s p k) (leBytes 4 v) }) else s

/-- VLNK_WINDOW_READ: a world reads a word of the window (R269). -/
def execVlnkWindowRead (w : World) (p : Port) (k : Fin 512) (s : State) : Host.Outcome State Fault Refusal :=
  .next (if s.canRead w (vlPage p) then
    let r := winRead p k.val s
    { r.2 with host := { r.2.host with rdata := r.2.host.rdata.set w [BitVec.ofNat 32 r.1] } }
    else { s.violate w with host := { (s.violate w).host with rdata := (s.violate w).host.rdata.set w [0] } })

/-- VLNK_CNT_CLR: SLAC_FAILS, SDP_ANS, TOO_BIG and AUTH_FAIL clear (R275). -/
def execVlnkCntClr (w : World) (p : Port) (s : State) : Host.Outcome State Fault Refusal :=
  .next (s.asWriter w (vlPage p) (fun s => (((s.wr R.vl_SLAC_FAILS [p.val] 0).wr R.vl_SDP_ANS [p.val] 0).wr R.vl_TOO_BIG
    [p.val] 0).wr R.vl_AUTH_FAIL [p.val] 0))

/-- The request line of a port's receiver: bytes offered and END; asserted while a held message stands at the head, and
while at least 256 bytes of a streamed message, or its last ones, wait (R268, R269, R532). -/
def vlLine (s : State) (p : Port) : Option (Nat × Bool) :=
  let v := s.vl p
  match v.rx.head?, v.strm with
  | some m, _ => if m.streamed then none else some (m.len, true)
  | none, some t =>
    let last := decide (t.used + t.buf.length = t.len)
    if vlStreaming v = true ∧ 0 < t.buf.length ∧ (256 ≤ t.buf.length ∨ last = true) then some (t.buf.length, last) else none
  | none, none => none

/-- A module that becomes active takes over the links (R274): the next segment of the old connection finds none. -/
def vlTakeover (p : Port) (s : State) : State :=
  if linkOf s p = lkUp then (s.wr R.vl_TCP [p.val] tcpListen).vlF p (fun v => { v with stale := true }) else s

/-- A module that ceases to be active has no connection any more: its transmitter is high-impedance, and neither TCP nor TLS
nor buffer contents go to the module that takes over (R274; log entry 217). -/
def vlCease (p : Port) (s : State) : State :=
  if tcpOf s p = tcpEst ∨ tcpOf s p = tcpClosing then vlShow p (connEnd p (tcpRest s p) 0 s) else s

end Sys2Proof.Machine
end

