-- ==== Sys2Proof/Machine/Port.lean ====
section
/-! DEFINITION. Port sessions: pilot unit, session state machine, insulation test, weld check
(08_port_sessions.md). -/

namespace Sys2Proof.Machine

open Sys2Proof

/-- PORT page of a port. -/
def portPage (p : Port) : Nat := 160 + p.val

/-- One session. -/
def State.se (s : State) (p : Port) : SessS := s.sess[p]

/-- A change of one session. -/
def State.seF (s : State) (p : Port) (f : SessS → SessS) : State := { s with sess := vupd s.sess p f }

/-- Session states (R232). -/
def sIdle : Nat := 0
def sPlugged : Nat := 1
def sAuth : Nat := 2
def sReady : Nat := 3
def sCable : Nat := 4
def sPre : Nat := 5
def sEnergy : Nat := 6
def sRampdown : Nat := 7
def sPaused : Nat := 8
def sWeld : Nat := 9
def sEnded : Nat := 10
def sFault : Nat := 11
def sUnavail : Nat := 12

/-- SSTATE, STEP of a port. -/
def sstate (s : State) (p : Port) : Nat := s.rd R.port_SSTATE [p.val]
def sstep (s : State) (p : Port) : Nat := s.rd R.port_STEP [p.val]

/-- CABLECHECK to WELDCHECK (R232). -/
def energised (st : Nat) : Bool := decide (sCable ≤ st) && decide (st ≤ sWeld)

/-- The states that discard events (R234). -/
def discards (st : Nat) : Bool := st == sIdle || st == sEnded || st == sFault || st == sUnavail

/-- V of a port: the meter's fast voltage on the cable side of Qp, mV (R4, R237, R306). -/
def portVolt (s : State) (p : Port) : Int := s.rd R.mt_V_FAST [p.val]

/-- V is at most 60 V. -/
def vSafe (s : State) (p : Port) : Bool := decide (portVolt s p ≤ 60000)

/-- The session state machine of a port runs: EN = 1, on the active module (R251). -/
def sessRuns (s : State) (p : Port) : Bool := s.runs (portPage p) && s.active

/-! ## The pilot unit (R225-R231) -/

/-- CP output (R226, R232): 0 +12 V steady, 1 PWM, 2 -12 V, 3 high-impedance on a module that is not active (R251). -/
def cpOut (s : State) (p : Port) : Nat :=
  let st := sstate s p
  if !s.active then 3 else if st = sUnavail then 2 else if sPlugged ≤ st ∧ st ≤ sWeld then 1 else 0

/-- CE output (R230, R232): 0 not available, 1 available, 2 energy permitted, 3 high-impedance. -/
def ceOut (s : State) (p : Port) : Nat :=
  let st := sstate s p
  if !s.active then 3 else if st = sUnavail then 0 else if st = sPre ∨ st = sEnergy ∨ st = sRampdown then 2 else 1

/-- PILOT values (R252). -/
def piA : Nat := 0
def piB : Nat := 1
def piC : Nat := 2
def piD : Nat := 3
def piE : Nat := 4
def piDiode : Nat := 5
def piNone : Nat := 6
def piOpen : Nat := 8
def piConn : Nat := 9
def piEnabled : Nat := 10
def piFault : Nat := 11

/-- Classification of the CP from its levels in 10 mV (R227). -/
def cpClass (pwm : Bool) (hi lo : Int) : Nat :=
  if pwm && decide (-1050 < lo) then piDiode
  else if 1050 ≤ hi then piA
  else if 750 ≤ hi then piB
  else if 450 ≤ hi then piC
  else if 150 ≤ hi then piD
  else piE

/-- What PP_KIND makes of a proximity resistance (R229): 0 absent, 1 present, 2 LATCH. -/
def ppClass (kind r : Nat) : Nat :=
  if kind = 1 then (if 100 ≤ r ∧ r ≤ 2700 then 1 else 0)
  else if kind = 2 then (if 100 ≤ r ∧ r ≤ 220 then 1 else if 330 ≤ r ∧ r ≤ 620 then 2 else 0)
  else 1

/-- Classification of CE, in 10 mV, by thresholds in 100 mV (R230). -/
def ceClass (th : Nat) (v : Int) : Nat :=
  let t := fun (k : Nat) => (bits th (8 * k) 8 * 10 : Int)
  if v < t 0 then piFault else if v < t 1 then piEnabled else if v < t 2 then piConn else if v < t 3 then piOpen
  else piFault

/-- The levels of one classification by the pilot unit: CP high and low, CE and ID in 10 mV, PP in ohms. -/
def pilotClass (s : State) (p : Port) (hi lo ce : Int) : Nat :=
  if s.rd R.port_KIND [p.val] = 0 then cpClass (cpOut s p == 1) hi lo
  else ceClass (s.rd R.port_CE_TH3_CE_TH0 [p.val]) ce

/-- PP of the status word (R252): proximity for CCS, ID valid for megawatt charging. -/
def ppOf (s : State) (p : Port) (pp : Nat) (id : Int) : Nat :=
  if s.rd R.port_KIND [p.val] = 0 then ppClass (s.rd R.port_PP_KIND [p.val]) pp
  else b2n (decide ((s.rd R.port_ID_MIN [p.val] : Int) ≤ id) && decide (id ≤ s.rd R.port_ID_MAX [p.val]))

/-- Agreeing classifications that confirm a new one (R228, R230). -/
def agreeNeed (s : State) (p : Port) (cl : Nat) : Nat :=
  if s.rd R.port_KIND [p.val] = 0 then
    if energised (sstate s p) && (cl == piA || cl == piE || cl == piDiode) then 1
    else if cpOut s p = 1 then 2 else 3
  else 2

/-- A CCS plug gone by its PP in an energised state, which the first classification confirms: the pilot events of those
states are confirmed within one PWM period (R247; log entry 216). -/
def ppGone (s : State) (p : Port) (pp : Nat) (id : Int) (agree : Nat) : Bool :=
  s.rd R.port_KIND [p.val] == 0 && energised (sstate s p) && ppOf s p pp id == 0 && decide (1 ≤ agree)

/-- PLUG as a level (R231): CP B, C or D and PP present; ID valid and CE CONN or ENABLED. -/
def plugIn (s : State) (p : Port) : Bool :=
  let c := s.rd R.port_PILOT [p.val]
  s.rd R.port_PP [p.val] == 1 &&
    (if s.rd R.port_KIND [p.val] = 0 then c == piB || c == piC || c == piD else c == piConn || c == piEnabled)

/-- A plug is present (R237): PLUG, or the same with the latch released, which leaves the plug where it is (log entry
21). -/
def plugThere (s : State) (p : Port) : Bool :=
  let c := s.rd R.port_PILOT [p.val]
  plugIn s p || (s.rd R.port_KIND [p.val] == 0 && s.rd R.port_PP [p.val] == 2 && (c == piB || c == piC || c == piD))

/-- UNPLUG as a level (R231). -/
def plugOut (s : State) (p : Port) : Bool :=
  let c := s.rd R.port_PILOT [p.val]
  let pp := s.rd R.port_PP [p.val]
  if s.rd R.port_KIND [p.val] = 0 then c == piA || pp == 0 else pp == 0 || c == piOpen

/-- VREADY (R231). -/
def vready (s : State) (p : Port) : Bool :=
  let c := s.rd R.port_PILOT [p.val]
  if s.rd R.port_KIND [p.val] = 0 then c == piC || c == piD else c == piEnabled

/-- PERR as a level (R231). -/
def pilotErr (s : State) (p : Port) : Bool :=
  let c := s.rd R.port_PILOT [p.val]
  if s.rd R.port_KIND [p.val] = 0 then c == piE || c == piDiode else c == piFault

/-- A confirmed classification taken: PILOT, PP, VREADY, and the events that follow from it (R228, R231, R253). -/
def pilotTake (p : Port) (cl pp : Nat) (s : State) : State :=
  let was := (plugIn s p, plugOut s p, vready s p, s.rd R.port_PP [p.val])
  let s := (s.wr R.port_PILOT [p.val] cl).wr R.port_PP [p.val] pp
  let s := s.wrB R.port_VREADY [p.val] (vready s p)
  let s := if plugIn s p && !was.1 then s.raise (portPage p) 1 else s
  let s := if plugOut s p && !was.2.1 then s.raise (portPage p) 2 else s
  let susp := was.2.2.1 && !vready s p && !plugOut s p
  let s := s.seF p (fun e => { e with plugNew := e.plugNew && plugIn s p })
  let latch := s.rd R.port_PP [p.val] == 2 && was.2.2.2 != 2 && s.rdB R.port_LATCH_STOP [p.val] && s.rd R.port_KIND [p.val] == 0
  if sessRuns s p then s.seF p (fun e => { e with vsusp := e.vsusp || susp, latch := e.latch || latch }) else s

/-- One classification of the pilot unit, the `agree`-th in a row that gives this result (R227-R231): the levels are
reported, and the result is confirmed once enough agree. While the generator drives -12 V the CP is not classified. -/
def pilotConfirm (p : Port) (hi lo ce id : Int) (pp agree : Nat) (s : State) : State :=
  let s := (((s.wrI R.port_CP_HI [p.val] hi).wrI R.port_CP_LO [p.val] lo).wr R.port_PP_R [p.val] (min pp 65535))
  let s := (s.wrI R.port_CE_LVL [p.val] ce).wrI R.port_ID_LVL [p.val] id
  if 2 ≤ s.rd R.port_KIND [p.val] ∨ s.runs (portPage p) = false then s
  else
    let cl := pilotClass s p hi lo ce
    if agree < agreeNeed s p cl then
      (if ppGone s p pp id agree then pilotTake p (s.rd R.port_PILOT [p.val]) 0 s else s)
    else
      let cl := if s.rd R.port_KIND [p.val] = 0 ∧ cpOut s p = 2 then piNone else cl
      pilotTake p cl (ppOf s p pp id) s

/-- PILOT_CONFIRM (R228). -/
def execPilotConfirm (p : Port) (hi lo ce id : Int) (pp agree : Nat) (s : State) : Host.Outcome State Fault Refusal :=
  .next (pilotConfirm p hi lo ce id pp agree s)

/-! ## Pending events (R233-R235) -/

/-- Bits of PORT_EVT (R252). -/
def eLinkUp : Nat := 0
def eAuthOk : Nat := 1
def eAuthFail : Nat := 2
def eIsoGo : Nat := 3
def ePreGo : Nat := 4
def eStart : Nat := 5
def eStop : Nat := 6
def ePause : Nat := 7
def eResume : Nat := 8
def eWeldDone : Nat := 9
def eNewSess : Nat := 10
def eOos : Nat := 11
def eIs : Nat := 12
def eHb : Nat := 13
def eBillDisc : Nat := 14

/-- A firmware event is pending. -/
def pend (s : State) (p : Port) (n : Nat) : Bool := bitB (s.rd R.port_EVT_PEND [p.val]) n

/-- A pending event is taken away. -/
def unpend (p : Port) (n : Nat) (s : State) : State := s.wrBit R.port_EVT_PEND [p.val] n false

/-- The states that discard events act on this one (R234, R237): OOS is kept in FAULT. -/
def actsOn (s : State) (p : Port) (n : Nat) : Bool :=
  let st := sstate s p
  let fb := s.rdB R.port_CONT_FB [p.val]
  let weld := s.rdB R.port_CONT_WELD [p.val]
  if st = sIdle then n == eOos
  else if st = sEnded then n == eOos || (n == eNewSess && plugThere s p)
  else if st = sFault then n == eOos || (n == eNewSess && plugThere s p && !fb && !weld)
  else n == eIs && s.enOf (portPage p) && (decide (s.rd R.port_KIND [p.val] < 2) || weld)

/-- EVENT_DISCARD: pending events but those kept are discarded (R234). -/
def dropEvents (p : Port) (keep : Nat → Bool) (s : State) : State :=
  let ds := (List.range 15).filter (fun n => pend s p n && !keep n)
  if ds = [] then s
  else
    let s := foldS ds (fun s n => (unpend p n s).wrBit R.port_EVT_DROP [p.val] n true) s
    (s.setErr (portPage p) 0x0100).raise (portPage p) 6

/-- Events posted in IDLE, ENDED, FAULT or UNAVAIL that the state does not act on (R234). -/
def discardEvents (p : Port) (s : State) : State :=
  if discards (sstate s p) then dropEvents p (actsOn s p) s else s

/-- On entry to one of those states every pending event is discarded, since the state acts on none in that period; OOS
is kept in FAULT (R234, R235). -/
def entryDrop (p : Port) (st : Nat) (s : State) : State :=
  if discards st then dropEvents p (fun n => st == sFault && n == eOos) s else s

/-- An event is posted (R233, R234); without a running state machine it is judged at once. -/
def postEvent (p : Port) (n : Nat) (s : State) : State :=
  let s := s.wrBit R.port_EVT_PEND [p.val] n true
  if s.runs (portPage p) then s else discardEvents p s

/-- Firmware posts an event (R233). -/
def firmwareEvent (w : World) (p : Port) (n : Nat) (s : State) : Host.Outcome State Fault Refusal :=
  .next (s.asWriter w (portPage p) (postEvent p n))

/-- LINK_UP (R237). -/
def execLinkUp (w : World) (p : Port) (s : State) : Host.Outcome State Fault Refusal := firmwareEvent w p eLinkUp s
/-- AUTH_OK (R237). -/
def execAuthOk (w : World) (p : Port) (s : State) : Host.Outcome State Fault Refusal := firmwareEvent w p eAuthOk s
/-- AUTH_FAIL (R237). -/
def execAuthFail (w : World) (p : Port) (s : State) : Host.Outcome State Fault Refusal := firmwareEvent w p eAuthFail s
/-- ISO_GO (R242). -/
def execIsoGo (w : World) (p : Port) (s : State) : Host.Outcome State Fault Refusal := firmwareEvent w p eIsoGo s
/-- PRE_GO (R237). -/
def execPreGo (w : World) (p : Port) (s : State) : Host.Outcome State Fault Refusal := firmwareEvent w p ePreGo s
/-- START (R237). -/
def execStartSession (w : World) (p : Port) (s : State) : Host.Outcome State Fault Refusal := firmwareEvent w p eStart s
/-- STOP (R245). -/
def execStopSession (w : World) (p : Port) (s : State) : Host.Outcome State Fault Refusal := firmwareEvent w p eStop s
/-- PAUSE (R237). -/
def execPause (w : World) (p : Port) (s : State) : Host.Outcome State Fault Refusal := firmwareEvent w p ePause s
/-- RESUME (R237). -/
def execResume (w : World) (p : Port) (s : State) : Host.Outcome State Fault Refusal := firmwareEvent w p eResume s
/-- WELD_DONE (R246). -/
def execWeldDone (w : World) (p : Port) (s : State) : Host.Outcome State Fault Refusal := firmwareEvent w p eWeldDone s
/-- NEW_SESS (R237). -/
def execNewSess (w : World) (p : Port) (s : State) : Host.Outcome State Fault Refusal := firmwareEvent w p eNewSess s
/-- OOS (R237). -/
def execOos (w : World) (p : Port) (s : State) : Host.Outcome State Fault Refusal := firmwareEvent w p eOos s
/-- IS (R237). -/
def execInService (w : World) (p : Port) (s : State) : Host.Outcome State Fault Refusal := firmwareEvent w p eIs s

/-- HB: the heartbeat timer restarts; it is never pending (R234, R250). -/
def execHb (w : World) (p : Port) (s : State) : Host.Outcome State Fault Refusal :=
  .next (s.asWriter w (portPage p) (fun s =>
    s.seF p (fun e => { e with hbLost := false, hbAt := s.now, hbMs := s.rd R.port_HB_TMO [p.val] })))

/-- The safety island has begun a Rip panel stop on the port (R235, R431). -/
def postRip (p : Port) (s : State) : State := s.seF p (fun e => { e with rip := true })

/-! ## Causes and transitions (R236, R237) -/

/-- Causes (R236). -/
def cStop : Nat := 1
def cVehSusp : Nat := 2
def cLatch : Nat := 3
def cBill : Nat := 4
def cPauseTmo : Nat := 5
def cAuthFail : Nat := 6
def cAuthTmo : Nat := 7
def cReadyTmo : Nat := 8
def cLinkTmo : Nat := 9
def cIsoFail : Nat := 10
def cIsoTmo : Nat := 11
def cShort : Nat := 12
def cPreTmo : Nat := 13
def cRampTmo : Nat := 14
def cFwLost : Nat := 15
def cSafety : Nat := 16
def cUnplug : Nat := 17
def cPilotErr : Nat := 18
def cContFail : Nat := 19
def cContWeld : Nat := 20
def cDischFail : Nat := 21

/-- Rank of a cause (R236); CONT_WELD and DISCH_FAIL have none, and nothing replaces them. -/
def causeRank (c : Nat) : Nat :=
  [9, 5, 5, 5, 4, 6, 8, 6, 6, 6, 3, 6, 3, 6, 6, 6, 2, 1, 1, 3, 0, 0].getD c 9

/-- The vehicle step of the weld check runs for this cause (R236). -/
def causeVehicle (c : Nat) : Bool := decide (1 ≤ c) && decide (c ≤ 5)

/-- A stop with this cause ends in FAULT (R236). -/
def causeFault (c : Nat) : Bool := decide (9 ≤ c)

/-- A later event's cause replaces the present one (R236). -/
def causeBetter (s : State) (p : Port) (c : Nat) : Bool := decide (causeRank c < causeRank (s.se p).cause)

/-- CAUSE recorded (R236, R253). -/
def setCause (p : Port) (c : Nat) (s : State) : State :=
  ((s.seF p (fun e => { e with cause := c })).wr R.port_CAUSE [p.val] c).raise (portPage p) 3

/-- The time of a state's own timer, ms (R237, R242, R244, R245); 0 for a state that has none. -/
def stateMs (s : State) (p : Port) (st : Nat) : Nat :=
  if st = sPlugged then 100 * s.rd R.port_LINK_TMO [p.val]
  else if st = sAuth then 100 * s.rd R.port_AUTH_TMO [p.val]
  else if st = sReady then 100 * s.rd R.port_READY_TMO [p.val]
  else if st = sCable then s.rd R.port_ISO_TMO [p.val]
  else if st = sPre then s.rd R.port_PRE_TMO [p.val]
  else if st = sRampdown then s.rd R.port_RAMP_TMO [p.val]
  else if st = sPaused then 1000 * s.rd R.port_PAUSE_TMO [p.val]
  else 0

/-- The time of a step's timer, ms (R242, R246); 0 for a step that has none. -/
def stepMsOf (s : State) (p : Port) (st k : Nat) : Nat :=
  if st = sCable then
    (if k = 3 then s.rd R.port_ISO_SETTLE [p.val] else if k = 4 then s.rd R.port_ISO_MEAS [p.val]
     else if k = 5 then s.rd R.port_DISCH_TMO [p.val] else 0)
  else if st = sWeld then
    (if k = 2 then s.rd R.port_DISCH_TMO [p.val] else if k = 3 then s.rd R.port_WELD_TMO [p.val] else 0)
  else 0

/-- SSTATE changes (R232, R237): its cycle, the interrupt, the step, the state's own timeout; the link follows (R258). -/
def goState (p : Port) (st : Nat) (s : State) : State :=
  let s := ((s.wr R.port_SSTATE [p.val] st).wr R.port_SSTATE_CYCLE [p.val] s.spar.cycle).raise (portPage p) 0
  let s := (s.wr R.port_STEP [p.val] (if st = sCable ∨ st = sWeld then 1 else 0)).wr R.port_PRE_OK [p.val] 0
  let s := if st = sPaused ∨ st = sRampdown then s else s.wr R.port_PAUSE_F [p.val] 0
  let s := s.seF p (fun e => { e with tmo := false, stepDone := false, dischTmo := false,
                                      bad := if st = sWeld then false else e.bad
                                      plugNew := st == sIdle && plugIn s p
                                      stAt := s.now, stepAt := s.now
                                      stMs := stateMs s p st, stepMs := 0
                                      isoAt := if st = sPre then s.now else e.isoAt
                                      isoMs := if st = sPre then s.rd R.port_ISO_MEAS [p.val] else e.isoMs })
  let s := entryDrop p st s
  let s := if st = sCable then s.wr R.port_ISO_RES [p.val] 0 else s
  let s := if st = sUnavail ∧ s.rd R.port_KIND [p.val] = 0 then s.wr R.port_PILOT [p.val] piNone else s
  if st = sIdle ∨ st = sUnavail then linkTeardown p s else if st = sPlugged then linkStart p s else s

/-- A new session: SESS_ID + 1, the stop's records cleared, PLUGGED (R237). -/
def newSession (p : Port) (s : State) : State :=
  let s := (s.inc R.port_SESS_ID [p.val]).seF p (fun e => { e with cause := 0, unplugged := false, bad := false })
  let s := ((s.wr R.port_WELD_LATE [p.val] 0).wr R.port_WELD_RB [p.val] 0).wr R.port_ISO_WARN_F [p.val] 0
  goState p sPlugged s

/-- A stop: its cause, and the state it goes to (R237). -/
def stopTo (p : Port) (c st : Nat) (s : State) : State := goState p st (setCause p c s)

/-- Where a stop event leads from a state (R237); the same state where only its cause is recorded (R236); none where
the state has no row for it. The event is named by its cause. -/
def stopDest (s : State) (p : Port) (c : Nat) : Option Nat :=
  let st := sstate s p
  if st = sCable then some sWeld
  else if st = sPre ∧ c = cShort then some sWeld
  else if (st = sPre ∨ st = sEnergy) ∧ c ≠ cShort ∧ c ≠ cDischFail then some sRampdown
  else if st = sPaused ∧ (c = cStop ∨ c = cVehSusp ∨ c = cFwLost ∨ c = cSafety ∨ c = cBill) then some sWeld
  else if (st = sAuth ∨ st = sReady) ∧ c = cFwLost then some sEnded
  else if (st = sRampdown ∨ st = sWeld) ∧ causeBetter s p c = true then some st
  else none

/-- The stop events of a period in order of rank (R235), by cause, each with whether it is there. -/
def stopEvents (s : State) (p : Port) : List (Nat × Bool) :=
  let e := s.se p
  [(cSafety, e.rip), (cShort, pstate s p == psShort), (cContFail, e.contFail), (cIsoFail, e.isoFail),
   (cDischFail, e.dischFail), (cBill, pend s p eBillDisc), (cStop, pend s p eStop), (cLatch, e.latch),
   (cVehSusp, e.vsusp), (cFwLost, e.hbLost)]

/-- An event acted on is no longer pending. -/
def takeStop (p : Port) (c : Nat) (s : State) : State :=
  if c = cBill then unpend p eBillDisc s
  else if c = cStop then unpend p eStop s
  else s.seF p (fun e => { e with
    rip := e.rip && c != cSafety
    contFail := e.contFail && c != cContFail
    isoFail := e.isoFail && c != cIsoFail
    dischFail := e.dischFail && c != cDischFail
    latch := e.latch && c != cLatch
    vsusp := e.vsusp && c != cVehSusp
    hbLost := e.hbLost && c != cFwLost })

/-- Internal events that the state has no row for are dropped (log entry 22). -/
def dropIdle (p : Port) (s : State) : State :=
  let none_ := fun c => (stopDest s p c).isNone
  s.seF p (fun e => { e with
    rip := e.rip && !none_ cSafety
    contFail := e.contFail && !none_ cContFail
    isoFail := e.isoFail && !none_ cIsoFail
    dischFail := e.dischFail && !none_ cDischFail
    latch := e.latch && !none_ cLatch
    vsusp := e.vsusp && !none_ cVehSusp
    hbLost := e.hbLost && !none_ cFwLost })

/-- Stage-side voltage: the largest Y1 among the available stages whose route in force is the port, mV (R246). -/
def stageSide (s : State) (p : Port) : Int :=
  (availOn s p).foldl (fun a i => max a (physical (s.rdI R.line_Y [i.val, 1]) (s.rd R.line_FS [i.val, 1]))) 0

/-- WELD_VMIN in mV. -/
def weldVmin (s : State) (p : Port) : Int := 1000 * s.rd R.port_WELD_VMIN [p.val]

/-- CONT_WELD is set (R240); in a weld check it is the stop's cause and decides its end (R236, R246). -/
def setWeld (p : Port) (s : State) : State :=
  let s := s.wr R.port_CONT_WELD [p.val] 1
  if sstate s p = sWeld then setCause p cContWeld (s.seF p (fun e => { e with bad := true })) else s

/-- A step of CABLECHECK or WELDCHECK begins. -/
def toStep (p : Port) (k : Nat) (s : State) : State :=
  (s.wr R.port_STEP [p.val] k).seF p (fun e => { e with
    stepDone := false, dischTmo := false, stepAt := s.now, stepMs := stepMsOf s p (sstate s p) k })

/-- After the split of the weld check: the vehicle step, or the end (R246). -/
def afterSplit (p : Port) (s : State) : State :=
  toStep p (if causeVehicle (s.se p).cause && s.rdB R.port_WELD_VEH [p.val] then 3 else 4) s

/-- Step 2 of the weld check ends with V at most 60 V (R246). -/
def judgeSplit (p : Port) (s : State) : State :=
  let vmin := weldVmin s p
  let s := if vmin ≤ (s.se p).vs then (if vmin ≤ stageSide s p then s else setWeld p s)
    else s.wr R.port_WELD_RB [p.val] 1
  afterSplit p s

/-- The weld check ends (R246): ENDED or FAULT, by cause. -/
def weldEnd (p : Port) (s : State) : State :=
  goState p (if (s.se p).bad || causeFault (s.se p).cause then sFault else sEnded) s

/-- Internal step completions of CABLECHECK (R242). -/
def cableStep (p : Port) (s : State) : State :=
  let k := sstep s p
  let done := (s.se p).stepDone
  if k = 1 ∧ s.rdB R.port_CONT_FB [p.val] = true ∧ s.rdB R.port_CONT_REQ [p.val] = true then toStep p 2 s
  else if k = 2 ∧ pstate s p = psPre then toStep p 3 s
  else if k = 3 ∧ done then toStep p 4 s
  else if k = 4 ∧ done then toStep p 5 s
  else if k = 5 ∧ done then (toStep p 6 s).raise (portPage p) 4
  else s

/-- Internal step completions of WELDCHECK (R246). -/
def weldStep (p : Port) (s : State) : State :=
  let k := sstep s p
  if k = 1 ∧ (s.rdB R.port_CONT_FB [p.val] = false ∨ (s.se p).stepDone = true) then
    (toStep p 2 s).seF p (fun e => { e with vs := stageSide s p })
  else if k = 2 ∧ (s.se p).stepDone = true then judgeSplit p s
  else if k = 2 ∧ (s.se p).dischTmo = true then
    afterSplit p (setCause p cDischFail (s.seF p (fun e => { e with bad := true })))
  else if k = 4 then weldEnd p s
  else s

/-- FAULT is left once the plug is absent, V is at most 60 V, and the contactor is open or known welded (R237). -/
def faultExit (p : Port) (s : State) : State :=
  let weld := s.rdB R.port_CONT_WELD [p.val]
  if plugOut s p && vSafe s p && (!s.rdB R.port_CONT_FB [p.val] || weld) then
    if weld || pend s p eOos then goState p sUnavail (unpend p eOos s) else goState p sIdle s
  else s

/-- Firmware events of rank 8, in bit order, and then internal completions (R235, R237). -/
def sessLow (p : Port) (s : State) : State :=
  let st := sstate s p
  if st = sPlugged ∧ pend s p eLinkUp = true then goState p sAuth (unpend p eLinkUp s)
  else if st = sAuth ∧ pend s p eAuthOk = true then goState p sReady (unpend p eAuthOk s)
  else if st = sAuth ∧ pend s p eAuthFail = true then stopTo p cAuthFail sEnded (unpend p eAuthFail s)
  else if st = sReady ∧ pend s p eIsoGo = true ∧ vready s p = true ∧ vSafe s p = true ∧ permitted s p = true then
    goState p sCable (unpend p eIsoGo s)
  else if st = sCable ∧ pend s p ePreGo = true ∧ sstep s p = 6 then goState p sPre (unpend p ePreGo s)
  else if st = sPre ∧ pend s p eStart = true ∧ s.rdB R.port_PRE_OK [p.val] = true then
    goState p sEnergy (unpend p eStart s)
  else if st = sPaused ∧ pend s p eResume = true then goState p sPre (unpend p eResume s)
  else if st = sWeld ∧ sstep s p = 3 ∧ pend s p eWeldDone = true then toStep p 4 (unpend p eWeldDone s)
  else if (st = sEnded ∨ st = sFault) ∧ pend s p eNewSess = true ∧ actsOn s p eNewSess = true then
    newSession p ((unpend p eNewSess s).wr R.port_CAUSE [p.val] 0)
  else if (st = sIdle ∨ st = sEnded) ∧ pend s p eOos = true then goState p sUnavail (unpend p eOos s)
  else if st = sUnavail ∧ pend s p eIs = true ∧ s.rdB R.port_CONT_WELD [p.val] = true then
    (unpend p eIs s).setErr (portPage p) 0x0102
  else if st = sUnavail ∧ pend s p eIs = true ∧ s.rd R.port_KIND [p.val] < 2 then goState p sIdle (unpend p eIs s)
  else if st = sCable then cableStep p s
  else if st = sRampdown ∧ (s.se p).stepDone = true then
    goState p (if s.rdB R.port_PAUSE_F [p.val] && (s.se p).cause == 0 then sPaused else sWeld) s
  else if st = sWeld then weldStep p s
  else if st = sFault then faultExit p s
  else s

/-- The state's own timeout, rank 6 (R237); in RAMPDOWN it replaces a cause of a higher rank number only (R236). -/
def sessTmo (p : Port) (s : State) : State :=
  let st := sstate s p
  if st = sPlugged then stopTo p cLinkTmo sFault s
  else if st = sAuth then stopTo p cAuthTmo sEnded s
  else if st = sReady then stopTo p cReadyTmo sEnded s
  else if st = sCable then stopTo p cIsoTmo sWeld s
  else if st = sPre then stopTo p cPreTmo sWeld s
  else if st = sRampdown then goState p sWeld (if causeBetter s p cRampTmo then setCause p cRampTmo s else s)
  else if st = sPaused then stopTo p cPauseTmo sWeld s
  else if st = sWeld then toStep p 4 ((s.wr R.port_WELD_LATE [p.val] 1).seF p (fun e => { e with tmo := false }))
  else s

/-- UNPLUG or PERR in an energised state (R248): straight to FAULT, without ramp or weld check. -/
def unplugLoad (p : Port) (c : Nat) (s : State) : State :=
  stopTo p c sFault (s.seF p (fun e => { e with unplugged := true }))

/-- SESSION_STEP: the state machine acts on the event of lowest rank (R235, R237). -/
def sessAct (p : Port) (s : State) : State :=
  let st := sstate s p
  let early := st = sPlugged ∨ st = sAuth ∨ st = sReady
  if plugOut s p = true ∧ energised st = true then unplugLoad p cUnplug s
  else if plugOut s p = true ∧ (early ∨ st = sEnded) then goState p sIdle s
  else if pilotErr s p = true ∧ energised st = true then unplugLoad p cPilotErr s
  else if pilotErr s p = true ∧ early then stopTo p cPilotErr sFault s
  else if st = sIdle ∧ plugIn s p = true then newSession p (if (s.se p).plugNew then s.raise (portPage p) 1 else s)
  else
    match (stopEvents s p).find? (fun e => e.2 && (stopDest s p e.1).isSome) with
    | some (c, _) =>
      let s := takeStop p c s
      let d := (stopDest s p c).getD st
      if d = st then setCause p c s else stopTo p c d s
    | none =>
      if (s.se p).tmo = true then sessTmo p s
      else if st = sEnergy ∧ pend s p ePause = true then goState p sRampdown ((unpend p ePause s).wr R.port_PAUSE_F [p.val] 1)
      else sessLow p s

/-! ## What the block drives (R232, R239-R245, R251) -/

/-- PREQ of a session state and step (R232, R242): 0 OFF, 1 SOFTSTART, 2 RUN, 3 STOP. -/
def preqOf (st k : Nat) : Nat :=
  if st = sCable then (if k = 2 ∨ k = 3 ∨ k = 4 then 1 else 0)
  else if st = sPre then 1 else if st = sEnergy then 2 else if st = sRampdown then 3 else 0

/-- The contactor request (R232, R239, R242): raised in step 1 of CABLECHECK with V at most 60 V and PSTATE IDLE, closed
from step 2 to PAUSED, also on a module that takes the session over there (R251), open elsewhere. -/
def contReqOf (s : State) (p : Port) : Bool :=
  let st := sstate s p
  if st = sCable ∧ sstep s p = 1 then s.rdB R.port_CONT_REQ [p.val] || (vSafe s p && pstate s p == psIdle)
  else decide (sCable ≤ st) && decide (st ≤ sPaused)

/-- The discharge circuit is wanted on (R237, R242, R246, R248). -/
def dischOf (s : State) (p : Port) : Bool :=
  let st := sstate s p
  (st == sCable && sstep s p == 5) || (st == sWeld && sstep s p == 2) ||
    (st == sFault && (!vSafe s p || ((s.se p).unplugged && s.rdB R.port_CONT_WELD [p.val])))

/-- What the PORT block writes and drives in a period (R239, R241, R244, R245); contactor and discharge circuit only
on the active module (R251). -/
def sessDrive (p : Port) (s : State) : State :=
  let st := sstate s p
  let s := s.wr R.prt_PREQ [p.val] (preqOf st (sstep s p))
  let s := if st = sCable ∧ sstep s p = 2 then s.wr R.prt_VTGT [p.val] (s.rd R.port_ISO_VTEST [p.val])
    else if st = sPre then s.wr R.prt_VTGT [p.val] (s.rd R.port_VPRE [p.val]) else s
  let s := if st = sRampdown then s.wr R.prt_LIM [p.val, 5] 0 else s
  let s := s.wrB R.port_CONT_REQ [p.val] (s.active && contReqOf s p)
  s.wrB R.port_DISCH_ON [p.val] (s.active && s.rdB R.port_DISCH_EN [p.val] && dischOf s p)

/-- PRE_OK while PSTATE is PRECHARGE in the PRECHARGE state (R244). -/
def preOk (p : Port) (s : State) : State :=
  let ok := sstate s p == sPre && pstate s p == psPre
  let s := if ok && !s.rdB R.port_PRE_OK [p.val] then s.raise (portPage p) 5 else s
  s.wrB R.port_PRE_OK [p.val] ok

/-- Since when the readback has differed from the request (R240). -/
def contWatch (p : Port) (s : State) : State :=
  let b := sessRuns s p && s.rdB R.port_CONT_REQ [p.val] != s.rdB R.port_CONT_FB [p.val]
  s.seF p (fun e => { e with
    contAt := since s b e.contAt, contMs := if b && e.contAt.isNone then s.rd R.port_CONT_TMO [p.val] else e.contMs })

/-- One port at a control period start (R232-R251). -/
def sessionPort (p : Port) (s : State) : State :=
  if s.runs (portPage p) then
    let s := if s.active then
        let s := if 2 ≤ s.rd R.port_KIND [p.val] ∧ sstate s p ≠ sUnavail then goState p sUnavail s else s
        discardEvents p (dropIdle p (sessAct p (preOk p s)))
      else s
    contWatch p (sessDrive p s)
  else s

/-- A module that ceases to be active loses the events pending on it (R251). -/
def sessCease (p : Port) (s : State) : State :=
  (s.wr R.port_EVT_PEND [p.val] 0).seF p (fun e => { e with
    rip := false, contFail := false, isoFail := false, dischFail := false, latch := false, vsusp := false, hbLost := false })

/-- A module that becomes active drives the contactor and the discharge circuit from the mirrored state in that period, and
counts the times of the session from then on (R251; log entry 207). -/
def sessTakeover (p : Port) (s : State) : State :=
  let s := s.seF p (fun e => { e with
    stAt := s.now, stepAt := s.now, isoAt := s.now, hbAt := s.now, contAt := none
    stMs := stateMs s p (sstate s p), stepMs := stepMsOf s p (sstate s p) (sstep s p)
    isoMs := s.rd R.port_ISO_MEAS [p.val], hbMs := s.rd R.port_HB_TMO [p.val] })
  if s.runs (portPage p) then sessDrive p s else s

/-- A port with nothing to do: in UNAVAIL with no event, nothing driven. -/
def sessionIdle (s : State) (p : Port) : Bool := !s.runs (portPage p)

/-- Every session at a control period start. -/
def sessionPeriod (s : State) : State :=
  foldS (List.finRange 32) (fun s p => if sessionIdle s p then s else sessionPort p s) s

/-- EN of a PORT page cleared: the session is held in UNAVAIL (R232), nothing is driven. -/
def portDisable (p : Port) (s : State) : State :=
  let s := if sstate s p = sUnavail then s else goState p sUnavail s
  let s := discardEvents p ((s.seF p (fun e => { SessS.reset with hbAt := e.hbAt, hbMs := e.hbMs })).wr R.port_CONT_REQ [p.val] 0)
  (s.wr R.port_DISCH_ON [p.val] 0).wr R.prt_PREQ [p.val] 0

/-- STAT.IDLE of a PORT page (R249). -/
def portIdle (s : State) (p : Port) : Bool :=
  let st := sstate s p
  st == sIdle || st == sEnded || st == sUnavail || (st == sFault && !s.rdB R.port_CONT_FB [p.val])

/-! ## Timers and readings -/

/-- The present step of a state has stood for the time of its timer. -/
def stepHeld (s : State) (p : Port) : Bool := heldFor s (some (s.se p).stepAt) (200000 * (s.se p).stepMs)

/-- The timeout of a state is there (R237). -/
def noteTmo (p : Port) (st : Nat) (s : State) : State :=
  if sessRuns s p = true ∧ sstate s p = st then s.seF p (fun e => { e with tmo := true }) else s

/-- A timer of a state expires: the state has stood for the time that its timer was started with (R237, R252). -/
def stateTmo (p : Port) (st : Nat) (s : State) : State :=
  if heldFor s (some (s.se p).stAt) (200000 * (s.se p).stMs) then noteTmo p st s else s

/-- LINK_TMO (R237). -/
def execLinkTmo (p : Port) (s : State) : Host.Outcome State Fault Refusal := .next (stateTmo p sPlugged s)
/-- AUTH_TMO (R237). -/
def execAuthTmo (p : Port) (s : State) : Host.Outcome State Fault Refusal := .next (stateTmo p sAuth s)
/-- READY_TMO (R237). -/
def execReadyTmo (p : Port) (s : State) : Host.Outcome State Fault Refusal := .next (stateTmo p sReady s)
/-- ISO_TMO: in any step before DONE (R242). -/
def execIsoTmo (p : Port) (s : State) : Host.Outcome State Fault Refusal :=
  .next (if sstep s p < 6 then stateTmo p sCable s else s)
/-- PRE_TMO (R244). -/
def execPreTmo (p : Port) (s : State) : Host.Outcome State Fault Refusal := .next (stateTmo p sPre s)
/-- RAMP_TMO (R245). -/
def execRampTmo (p : Port) (s : State) : Host.Outcome State Fault Refusal := .next (stateTmo p sRampdown s)
/-- PAUSE_TMO (R237). -/
def execPauseTmo (p : Port) (s : State) : Host.Outcome State Fault Refusal := .next (stateTmo p sPaused s)
/-- WELD_TMO: in the vehicle step (R246). -/
def execWeldTmo (p : Port) (s : State) : Host.Outcome State Fault Refusal :=
  .next (if sstep s p = 3 ∧ stepHeld s p = true then noteTmo p sWeld s else s)

/-- HB_LOST: HB has not been written for HB_TMO in AUTH to PAUSED (R250). -/
def execHbLost (p : Port) (s : State) : Host.Outcome State Fault Refusal :=
  .next (if sessRuns s p = true ∧ sAuth ≤ sstate s p ∧ sstate s p ≤ sPaused ∧
      heldFor s (some (s.se p).hbAt) (200000 * (s.se p).hbMs) = true then
    s.seF p (fun e => { e with hbLost := true }) else s)

/-- CONT_TMO: the readback has differed from the request for CONT_TMO (R240): CONT_FAIL, or CONT_WELD. -/
def contTmo (p : Port) (s : State) : State :=
  let req := s.rdB R.port_CONT_REQ [p.val]
  if sessRuns s p = true ∧ req ≠ s.rdB R.port_CONT_FB [p.val] ∧
      heldFor s (s.se p).contAt (200000 * (s.se p).contMs) = true then
    if req then s.seF p (fun e => { e with contFail := true })
    else
      let s := setWeld p s
      if sstate s p = sWeld ∧ sstep s p = 1 then s.seF p (fun e => { e with stepDone := true }) else s
  else s

/-- CONT_TMO (R240). -/
def execContTmo (p : Port) (s : State) : Host.Outcome State Fault Refusal := .next (contTmo p s)

/-- DISCH_TMO: V has not fallen to 60 V in a discharge step (R242, R246). -/
def dischTmo (p : Port) (s : State) : State :=
  if sessRuns s p = true ∧ vSafe s p = false ∧ stepHeld s p = true then
    if sstate s p = sCable ∧ sstep s p = 5 then s.seF p (fun e => { e with dischFail := true })
    else if sstate s p = sWeld ∧ sstep s p = 2 then s.seF p (fun e => { e with dischTmo := true })
    else s
  else s

/-- DISCH_TMO (R246). -/
def execDischTmo (p : Port) (s : State) : Host.Outcome State Fault Refusal := .next (dischTmo p s)

/-- The step of a state is complete: the state machine acts on it at its next period (R235). -/
def stepIs (p : Port) (st k : Nat) (s : State) : State :=
  if sessRuns s p = true ∧ sstate s p = st ∧ sstep s p = k then s.seF p (fun e => { e with stepDone := true }) else s

/-- CONTACTOR_FEEDBACK: the readback of Qp changes (R240): openings are counted, those above CONT_IBRK apart. -/
def contactorFeedback (p : Port) (closed : Bool) (s : State) : State :=
  let was := s.rdB R.port_CONT_FB [p.val]
  let s := contWatch p (s.wrB R.port_CONT_FB [p.val] closed)
  if was && !closed then
    let s := s.inc R.port_CONT_OPS [p.val]
    if s.rd R.port_CONT_IBRK [p.val] < (s.rdI R.mt_I_FAST [p.val]).natAbs then s.satInc R.port_LOADBRK [p.val] else s
  else s

/-- CONTACTOR_FEEDBACK (R240). -/
def execContactorFeedback (p : Port) (closed : Bool) (s : State) : Host.Outcome State Fault Refusal :=
  .next (contactorFeedback p closed s)

/-- ISO_SETTLE_DONE: ISO_SETTLE ms have passed (R242). -/
def execIsoSettleDone (p : Port) (s : State) : Host.Outcome State Fault Refusal :=
  .next (if stepHeld s p then stepIs p sCable 3 s else s)

/-- ISO_R of a resistance in ohms (R252). -/
def isoShow (p : Port) (ohm : Nat) (s : State) : State :=
  s.wr R.port_ISO_R [p.val] (if 10000000 < ohm then 0xFFFFFFFF else ohm / 1000)

/-- ISO_MEASURE_DONE: Riso, measured over ISO_MEAS ms, judged at ISO_VTEST (R242). -/
def isoMeasure (p : Port) (ohm : Nat) (s : State) : State :=
  if sessRuns s p = true ∧ sstate s p = sCable ∧ sstep s p = 4 ∧ stepHeld s p = true then
    let v := s.rd R.port_ISO_VTEST [p.val]
    let s := isoShow p ohm s
    if ohm * 1000 < s.rd R.port_ISO_FAULT [p.val] * v then
      (s.wr R.port_ISO_RES [p.val] 3).seF p (fun e => { e with isoFail := true })
    else
      let r := if ohm * 1000 < s.rd R.port_ISO_WARN [p.val] * v then 2 else 1
      (s.wr R.port_ISO_RES [p.val] r).seF p (fun e => { e with stepDone := true })
  else s

/-- ISO_MEASURE_DONE (R242). -/
def execIsoMeasureDone (p : Port) (ohm : Nat) (s : State) : Host.Outcome State Fault Refusal := .next (isoMeasure p ohm s)

/-- ISO_MON_RESULT: a continuous result over ISO_MEAS ms judged at the mean V of its measurement (R243). -/
def isoMon (p : Port) (ohm vMean : Nat) (s : State) : State :=
  let st := sstate s p
  if sessRuns s p = true ∧ s.rdB R.port_ISO_MON [p.val] = true ∧ sPre ≤ st ∧ st ≤ sRampdown ∧
      heldFor s (some (s.se p).isoAt) (200000 * (s.se p).isoMs) = true then
    let s := (isoShow p ohm s).seF p (fun e => { e with isoAt := s.now, isoMs := s.rd R.port_ISO_MEAS [p.val] })
    if ohm * 1000 < s.rd R.port_ISO_FAULT [p.val] * vMean then s.seF p (fun e => { e with isoFail := true })
    else if ohm * 1000 < s.rd R.port_ISO_WARN [p.val] * vMean then (s.wr R.port_ISO_WARN_F [p.val] 1).raise (portPage p) 7
    else s
  else s

/-- ISO_MON_RESULT (R243). -/
def execIsoMonResult (p : Port) (ohm vMean : Nat) (s : State) : Host.Outcome State Fault Refusal :=
  .next (isoMon p ohm vMean s)

/-- DISCHARGE_DONE: V is at most 60 V in a discharge step (R242, R246). -/
def dischargeDone (p : Port) (s : State) : State :=
  if vSafe s p then stepIs p sWeld 2 (stepIs p sCable 5 s) else s

/-- DISCHARGE_DONE (R246). -/
def execDischargeDone (p : Port) (s : State) : Host.Outcome State Fault Refusal := .next (dischargeDone p s)

/-- STOPPED: PSTATE IDLE, or power removed by the safety island, in RAMPDOWN (R237). -/
def execStopped (p : Port) (s : State) : Host.Outcome State Fault Refusal :=
  .next (if sessRuns s p = true ∧ sstate s p = sRampdown ∧ (pstate s p = psIdle ∨ permitted s p = false) then
    s.seF p (fun e => { e with stepDone := true }) else s)

/-- CONT_WELD_CLEAR: only while CONT_FB reads open (R240, R252). -/
def execContWeldClear (w : World) (p : Port) (s : State) : Host.Outcome State Fault Refusal :=
  .next (s.asWriter w (portPage p) (fun s => if s.rdB R.port_CONT_FB [p.val] then s else s.wr R.port_CONT_WELD [p.val] 0))

/-- Bits of `v` cleared in `old`, of width `n`. -/
def clearBits (n old v : Nat) : Nat := old ^^^ (old &&& (v % 2 ^ n))

/-- EVT_DROP_CLEAR (R252). -/
def execEvtDropClear (w : World) (p : Port) (v : Word) (s : State) : Host.Outcome State Fault Refusal :=
  .next (s.asWriter w (portPage p) (fun s =>
    s.wr R.port_EVT_DROP [p.val] (clearBits 15 (s.rd R.port_EVT_DROP [p.val]) v.toNat)))

end Sys2Proof.Machine
end

