-- ==== Sys2Proof/Machine/Meter.lean ====
section
/-! DEFINITION. Metrology channels: decimated samples, fast values, steps, accumulation, snapshots, pulse outputs
(11_metrology_channels.md), and the metrology event log (12_billing_and_tariffs.md). The additions are in Bill.lean. -/

namespace Sys2Proof.Machine

open Sys2Proof

/-- MTR page of a meter. -/
def meterPage (m : Meter) : Nat := 257 + m.val

/-- One meter, and a change of it. -/
def State.mtr (s : State) (m : Meter) : MtrS := s.mtrs[m]
def State.mtrF (s : State) (m : Meter) (f : MtrS → MtrS) : State := { s with mtrs := vupd s.mtrs m f }

/-- A change of billing state. -/
def State.billF (s : State) (f : BillS → BillS) : State := { s with bill := f s.bill }

/-! ## The metrology event log (R372, R373) -/

/-- Bytes 0-27 of a log entry (R372). -/
def logBytes (e : LogE) : List Byte :=
  leBytes 4 e.seq ++ leBytes 8 e.wall ++ leBytes 4 e.cycle ++ leBytes 2 e.code ++ leBytes 1 e.unit ++ leBytes 1 e.flags ++
    leBytes 4 e.d0 ++ leBytes 4 e.d1

/-- Codes that go to the sealed area (R373). -/
def logSealed (code : Nat) : Bool := decide (1 ≤ code) && decide (code ≤ 4)

/-- Free entries of the sealed area, and whether it is full (R373). -/
def sealFree (s : State) : Nat := 4096 - s.bill.logSeal.length
def logFull (s : State) : Bool := sealFree s == 0

/-- Bremus logs an event (R372, R373): nothing further goes to a full sealed area. -/
def metLog (code unit d0 d1 : Nat) (s : State) : State :=
  if logSealed code && logFull s then s.setErr 304 0x0103
  else
    let s := s.inc R.bill_LOG_SEQ []
    let e : LogE := {
      seq := s.rd R.bill_LOG_SEQ [], wall := wallMs s, cycle := s.spar.cycle, code := code, unit := unit
      flags := s.rd R.wall_VALID [] + 2 * s.rd R.wall_AUTH [] + 4 * s.rd R.bill_DEFAULT []
      d0 := d0 % 2 ^ 32, d1 := d1 % 2 ^ 32, crc := 0 }
    let e := { e with crc := crc32c (logBytes e ++ leBytes 4 s.bill.logCrc) }
    let s := s.billF (fun b => { b with logCrc := e.crc })
    if logSealed code then
      (s.billF (fun b => { b with logSeal := e :: b.logSeal })).wr R.bill_SEAL_FREE [] (sealFree s - 1)
    else s.billF (fun b => { b with logRing := (e :: b.logRing).take 262144 })

/-! ## Channels (R301, R305-R309, R324) -/

/-- Bitstream of channel `j` of meter `m` (R301). -/
def streamOf (m j : Nat) : Nat := if m < 32 then 2 * m + j else 64 + 6 * (m - 32) + j

/-- Meter and channel of a bitstream (R301). -/
def chanOf (b : Nat) : Nat × Nat := if b < 64 then (b / 2, b % 2) else (32 + (b - 64) / 6, (b - 64) % 6)

/-- Channels of a meter (R301). -/
def chanCount (m : Nat) : Nat := if m < 32 then 2 else 6

/-- What corrects a channel's samples (R308, R309). -/
structure ChCfg where
  fs : Nat
  ofs : Int
  gain : Nat
  seg : Int
  delay : Nat
  inv : Bool
  deriving DecidableEq, Repr

/-- The channel's parameters with the segment in use (R308, R309, R310). -/
def chCfg (s : State) (m j : Nat) : ChCfg :=
  let g := s.rd R.ch_SEG_USE [m, j]
  { fs := s.rd R.ch_FS [m, j], ofs := s.rdI R.ch_OFS [m, j], gain := s.rd R.ch_GAIN [m, j]
    seg := s.rdI R.ch_SEG_GAIN [m, j, g]
    delay := (clampI 0 4095 ((s.rd R.ch_DELAY [m, j] : Int) + s.rdI R.ch_SEG_DELAY [m, j, g])).toNat
    inv := s.rdB R.ch_INV [m, j] }

/-- Corrected sample with 16 fraction bits (R308). -/
def ChCfg.correct (c : ChCfg) (raw : Int) : Int :=
  let x := rhu ((c.fs : Int) * (raw - c.ofs) * c.gain * (1000000 + c.seg) * 2 ^ 16) (2 ^ 53 * 1000000)
  if c.inv then -x else x

/-- The sample shifted later by DELAY, interpolated linearly between fine samples (R309). -/
def ChCfg.delayed (c : ChCfg) (hist : List Int) : Int :=
  let x0 := hist.getD (c.delay / 256) (hist.headD 0)
  let x1 := hist.getD (c.delay / 256 + 1) x0
  rhu (x0 * (256 - c.delay % 256 : Nat) + x1 * (c.delay % 256 : Nat)) 256

/-- One fine sample of one channel: clocks in the period, corrected, delayed, validity, gap, over-range (R305, R324,
R325). -/
structure FineS where
  w : Nat
  x : Int
  xd : Int
  ok : Bool
  gap : Bool
  ovr : Bool
  deriving DecidableEq, Repr

/-- Coefficient `k` of the third-order sinc filter with decimation 20: three boxes of 20 bits, 58 coefficients that sum
to 8,000 (R305). -/
def sincTap (k : Nat) : Nat :=
  (k + 1) * (k + 2) / 2 + (if 40 ≤ k then 3 * ((k - 39) * (k - 38) / 2) else 0) -
    (if 20 ≤ k then 3 * ((k - 19) * (k - 18) / 2) else 0)

/-- The raw value (2d - 1) × 2^23 of the bits in the filter (R302), rounded half up and held to 24 bits; places that no
bit has reached yet count neither way (log entry 202). -/
def sincRaw (win : BitVec 58) (seen : Nat) : Int :=
  let acc := (List.range (min seen 58)).foldl
    (fun (a : Int) k => if win.getLsbD k then a + sincTap k else a - sincTap k) 0
  clampI (-(2 ^ 23)) (2 ^ 23 - 1) (rhu (acc * 2 ^ 23) 8000)

/-- The bits of one decimation step enter a channel's filter, and the sample that now runs comes out (R305). With no
bits the last valid sample is held; a gap that a clock takeover caused is bridged for 4 µs (R325). `took`: the
channel's clock has been taken over in the period. -/
def chanTake (took : Bool) (bits : Option (BitVec 20)) (h : ChanS) : ChanS :=
  match bits with
  | some b =>
    let win := (h.win <<< 20) ||| b.zeroExtend 58
    let seen := min 58 (h.seen + 20)
    let r := sincRaw win seen
    let ovr := decide (9 * 2 ^ 23 < 10 * r.natAbs)
    { h with win := win, seen := seen, cur := r, curOk := !ovr, curOvr := ovr, miss := 0, bridged := false }
  | none =>
    let bridged := if h.miss = 0 then took else h.bridged
    { h with cur := h.last, curOk := bridged && decide (h.miss < 4), curOvr := false, miss := h.miss + 1, bridged := bridged }

/-- One fine sample, or the rest of the one that runs, through stages 2, 3 and 3a (R305, R324, R325). A bridged gap of at
most 4 µs is a GAP when it ends. -/
def chanTick (c : ChCfg) (bad took : Bool) (w : Nat) (t : Option (Option (BitVec 20))) (h : ChanS) : FineS × ChanS :=
  let g := match t with | some b => chanTake took b h | none => h
  let hist := if t.isNone && !h.hist.isEmpty then h.hist else (c.correct g.cur :: h.hist).take 17
  let ok := g.curOk && !bad
  let gap := t.isSome && g.miss == 0 && h.bridged && decide (1 ≤ h.miss) && decide (h.miss ≤ 4)
  (⟨w, hist.headD 0, c.delayed hist, ok, gap, g.curOvr⟩,
    { g with hist := hist, last := if ok then g.cur else g.last, rawSum := g.rawSum + g.cur * w, rawW := g.rawW + w })

/-- A channel over a control period. -/
def chanRun (c : ChCfg) (bad took : Bool) : List (Nat × Option (Option (BitVec 20))) → ChanS → List FineS × ChanS
  | [], h => ([], h)
  | (w, b) :: t, h =>
    let r := chanTick c bad took w b h
    let q := chanRun c bad took t r.2
    (r.1 :: q.1, q.2)

/-- Where the sample of a step ends, clocks from the start of its period (R305): it stands for the 1 µs about its stamp, the
centre of the 58-bit window, which lies 1.45 µs (290 clocks) before the newest bit. -/
def tickStop (t : FineTick) : Nat := t.newest - 190

/-- The fine samples from clock `a` to clock `n` of a period and what each holds of it in clocks, each from the end of the
one before to its own; a tail for which no sample came is a missing one (R305). The second part is what the last sample
holds of the next period. -/
def fineTicks (a n : Nat) : List FineTick → List (Nat × Option FineTick) × Nat
  | [] => (if n ≤ a then [] else [(n - a, some ⟨n, []⟩)], a - n)
  | t :: ts =>
    if n ≤ a then ([], a - n)
    else
      let b := max a (tickStop t)
      let q := fineTicks b n ts
      ((min b n - a, some t) :: q.1, q.2)

/-- The same from the rest of the sample that runs on (R305). -/
def fineSpans (left n : Nat) (ticks : List FineTick) : List (Nat × Option FineTick) × Nat :=
  let q := fineTicks left n ticks
  (if left = 0 then q.1 else (min left n, none) :: q.1, q.2)

/-- The samples of one bitstream in a period. -/
def ticksOf (spans : List (Nat × Option FineTick)) (b : Nat) : List (Nat × Option (Option (BitVec 20))) :=
  spans.map (fun t => (t.1, t.2.map (fun f => f.bits.getD b none)))

/-- The clock group of a bitstream (R302). -/
def clockOf (b : Nat) : Fin 4 := if b < 32 then 0 else if b < 64 then 1 else if b < 76 then 2 else 3

/-- A bit of MODF_A, MODF_B or MODF_C follows MODF and OVR of its channel; a bit that is set raises MODF (R324, R334,
R337). -/
def invalidBit (b : Nat) (s : State) : State :=
  let mj := chanOf b
  let on := s.rdB R.ch_MODF [mj.1, mj.2] || s.rdB R.ch_OVR [mj.1, mj.2]
  let r := if b < 32 then R.mtr_MODF_A else if b < 64 then R.mtr_MODF_B else R.mtr_MODF_C
  let was := bitB (s.rd r []) (b % 32)
  let s := s.wrBit r [] (b % 32) on
  if on && !was then s.raise 256 0 else s

/-- MODF spoils the period of a channel (R324): not where it rose for the stall of a clock that has been taken over, whose
gap is judged by its samples (R325). -/
def spoiled (h : ChanS) (took : Bool) : Bool := h.modf && !(h.stall && (took || (h.bridged && decide (0 < h.miss))))

/-- One channel over the last control period: its samples and its status (R305, R324). All of them are invalid where MODF
held at any moment of the period. -/
def runChannel (spans : List (Nat × Option FineTick)) (m j : Nat) (s : State) : List FineS × State :=
  let b := streamOf m j
  if h : b < 88 then
    let g := s.chans[b]
    let bad := spoiled g s.mclkTook[clockOf b]
    let r := chanRun (chCfg s m j) bad s.mclkTook[clockOf b] (ticksOf spans b) g
    let on := s.rdB R.ch_MODF [m, j]
    let s := { s with chans := s.chans.set b { r.2 with
      modf := on, stall := on && g.stall && !bad && r.2.bridged && decide (0 < r.2.miss) } h }
    (r.1, invalidBit b (s.wrB R.ch_OVR [m, j] (r.1.any (·.ovr))))
  else ([], s)

/-- Every channel of a meter over the last control period. -/
def runChannels (spans : List (Nat × Option FineTick)) (m : Nat) (n : Nat) (s : State) : List (List FineS) × State :=
  (List.range n).foldl (fun a j => let r := runChannel spans m j a.2; (a.1 ++ [r.1], r.2)) ([], s)

/-- MODF: a bitstream shows 256 equal bits or a stalled clock, or does so no longer (R324). -/
def execModf (b : Fin 88) (bad : Bool) (s : State) : Host.Outcome State Fault Refusal :=
  let mj := chanOf b.val
  let s := { s with chans := vupd s.chans b (fun h => { h with modf := h.modf || bad, stall := if bad && !h.modf then true else h.stall }) }
  .next (invalidBit b.val (s.wrB R.ch_MODF [mj.1, mj.2] bad))

/-! ## Fast values and period energy (R305-R307, R313, R325) -/

/-- What a period of a meter gives: sums weighted by time in clocks, validity, gap. -/
structure PerM where
  v : Int
  i : Int
  p : Int
  pd : Int
  w : Nat
  ok : Bool
  gap : Bool
  deriving DecidableEq, Repr

/-- Sums over pairs of voltage and current samples (R306, R313). -/
def pairSums (vs is_ : List FineS) : PerM :=
  (vs.zip is_).foldl (fun a q =>
    { v := a.v + q.1.x * q.1.w, i := a.i + q.2.x * q.1.w, p := a.p + q.1.x * q.2.x * q.1.w,
      pd := a.pd + q.1.xd * q.2.xd * q.1.w, w := a.w + q.1.w, ok := a.ok && q.1.ok && q.2.ok,
      gap := a.gap || q.1.gap || q.2.gap }) ⟨0, 0, 0, 0, 0, true, false⟩

/-- The sums of a meter: one pair for a port, three phases for a connection point (R313). -/
def meterSums (m : Nat) (l : List (List FineS)) : PerM :=
  if m < 32 then pairSums (l.getD 0 []) (l.getD 1 [])
  else
    (List.range 3).foldl (fun a k =>
      let q := pairSums (l.getD k []) (l.getD (3 + k) [])
      { v := 0, i := 0, p := a.p + q.p, pd := a.pd + q.pd, w := q.w, ok := a.ok && q.ok, gap := a.gap || q.gap })
      ⟨0, 0, 0, 0, 0, true, false⟩

/-- A register of 32 bits takes a mean: unsigned for a voltage, signed for a current or a power (R4). -/
def meanU (v : Int) : Nat := if 0 ≤ v ∧ v < 2 ^ 32 then v.toNat else (Config.meanOut v).toNat
def meanI (v : Int) : Nat := if -(2 ^ 31) ≤ v ∧ v < 2 ^ 31 then trunc 32 v else (Config.meanOut v).toNat

/-- Mean of a sum of samples in mV or mA, and of products in W (R306, R308). -/
def meanX (v : Int) (w : Nat) : Int := rhu v (w * 2 ^ 16)
def meanP (p : Int) (w : Nat) : Int := rhu p (w * 2 ^ 32 * 1000000)

/-- Energy of a period in W µs from the power path (R305, R307). -/
def energyOf (pd : Int) : Int := rhu pd (2 ^ 32 * 1000000 * 200)

/-- Advance FAULT_TIME by clocks (R323, R325, R335). -/
def faultTime (m : Meter) (n : Nat) (s : State) : State :=
  let t := (s.mtr m).ftRem + n
  let s := s.mtrF m (fun x => { x with ftRem := t % 200000 })
  s.wr R.mt_FAULT_TIME [m.val] (min (2 ^ 32 - 1) (s.rd R.mt_FAULT_TIME [m.val] + t / 200000))

/-- MONO, ms (R347). -/
def monoMs (s : State) : Nat := (s.now - s.rst.mono0) / 200000

/-- The watch over a port's BILL_DISC in the port's present session (R363). -/
def discWatch (s : State) (p : Port) : Option DiscW :=
  s.bill.sess[p].disc.filter (fun d => d.sess == s.rd R.port_SESS_ID [p.val])

/-- Bremus posts BILL_DISC: the first one of a session is logged and starts the watch (R362-R364, R326, R373). -/
def discPost (p : Port) (s : State) : State :=
  let s := if (discWatch s p).isSome then s
    else metLog 0x0041 p.val 0 0 (s.billF (fun b => { b with sess := vupd b.sess p (fun x => { x with
      disc := some ⟨s.rd R.port_SESS_ID [p.val], monoMs s, false, false, false⟩ }) }))
  (postEvent p eBillDisc s).raise 304 4

/-- BILL_DISC: taken only from W1, whatever OWNER grants (R233); the watch starts with it (R363). -/
def execBillDisc (w : World) (p : Port) (s : State) : Host.Outcome State Fault Refusal :=
  .next (s.asWriter w (portPage p) (fun s =>
    if w.val ≠ 1 then s.setErr (portPage p) 0x0101 else if s.inReset 15 then postEvent p eBillDisc s else discPost p s))

/-- A step of DIR 1 that a port's meter closes while Qp reads open counts against the BILL_DISC before it (R363). -/
def discStep (m : Meter) (dir : Nat) (s : State) : State :=
  if h : m.val < 32 ∧ dir = 1 ∧ s.rd R.port_CONT_FB [m.val] = 0 then
    s.billF (fun b => { b with sess := vupd b.sess ⟨m.val, h.1⟩ (fun x => { x with
      disc := x.disc.map (fun d => { d with stepOpen := true }) }) })
  else s

/-- FAULT of a period (R325, R326): a change is logged; a port whose meter has been in FAULT for one mains cycle gets
BILL_DISC. -/
def meterFault (m : Meter) (bad : Bool) (s : State) : State :=
  let was := s.rdB R.mt_FAULT [m.val]
  let s := s.wrB R.mt_FAULT [m.val] bad
  let s := if bad && !was then s.raise (meterPage m) 0 else s
  let s := if h : bad = true ∧ m.val < 32 then
      s.billF (fun b => { b with sess := vupd b.sess ⟨m.val, h.2⟩ (fun x => { x with faulted := true }) })
    else s
  let s := if bad != was then metLog 0x0020 m.val (b2n bad) 0 s else s
  let s := s.mtrF m (fun x => { x with faultRun := if bad then x.faultRun + 1 else 0 })
  if (s.mtr m).faultRun = 800 then
    if h : m.val < 32 then discPost ⟨m.val, h⟩ s else s
  else s

/-- GAP of a meter (R325, R326): a gap caused by a clock takeover is bridged. Every one is logged and raised. -/
def meterGap (m : Meter) (s : State) : State :=
  metLog 0x0020 m.val 2 0 ((s.wr R.mt_GAP [m.val] 1).raise (meterPage m) 4)

/-- The detector of a grid voltage channel is armed below -2 % of VNOM times the square root of 2 (R315). -/
def armLevel (s : State) (c : Nat) (x : Int) : Bool :=
  decide (x < 0) && decide (2 * 4 * (s.rd R.mt_VNOM [32 + c] * 2 ^ 16) ^ 2 < (x.natAbs * 100) ^ 2)

/-- Add the square sums of one sample. -/
def RmsS.add (r : RmsS) (v i : FineS) (w : Nat) : RmsS :=
  ⟨r.v + v.x.natAbs ^ 2 * w, r.i + i.x.natAbs ^ 2 * w, r.w + w⟩

/-- One sample of a phase at `t` clocks into the period: the sums are divided at each crossing inside it; between two of
them lies a cycle (R314). -/
def phaseSample (t : Nat) (v i : FineS) (p : PhaseS) : PhaseS :=
  match p.cross.find? (fun c => decide (t ≤ c) && decide (c < t + v.w)) with
  | some c =>
    let a := p.run.add v i (c - t)
    { p with run := (RmsS.mk 0 0 0).add v i (v.w - (c - t)), done := if p.opened then a else p.done, opened := true
             cyc := p.cyc.add v i v.w }
  | none => { p with run := p.run.add v i v.w, cyc := p.cyc.add v i v.w }

/-- A phase over the last control period (R314, R315). Only samples after its last crossing arm the detector. -/
def phaseRun (s : State) (c : Nat) : Nat → List (FineS × FineS) → PhaseS → PhaseS
  | _, [], p => { p with cross := [] }
  | t, (v, i) :: l, p =>
    let p := phaseSample t v i p
    phaseRun s c (t + v.w) l 
      { p with armed := p.armed || (p.cross.all (fun x => decide (x ≤ t)) && armLevel s c v.x) }

/-- The squares of the last samples of a period, newest first (R314). -/
def tailOf (l : List (FineS × FineS)) : List RmsS :=
  (l.reverse.take 4).map (fun q => ⟨q.1.x.natAbs ^ 2, q.2.x.natAbs ^ 2, q.1.w⟩)

/-- The sums over the last `n` clocks of a period. -/
def tailSum : Nat → List RmsS → RmsS
  | _, [] => ⟨0, 0, 0⟩
  | n, r :: t =>
    let w := min n r.w
    let q := tailSum (n - w) t
    ⟨q.v + r.v * w, q.i + r.i * w, q.w + w⟩

/-- The three phases of a grid meter over the last control period. -/
def phasesRun (m : Nat) (l : List (List FineS)) (s : State) : State :=
  foldS (List.range 3) (fun s k =>
    if h : 3 * (m - 32) + k < 12 then
      let z := (l.getD k []).zip (l.getD (3 + k) [])
      { s with phases := s.phases.set _ { phaseRun s (m - 32) 0 z s.phases[3 * (m - 32) + k] with tail := tailOf z } h }
    else s) s

/-- One meter forms its fast values and its period energy from the last control period (R305-R307, R318,
R323, R325). -/
def meterPeriod (spans : List (Nat × Option FineTick)) (m : Meter) (s : State) : State :=
  let r := runChannels spans m.val (chanCount m.val) s
  let q := meterSums m.val r.1
  let ok := q.ok && decide (0 < q.w)
  let s := if m.val < 32 then r.2 else phasesRun m.val r.1 r.2
  let s := if m.val < 32 then (s.wr R.mt_V_FAST [m.val] (meanU (meanX q.v q.w))).wr R.mt_I_FAST [m.val] (meanI (meanX q.i q.w)) else s
  let s := (s.wr R.mt_P_FAST [m.val] (meanI (meanP q.p q.w))).wrB R.mt_FAST_VALID [m.val] ok
  let s := if q.gap then meterGap m s else s
  let s := meterFault m (!ok) s
  let on := s.runs (meterPage m)
  let s := if !ok || !on then faultTime m s.spar.clocks s else s
  s.mtrF m (fun x => { x with
    openE := if ok && on then x.openE + energyOf q.pd else x.openE
    openT := if on then x.openT + s.spar.clocks else x.openT
    sumV := x.sumV + x.lastV, sumI := x.sumI + x.lastI, sumP := x.sumP + x.lastP, sumW := x.sumW + x.lastW
    cycFault := x.cycFault || x.lastBad
    lastV := q.v, lastI := q.i, lastP := q.p, lastW := q.w, lastBad := !ok })

/-- Every meter over the last control period. Meters run whatever EN says, unless the block is in reset. -/
def metersPeriod (ticks : List FineTick) (s : State) : State :=
  if s.inReset 14 then s
  else
    let q := fineSpans s.fineLeft s.spar.clocks ticks
    let s := foldS (List.finRange 36) (fun s m => meterPeriod q.1 m s) s
    { s with fineLeft := q.2, mclkTook := Vector.replicate 4 false }

/-! ## Cycle latch, segments, presence (R307, R310, R314, R317) -/

/-- The whole part of the square root, for numbers below 2^128. -/
def isqrtW (n : Nat) : Nat :=
  (List.range 64).foldl (fun r k => let t := r + 2 ^ (63 - k); if t * t ≤ n then t else r) 0

/-- Root of a mean square of samples with 16 fraction bits, rounded half up (R308, R314). -/
def rmsOf (sq w : Nat) : Nat := if w = 0 then 0 else (isqrtW (4 * sq / (w * 2 ^ 32)) + 1) / 2

/-- VRMS, IRMS of a phase (R314). -/
def phaseCycle (c k : Nat) (s : State) : State :=
  if h : 3 * c + k < 12 then
    let p := s.phases[3 * c + k]
    let u := if bitB (s.rd R.mt_ZC_LOST [32 + c]) k then p.cyc else p.done
    let s := (s.wr R.mt_VRMS [32 + c, k] (rmsOf u.v u.w)).wr R.mt_IRMS [32 + c, k] (rmsOf u.i u.w)
    { s with phases := s.phases.set _ { p with cyc := ⟨0, 0, 0⟩ } h }
  else s

/-- PRESENT at a cycle start (R317). -/
def presentNow (s : State) (c : Nat) : Bool :=
  let m := 32 + c
  (List.range 3).all (fun k =>
    decide (s.rd R.mt_PRES_PCT [m] * s.rd R.mt_VNOM [m] ≤ 100 * s.rd R.mt_VRMS [m, k]) &&
      !s.rdB R.ch_MODF [m, k] && !s.rdB R.ch_OVR [m, k]) && s.rd R.mt_ZC_LOST [m] == 0

/-- Segments in use (R310). -/
def segCount (s : State) (m j : Nat) : Nat :=
  let n := s.rd R.ch_SEG_N [m, j]
  if 1 ≤ n ∧ n ≤ 16 then n else 1

/-- The segment for a reference magnitude in mA (R310). -/
def segSelect (s : State) (m j : Nat) (ref : Int) : Nat :=
  let n := segCount s m j
  let g := s.rd R.ch_SEG_USE [m, j]
  let lim := fun (k : Nat) => s.rdI R.ch_SEG_LIM [m, j, k]
  let lo := if g = 0 then 0 else lim (g - 1)
  if g < n ∧ lo * 995 ≤ ref * 1000 ∧ ref * 1000 ≤ lim g * 1005 then g
  else ((List.range n).find? (fun k => decide (ref ≤ lim k))).getD (n - 1)

/-- Reference magnitude of a channel (R310). -/
def segRef (s : State) (m j : Nat) : Int :=
  if m < 32 then (s.rdI R.mt_I_CYC [m]).natAbs else s.rd R.mt_IRMS [m, j % 3]

/-- RAW_MEAN and the segment of a channel at a cycle start (R310, R336). -/
def chanCycle (m j : Nat) (s : State) : State :=
  let b := streamOf m j
  if h : b < 88 then
    let c := s.chans[b]
    let s := s.wrI R.ch_RAW_MEAN [m, j] (rhu (c.rawSum * 256) c.rawW)
    let s := s.wr R.ch_SEG_USE [m, j] (segSelect s m j (segRef s m j))
    { s with chans := s.chans.set b { c with rawSum := 0, rawW := 0 } h }
  else s

/-- METER_CYCLE_LATCH for one meter (R307, R310, R314, R317): the 800 periods that end with period 798; where one of
them was in fault the last values stay (R325). -/
def meterCycle (m : Meter) (s : State) : State :=
  let x := s.mtr m
  let s :=
    if x.cycFault || x.sumW == 0 then s
    else
      let s := s.wr R.mt_P_CYC [m.val] (meanI (meanP x.sumP x.sumW))
      if m.val < 32 then
        (s.wr R.mt_V_CYC [m.val] (meanU (meanX x.sumV x.sumW))).wr R.mt_I_CYC [m.val] (meanI (meanX x.sumI x.sumW))
      else s
  let s := s.mtrF m (fun x => { x with sumV := 0, sumI := 0, sumP := 0, sumW := 0, cycFault := false })
  let s := if m.val < 32 then s else foldS (List.range 3) (phaseCycle (m.val - 32) |> fun f s k => f k s) s
  let s := foldS (List.range (chanCount m.val)) (fun s j => chanCycle m.val j s) s
  if m.val < 32 then s
  else
    let p := presentNow s (m.val - 32)
    let was := s.rdB R.mt_PRESENT [m.val]
    let s := s.wrB R.mt_PRESENT [m.val] p
    if p != was then s.raise (meterPage m) 3 else s

/-- METER_CYCLE_LATCH for every meter. -/
def metersCycle (s : State) : State :=
  if s.inReset 14 then s else foldS (List.finRange 36) (fun s m => meterCycle m s) s

/-! ## Zero crossings (R314-R316) -/

/-- A phase of a connection point, and a change of it. -/
def phaseIx (c : Fin 4) (ph : Fin 3) : Fin 12 := ⟨3 * c.val + ph.val, by omega⟩
def State.phaseF (s : State) (k : Fin 12) (f : PhaseS → PhaseS) : State := { s with phases := vupd s.phases k f }

/-- ZC_TMO of a connection point in 5 ns clocks; below 10 ms it acts as 10 (R316). -/
def zcTmo (s : State) (c : Nat) : Nat := max 10 (s.rd R.mt_ZC_TMO [32 + c]) * 200000

/-- ZC_LOST: no crossing of a phase for ZC_TMO, up to the end of the running control period (R316). Its cycle is then no
longer between two crossings (R314). -/
def execZcLost (c : Fin 4) (ph : Fin 3) (s : State) : Host.Outcome State Fault Refusal :=
  if s.inReset 14 || bitB (s.rd R.mt_ZC_LOST [32 + c.val]) ph.val ||
      decide (s.now + s.spar.clocks < s.phases[phaseIx c ph].since + zcTmo s c.val) then .next s
  else
    .next (((s.wrBit R.mt_ZC_LOST [32 + c.val] ph.val true).raise (257 + 32 + c.val) 2).phaseF (phaseIx c ph)
      (fun p => { p with opened := false, lastAt := none }))

/-- FREQ comes from this phase: the earlier ones have ZC_LOST set (R314). -/
def freqPhase (s : State) (c ph : Nat) : Bool := (List.range ph).all (fun k => bitB (s.rd R.mt_ZC_LOST [32 + c]) k)

/-- A crossing `back` clocks before `at_` of the running period divides the sums of its phase (R314): in this period when its
samples are summed, in the last one, whose samples are, at once. -/
def PhaseS.divide (p : PhaseS) (at_ back : Nat) : PhaseS :=
  if back ≤ at_ then { p with cross := p.cross ++ [at_ - back] }
  else
    let q := tailSum (back - at_) p.tail
    { p with run := q, opened := true
             done := if p.opened then ⟨p.run.v - q.v, p.run.i - q.i, p.run.w - q.w⟩ else p.done }

/-- The first sample at or above zero comes `at_` clocks into the running period, `x1` after `x0` 1 µs earlier, corrected
values; `low` is the lowest sample of the period so far, or since a crossing in it. The crossing lies between the two
(R314-R316). -/
def zeroCrossing (c : Fin 4) (ph : Fin 3) (at_ : Nat) (x0 x1 low : Int) (s : State) : State :=
  let k := phaseIx c ph
  let p := s.phases[k]
  if (p.armed || armLevel s c.val low) && decide (x0 < 0) && decide (0 ≤ x1) then
    let back := (rhu (x1 * 200) (x1 - x0).toNat).toNat
    let t := s.now + at_ - back
    let s := s.wrBit R.mt_ZC_LOST [32 + c.val] ph.val false
    let s := match p.lastAt with
      | some t0 =>
        if freqPhase s c.val ph.val && decide (t0 < t) then
          s.wr R.mt_FREQ [32 + c.val] (divRound (1000000 * 200000000) (t - t0))
        else s
      | none => s
    s.phaseF k (fun p => { p.divide at_ back with armed := false, lastAt := some t, since := t })
  else s

/-- ZERO_CROSSING (R315). -/
def execZeroCrossing (c : Fin 4) (ph : Fin 3) (at_ : Nat) (x : Crossing) (s : State) : Host.Outcome State Fault Refusal :=
  if s.inReset 14 then .next s else .next (zeroCrossing c ph at_ x.x0 x.x1 x.low s)

/-! ## Steps and snapshots (R318, R319, R322) -/

/-- DIR of a step (R319): 0 within CREEP, 1 above, 2 below. `n` clocks. -/
def stepDir (s : State) (m : Meter) (e : Int) (n : Nat) : Nat :=
  if e.natAbs * 200 * 1000000 ≤ s.rd R.mt_RATED_P [m.val] * s.rd R.mt_CREEP_PPM [m.val] * n then 0
  else if 0 < e then 1 else 2

/-- REV when a step's DIR is opposite to that of the last step that was not creep (R319). -/
def stepRev (m : Meter) (dir : Nat) (s : State) : State :=
  let last := (s.mtr m).lastDir
  if dir = 0 then s
  else
    let s := if last ≠ 0 ∧ last ≠ dir then
        ((s.wr R.mt_REV [m.val] 1).inc R.mt_REV_CNT [m.val]).raise (meterPage m) 1
      else s
    s.mtrF m (fun x => { x with lastDir := dir })

/-- A step ends (R318, R319): its energy waits for the addition with the cycle it ends in (R321). While EN = 0 no step
closes (R323). -/
def closeStep (cycle : Nat) (m : Meter) (s : State) : State :=
  let x := s.mtr m
  if !s.runs (meterPage m) || x.openT == 0 then s
  else
    let dir := stepDir s m x.openE x.openT
    let s := discStep m dir (stepRev m dir (s.wr R.mt_DIR [m.val] dir))
    let sess := if h : m.val < 32 then (if s.bill.sess[m.val].begun then some s.bill.sess[m.val].serial else none) else none
    s.mtrF m (fun x => { x with
      openE := 0, openT := 0,
      steps := if dir = 0 then x.steps else x.steps ++ [⟨x.openE, dir, cycle, s.rd R.bill_TARIFF [], sess⟩] })

/-- A step of every meter ends. -/
def closeSteps (cycle : Nat) (s : State) : State := foldS (List.finRange 36) (fun s m => closeStep cycle m s) s

/-- 1 mWh in W µs (R320). -/
def mWh : Nat := 3600000

/-- Energy in W µs that closed steps not yet added bring to E_POS, E_NEG and E_NET (R320). -/
def pendPos (s : State) (m : Meter) : Nat :=
  if s.rdB R.mt_MODE [m.val] then 0
  else (s.mtr m).steps.foldl (fun a t => if t.dir = 1 then a + t.e.toNat else a) 0
def pendNeg (s : State) (m : Meter) : Nat :=
  if s.rdB R.mt_MODE [m.val] then 0
  else (s.mtr m).steps.foldl (fun a t => if t.dir = 2 then a + t.e.natAbs else a) 0
def pendNet (s : State) (m : Meter) : Int :=
  if s.rdB R.mt_MODE [m.val] then (s.mtr m).steps.foldl (fun a t => a + t.e) 0 else 0

/-- Latch the snapshot registers of a meter (R322). -/
def snapMeter (m : Meter) (s : State) : State :=
  let x := s.mtr m
  let pos := s.rd R.mt_E_POS [m.val] + (x.posR + pendPos s m) / mWh
  let neg := s.rd R.mt_E_NEG [m.val] + (x.negR + pendNeg s m) / mWh
  let net := s.rdI R.mt_E_NET [m.val] + ((x.netR : Int) + pendNet s m) / mWh
  let s := ((s.wr R.mt_SNAP_POS [m.val] pos).wr R.mt_SNAP_NEG [m.val] neg).wrI R.mt_SNAP_NET [m.val] net
  let s := ((s.wr R.mt_SNAP_V [m.val] (s.rd R.mt_V_FAST [m.val])).wr R.mt_SNAP_I [m.val] (s.rd R.mt_I_FAST [m.val])).wr
    R.mt_SNAP_P [m.val] (s.rd R.mt_P_FAST [m.val])
  ((s.wr R.mt_SNAP_CYCLE [m.val] s.spar.cycle).wr R.mt_SNAP_PERIOD [m.val] s.spar.period).raise (meterPage m) 5

/-- A snapshot of every meter: the step that ends at this period start is in it (R318, R322). -/
def snapMeters (s : State) : State :=
  if s.inReset 14 then s else foldS (List.finRange 36) (fun s m => snapMeter m s) (closeSteps s.spar.cycle s)

/-! ## Clocks, seal, flags, LOAD (R304, R323, R329, R330) -/

/-- MCLK_TAKEN: a standby that sees no edge for 500 ns drives the clock itself (R304); the gap it leaves in the
samples is bridged when they come (R325). -/
def execMclkTaken (g : Fin 4) (s : State) : Host.Outcome State Fault Refusal :=
  if s.inReset 14 || s.active || bitB (s.rd R.mtr_MCLK_DRV []) g.val then .next s
  else
    let s := (s.wrBit R.mtr_MCLK_DRV [] g.val true).raise 256 2
    .next (metLog 0x0021 0xFF g.val 0 { s with mclkTook := vupd s.mclkTook g (fun _ => true) })

/-- The module becomes active or ceases to be: it drives or releases all four clocks, which may leave a gap
(R304, R325). -/
def mclkActive (b : Bool) (s : State) : State :=
  { s.wr R.mtr_MCLK_DRV [] (if b then 15 else 0) with mclkTook := Vector.replicate 4 true }

/-- SEAL_CHANGE: switch MS0 changes (R329, R330, R373). -/
def execSealChange (on : Bool) (s : State) : Host.Outcome State Fault Refusal :=
  if s.rdB R.mtr_SEAL [] == on then .next s
  else .next (metLog 0x0001 0xFF (b2n on) 0 ((s.wrB R.mtr_SEAL [] on).wrBit R.mtr_MSW [] 0 on))

/-- Wh of an accumulator and its wrap counter, as a legal register's two words (R338, R376). -/
def legalReg (x : Int) : Nat :=
  let wh := x / 1000
  (wh % 2 ^ 40).toNat + ((wh / 2 ^ 40) % 2 ^ 16).toNat * 2 ^ 48

/-- Derive the legal registers of a meter (R338). -/
def legalDerive (m : Meter) (s : State) : State :=
  ((s.wr R.leg_REG_POS [m.val] (legalReg (s.rd R.mt_E_POS [m.val]))).wr R.leg_REG_NEG [m.val]
    (legalReg (s.rd R.mt_E_NEG [m.val]))).wr R.leg_REG_NET [m.val] (legalReg (s.rdI R.mt_E_NET [m.val]))

/-- LOAD of a stopped meter (R323, R338, R373); while EN = 1 it is ignored. -/
def meterLoad (m : Meter) (s : State) : State :=
  if s.enOf (meterPage m) then s.setErr (meterPage m) 0x0103
  else if logFull s then s.setErr 304 0x0103
  else
    let s := ((s.wr R.mt_E_POS [m.val] (s.rd R.mt_LOAD_POS [m.val])).wr R.mt_E_NEG [m.val]
      (s.rd R.mt_LOAD_NEG [m.val])).wr R.mt_E_NET [m.val] (s.rd R.mt_LOAD_NET [m.val])
    let s := s.mtrF m (fun x => { x with posR := 0, negR := 0, netR := 0 })
    metLog 0x0003 m.val 0 0 (legalDerive m s)

/-- METER_LOAD: W1 writes LOAD (R323). -/
def execMeterLoad (w : World) (m : Meter) (s : State) : Host.Outcome State Fault Refusal :=
  .next (s.asWriter w (meterPage m) (meterLoad m))

/-- METER_FLAG_CLEAR: a write of 1 to GAP or REV of a meter, or to POVF of a pulse output (R334, R335). -/
def execMeterFlagClear (w : World) (pulse : Bool) (m : Meter) (v : Word) (s : State) : Host.Outcome State Fault Refusal :=
  if pulse then
    .next (s.asWriter w 256 (fun s => if v.getLsbD 16 then s.wr R.mtr_POVF [m.val % 8] 0 else s))
  else
    .next (s.asWriter w (meterPage m) (fun s =>
      let s := if v.getLsbD 5 then s.wr R.mt_GAP [m.val] 0 else s
      if v.getLsbD 2 then s.wr R.mt_REV [m.val] 0 else s))

/-! ## Pulse outputs (R327, R328) -/

/-- Energy that earns one pulse at 1 imp/kWh, W µs (R327). -/
def kWhE : Nat := 3600000000000

/-- An output works: PEN and EN of page 0, a quantity, and a meter that runs (R323, R327, R334). -/
def pulseOn (s : State) (n : Fin 8) : Bool :=
  s.rdB R.mtr_PEN [n.val] && s.runs 256 && s.rd R.mtr_PQTY [n.val] != 3 && decide (s.rd R.mtr_PMTR [n.val] < 36) &&
    s.runs (257 + s.rd R.mtr_PMTR [n.val])

/-- What a step adds to C of an output (R327). -/
def pulseAdd (q k : Nat) (t : StepM) : Int :=
  if q = 0 then (if t.dir = 1 then t.e * k else 0)
  else if q = 1 then (if t.dir = 2 then (t.e.natAbs : Int) * k else 0)
  else if q = 2 then t.e * k
  else 0

/-- Pulse width in 5 ns clocks (R328, R334). -/
def pulseWidth (s : State) (n : Fin 8) : Nat := max 1 (s.rd R.mtr_PW [n.val]) * 20000

/-- An output counts the steps just added of its meter, and earns pulses (R327, R328). -/
def pulseCount (n : Fin 8) (m : Nat) (steps : List StepM) (s : State) : State :=
  let k := s.rd R.mtr_PULSE_K [n.val]
  if s.rd R.mtr_PMTR [n.val] ≠ m ∨ !pulseOn s n then s
  else if k = 0 ∨ 1000000 < k then s.setErr 256 0x0102
  else
    let c := steps.foldl (fun a t => a + pulseAdd (s.rd R.mtr_PQTY [n.val]) k t) s.pulses[n].c
    let e := if 0 < c then c.toNat / kWhE else 0
    let pend := s.rd R.mtr_PEND [n.val] + e
    let s := { s with pulses := vupd s.pulses n (fun p => { p with c := c - (e * kWhE : Nat) }) }
    let s := if 65535 < pend then (s.wr R.mtr_POVF [n.val] 1).raise 256 1 else s
    s.wr R.mtr_PEND [n.val] (min 65535 pend)

/-- The interval of an output for the cycle that begins with an addition (R328). -/
def pulseInterval (n : Fin 8) (s : State) : State :=
  let pend := s.rd R.mtr_PEND [n.val]
  let len := if s.spar.inc = 0 then 0 else 2 ^ 48 / s.spar.inc
  let gap := max (2 * pulseWidth s n) (if pend = 0 then 0 else len / pend)
  { s with pulses := vupd s.pulses n (fun p => { p with gap := gap, next := max p.next s.now }) }

/-- PULSE_EMIT: a pending pulse is emitted once its interval has passed (R328). -/
def execPulseEmit (n : Fin 8) (s : State) : Host.Outcome State Fault Refusal :=
  let p := s.pulses[n]
  if pulseOn s n && decide (0 < s.rd R.mtr_PEND [n.val]) && decide (p.next ≤ s.now + s.spar.clocks) then
    let s := (s.wr R.mtr_PEND [n.val] (s.rd R.mtr_PEND [n.val] - 1)).inc R.mtr_PCNT [n.val]
    .next { s with pulses := vupd s.pulses n (fun p => { p with next := max p.next s.now + max p.gap (2 * pulseWidth s n) }) }
  else .next s

/-- SEG_ORDER: a commit of a meter page is refused where the limits in use are not strictly ascending, judged on the
shadow (R311). -/
def segOrderBad (s : State) (m : Nat) : Bool :=
  (List.range (chanCount m)).any (fun j =>
    let n := s.regs.getShadow R.ch_SEG_N [m, j]
    let n := if 1 ≤ n ∧ n ≤ 16 then n else 1
    (List.range (n - 1)).any (fun k =>
      let lim := fun (k : Nat) => sext 32 (s.regs.getShadow R.ch_SEG_LIM [m, j, k])
      decide (lim (k + 1) ≤ lim k)))

end Sys2Proof.Machine
end

