-- ==== Sys2Proof/Machine/Calendar.lean ====
section
/-! DEFINITION. The tariff calendar: dates, daylight-saving time, seasons, day types, switch points
(12_billing_and_tariffs.md, R341-R344). -/

namespace Sys2Proof.Machine

open Sys2Proof

/-! ## Dates -/

/-- A date. -/
structure Date where
  y : Nat
  m : Nat
  d : Nat
  deriving DecidableEq, Repr

/-- Days since 1970-01-01 of a date. -/
def dayNo (t : Date) : Nat :=
  let y := if t.m ≤ 2 then t.y - 1 else t.y
  let doy := (153 * ((t.m + 9) % 12) + 2) / 5 + t.d - 1
  y * 365 + y / 4 - y / 100 + y / 400 + doy - 719468

/-- The date of a day number. -/
def dateOf (n : Nat) : Date :=
  let z := n + 719468
  let era := z / 146097
  let doe := z % 146097
  let yoe := (doe - doe / 1460 + doe / 36524 - doe / 146096) / 365
  let doy := doe - (365 * yoe + yoe / 4 - yoe / 100)
  let mp := (5 * doy + 2) / 153
  let m := if mp < 10 then mp + 3 else mp - 9
  ⟨yoe + era * 400 + (if m ≤ 2 then 1 else 0), m, doy - (153 * mp + 2) / 5 + 1⟩

/-- Weekday of a day number: 0 Monday to 6 Sunday. -/
def weekday (n : Nat) : Nat := (n + 3) % 7

/-- A leap year. -/
def leap (y : Nat) : Bool := y % 4 == 0 && (y % 100 != 0 || y % 400 == 0)

/-- Days of a month. -/
def monthDays (y m : Nat) : Nat :=
  if m = 2 then (if leap y then 29 else 28) else if m = 4 ∨ m = 6 ∨ m = 9 ∨ m = 11 then 30 else 31

/-! ## The image (R341) -/

/-- A calendar word as the image holds it: the reserved bits of DST_START, DST_END and of word 0x11C read zero (R10, R341). -/
def calWord (o v : Nat) : Nat :=
  if o = 0x10C ∨ o = 0x110 then 2 ^ 11 * bits v 11 21 else if o = 0x11C then v % 16 else v % 2 ^ 32

/-- An image with its reserved bits zero. -/
def calClean (c : Memory) : Memory :=
  [0x10C, 0x110, 0x11C].foldl (fun c o => memWrite c o (leBytes 4 (calWord o (leNat (memBytes c o 4))))) c

/-- `n` bytes of an image, little-endian. -/
def calN (c : Memory) (o n : Nat) : Nat := leNat (memBytes c o n)

/-- Season `k`: VALID, month, day; and the day types of its week. -/
def seasonValid (c : Memory) (k : Nat) : Bool := bitB (calN c (0x120 + 8 * k) 4) 31
def seasonMonth (c : Memory) (k : Nat) : Nat := bits (calN c (0x120 + 8 * k) 4) 24 4
def seasonDay (c : Memory) (k : Nat) : Nat := bits (calN c (0x120 + 8 * k) 4) 19 5
def seasonType (c : Memory) (k wd : Nat) : Nat := bits (calN c (0x124 + 8 * k) 4) (3 * wd) 3

/-- An image is valid: its CRC matches and every VALID season names a real month and day (R341). -/
def calValid (c : Memory) : Bool :=
  calN c 0x100 4 == crc32c (memBytes c 0x104 0x99C) &&
    (List.range 8).all (fun k => !seasonValid c k ||
      (decide (1 ≤ seasonMonth c k) && decide (seasonMonth c k ≤ 12) && decide (1 ≤ seasonDay c k) &&
        decide (seasonDay c k ≤ monthDays 2000 (seasonMonth c k))))

/-- STD_OFS and DST_OFS, minutes. -/
def stdOfs (c : Memory) : Int := sext 16 (calN c 0x108 2)
def dstOfs (c : Memory) : Int := sext 16 (calN c 0x10A 2)

/-- ACT_TIME, CAL_ID, DEF_TARIFF, PRICE_t. -/
def actTime (c : Memory) : Nat := calN c 0x114 8
def calId (c : Memory) : Nat := calN c 0x104 4
def defTariff (c : Memory) : Nat := bits (calN c 0x11C 4) 0 4
def price (c : Memory) (t : Nat) : Nat := calN c (0xA60 + 4 * t) 4

/-! ## Local time (R342, R344) -/

/-- The UTC minute of DST_START or DST_END in a year. -/
def dstInstant (v y : Nat) : Nat :=
  let m := bits v 28 4
  let week := bits v 25 3
  let wd := bits v 22 3
  let first := dayNo ⟨y, m, 1⟩
  let d0 := first + (wd + 7 - weekday first) % 7
  let last := first + monthDays y m - 1
  let day := if week = 5 then last - (weekday last + 7 - wd) % 7 else d0 + 7 * (week - 1)
  day * 1440 + bits v 11 11

/-- Daylight-saving time is in force at a UTC minute. -/
def dstOn (c : Memory) (t : Nat) : Bool :=
  let y := (dateOf (t / 1440)).y
  let a := dstInstant (calN c 0x10C 4) y
  let b := dstInstant (calN c 0x110 4) y
  dstOfs c != 0 && (if a < b then decide (a ≤ t) && decide (t < b) else decide (a ≤ t) || decide (t < b))

/-- Minutes local time is ahead of UTC at a UTC minute. -/
def localOfs (c : Memory) (t : Nat) : Int := stdOfs c + (if dstOn c t then dstOfs c else 0)

/-- Local minute of a UTC minute. -/
def localMin (c : Memory) (t : Nat) : Nat := ((t : Int) + localOfs c t).toNat

/-- The local minute that decides the tariff: in an hour that is repeated, the last minute before the repetition, so that no
switch point fires a second time (R344). -/
def tariffMin (c : Memory) (t : Nat) : Nat :=
  let y := (dateOf (t / 1440)).y
  let a := dstInstant (calN c 0x10C 4) y
  let b := dstInstant (calN c 0x110 4) y
  let e := if 0 < dstOfs c then b else a
  if dstOfs c ≠ 0 ∧ e ≤ t ∧ t < e + (dstOfs c).natAbs ∧ 0 < e then localMin c (e - 1) else localMin c t

/-! ## The tariff (R343) -/

/-- The start of season `k` in a year as month * 32 + day; 29 February acts as 1 March in common years. -/
def seasonKey (c : Memory) (y k : Nat) : Nat :=
  let m := seasonMonth c k
  let d := seasonDay c k
  if m = 2 ∧ d = 29 ∧ !leap y then 3 * 32 + 1 else m * 32 + d

/-- The VALID season with the latest start among those that `p` admits. -/
def latestSeason (c : Memory) (y : Nat) (p : Nat → Bool) : Option Nat :=
  (List.range 8).foldl (fun a k =>
    if seasonValid c k && p (seasonKey c y k) then
      match a with
      | none => some k
      | some j => if seasonKey c y j < seasonKey c y k then some k else a
    else a) none

/-- The season of a date. -/
def seasonOf (c : Memory) (t : Date) : Option Nat :=
  (latestSeason c t.y (fun k => decide (k ≤ t.m * 32 + t.d))).orElse (fun _ => latestSeason c t.y (fun _ => true))

/-- The day type of a date in a season. -/
def dayType (c : Memory) (n k : Nat) : Nat :=
  let t := dateOf n
  match (List.range 64).find? (fun j =>
    let v := calN c (0x160 + 4 * j) 4
    bitB v 31 && (bits v 24 7 == 0 || bits v 24 7 + 2000 == t.y) && bits v 20 4 == t.m && bits v 15 5 == t.d) with
  | some j => bits (calN c (0x160 + 4 * j) 4) 12 3
  | none => seasonType c k (weekday n)

/-- The VALID switch point of a day at or before a local minute with the latest minute, the higher index winning: its
tariff. -/
def pointOf (c : Memory) (n upto : Nat) : Option Nat :=
  match seasonOf c (dateOf n) with
  | none => none
  | some k =>
    let dt := dayType c n k
    let pt := fun (i : Nat) => calN c (0x260 + 2 * (128 * k + 16 * dt + i)) 2
    ((List.range 16).foldl (fun (a : Option Nat) i =>
      if bitB (pt i) 11 && decide (bits (pt i) 0 11 ≤ upto) then
        match a with
        | none => some i
        | some j => if bits (pt j) 0 11 ≤ bits (pt i) 0 11 then some i else a
      else a) none).map (fun i => bits (pt i) 12 4)

/-- The tariff for a UTC minute (R343). -/
def tariffAt (c : Memory) (t : Nat) : Nat :=
  let l := tariffMin c t
  match pointOf c (l / 1440) (l % 1440) with
  | some x => x
  | none => (pointOf c (l / 1440 - 1) 1439).getD (defTariff c)

/-- `minute of day - DEM_ALIGN` is a multiple of DEM_MIN (R346). -/
def isEnd (align dem t : Nat) : Bool := decide (((t % 1440 : Nat) - (align : Int)) % dem = 0)

end Sys2Proof.Machine
end

