-- ==== Sys2Proof/Machine/Bill.lean ====
section
/-! DEFINITION. Billing: additions, tariffs, demand intervals, the boundary sequence, prepayment, requests, OCMF records
and the legal display (12_billing_and_tariffs.md). What Bremus does is done at the step that calls for it. -/

namespace Sys2Proof.Machine

open Sys2Proof

/-- A change of one billing session. -/
def State.bsF (s : State) (p : Port) (f : BSessS → BSessS) : State :=
  s.billF (fun b => { b with sess := vupd b.sess p f })

/-- One billing session. -/
def State.bs (s : State) (p : Port) : BSessS := s.bill.sess[p]

/-! ## Additions (R320, R321, R338, R339, R350, R361) -/

/-- A tariff accumulator in mWh (R339). -/
def tariffAcc (l : List (Nat × Int)) (m t : Nat) : Int := sget 0 l (16 * m + t) / mWh

/-- A step added to the accumulators of its meter (R320). -/
def addStep (m : Meter) (t : StepM) (s : State) : State :=
  let x := s.mtr m
  if s.rdB R.mt_MODE [m.val] then
    let n := (x.netR : Int) + t.e
    let s := s.wrI R.mt_E_NET [m.val] (s.rdI R.mt_E_NET [m.val] + n / mWh)
    s.mtrF m (fun x => { x with netR := (n % mWh).toNat })
  else if t.dir = 1 then
    let n := x.posR + t.e.toNat
    let s := s.wr R.mt_E_POS [m.val] (s.rd R.mt_E_POS [m.val] + n / mWh)
    s.mtrF m (fun x => { x with posR := n % mWh })
  else
    let n := x.negR + t.e.natAbs
    let s := s.wr R.mt_E_NEG [m.val] (s.rd R.mt_E_NEG [m.val] + n / mWh)
    s.mtrF m (fun x => { x with negR := n % mWh })

/-- A step added to the tariff accumulators (R339). -/
def addTariff (m : Meter) (t : StepM) (s : State) : State :=
  let k := 16 * m.val + t.tariff
  if s.rdB R.mt_MODE [m.val] || t.dir == 1 then
    s.billF (fun b => { b with tpos := sput 0 b.tpos k (sget 0 b.tpos k + t.e) })
  else s.billF (fun b => { b with tneg := sput 0 b.tneg k (sget 0 b.tneg k - t.e) })

/-- A step added to the import of the session in which it closed (R361). -/
def addSession (m : Meter) (t : StepM) (s : State) : State :=
  if h : m.val < 32 ∧ t.dir = 1 ∧ t.tariff < 16 then
    s.bsF ⟨m.val, h.1⟩ (fun b =>
      if t.sess = some b.serial then { b with se := b.se.set t.tariff (b.se[t.tariff] + t.e.toNat) h.2.2 } else b)
  else s

/-- The tariff registers follow their accumulators (R338, R339). -/
def tregDerive (m : Meter) (s : State) : State :=
  foldS (List.range 16) (fun s t =>
    (s.wr R.leg_TREG_POS [m.val, t] (legalReg (tariffAcc s.bill.tpos m.val t))).wr R.leg_TREG_NEG [m.val, t]
      (legalReg (tariffAcc s.bill.tneg m.val t))) s

/-- What the open interval shows of a meter at an addition (R350). -/
def demShow (m : Meter) (s : State) : State :=
  if s.rdB R.bill_OPEN [] then
    let o := s.bill.opens[m]
    s.wrI R.leg_DEM_E [m.val]
      (if s.rdB R.mt_MODE [m.val] then s.rdI R.mt_E_NET [m.val] - o.net else (s.rd R.mt_E_POS [m.val] : Int) - o.pos)
  else s

/-- The steps of one meter that ended in an earlier cycle are added (R321, R327); while EN = 0 its accumulators and
pulses stand still (R323). -/
def addMeter (m : Meter) (s : State) : State :=
  if !s.runs (meterPage m) then s
  else
    let now := (s.mtr m).steps.filter (fun t => t.cycle != s.spar.cycle)
    let s := s.mtrF m (fun x => { x with steps := x.steps.filter (fun t => t.cycle == s.spar.cycle) })
    let s := foldS now (fun s t => addSession m t (addTariff m t (addStep m t s))) s
    let s := foldS (List.finRange 8) (fun s n => pulseCount n m.val now s) s
    let s := s.wr R.mt_E_CYCLE [m.val] (s.spar.cycle + 2 ^ 32 - 1)
    demShow m (tregDerive m (legalDerive m s))

/-- mWh of import of a session at a tariff (R361). -/
def sessImport (s : State) (p : Port) (t : Fin 16) : Nat := (s.bs p).se[t] / mWh

/-- BAL falls below LOW_AT, from `old` or from the start of the session (R362). Every fall raises LOW_CREDIT. -/
def lowCheck (p : Port) (old : Int) (s : State) : State :=
  let at_ := s.rdI R.pre_LOW_AT [p.val]
  if s.rdI R.pre_BAL [p.val] < at_ ∧ (at_ ≤ old ∨ s.rdB R.pre_LOW [p.val] = false) then
    (s.wr R.pre_LOW [p.val] 1).raise 304 3
  else s

/-- SESS_E, and BAL recomputed from the session totals (R361), of the port's last session: the steps that closed in it
are added after its end too. -/
def balance (p : Port) (s : State) : State :=
  if 0 < (s.bs p).serial then
    let s := s.wr R.pre_SESS_E [p.val] ((List.finRange 16).foldl (fun a t => a + sessImport s p t) 0)
    if (s.bs p).prepaid then
      let used := (List.finRange 16).foldl (fun a t =>
        a + divRound (sessImport s p t * price s.bill.cal0 t.val) 1000000) 0
      lowCheck p (s.rdI R.pre_BAL [p.val]) (s.wrI R.pre_BAL [p.val] (((s.bs p).credit : Int) - used))
    else s
  else s

/-- METER_ADDITION: at the start of period 2 all steps of the cycle before are added (R321). -/
def meterAddition (s : State) : State :=
  let s := { s with addDue := false }
  let s := foldS (List.finRange 36) (fun s m => addMeter m s) s
  let s := foldS (List.finRange 8) (fun s n => pulseInterval n s) s
  let s := foldS (List.finRange 32) (fun s p => balance p s) s
  if s.rdB R.bill_OPEN [] then
    s.billF (fun b => { b with
      demL := s.rd R.bill_OPEN_END [] - s.rd R.bill_OPEN_START [], demT := b.addMono - b.openMono })
  else s.billF (fun b => { b with demL := 0, demT := 0 })

/-- METER_ADDITION (R321): the accumulator file is written (R580). -/
def execMeterAddition (s : State) : Host.Outcome State Fault Refusal :=
  if s.addDue && !s.inReset 14 then .next (meterAddition { s with rst := { s.rst with accWrite := some s.now } })
  else .next s

/-! ## Arming events (R351, R366) -/

/-- Write and arm an entry of E000-E031 (R80, R84), one-shot. -/
def armEntry (n kind : Nat) (wall : Bool) (t : Nat) (s : State) : State :=
  let s := s.wr R.evt_ARM [n] 0
  let s := ((s.wr R.evt_TIME0 [n] t).wr R.evt_TIME1 [n] (if wall then t / 2 ^ 32 else 0)).wr R.evt_REPEAT [n] 0
  entryWrite8 n (2 ^ 31 + b2n wall * 2 ^ 30 + kind * 2 ^ 28) s

/-- Bremus shows in TARIFF_NEXT what the strobe that comes first brings (R351): that of E001, which fires at the next
period start, otherwise that of E000. -/
def showNext (s : State) : State :=
  if s.rdB R.evt_ARM [1] then s.wr R.bill_TARIFF_NEXT [] s.bill.next1
  else if s.rdB R.evt_ARM [0] then s.wr R.bill_TARIFF_NEXT [] s.bill.next0
  else s

/-- What E001 is armed for, with what it was armed for already. -/
def Why.join (a b : Why) : Why :=
  ⟨a.bound || b.bound, a.power || b.power, a.boot || b.boot, a.time || b.time, a.late || b.late, a.back || b.back⟩

/-- E001, armed for the present cycle so that it fires at the next period start (R351). A power-fail strobe keeps the
tariff (R355), and so leaves alone the one that E001 is armed to bring already. -/
def armE001 (why : Why) (t : Nat) (s : State) : State :=
  let on := s.rdB R.evt_ARM [1]
  let s := s.billF (fun b => { b with
    why1 := b.why1.join why, next1 := if on && why.power then b.next1 else t })
  showNext (if on then s else armEntry 1 2 false s.spar.cycle s)

/-- E002, a snapshot at the next period start (R366). -/
def armE002 (s : State) : State := if s.rdB R.evt_ARM [2] then s else armEntry 2 1 false s.spar.cycle s

/-- DEF_CAUSE bits (R357). -/
def causeTime (s : State) : Bool := bitB (s.rd R.bill_DEF_CAUSE []) 0
def causeBefore (s : State) : Bool := bitB (s.rd R.bill_DEF_CAUSE []) 2
def causeCal (s : State) : Bool := bitB (s.rd R.bill_DEF_CAUSE []) 3

/-- The tariff at a UTC minute, with the default while a cause is set (R345, R357). -/
def effTariff (s : State) (t : Nat) : Nat :=
  if causeCal s then 0
  else if s.rd R.bill_DEF_CAUSE [] ≠ 0 then defTariff s.bill.cal0
  else tariffAt s.bill.cal0 t

/-- The UTC minute of wall time. -/
def minuteNow (s : State) : Nat := wallMs s / 60000

/-- Demand intervals are on (R346). -/
def demRuns (s : State) : Bool := let d := s.rd R.bill_DEM_MIN []; d != 0 && 60 % d == 0

/-- A UTC minute is an interval end (R346). -/
def endAt (s : State) (t : Nat) : Bool := demRuns s && isEnd (s.rd R.bill_DEM_ALIGN []) (s.rd R.bill_DEM_MIN []) t

/-- The first UTC minute after `t` that satisfies `p`, within `n` minutes. -/
def firstMinute (p : Nat → Bool) : Nat → Nat → Option Nat
  | 0, _ => none
  | n + 1, t => if p (t + 1) then some (t + 1) else firstMinute p n (t + 1)

/-- A UTC minute is a boundary: an interval closes, the tariff changes or a calendar activates (R351, R353). -/
def isBoundary (s : State) (t : Nat) : Bool :=
  endAt s t || (s.rdB R.bill_OPEN [] && decide (s.rd R.bill_OPEN_END [] = t * 60000)) || decide (actTime s.bill.cal1 = t * 60000) || decide (effTariff s t ≠ effTariff s (t - 1))

/-- The tariff at minute `t` after the boundary of an instant in ms: that of the passive calendar where it becomes active
there (R345, R351). -/
def tariffFrom (s : State) (instant t : Nat) : Nat :=
  if actTime s.bill.cal1 = instant then
    if calValid s.bill.cal1 then
      (if setBit (s.rd R.bill_DEF_CAUSE []) 3 false ≠ 0 then defTariff s.bill.cal1 else tariffAt s.bill.cal1 t)
    else effTariff s t
  else effTariff s t

/-- Arm E000 at the next boundary after now and after LAST_BOUND, with the tariff it brings (R351, R359). Nothing is armed
while wall time is not valid or stands before LAST_BOUND (R357, R358). The search ends after a year. -/
def armBoundary (s : State) : State :=
  if causeTime s || causeBefore s || !s.rdB R.wall_VALID [] then
    showNext ((s.billF (fun b => { b with why0 := Why.none })).wr R.evt_ARM [0] 0)
  else
    match firstMinute (isBoundary s) 527040 (max (minuteNow s) (s.rd R.bill_LAST_BOUND [] / 60000)) with
    | some t =>
      let n := tariffFrom s (t * 60000) t
      let s := s.billF (fun b => { b with why0 := { Why.none with bound := true }, next0 := n, at0 := t * 60000 })
      showNext (armEntry 0 2 true (t * 60000) s)
    | none => s

/-! ## Clock rules (R357, R358) -/

/-- The tariff that an armed E000 brings, formed anew: the strobe that fires with or after a change of the causes or of wall
time switches to it (R351, R357). -/
def renext (t : Nat) (s : State) : State :=
  if s.rdB R.evt_ARM [0] then showNext (s.billF (fun b => { b with next0 := tariffFrom s b.at0 t })) else s

/-- DEF_CAUSE takes a value: entry to the default and return from it switch the tariff through E001 (R357). -/
def setCauses (v : Nat) (s : State) : State :=
  let old := s.rd R.bill_DEF_CAUSE []
  if v = old then s.wrB R.bill_DEFAULT [] (v != 0)
  else
    let s := (s.wr R.bill_DEF_CAUSE [] v).wrB R.bill_DEFAULT [] (v != 0)
    let s := metLog 0x0012 0xFF old v s
    let s := if (old == 0) != (v == 0) then s.raise 304 1 else s
    armE001 { Why.none with time := true } (effTariff s (minuteNow s)) (renext (s.bill.at0 / 60000) s)

/-- The slot latched last that is not committed (R352, R354). -/
def youngestSlot (s : State) : Option (Fin 2) :=
  let pend := fun (k : Fin 2) => bitB (s.rd R.bill_SLOT_PEND []) k.val
  let seq : Fin 2 → Nat := fun k => match s.bill.slots[k] with | some h => h.seq | none => 0
  if pend 0 && pend 1 then some (if (seq 1 + 256 - seq 0) % 256 < 128 then 1 else 0)
  else if pend 0 then some 0 else if pend 1 then some 1 else none

/-- Wall time was stepped or set back: TIMECHG of the interval it falls into (R348), which begins at the last strobe where
Bremus has still to close the one before. -/
def timeChanged (s : State) : State :=
  match youngestSlot s with
  | some k => s.billF (fun b => { b with slots := vupd b.slots k (fun h => h.map (fun h => { h with chg := true })) })
  | none => if s.rdB R.bill_OPEN [] then s.wrBit R.bill_OPEN_FLAGS [] 1 true else s

/-- A wall-time APPLY has taken effect (R357-R359), by `diff` units of 5 ps, to `new` ms. -/
def billApply (diff : Int) (new : Nat) (auth : Bool) (s : State) : State :=
  let back := decide (diff < 0)
  let big := decide (diff < -(3600000 * 200000000))
  let stepped := decide (diff ≠ 0)
  let ms := diff.natAbs / 200000000
  let s := if back then metLog 0x0010 0xFF ms (ms / 2 ^ 32) s
    else if stepped then metLog 0x0011 0xFF ms (ms / 2 ^ 32) s else s
  let s := if auth then metLog 0x0013 0xFF 0 0 s else s
  let s := if stepped then timeChanged s else s
  let c := s.rd R.bill_DEF_CAUSE []
  let c := if auth then setBit c 0 false else c
  let c := if big || (back && !auth) then setBit c 1 true else if auth then setBit c 1 false else c
  let c := setBit c 2 (decide (new < s.rd R.bill_LAST_BOUND []))
  let s := setCauses c s
  let s := if stepped && !back && evtReached s 0 then
      renext (minuteNow s) (s.billF (fun b => { b with why0 := { b.why0 with late := true } }))
    else s
  if back && !bitB c 2 then armE001 { Why.none with time := true } (effTariff s (minuteNow s)) s else s

/-- Wall time has slewed on an APPLY: no step is made, the causes follow AUTH (R357). -/
def billSlew (auth : Bool) (s : State) : State :=
  if auth then
    let s := metLog 0x0013 0xFF 0 0 s
    setCauses (setBit (setBit (s.rd R.bill_DEF_CAUSE []) 0 false) 1 false) s
  else s

/-- CAL_VALID and the cause CAL follow the active image (R345, R357). -/
def calCheck (s : State) : State :=
  let ok := calValid s.bill.cal0
  let s := s.wrB R.bill_CAL_VALID [] ok
  let s := if !ok && !causeCal s then s.setErr 304 0x0100 else s
  setCauses (setBit (s.rd R.bill_DEF_CAUSE []) 3 (!ok)) s

/-! ## OCMF records (R366-R368) -/

/-- Characters as bytes. -/
def str (x : String) : List Byte := x.toList.map (fun c => BitVec.ofNat 8 c.toNat)

/-- Decimal digits of a number, with fuel. -/
def decDigits : Nat → Nat → List Byte
  | 0, _ => []
  | k + 1, n => (if n < 10 then [] else decDigits k (n / 10)) ++ [BitVec.ofNat 8 (48 + n % 10)]

/-- A number in decimal. -/
def dec (n : Nat) : List Byte := decDigits 24 n

/-- A number of at most two digits, zero-padded as identifiers are (R3). -/
def dec2 (n : Nat) : List Byte := [BitVec.ofNat 8 (48 + n / 10 % 10), BitVec.ofNat 8 (48 + n % 10)]

/-- One hexadecimal digit, lower case. -/
def hexDigit (n : Nat) : Byte := BitVec.ofNat 8 (if n < 10 then 48 + n else 87 + n)

/-- Bytes in hexadecimal. -/
def hexOf (l : List Byte) : List Byte := l.flatMap (fun b => [hexDigit (b.toNat / 16), hexDigit (b.toNat % 16)])

/-- An INTEGER of DER: no leading zero bytes, a zero byte before a set top bit. -/
def derInt (l : List Byte) : List Byte :=
  let l := l.dropWhile (fun b => decide (b = 0))
  let l := match l with | [] => [0] | b :: _ => if 128 ≤ b.toNat then 0 :: l else l
  2 :: BitVec.ofNat 8 l.length :: l

/-- A signature r, s as DER (R367). -/
def derSig (rs : List Byte) : List Byte :=
  let l := derInt (rs.take 32) ++ derInt (rs.drop 32)
  48 :: BitVec.ofNat 8 l.length :: l

/-- The signature object (R367). -/
def sigObject (sig : List Byte) : List Byte :=
  [123] ++ str "\"SA\":\"ECDSA-secp256r1-SHA256\",\"SD\":\"" ++ hexOf (derSig sig) ++ str "\"" ++ [125]

/-- Slots free in the record store: they are reused in order, and the oldest record that no READ has returned ends the
free ones (R368). -/
def ocmfFree (s : State) : Nat := 8192 - (s.bill.ocmf.reverse.dropWhile (·.read)).length

/-- RV: kWh with three decimals (R367). -/
def rvText (mwh : Nat) : List Byte :=
  let wh := mwh / 1000
  dec (wh / 1000) ++ str "." ++ [BitVec.ofNat 8 (48 + wh / 100 % 10), BitVec.ofNat 8 (48 + wh / 10 % 10),
    BitVec.ofNat 8 (48 + wh % 10)]

/-- Status of the time of a reading (R367): S, I or U. -/
def timeStatus (valid auth : Bool) (cause : Nat) : List Byte :=
  if !valid then str "U" else if auth && cause == 0 then str "S" else str "I"

/-- The payload's field values in the order of the table (R367). `tx` is B, T, P or E, `pos` the reading in mWh and `wall`
the wall time of its snapshot. -/
def ocmfFields (s : State) (p : Port) (tx : String) (pos wall : Nat) (st : List Byte) (seq : Nat) : List (List Byte) :=
  let v := s.rd R.bill_OCMF_VER []
  let serial := dec (s.rd R.sys_SERIAL [])
  let idents := (List.range 6).map (fun k => (s.bs p).ident.getD k [])
  let ofs := localOfs s.bill.cal0 (wall / 60000)
  [dec (v / 16) ++ str "." ++ dec (v % 16), str "KN-VMX128-A", serial, Config.fwVersion, str "T" ++ dec seq,
    str "Knadon", str "MX-128 M" ++ dec2 p.val, serial, hexOf ((leBytes 4 (calId s.bill.cal0)).reverse)] ++ idents ++
  [Config.ocmfTime ((wall : Int) + ofs * 60000) ofs ++ str " " ++ st, str tx, rvText pos, str "1-0:1.8.0", str "kWh",
    str "DC", if (s.bs p).faulted then str "t" else [], str "G"]

/-- Write one signed record (R366-R368), with STORE_NEAR where it leaves fewer than 16 free slots; none where the store is
full. -/
def ocmfWrite (p : Port) (tx : String) (pos wall : Nat) (st : List Byte) (s : State) : State :=
  if ocmfFree s = 0 then s.setErr 304 0x0104
  else
    let s := s.inc R.bill_REC_SEQ []
    let seq := s.rd R.bill_REC_SEQ []
    let payload := Config.ocmfPayload (ocmfFields s p tx pos wall st seq)
    let sig := Config.ecSign 0 (privOf 0 (slotMat s (s.rd R.bill_SIGN_KEY []))) (Config.digest 0 payload) (s.free 384)
    let rec_ : OcmfS := ⟨seq, p.val, s.rd R.pre_SESS_ID [p.val], str "OCMF|" ++ payload ++ str "|" ++ sigObject sig, false⟩
    let s := s.took.billF (fun b => { b with ocmf := (rec_ :: b.ocmf).take 8192 })
    let s := if ocmfFree s < 16 then s.raise 304 7 else s
    s.bsF p (fun b => { b with faulted := false })

/-- The reading of E002's snapshot serves every session that opens or closes (R366). -/
def snapSession (p : Port) (s : State) : State :=
  let st := timeStatus (s.rdB R.wall_VALID []) (s.rdB R.wall_AUTH []) (s.rd R.bill_DEF_CAUSE [])
  let pos := s.rd R.mt_SNAP_POS [p.val]
  let s := if (s.bs p).beginPend then
      (ocmfWrite p "B" pos (wallMs s) st s).bsF p (fun b => { b with beginPend := false, begun := true })
    else s
  if (s.bs p).endPend then
    let s := ocmfWrite p "E" pos (wallMs s) st s
    (s.wr R.pre_PREPAY [p.val] 0).bsF p (fun b => { b with isOpen := false, begun := false, endPend := false })
  else s

/-- E002 has fired (R366). -/
def billSnap (s : State) : State := foldS (List.finRange 32) (fun s p => snapSession p s) s

/-- A session ends: its E record waits for the next snapshot (R366). -/
def endSession (p : Port) (s : State) : State :=
  if (s.bs p).isOpen && !(s.bs p).endPend then armE002 (s.bsF p (fun b => { b with endPend := true })) else s

/-! ## The boundary strobe and its sequence (R351-R356) -/

/-- What a shadow slot holds of a meter (R352). -/
def shadowMeter (s : State) (m : Meter) : ShM :=
  { pos := s.rd R.mt_SNAP_POS [m.val], neg := s.rd R.mt_SNAP_NEG [m.val], net := s.rdI R.mt_SNAP_NET [m.val]
    v := s.rd R.mt_SNAP_V [m.val], i := s.rdI R.mt_SNAP_I [m.val], p := s.rdI R.mt_SNAP_P [m.val]
    tpos := (List.range 16).map (tariffAcc s.bill.tpos m.val), tneg := (List.range 16).map (tariffAcc s.bill.tneg m.val)
    rev := s.rd R.mt_REV_CNT [m.val], ft := s.rd R.mt_FAULT_TIME [m.val] }

/-- What this strobe was armed for, by the entries that fired with it (R353, R355). -/
def strobeWhy (s : State) (e0 e1 : Bool) : Why :=
  let w0 := if e0 then s.bill.why0 else Why.none
  let w1 := if e1 then s.bill.why1 else Why.none
  w0.join w1

/-- A strobe of E001 that merges with a boundary strobe takes that boundary's tariff (R88, R351, R355). -/
def mergeNext (e0 e1 : Bool) (s : State) : State :=
  if e0 && e1 then s.wr R.bill_TARIFF_NEXT [] s.bill.next0 else s

/-- Step 1 of the sequence, by the hardware (R351, R352): the tariff index switches, the slot of STROBE_SEQ latches
unless it still holds an uncommitted snapshot. -/
def billStrobe (seq : Nat) (e0 e1 : Bool) (s : State) : State :=
  let k : Fin 2 := ⟨seq % 2, by omega⟩
  let s := mergeNext e0 e1 s
  let t0 := s.rd R.bill_TARIFF []
  let t1 := s.rd R.bill_TARIFF_NEXT []
  let s := s.wr R.bill_TARIFF [] t1
  let why := strobeWhy s e0 e1
  let s := showNext (s.billF (fun b => { b with
    why0 := if e0 then Why.none else b.why0, why1 := if e1 then Why.none else b.why1
    held := !why.back && (why.power || b.held) }))
  let s := if why.power then metLog 0x0030 0xFF seq 0 s else s
  if bitB (s.rd R.bill_SLOT_PEND []) k.val then metLog 0x0032 0xFF seq 0 ((s.setErr 304 0x0101).raise 304 6)
  else
    let sh : ShadowS := {
      seq := seq, cycle := s.spar.cycle, period := s.spar.period, wall := wallMs s, valid := s.rdB R.wall_VALID []
      auth := s.rdB R.wall_AUTH [], slewing := s.rdB R.wall_SLEWING [], setback := s.rdB R.wall_SETBACK []
      mono := monoMs s, t0 := t0, t1 := t1, meters := (List.finRange 36).map (shadowMeter s), why := why
      instant := s.bill.at0, held := s.bill.held, chg := false, crc := s.free 32 }
    (s.took.wrBit R.bill_SLOT_PEND [] k.val true).billF (fun b => { b with slots := b.slots.set k (some sh) k.isLt })

/-- The strobe closes the open interval (R346, R349, R355, R356, R358). That of a change of the causes also does where a
forward step has passed the planned end while no boundary was armed. -/
def closes (s : State) (sh : ShadowS) : Bool :=
  s.rdB R.bill_OPEN [] && (sh.why.power || sh.why.boot ||
    (sh.why.time && (!sh.valid || decide (s.rd R.bill_OPEN_END [] ≤ sh.wall))) ||
    (sh.why.bound && (sh.why.late || decide (s.rd R.bill_OPEN_END [] ≤ sh.wall) || sh.t0 != sh.t1)))

/-- Demand D of a change of energy in mWh over `n` ms, towards zero (R347); a length of 0 leaves it open. -/
def demandOf (s : State) (e : Int) (n : Nat) : Int := if n = 0 then sext 32 (s.free 32) else (3600 * e).tdiv n

/-- The demand of one meter at a close (R347, R348). -/
def closeMeter (sh : ShadowS) (flags : Nat) (m : Meter) (s : State) : State :=
  match sh.meters[m.val]? with
  | none => s
  | some x =>
    let o := s.bill.opens[m]
    let n := sh.mono - s.bill.openMono
    let signed := s.rdB R.mt_MODE [m.val]
    let dp := demandOf s ((x.pos : Int) - o.pos) n
    let dn := demandOf s ((x.neg : Int) - o.neg) n
    let dt := demandOf s (x.net - o.net) n
    let s := if n = 0 then s.took else s
    let s := if signed then s.wrI R.leg_D_NET [m.val] dt else (s.wrI R.leg_D_POS [m.val] dp).wrI R.leg_D_NEG [m.val] dn
    let f := setBit (setBit flags 2 (decide (x.rev ≠ o.rev))) 3 (decide (x.ft ≠ o.ft))
    let s := s.wr R.leg_D_FLAGS [m.val] f
    if bitB f 0 then s
    else
      let t := s.bill.openTariff
      if signed then (if s.rdI R.leg_MD_POS [m.val, t] < dt then s.wrI R.leg_MD_POS [m.val, t] dt else s)
      else
        let s := if (s.rd R.leg_MD_POS [m.val, t] : Int) < dp then s.wrI R.leg_MD_POS [m.val, t] dp else s
        if (s.rd R.leg_MD_NEG [m.val, t] : Int) < dn then s.wrI R.leg_MD_NEG [m.val, t] dn else s

/-- Close the open interval (R347, R348). -/
def closeInterval (sh : ShadowS) (s : State) : State :=
  let f := s.rd R.bill_OPEN_FLAGS []
  let f := if sh.wall < s.rd R.bill_OPEN_END [] || sh.why.boot || (sh.why.power && !sh.why.bound) then setBit f 0 true else f
  let f := if sh.why.power || sh.why.boot then setBit f 4 true else f
  let f := if sh.why.time && !sh.valid then setBit (setBit f 0 true) 1 true else f
  let s := foldS (List.finRange 36) (fun s m => closeMeter sh f m s) s
  ((s.wr R.bill_OPEN [] 0).wr R.bill_OPEN_FLAGS [] f).billF (fun b => { b with demL := 0, demT := 0 })

/-- Open the next interval where the rules allow (R346, R349, R355-R358): wall time is valid, and since the start some
strobe has found it authenticated too. -/
def openInterval (sh : ShadowS) (s : State) : State :=
  if s.rdB R.bill_OPEN [] || !demRuns s || !sh.valid || s.bill.unproven || causeTime s || causeBefore s || sh.held then s
  else
    let t := sh.wall / 60000
    let on := endAt s t && sh.wall % 60000 == 0
    let e := ((firstMinute (endAt s) 60 t).getD (t + 1)) * 60000
    let s := ((s.wr R.bill_OPEN [] 1).wr R.bill_OPEN_START [] sh.wall).wr R.bill_OPEN_END [] e
    let s := s.wr R.bill_OPEN_FLAGS [] (b2n (!on))
    let s := foldS (List.finRange 36) (fun s m => s.wr R.leg_DEM_E [m.val] 0) s
    s.billF (fun b => { b with
      openMono := sh.mono, openTariff := sh.t1, demL := e - sh.wall, demT := 0
      opens := Vector.ofFn (fun m : Fin 36 => match sh.meters[m.val]? with
        | some x => ⟨x.pos, x.neg, x.net, x.rev, x.ft⟩
        | none => ⟨0, 0, 0, 0, 0⟩) })

/-- CAL_ACT: at the boundary whose instant is ACT_TIME the passive image becomes active if it is valid (R345). -/
def calAct (sh : ShadowS) (s : State) : State :=
  if sh.why.bound = true ∧ sh.instant ≠ 0 ∧ sh.instant = actTime s.bill.cal1 then
    if calValid s.bill.cal1 then
      calCheck (metLog 0x0004 0xFF 1 0 (s.billF (fun b => { b with cal0 := b.cal1 })))
    else metLog 0x0004 0xFF 0 0 (s.setErr 304 0x0102)
  else s

/-- T and P records of the open sessions, from the slot (R366). -/
def slotRecords (sh : ShadowS) (s : State) : State :=
  foldS (List.finRange 32) (fun s p =>
    if (s.bs p).begun then
      let st := timeStatus sh.valid sh.auth (s.rd R.bill_DEF_CAUSE [])
      let pos := (sh.meters[p.val]?.map (·.pos)).getD 0
      let s := if sh.t0 ≠ sh.t1 then ocmfWrite p "T" pos sh.wall st s else s
      if sh.why.power then ocmfWrite p "P" pos sh.wall st s else s
    else s) s

/-- What a committed record holds (R353). -/
def recordOf (s : State) (sh : ShadowS) (closed : Bool) : BRecS :=
  { slot := sh, closed := closed, flags := s.rd R.bill_OPEN_FLAGS []
    dems := (List.range 36).map (fun m =>
      (s.rdI R.leg_D_POS [m], s.rdI R.leg_D_NEG [m], s.rdI R.leg_D_NET [m], s.rd R.leg_D_FLAGS [m]))
    bals := (List.range 32).map (fun p => (p, s.rdI R.pre_BAL [p]))
    sess := ((List.finRange 32).filter (fun p => (s.bs p).isOpen)).map (fun p =>
      (p.val, s.rd R.pre_SESS_ID [p.val], s.rd R.pre_SESS_E [p.val])) }

/-- Steps 2-4 of the boundary sequence for one slot (R353, R354). LAST_BOUND never falls, so that no boundary is crossed
twice (R359). -/
def commitSlot (k : Fin 2) (s : State) : State :=
  match s.bill.slots[k] with
  | none => s
  | some sh =>
    let c := closes s sh
    let s := if c then closeInterval sh s else s
    let rec_ := recordOf s sh c
    let s := s.billF (fun b => { b with unproven := b.unproven && !(sh.valid && sh.auth) })
    let s := openInterval sh s
    let s := if sh.chg && s.rdB R.bill_OPEN [] then s.wrBit R.bill_OPEN_FLAGS [] 1 true else s
    let s := slotRecords sh (calAct sh s)
    let s := s.billF (fun b => { b with recs := rec_ :: b.recs })
    let s := ((s.inc R.bill_BREC []).wr R.bill_SHADOW_ACK [] sh.seq).wr R.bill_LAST_BOUND []
      (max (s.rd R.bill_LAST_BOUND []) sh.wall)
    let s := (s.wrBit R.bill_SLOT_PEND [] k.val false).raise 304 0
    let s := armBoundary s
    s.billF (fun b => { b with
      saved := { live := scopy [] s.regs.live (8 * 0x130000) (8 * 0x140000)
                 act := scopy [] s.regs.act (8 * 0x130000) (8 * 0x140000)
                 shd := scopy [] s.regs.shd (8 * 0x130000) (8 * 0x140000) }
      saved0 := b.cal0, saved1 := b.cal1, kept := ⟨b.sess, b.resp, b.respNext, b.rwTag, b.rwKind, b.rwIndex, b.rwData⟩ })

/-- The oldest slot that is latched and not committed (R354). -/
def oldestSlot (s : State) : Option (Fin 2) :=
  let pend := fun (k : Fin 2) => bitB (s.rd R.bill_SLOT_PEND []) k.val
  let seq : Fin 2 → Nat := fun k => match s.bill.slots[k] with | some h => h.seq | none => 0
  if pend 0 && pend 1 then some (if (seq 1 + 256 - seq 0) % 256 < 128 then 0 else 1)
  else if pend 0 then some 0 else if pend 1 then some 1 else none

/-- BOUNDARY_SEQUENCE: Bremus completes the oldest latched slot (R353, R354). -/
def boundarySequence (s : State) : State :=
  match oldestSlot s with
  | some k => commitSlot k s
  | none => s

/-- BOUNDARY_SEQUENCE (R353). -/
def execBoundarySequence (s : State) : Host.Outcome State Fault Refusal :=
  .next (if s.inReset 15 then s else boundarySequence s)

/-- The BILL fields are restored from the last committed record after a reset (R379): sessions that were open are open, and
one whose B or E reading is still to come asks for its snapshot again (R366). -/
def billRestore (s : State) : State :=
  if s.bill.recs.isEmpty then s
  else
    let v := s.bill.saved
    let a := 8 * 0x130100
    let b := 8 * 0x140000
    let pend := s.rd R.bill_SLOT_PEND []
    let s := { s with
      regs := { live := scopy s.regs.live v.live a b, act := scopy s.regs.act v.act a b, shd := scopy s.regs.shd v.shd a b } }
    let s := s.billF (fun x => { x with
      cal0 := x.saved0, cal1 := x.saved1, sess := x.kept.sess, resp := x.kept.resp, respNext := x.kept.respNext
      rwTag := x.kept.rwTag, rwKind := x.kept.rwKind, rwIndex := x.kept.rwIndex, rwData := x.kept.rwData })
    let s := s.wr R.bill_SLOT_PEND [] pend
    let s := if (List.finRange 32).any (fun p => (s.bs p).beginPend || (s.bs p).endPend) then armE002 s else s
    foldS (List.finRange 36) (fun s m => tregDerive m (legalDerive m s)) s

/-- The causes of the default after a start (R357): TIME without valid wall time, else BEFORE where wall time stands before
LAST_BOUND. -/
def bootCauses (s : State) : State :=
  let c := s.rd R.bill_DEF_CAUSE []
  setCauses (if s.rdB R.wall_VALID [] then setBit c 2 (decide (wallMs s < s.rd R.bill_LAST_BOUND [])) else setBit c 0 true) s

/-- The restoring at a start, only after a reset of BILL; DEFAULT may change with it (R379). SEAL_FREE shows what the log
holds. -/
def bootRestore (s : State) : State :=
  if s.bill.fresh then
    let t := (billRestore s).wr R.bill_SEAL_FREE [] (sealFree s)
    if t.rd R.bill_DEFAULT [] ≠ s.rd R.bill_DEFAULT [] then t.raise 304 1 else t
  else s

/-- BOOT_COMPLETE: Bremus restores its fields, completes every latched slot in order, checks the calendar, arms
the next boundary, and after a reset of BILL closes an interval left open with a boot strobe (R355-R357, R379). -/
def bootComplete (s : State) : State :=
  let fresh := s.bill.fresh
  let s := bootCauses (bootRestore s)
  let n := b2n (bitB (s.rd R.bill_SLOT_PEND []) 0) + b2n (bitB (s.rd R.bill_SLOT_PEND []) 1)
  let s := foldS (List.range n) (fun s _ => metLog 0x0031 0xFF 0 0 (boundarySequence s)) s
  let s := if causeCal s && !calValid s.bill.cal0 then s.setErr 304 0x0100 else s
  let s := (armBoundary (calCheck s)).billF (fun b => { b with fresh := false })
  if fresh && s.rdB R.bill_OPEN [] then armE001 { Why.none with boot := true } (effTariff s (minuteNow s)) s else s

/-- BOOT_COMPLETE (R355). -/
def execBootComplete (s : State) : Host.Outcome State Fault Refusal :=
  .next (if s.inReset 15 then s else bootComplete s)

/-- The second ring supply is lost: E001 keeps the tariff (R355). -/
def billHoldup (s : State) : State := armE001 { Why.none with power := true } (s.rd R.bill_TARIFF []) s

/-- A ring supply returns within hold-up: E001 again, and its strobe opens an interval (R355). -/
def billReturn (s : State) : State := armE001 { Why.none with back := true } (effTariff s (minuteNow s)) s

/-- DEM_MIN or DEM_ALIGN has taken another value (R346): the open interval's end and the next boundary follow it. -/
def demandChanged (s : State) : State :=
  if s.inReset 15 then s
  else
    let s := if s.rdB R.bill_OPEN [] && demRuns s then
        s.wr R.bill_OPEN_END [] (((firstMinute (endAt s) 60 (minuteNow s)).getD (minuteNow s + 1)) * 60000)
      else s
    armBoundary s

/-! ## Prepayment at cycle starts (R362, R364) -/

/-- Bremus posts BILL_DISC to a port (R362). -/
def postDisc (p : Port) (s : State) : State :=
  discPost p (s.wr R.pre_DISC_SENT [p.val] 1)

/-- PREPAID_DISC for one port (R362). -/
def prepaidDisc (p : Port) (s : State) : State :=
  let st := sstate s p
  if (s.bs p).isOpen && s.rdB R.pre_PREPAY [p.val] && decide (s.rdI R.pre_BAL [p.val] ≤ 0) && decide (4 ≤ st) && decide (st ≤ 8)
  then postDisc p s else s

/-- BILL_REQ: a port that reaches CABLECHECK without an open billing session for its SESS_ID (R364). -/
def billReq (p : Port) (s : State) : State :=
  if s.rdB R.bill_BILL_REQ [] && decide (sstate s p = 4) &&
      !((s.bs p).isOpen && s.rd R.pre_SESS_ID [p.val] == s.rd R.port_SESS_ID [p.val]) then postDisc p s
  else s

/-- The E record of a session whose port enters ENDED, FAULT or IDLE (R366). -/
def sessionEnds (p : Port) (s : State) : State :=
  let st := sstate s p
  if st = (s.bs p).lastSt then s
  else
    let s := s.bsF p (fun b => { b with lastSt := st })
    if st = sIdle ∨ st = sEnded ∨ st = sFault then endSession p s else s

/-- Qp has read open since BILL_DISC (R363). -/
def discOpened (p : Port) (s : State) : State :=
  if s.rdB R.port_CONT_FB [p.val] || (s.bs p).disc.isNone then s
  else s.bsF p (fun b => { b with disc := b.disc.map (fun d => { d with opened := true }) })

/-- MONO shows the time since the reset (R347, R375). -/
def showMono (s : State) : State := if s.inReset 15 then s else s.wr R.bill_MONO [] (monoMs s)

/-- What Bremus does for billing every control period (R363, R364, R366). -/
def billPeriod (s : State) : State :=
  if s.inReset 15 then s
  else (foldS (List.finRange 32) (fun s p => discOpened p (sessionEnds p (billReq p s))) s) |> showMono

/-- Qp has not read open within DISC_TMO of the first BILL_DISC, or its meter closed a DIR 1 step while it read open
(R363). -/
def discFails (s : State) (p : Port) : Bool :=
  match discWatch s p with
  | some d => !d.failed && (d.stepOpen || (!d.opened && decide (d.since + s.rd R.bill_DISC_TMO [] ≤ monoMs s)))
  | none => false

/-- DISC_FAIL (R363). -/
def execDiscFail (p : Port) (s : State) : Host.Outcome State Fault Refusal :=
  .next (if discFails s p then
    metLog 0x0042 p.val 0 0 (((s.wr R.pre_DISC_FAIL [p.val] 1).raise 304 5).bsF p (fun b => { b with
      disc := b.disc.map (fun d => { d with failed := true }) }))
  else s)

/-! ## The request ring (R365, R378) -/

/-- A byte of the block at REQ_TAIL, and the head word after the 64 blocks. -/
def reqByte (s : State) (o : Nat) : Nat := (memGet s.sram1 (256 * s.rd R.bill_REQ_TAIL [] + o)).toNat
def reqHead (s : State) : Nat := leNat (memBytes s.sram1 16384 4) % 64

/-- A request may be taken: the ring holds one, and at most 8 are taken a cycle. -/
def reqReady (s : State) : Bool :=
  decide (0 < s.bill.reqLeft) && reqHead s != s.rd R.bill_REQ_TAIL [] && !s.inReset 15

/-- Answer the request at REQ_TAIL and take it (R365, R378); what the data word holds is not stated. -/
def respond (status : Nat) (s : State) : State :=
  let e : RespS := ⟨reqByte s 1, reqByte s 0, status, s.free 32⟩
  let s := s.took.billF (fun b => { b with
    resp := vupd b.resp (Fin.ofNat 64 b.respNext) (fun _ => e)
    respNext := (b.respNext + 1) % 64, reqLeft := b.reqLeft - 1 })
  (s.wr R.bill_REQ_TAIL [] (s.rd R.bill_REQ_TAIL [] + 1)).raise 304 2

/-- Blocks whose TYPE names no request are answered BAD_FIELD. -/
def skipUnknown : Nat → State → State
  | 0, s => s
  | n + 1, s =>
    if reqReady s && !(decide (1 ≤ reqByte s 0) && decide (reqByte s 0 ≤ 6)) then skipUnknown n (respond 5 s) else s

/-- REQUEST_RING_SCAN: a cycle start allows 8 blocks (R365). -/
def requestScan (s : State) : State := skipUnknown 8 (s.billF (fun b => { b with reqLeft := 8 }))

/-- Take the request at REQ_TAIL if it has this TYPE: its effect, then its answer. -/
def takeReq (typ : Nat) (f : State → Nat × State) (s : State) : State :=
  if reqReady s && reqByte s 0 == typ then
    let r := f s
    skipUnknown 8 (respond r.1 r.2)
  else s

/-- The port a request names, and its SESS_ID. -/
def reqPort (s : State) : Option Port := if h : reqByte s 2 < 32 then some ⟨reqByte s 2, h⟩ else none
def reqSess (s : State) : Nat :=
  reqByte s 4 + 256 * reqByte s 5 + 65536 * reqByte s 6 + 16777216 * reqByte s 7

/-- SESSION_OPEN (R365, R366, R368): the B record follows E002's snapshot. -/
def sessionOpen (prepay : Bool) (lowAt : Int) (ident : List (List Byte)) (s : State) : Nat × State :=
  match reqPort s with
  | none => (5, s)
  | some p =>
    if (s.bs p).isOpen then (6, s)
    else if reqSess s ≠ s.rd R.port_SESS_ID [p.val] then (3, s)
    else if ocmfFree s < 16 then (4, (s.setErr 304 0x0104).raise 304 7)
    else
      let s := ((s.wrB R.pre_PREPAY [p.val] prepay).wr R.pre_SESS_ID [p.val] (reqSess s)).wrI R.pre_LOW_AT [p.val] lowAt
      let s := (((s.wr R.pre_BAL [p.val] 0).wr R.pre_LOW [p.val] 0).wr R.pre_DISC_SENT [p.val] 0).wr R.pre_DISC_FAIL [p.val] 0
      let s := s.wr R.pre_SESS_E [p.val] 0
      (0, armE002 (s.bsF p (fun b => { BSessS.reset with
        serial := b.serial + 1, prepaid := prepay, isOpen := true, beginPend := true, ident := ident
        faulted := b.faulted, lastSt := b.lastSt })))

/-- SESSION_OPEN (R366). -/
def execSessionOpen (prepay : Bool) (lowAt : Int) (ident : List (List Byte)) (s : State) : Host.Outcome State Fault Refusal :=
  .next (takeReq 1 (sessionOpen prepay lowAt ident) s)

/-- SESSION_CLOSE (R366). -/
def sessionClose (s : State) : Nat × State :=
  match reqPort s with
  | none => (5, s)
  | some p =>
    if !(s.bs p).isOpen || reqSess s != s.rd R.pre_SESS_ID [p.val] then (3, s)
    else if (s.bs p).endPend then (6, s)
    else (0, endSession p s)

/-- SESSION_CLOSE (R366). -/
def execSessionClose (s : State) : Host.Outcome State Fault Refusal := .next (takeReq 2 sessionClose s)

/-- The message a credit token signs (R360). -/
def tokenMsg (s : State) (token : Nat) (p : Port) (sid amount : Nat) : List Byte :=
  leBytes 4 token ++ leBytes 8 (s.rd R.sys_SERIAL []) ++ leBytes 1 p.val ++ leBytes 4 sid ++ leBytes 8 amount

/-- CREDIT (R360). -/
def credit (token amount : Nat) (sig : List Byte) (s : State) : Nat × State :=
  match reqPort s with
  | none => (5, metLog 0x0040 0xFF 0 5 s)
  | some p =>
    let sid := reqSess s
    let k := s.rd R.bill_CREDIT_KEY []
    if !Config.ecVerify 0 (pubOfSlot s k) (Config.digest 0 (tokenMsg s token p sid amount)) sig then
      (1, metLog 0x0040 p.val 0 1 s)
    else if token ≤ s.rd R.bill_LAST_TOKEN [] then (2, metLog 0x0040 p.val 0 2 s)
    else if !(s.bs p).isOpen || (s.bs p).endPend || !s.rdB R.pre_PREPAY [p.val] || sid != s.rd R.pre_SESS_ID [p.val] then
      (3, metLog 0x0040 p.val 0 3 s)
    else
      let s := (s.bsF p (fun b => { b with credit := b.credit + amount })).wr R.bill_LAST_TOKEN [] token
      let s := s.wrI R.pre_BAL [p.val] (s.rdI R.pre_BAL [p.val] + amount)
      (0, metLog 0x0040 p.val 1 token s)

/-- CREDIT (R360). -/
def execCredit (token : Word) (amount : Nat) (sig : List Byte) (s : State) : Host.Outcome State Fault Refusal :=
  .next (takeReq 3 (credit token.toNat amount sig) s)

/-- CAL_PART: 224 bytes of a passive image at an offset of it (R341, R365). -/
def calPart (ofs : Nat) (data : List Byte) (s : State) : Nat × State :=
  if data.length ≠ 224 ∨ 0x9A0 < ofs + 224 then (5, s)
  else (0, s.billF (fun b => { b with stage := memWrite b.stage (0x100 + ofs) data }))

/-- CAL_PART (R365). -/
def execCalPart (ofs : Nat) (data : List Byte) (s : State) : Host.Outcome State Fault Refusal :=
  .next (takeReq 4 (calPart ofs data) s)

/-- CAL_COMMIT: the passive image is written only where the signature over it verifies (R365); its reserved bits take no
write (R10). -/
def calCommit (sig : List Byte) (s : State) : Nat × State :=
  let img := memBytes s.bill.stage 0x100 0x9A0
  if Config.ecVerify 0 (pubOfSlot s (s.rd R.bill_TARIFF_KEY [])) (Config.digest 0 img) sig then
    (0, armBoundary (s.billF (fun b => { b with cal1 := calClean b.stage })))
  else (1, s)

/-- CAL_COMMIT (R365). -/
def execCalCommit (sig : List Byte) (s : State) : Host.Outcome State Fault Refusal := .next (takeReq 5 (calCommit sig) s)

/-- The numbers of a boundary record (R353): its slot, whether and how it closed an interval, each meter's demand, the
balances, the open sessions' readings. -/
def ShadowS.nums (h : ShadowS) : List Int :=
  [(h.seq : Int), h.cycle, h.period, h.wall, b2n h.valid, b2n h.auth, b2n h.slewing, b2n h.setback, h.mono, h.t0, h.t1, h.instant, h.crc]
    ++ [h.why.bound, h.why.power, h.why.boot, h.why.time, h.why.late, h.why.back, h.held, h.chg].map (fun b => (b2n b : Int))
    ++ h.meters.flatMap (fun m => [(m.pos : Int), m.neg, m.net, m.v, m.i, m.p] ++ m.tpos ++ m.tneg ++ [(m.rev : Int), m.ft])
def BRecS.nums (r : BRecS) : List Int :=
  r.slot.nums ++ [(b2n r.closed : Int), r.flags] ++ r.dems.flatMap (fun d => [d.1, d.2.1, d.2.2.1, (d.2.2.2 : Int)])
    ++ r.bals.flatMap (fun b => [(b.1 : Int), b.2]) ++ r.sess.flatMap (fun x => [(x.1 : Int), x.2.1, x.2.2])

/-- What a READ returns from a byte offset on (R365, R378): at most 2,032 bytes. -/
def readData (s : State) (kind index ofs : Nat) : Option (List Byte) :=
  if kind = 0 then ((s.bill.ocmf.find? (fun r => r.seq == index)).map (fun r => (r.bytes.drop ofs).take 2032))
  else if kind = 1 then
    let l := ((s.bill.logRing ++ s.bill.logSeal).filter (fun e => decide (index ≤ e.seq) && decide (e.seq < index + 63)))
    if l = [] then none
    else some ((((List.range 63).flatMap (fun k => match l.find? (fun e => e.seq == index + k) with
      | some e => logBytes e ++ leBytes 4 e.crc
      | none => [])).drop ofs).take 2032)
  else if kind = 2 then
    if index = 0 then none
    else (s.bill.recs.reverse[index - 1]?).map (fun r => ((Config.brecBytes r.nums).drop ofs).take 2032)
  else none

/-- READ (R365, R368, R378). -/
def billRead (kind index ofs : Nat) (s : State) : Nat × State :=
  match readData s kind index ofs with
  | none => (5, s)
  | some d =>
    let tag := reqByte s 1
    (0, s.billF (fun b => { b with
      rwTag := tag, rwKind := kind, rwIndex := index, rwData := d
      ocmf := if kind = 0 then b.ocmf.map (fun r => if r.seq = index then { r with read := true } else r) else b.ocmf }))

/-- BILL_READ (R378). -/
def execBillRead (kind : Nat) (index : Word) (ofs : Nat) (s : State) : Host.Outcome State Fault Refusal :=
  .next (takeReq 6 (billRead kind index.toNat ofs) s)

/-- What billing does at a cycle start: BEFORE clears when wall time reaches LAST_BOUND (R357), prepaid ports (R362),
the request ring (R365). -/
def billCycle (s : State) : State :=
  if s.inReset 15 then s
  else
    let s := s.billF (fun b => { b with addMono := monoMs s })
    let s := if causeBefore s && decide (s.rd R.bill_LAST_BOUND [] ≤ wallMs s) then
        setCauses (setBit (s.rd R.bill_DEF_CAUSE []) 2 false) (timeChanged s)
      else s
    requestScan (foldS (List.finRange 32) (fun s p => prepaidDisc p s) s)

/-! ## The legal display (R369-R371) -/

/-- The 7-segment pattern of a digit, decimal or hexadecimal. -/
def segment (d : Nat) : Nat :=
  [0x3F, 0x06, 0x5B, 0x4F, 0x66, 0x6D, 0x7D, 0x07, 0x7F, 0x6F, 0x77, 0x7C, 0x39, 0x5E, 0x79, 0x71].getD d 0

/-- Eight digits of a number in a base, left to right. -/
def digits8 (base n : Nat) : List Nat := (List.range 8).map (fun k => segment (n / base ^ (7 - k) % base))

/-- An item of a port. -/
def itemCode (s : State) (p k : Nat) : Nat := s.rd R.pre_CODE [p, k]

/-- Whole kWh of a legal register's accumulator, and its sign (R370). -/
def kWhOf (x : Int) : Nat × Bool := (x.natAbs / 1000 % 2 ^ 40 / 1000 % 100000000, decide (x < 0))

/-- What an item shows (R370): digits, minus. -/
def itemShows (s : State) (p k : Nat) : List Nat × Bool :=
  let par := s.rd R.pre_PARAM [p, k]
  let tariff := fun (l : List (Nat × Int)) => let q := kWhOf (tariffAcc l p par); (digits8 10 q.1, q.2)
  let l := localMin s.bill.cal0 (minuteNow s)
  let t := dateOf (l / 1440)
  match itemCode s p k with
  | 1 => (digits8 10 (kWhOf (s.rd R.mt_E_POS [p])).1, false)
  | 2 => (digits8 10 (kWhOf (s.rd R.mt_E_NEG [p])).1, false)
  | 3 => let q := kWhOf (s.rdI R.mt_E_NET [p]); (digits8 10 q.1, q.2)
  | 4 => tariff s.bill.tpos
  | 5 => tariff s.bill.tneg
  | 6 => (digits8 10 (s.rd R.bill_TARIFF []), false)
  | 7 =>
    let d := digits8 10 (s.rd R.pre_SESS_E [p] / 1000 % 100000000)
    (d.take 4 ++ [d.getD 4 0 + 128] ++ d.drop 5, false)
  | 8 => let b := s.rdI R.pre_BAL [p]; (digits8 10 (b.natAbs / 1000000 % 100000000), decide (b < 0))
  | 9 => (digits8 10 (t.y * 10000 + t.m * 100 + t.d), false)
  | 10 => (digits8 10 (l % 1440 / 60 * 10000 + l % 60 * 100 + wallMs s / 1000 % 60), false)
  | 11 =>
    let d := if s.rdB R.mt_MODE [p] then s.rdI R.leg_MD_POS [p, par] else s.rd R.leg_MD_POS [p, par]
    (digits8 10 (d.natAbs / 1000 % 100000000), decide (d < 0))
  | 12 => (digits8 10 (s.rd R.sys_SERIAL [] % 100000000), false)
  | 13 => (digits8 16 (Config.fwCrc % 65536), false)
  | 14 => (digits8 16 (calId s.bill.cal0), false)
  | 15 => (digits8 10 (s.rd R.bill_DEF_CAUSE []), false)
  | _ => (List.replicate 8 0x40, false)

/-- Annunciators of an item (R371). -/
def annunciators (s : State) (p k : Nat) (minus : Bool) : Nat :=
  let c := itemCode s p k
  b2n ((decide (1 ≤ c) && decide (c ≤ 5)) || c == 7) + 2 * b2n (c == 11) + 4 * b2n minus + 8 * s.rd R.bill_DEFAULT [] +
    16 * b2n (!s.rdB R.wall_AUTH []) + 32 * s.rd R.mt_FAULT [p] + 64 * s.rd R.pre_PREPAY [p]

/-- The frame the engine sends (R371): dashes where no port is shown (R369). -/
def displayBytes (s : State) : List Byte :=
  let body := match s.bill.dPort with
    | some p =>
      let k := s.bill.dItem
      let q := itemShows s p k
      [0xB1, p, itemCode s p k, s.rd R.pre_PARAM [p, k]] ++ q.1 ++ [annunciators s p k q.2, 0]
    | none => [0xB1, 0xFF, 0, 0] ++ List.replicate 8 0x40 ++
        [8 * s.rd R.bill_DEFAULT [] + 16 * b2n (!s.rdB R.wall_AUTH []), 0]
  let b := body.map (BitVec.ofNat 8)
  b ++ (leBytes 2 (crc16 b)).reverse

/-- The display shows items: DISP_EN, and a displayed port whose sequence has an item (R369). -/
def dispPorts (s : State) : List Nat :=
  if s.rdB R.bill_DISP_EN [] then
    (List.range 32).filter (fun p => bitB (s.rd R.bill_DISP_PORTS []) p && itemCode s p 0 != 0)
  else []

/-- Item 0 of the next displayed port in ascending order after `p`, or of the first (R369). -/
def nextPort (after : Option Nat) (s : State) : State :=
  let l := dispPorts s
  let n := match after with
    | some p => (l.find? (fun q => decide (p < q))).orElse (fun _ => l.head?)
    | none => l.head?
  s.billF (fun b => { b with dPort := n, dItem := 0, dAt := monoMs s })

/-- The port shown is still displayed, else the display begins again (R369). -/
def displayHold (s : State) : State :=
  match s.bill.dPort with
  | some p => if dispPorts s |>.contains p then s else nextPort none s
  | none => nextPort none s

/-- Send the frame. -/
def displaySend (s : State) : State := s.billF (fun b => { b with dFrame := displayBytes s })

/-- DISPLAY_FRAME (R371). -/
def execDisplayFrame (s : State) : Host.Outcome State Fault Refusal :=
  .next (if s.inReset 15 then s else displaySend (displayHold s))

/-- The item shown has had its DUR seconds, 2 to 20, on MONO, or is displayed no longer (R369). -/
def itemOver (s : State) : Bool :=
  match s.bill.dPort with
  | some p => !(dispPorts s).contains p ||
      decide (s.bill.dAt + 1000 * min 20 (max 2 (s.rd R.pre_DUR [p, s.bill.dItem])) ≤ monoMs s)
  | none => true

/-- The next item, or the next port after CODE 0 or 32 items (R369); a change of item sends a frame (R371). -/
def displayAdvance (s : State) : State :=
  match s.bill.dPort with
  | some p =>
    let k := s.bill.dItem + 1
    if (dispPorts s).contains p && decide (k < 32) && itemCode s p k != 0 then
      displaySend (s.billF (fun b => { b with dItem := k, dAt := monoMs s }))
    else displaySend (nextPort (some p) s)
  | none => displaySend (nextPort none s)

/-- DISPLAY_ITEM_ADVANCE: the time of the item shown is over (R369). -/
def execDisplayItemAdvance (s : State) : Host.Outcome State Fault Refusal :=
  .next (if s.inReset 15 || !itemOver s then s else displayAdvance s)

end Sys2Proof.Machine
end

