-- ==== Sys2Proof/Machine/Bridle.lean ====
section
/-! DEFINITION. Bridle: the latch, the Loft table, routing, ceilings and ranks, plan checks, application
(07_bridle_site_allocation.md). -/

namespace Sys2Proof.Machine

open Sys2Proof

/-- A change of Bridle's own state. -/
def State.brdF (s : State) (f : BrdS → BrdS) : State := { s with brd := f s.brd }

/-- The i-th of a list, `z` beyond its end. -/
def nth {α : Type} (z : α) (l : List α) (i : Nat) : α := l.getD i z

/-- A sum over a list. -/
def sumI {α : Type} (l : List α) (f : α → Int) : Int := l.foldl (fun a x => a + f x) 0

/-! ## The Loft table (R206-R210) -/

/-- Word `k` of Loft entry `e`. -/
def loftW (s : State) (e k : Nat) : Nat := sget 0 s.brd.loft (4 * e + k)

/-- The occurrence of an entry at `now` (R208). -/
def loftOcc (start rep now : Nat) : Option Nat :=
  if now < start then none
  else
    let per := if rep = 1 then 86400000 else if rep = 2 then 604800000 else 0
    some (if per = 0 then start else start + (now - start) / per * per)

/-- INDEX lies in the range of a KIND (R207). -/
def loftScope (kind index : Nat) : Bool :=
  if kind = 1 ∨ kind = 2 then decide (index < 4)
  else if kind = 3 ∨ kind = 4 then decide (index < 32)
  else if kind = 5 then decide (index < 2)
  else false

/-- An entry in force: KIND, INDEX, occurrence, values. -/
structure LoftHit where
  kind : Nat
  index : Nat
  occ : Nat
  a : Int
  b : Int
  deriving DecidableEq, Repr

/-- The hit of entry `e` at `now`, if it has one. -/
def loftHit (s : State) (now e : Nat) : Option LoftHit :=
  let w1 := loftW s e 1
  let kind := bits w1 20 4
  let index := bits w1 24 8
  if loftScope kind index && !s.brd.loftBad.contains e then
    (loftOcc (loftW s e 0 + bits w1 0 16 * 2 ^ 32) (bits w1 18 2) now).map
      (fun o => ⟨kind, index, o, sext 32 (loftW s e 2), sext 32 (loftW s e 3)⟩)
  else none

/-- Take a hit into the entries in force: the latest occurrence, the higher index between equals (R208). -/
def loftTake (l : List LoftHit) (h : LoftHit) : List LoftHit :=
  match l.find? (fun g => g.kind == h.kind && g.index == h.index) with
  | none => l ++ [h]
  | some g => if g.occ ≤ h.occ then l.map (fun g => if g.kind = h.kind ∧ g.index = h.index then h else g) else l

/-- Table entries that hold anything, in ascending order. -/
def loftUsed (s : State) : List Nat := (s.brd.loft.map (fun e => e.1 / 4)).eraseDups

/-- Entries in force at `now`. -/
def loftHits (s : State) (now : Nat) : List LoftHit := ((loftUsed s).filterMap (loftHit s now)).foldl loftTake []

/-- A negative power or cap of an entry in force, which is taken as zero (R207). -/
def loftNeg (h : LoftHit) : Bool := (h.kind != 4 && decide (h.a < 0)) || decide (h.b < 0)

/-- The lookup results of a hit. -/
def loftVal (h : LoftHit) : Nat × Nat × Int × Int :=
  (h.kind, h.index, if h.kind = 4 then h.a else max 0 h.a, max 0 h.b)

/-- The lookup at a latch (R207-R210): while wall time is not valid the table is ignored, and LOFT_HOLD keeps the results
of the last lookup. -/
def loftLookup (s : State) : State :=
  let s := s.wrB R.lft_TIME_OK [] (s.rdB R.wall_VALID [])
  let keep := s.rdB R.lft_HOLD []
  if !s.rdB R.wall_VALID [] then (if keep then s else s.brdF (fun b => { b with loftRes := [] }))
  else
    let s := foldS s.brd.loftBad.eraseDups (fun s _ => ((s.setErr 128 0x0102).raise 128 6).satInc R.lft_ECC_CNT []) s
    if keep then s
    else
      let hits := loftHits s (wallMs s)
      let s := if hits.any loftNeg then s.setErr 128 0x0104 else s
      s.brdF (fun b => { b with loftRes := hits.map loftVal })

/-- Values of a scope in force; none while wall time is not valid (R210). -/
def loftOf (s : State) (kind index : Nat) : Option (Int × Int) :=
  if s.rdB R.lft_TIME_OK [] then
    (s.brd.loftRes.find? (fun r => r.1 == kind && r.2.1 == index)).map (fun r => r.2.2)
  else none

/-- A cap combined with its register: the lesser; 0x7FFF_FFFF is no cap (R207). -/
def capped (reg : Nat) (v : Option Int) : Nat :=
  match v with
  | some c => if c = 0x7FFFFFFF then reg else min reg c.toNat
  | none => reg

/-! ## Inputs -/

/-- BATT_EN of stack `k` (R195). -/
def battEn (s : State) (k : Nat) : Bool := if k = 0 then s.rdB R.brd_BATT_EN_A [] else s.rdB R.brd_BATT_EN_B []

/-- BATT_CP of stack `k`. -/
def battCp (s : State) (k : Nat) : Nat := if k = 0 then s.rd R.brd_BATT_CP_A [] else s.rd R.brd_BATT_CP_B []

/-- Connection point of a port (R195). -/
def cpOf (s : State) (p : Nat) : Nat := bits (s.rd R.brd_GRP_CP []) (2 * (p / 4)) 2

/-- PRIO and MIN_GUAR of a port (R207). -/
def prioOf (s : State) (p : Nat) : Nat :=
  match loftOf s 4 p with | some v => trunc 4 v.1 | none => s.rd R.bpt_PRIO [p]
def guarOf (s : State) (p : Nat) : Nat :=
  match loftOf s 4 p with | some v => v.2.toNat | none => s.rd R.bpt_MIN_GUAR [p]

/-- Import and export limits after the Loft table; zero while Cc is not present (R198). -/
def impEff (s : State) (c : Nat) : Nat :=
  if s.rdB R.bcp_CP_OK [c] then capped (s.rd R.bcp_IMP_MAX [c]) ((loftOf s 1 c).map (·.1)) else 0
def expEff (s : State) (c : Nat) : Nat :=
  if s.rdB R.bcp_CP_OK [c] then capped (s.rd R.bcp_EXP_MAX [c]) ((loftOf s 1 c).map (·.2)) else 0

/-- Demand cap and floor. -/
def demCap (s : State) (c : Nat) : Nat :=
  match loftOf s 2 c with | some v => v.1.toNat | none => s.rd R.bcp_DEM_CAP [c]
def demFloor (s : State) (c : Nat) : Nat :=
  match loftOf s 2 c with | some v => v.2.toNat | none => s.rd R.bcp_DEM_FLOOR [c]

/-- CHG_WISH and SHAVE_MAX of a stack. -/
def chgWish (s : State) (k : Nat) : Nat :=
  match loftOf s 5 k with | some v => v.1.toNat | none => s.rd R.bsk_CHG_WISH [k]
def shaveMax (s : State) (k : Nat) : Nat :=
  match loftOf s 5 k with | some v => v.2.toNat | none => s.rd R.bsk_SHAVE_MAX [k]

/-- What Bridle takes of a port at the tick of period 792. -/
def latOf (s : State) (p : Nat) : Lat792 := s.brd.lat.toList.getD p ⟨0, 0, 9, 0, 0⟩

/-- Voltage of a port in mV for capacities (R189). -/
def portV (s : State) (p : Nat) : Nat :=
  if (latOf s p).ps = psRun then (latOf s p).v.toNat else s.rd R.prt_VTGT [p]

/-- The tick of period 792 (R148, R187), where `ecc` are the Loft entries that fail their ECC check at the latch that
follows (R210). -/
def brdTick (ecc : List (Fin 4096)) (s : State) : State :=
  if s.spar.period = 792 then
    s.brdF (fun b => { b with loftBad := ecc.map (·.val), lat := Vector.ofFn (fun p : Fin 32 =>
      ⟨vMeas s p, s.rd R.prt_HDRM_I [p.val], s.rd R.prt_BIND [p.val], s.rd R.prt_PSTATE [p.val],
        s.rd R.prt_THS [p.val]⟩) })
  else s

/-! ## Eligibility and ceilings (R188-R190, R204) -/

/-- Eligibility of a port (R188). -/
def eligible (s : State) (p : Nat) : Bool :=
  let ps := (latOf s p).ps
  s.rdB R.bpt_REQ_EN [p] && lockOf s != lockFree && (ps == psSoft || ps == psPre || ps == psRun) &&
    bitB (s.rd R.safe_PERMIT []) p

/-- Direction of a request that may be planned: 0 none, 1 charge, 2 discharge (R190, R199). -/
def reqDir (s : State) (p : Nat) : Nat :=
  let r := s.rdI R.bpt_REQ [p]
  let dm := s.rd R.bpt_DMODE [p]
  if !eligible s p ∨ r = 0 then 0
  else if 0 < r then 1
  else if dm = 1 ∨ dm = 2 then 2 else 0

/-- Thermal ceiling (R204). -/
def thermCap (s : State) (p : Nat) : Nat :=
  let h := (latOf s p).hdrm
  (if s.rdB R.bpt_OVD_EN [p] then h else min h (s.rd R.bpt_ICONT [p])) * portV s p / 1000000

/-- The port cap in the request's direction (R190). -/
def pcap (s : State) (p : Nat) : Nat :=
  if reqDir s p = 1 then capped (s.rd R.bpt_PCAP_CHG [p]) ((loftOf s 3 p).map (·.1))
  else capped (s.rd R.bpt_PCAP_DIS [p]) ((loftOf s 3 p).map (·.2))

/-- The DRAW term, when a loop other than ALLOC limits the port (R190). -/
def drawCap (s : State) (p : Nat) : Option Nat :=
  let b := (latOf s p).bind
  if b = 0 ∨ b = 1 ∨ b = 2 ∨ b = 3 ∨ b = 5 then some ((s.rdI R.bpt_PMEAS [p]).natAbs + s.rd R.bpt_GROW [p]) else none

/-- Ramp term: the allocation in force in the same direction plus PRAMP (R190). -/
def rampCap (s : State) (p : Nat) : Nat :=
  let a := s.rdI R.bpt_ALLOC [p]
  let same := (decide (reqDir s p = 1) && decide (0 < a)) || (decide (reqDir s p = 2) && decide (a < 0))
  (if same then a.natAbs else 0) + s.rd R.bpt_PRAMP [p]

/-- The least of a list of terms and its code, the first on equality. -/
def leastTerm (l : List (Nat × Nat)) : Nat × Nat :=
  match l with
  | [] => (0, 6)
  | a :: t => t.foldl (fun a b => if b.1 < a.1 then b else a) a

/-- The ceiling's magnitude and its code (R190); none for a port that is planned zero. -/
def ceiling (s : State) (p cap : Nat) : Option (Nat × Nat) :=
  if reqDir s p = 0 then none
  else
    let l := [((s.rdI R.bpt_REQ [p]).natAbs, 0), (pcap s p, 1), (cap, 2), (thermCap s p, 3), (rampCap s p, 4)]
    some (leastTerm (match drawCap s p with | some w => l ++ [(w, 5)] | none => l))

/-- |d*|: the ceiling without STAGES and RAMP (R190). -/
def dStar (s : State) (p : Nat) : Nat :=
  if reqDir s p = 0 then 0
  else
    let l := [((s.rdI R.bpt_REQ [p]).natAbs, 0), (pcap s p, 1), (thermCap s p, 3)]
    (leastTerm (match drawCap s p with | some w => l ++ [(w, 5)] | none => l)).1

/-! ## Routing (R211-R214) -/

/-- Power one stage carries at a voltage, W (R189). -/
def stagePower (s : State) (i v : Nat) : Nat :=
  min (s.rd R.bst_STG_PMAX [i]) (s.rd R.stg_SIMAX [i] * v / 1000000)

/-- Stage numbers of a group. -/
def groupStages (g : Nat) : List Nat := (List.range 16).map (16 * g + ·)

/-- WANT of a port (R211). -/
def wantOf (s : State) (p : Nat) : Nat :=
  if !eligible s p then 0
  else
    let l := ((groupStages (p / 4)).filter (fun i => s.rdB R.stg_AVAIL [i])).map (fun i => stagePower s i (portV s p))
    match l with
    | [] => 1
    | a :: t =>
      let c := t.foldl min a
      if c = 0 then 1 else min 16 (max 1 (divCeil (dStar s p) c))

/-- The route a plan starts from for a stage: its pin; 4 while not available; a handover's target; the route in
force (R211, R213, R214). -/
def route0 (s : State) (i : Nat) : Nat :=
  if s.rdB R.bst_PIN_EN [i] then (if 4 < s.rd R.bst_PIN_ROUTE [i] then 4 else s.rd R.bst_PIN_ROUTE [i])
  else if !s.rdB R.stg_AVAIL [i] then 4
  else
    let h := s.rd R.stg_HOSTATE [i]
    if 1 ≤ h ∧ h ≤ 4 then (match s.stages.toList[i]? with | some g => g.hoTarget | none => 4)
    else s.rd R.stg_ROUTE_PLAN [i]

/-- A stage may be moved by R212 (R212-R214). -/
def movable (s : State) (i : Nat) : Bool :=
  s.rdB R.stg_AVAIL [i] && !s.rdB R.bst_PIN_EN [i] && decide (s.rd R.bst_HOLD [i] ≤ 1) &&
    !(s.rdB R.stg_LEAD [i] && (List.range 4).any (fun k =>
      let p := 4 * (i / 16) + k
      let ps := (latOf s p).ps
      s.rd R.prt_LEAD [p] == i && (ps == psSoft || ps == psPre)))

/-- Stages of a group planned on route `r`. -/
def onRoute (g : Nat) (rt : List Nat) (r : Nat) : List Nat := (groupStages g).filter (fun i => nth 4 rt i == r)

/-- A port put before the first that it stands before. -/
def insertPort (before : Nat → Nat → Bool) (p : Nat) : List Nat → List Nat
  | [] => [p]
  | q :: t => if before p q then p :: q :: t else q :: insertPort before p t

/-- Ports in an order. -/
def sortPorts (before : Nat → Nat → Bool) (l : List Nat) : List Nat := l.foldr (insertPort before) []

/-- The donor for a receiving port: a free stage, else from the donor ports in order (R212). -/
def donor (s : State) (g : Nat) (rt : List Nat) : Option Nat :=
  match (onRoute g rt 4).find? (movable s) with
  | some i => some i
  | none =>
    let ports := ((List.range 4).map (4 * g + ·)).filter (fun p => decide (wantOf s p < (onRoute g rt (p % 4)).length))
    let order := sortPorts (fun a b => decide (prioOf s a < prioOf s b) || (prioOf s a == prioOf s b && decide (b ≤ a))) ports
    order.findSome? (fun p => (onRoute g rt (p % 4)).reverse.find? (movable s))

/-- One receiving port takes stages while it wants them and moves are left. -/
def receive (s : State) (g p : Nat) : Nat → Nat × List Nat → Nat × List Nat
  | 0, m => m
  | k + 1, m =>
    if m.1 = 0 ∨ wantOf s p ≤ (onRoute g m.2 (p % 4)).length then m
    else
      match donor s g m.2 with
      | some i => receive s g p k (m.1 - 1, m.2.set i (p % 4))
      | none => m

/-- The routes of one group (R212). -/
def routeGroup (s : State) (rt : List Nat) (g : Nat) : List Nat :=
  let ports := (List.range 4).map (4 * g + ·)
  let order := sortPorts (fun a b => decide (prioOf s b < prioOf s a) || (prioOf s a == prioOf s b && decide (a ≤ b))) ports
  (order.foldl (fun m p => receive s g p 16 m) (s.rd R.brd_MOVES_MAX [], rt)).2

/-- The routes of a plan (R211-R214). -/
def planRoutes (s : State) : List Nat :=
  (List.range 8).foldl (routeGroup s) ((List.range 128).map (route0 s))

/-- A stage is counted for a port (R189). -/
def countedFor (s : State) (rt : List Nat) (i p : Nat) : Bool :=
  s.rdB R.stg_AVAIL [i] && s.rd R.stg_HOSTATE [i] == 0 && nth 4 rt i == p % 4 && decide (i / 16 = p / 4) &&
    bits (s.rd R.line_INFORCE [i]) 1 3 == p % 4

/-- STG_CAP (R189). -/
def stgCap (s : State) (rt : List Nat) (p : Nat) : Nat :=
  ((groupStages (p / 4)).filter (fun i => countedFor s rt i p)).foldl (fun a i => a + stagePower s i (portV s p)) 0

/-! ## Ranks (R191-R193) -/

/-- The largest x with Σ min(cap, x) ≤ room. -/
def level (caps : List Nat) (room : Nat) : Nat :=
  (List.range 40).foldl (fun x k =>
    let t := x + 2 ^ (39 - k)
    if caps.foldl (fun a c => a + min c t) 0 ≤ room then t else x) 0

/-- Give room to ports equally, each to its cap, what is left one each to those still rising (R193). -/
def fillEq (caps : List (Nat × Nat)) (room : Nat) : List (Nat × Nat) :=
  let x := level (caps.map (·.2)) room
  let given := caps.foldl (fun a c => a + min c.2 x) 0
  let up := (caps.filter (fun c => decide (x < c.2))).map (·.1) |>.take (room - given)
  caps.map (fun c => (c.1, min c.2 x + (if c.1 ∈ up then 1 else 0)))

/-- What a connection point's ranks give: allocations by port, setpoints by stack, and what they report. -/
structure CpRes where
  alloc : List (Nat × Int)
  stack : List (Nat × Int)
  planImp : Int
  limit : Bool
  ok : Bool
  deriving DecidableEq, Repr

/-- The amount listed for a key. -/
def amount (l : List (Nat × Int)) (k : Nat) : Int := match l.find? (fun e => e.1 == k) with | some e => e.2 | none => 0

/-- Bias (R196), from the stack setpoints before the application. -/
def biasNew (s : State) (stackOld : List Int) (c : Nat) : Int :=
  let raw := s.rdI R.bcp_GRID_MEAS [c] - sumI ((List.range 32).filter (fun p => cpOf s p == c)) (fun p => s.rdI R.bpt_PMEAS [p]) -
    sumI ((List.range 2).filter (fun k => battCp s k == c)) (fun k => nth 0 stackOld k)
  let b := s.rdI R.bcp_BIAS [c]
  b + ((min 16 (s.rd R.brd_BIAS_K []) : Nat) * (raw - b)).tdiv 16

/-- A demand interval limits Cc (R203). -/
def demOn (s : State) (c : Nat) : Bool := s.rdB R.bcp_DEM_EN [c] && s.rd R.brd_DEM_LEN [] != 0

/-- PDEM (R201). -/
def pdemOf (s : State) (c : Nat) : Int :=
  if demOn s c then
    let l : Int := s.rd R.brd_DEM_LEN []
    let e : Int := sext 64 (s.rd R.brd_EIMP [c])
    clampI (demFloor s c) (impEff s c)
      (((demCap s c : Int) * l - 3600 * e).tdiv (max (l - s.rd R.brd_DEM_ELAPSED []) (s.rd R.brd_TREM_MIN [])))
  else impEff s c

/-- FCAST (R202). -/
def fcastOf (s : State) (c : Nat) : Int :=
  if demOn s c then
    let l : Int := s.rd R.brd_DEM_LEN []
    let e : Int := sext 64 (s.rd R.brd_EIMP [c])
    (3600 * e + s.rdI R.bcp_GRID_MEAS [c] * (l - s.rd R.brd_DEM_ELAPSED [])).tdiv l
  else 0

/-- Ranks 3 to 9 of one connection point (R192). -/
def rankCp (s : State) (d : List Int) (bias : Int) (c : Nat) : CpRes :=
  let free := lockOf s == lockFree
  let ports := (List.range 32).filter (fun p => cpOf s p == c)
  let cpStacks := (List.range 2).filter (fun k => battEn s k && battCp s k == c && !free)
  let imp : Int := impEff s c
  let m : Int := s.rd R.bcp_MARGIN [c]
  let hard := imp - m - bias
  let soft := min imp (pdemOf s c) - m - bias
  let xmax := (expEff s c : Int) - m + bias
  let charge := ports.filter (fun p => decide (0 < nth 0 d p))
  let d1 := ports.filter (fun p => decide (nth 0 d p < 0) && s.rd R.bpt_DMODE [p] == 1)
  let d2 := ports.filter (fun p => decide (nth 0 d p < 0) && s.rd R.bpt_DMODE [p] == 2)
  let forced := sumI d2 (fun p => nth 0 d p)
  let stackDis := fun k => min (s.rd R.bsk_DIS_MAX [k]) (shaveMax s k)
  let shave := sumI cpStacks (fun k => stackDis k) + sumI d1 (fun p => (nth 0 d p).natAbs)
  let order := sortPorts (fun a b => decide (prioOf s b < prioOf s a) || (prioOf s a == prioOf s b && decide (a ≤ b))) charge
  let r4 := order.foldl (fun (a : List (Nat × Int) × Int) p =>
    let g : Int := max 0 (min (min (guarOf s p : Int) (nth 0 d p)) a.2)
    (a.1 ++ [(p, g)], a.2 - g)) ([], hard - forced + shave)
  let short := order.any (fun p => decide (amount r4.1 p < min (guarOf s p : Int) (nth 0 d p)))
  let room := min r4.2 (max 0 (soft - forced + shave - sumI r4.1 (·.2)))
  let r6 := (List.range 16).foldl (fun (a : List (Nat × Int) × Nat) k =>
    let cls := charge.filter (fun p => prioOf s p == 15 - k)
    let g := fillEq (cls.map (fun p => (p, (nth 0 d p - amount a.1 p).toNat))) a.2
    (a.1.map (fun e => match g.find? (fun x => x.1 == e.1) with | some x => (e.1, e.2 + x.2) | none => e),
      a.2 - g.foldl (fun n x => n + x.2) 0)) (r4.1, room.toNat)
  let chg := sumI r6.1 (·.2)
  let use := min shave (max 0 (chg + forced - soft))
  let t7 := cpStacks.foldl (fun (a : List (Nat × Int) × Int) k =>
    let x := min (stackDis k : Int) a.2
    (a.1 ++ [(k, -x)], a.2 - x)) ([], use)
  let o7 := sortPorts (fun a b => decide (prioOf s a < prioOf s b) || (prioOf s a == prioOf s b && decide (a ≤ b))) d1
  let u7 := o7.foldl (fun (a : List (Nat × Int) × Int) p =>
    let x := min ((nth 0 d p).natAbs : Int) a.2
    (a.1 ++ [(p, -x)], a.2 - x)) ([], t7.2)
  let t8 := cpStacks.foldl (fun (a : List (Nat × Int) × Int) k =>
    let x : Int := max 0 (min a.2 (min (s.rd R.bsk_CHG_MAX [k]) (chgWish s k) : Nat))
    (a.1 ++ [(k, x)], a.2 - x)) ([], soft - (chg + forced))
  let stk := if use = 0 then t8.1 else t7.1
  let chgStk := if use = 0 then sumI t8.1 (·.2) else 0
  let net := chg + forced - use + chgStk
  let cut := fillEq (d2.map (fun p => (p, (nth 0 d p).natAbs))) (-xmax - net).toNat
  let r9 := d2.map (fun p => (p, nth 0 d p + (match cut.find? (fun x => x.1 == p) with | some x => (x.2 : Int) | none => 0)))
  let planImp := chg + sumI r9 (·.2) - use + chgStk + bias
  { alloc := r6.1 ++ u7.1 ++ r9, stack := stk, planImp := planImp, limit := short
    ok := decide (planImp ≤ hard + bias) && decide (-xmax + bias ≤ planImp) }

/-- The solve of the latched inputs (R185, R191): routes first, then ceilings, then the ranks, then the checks of
R215. `stackOld`: stack setpoints before the application. -/
def brdSolve (s : State) (stackOld : List Int) : BrdSol :=
  let rt := planRoutes s
  let caps := (List.range 32).map (stgCap s rt)
  let cl := (List.range 32).map (fun p => ceiling s p (nth 0 caps p))
  let d : List Int := (List.range 32).map (fun p =>
    match nth none cl p with | some c => (if reqDir s p = 2 then -1 else 1) * (c.1 : Int) | none => 0)
  let bias := (List.range 4).map (biasNew s stackOld)
  let cps := (List.range 4).map (fun c => rankCp s d (nth 0 bias c) c)
  let alloc : List Int := (List.range 32).map (fun p => sumI cps (fun r => amount r.alloc p))
  let stack : List Int := (List.range 2).map (fun k => sumI cps (fun r => amount r.stack k))
  let fits := fun (v : Int) => decide (-(2 ^ 31) ≤ v) && decide (v < 2 ^ 31)
  let fcast := (List.range 4).map (fcastOf s)
  { plan := ⟨alloc, rt, stack⟩
    ports := (List.range 32).map (fun p =>
      { elig := eligible s p, d := nth 0 d p, ceil := (match nth none cl p with | some c => c.2 | none => 6)
        draw := (nth none cl p).isSome && (drawCap s p).isSome, stgCap := nth 0 caps p, thermCap := thermCap s p
        want := wantOf s p, have_ := (onRoute (p / 4) rt (p % 4)).length
        ovd := decide (s.rd R.bpt_ICONT [p] * portV s p / 1000000 < (nth 0 alloc p).natAbs)
        short := decide (0 < nth 0 d p) && decide (nth 0 alloc p < min (guarOf s p : Int) (nth 0 d p)) })
    cps := (List.range 4).map (fun c =>
      let r := nth ⟨[], [], 0, false, false⟩ cps c
      { bias := nth 0 bias c, pdem := pdemOf s c, fcast := nth 0 fcast c, impEff := impEff s c, planImp := r.planImp
        limit := r.limit
        above := demOn s c && decide (min (impEff s c : Int) (pdemOf s c) - s.rd R.bcp_MARGIN [c] < r.planImp), ok := r.ok })
    counted := (List.range 128).map (fun i => (List.range 4).any (fun k => countedFor s rt i (4 * (i / 16) + k)))
    ok := cps.all (·.ok) && alloc.all fits && stack.all fits && cps.all (fun r => fits r.planImp) && bias.all fits &&
      fcast.all fits && (List.range 4).all (fun c => fits (pdemOf s c)) && caps.all (fun c => decide (c < 2 ^ 32)) &&
      (List.range 32).all (fun p => decide (thermCap s p < 2 ^ 32)) &&
      (List.range 32).all (fun p => decide ((nth 0 alloc p).natAbs ≤ (nth 0 d p).natAbs) &&
        decide (0 ≤ nth 0 alloc p * nth 0 d p)) &&
      (List.range 32).all (fun p => decide ((onRoute (p / 4) rt (p % 4)).length ≤ 16)) }

/-- The latch of angle 0x0000 (R187): the solve begins. -/
def inputLatch (stackOld : List Int) (s : State) : State :=
  let s := (s.wr R.brd_LATCH_CYCLE [] s.spar.cycle).wr R.brd_READY [] 0
  let s := foldS (List.range 4) (fun s c =>
    ((s.wrB R.bcp_CP_OK [c] (s.rdB R.mt_PRESENT [32 + c])).wr R.bcp_GRID_MEAS [c] (s.rd R.mt_P_CYC [32 + c])).wr
      R.brd_EIMP [c] (s.rd R.leg_DEM_E [32 + c])) s
  let s := (s.wr R.brd_DEM_LEN [] (if s.rdB R.bill_OPEN [] then s.bill.demL else 0)).wr R.brd_DEM_ELAPSED [] s.bill.demT
  let s := foldS (List.range 2) (fun s k =>
    (s.wr R.bsk_CHG_MAX [k] (s.rd R.ring_CHG_MAX [k])).wr R.bsk_DIS_MAX [k] (s.rd R.ring_DIS_MAX [k])) s
  let s := foldS (List.range 32) (fun s p => s.wr R.bpt_PMEAS [p] (s.rd R.mt_P_CYC [p])) s
  let s := loftLookup s
  s.brdF (fun b => { b with
    solving := some (brdSolve s stackOld), ready := none, discarded := false
    holdCycles := if s.rdB R.lft_HOLD [] then b.holdCycles + 1 else 0 })

/-- A signed result as its 32-bit register holds it: saturated (R215; log entry 198). -/
def sat32 (v : Int) : Int := clampI (-(2 ^ 31)) (2 ^ 31 - 1) v

/-- An unsigned result as its 32-bit register holds it: saturated. -/
def satU32 (v : Nat) : Nat := min v (2 ^ 32 - 1)

/-- What a solve reports in the pages (R220-R222). -/
def brdReport (r : BrdSol) (s : State) : State :=
  let s := foldS (List.range 32) (fun s p =>
    let q := nth ⟨false, 0, 6, false, 0, 0, 0, 0, false, false⟩ r.ports p
    let s := ((s.wrI R.bpt_PLAN [p] (sat32 (nth 0 r.plan.alloc p))).wrI R.bpt_DEMAND [p] (sat32 q.d)).wr R.bpt_STG_CAP [p] (satU32 q.stgCap)
    let s := ((s.wr R.bpt_THERM_CAP [p] (satU32 q.thermCap)).wr R.bpt_CEIL [p] q.ceil).wr R.bpt_WANT [p] q.want
    let s := ((s.wr R.bpt_HAVE [p] q.have_).wrB R.bpt_OVD [p] q.ovd).wrB R.bpt_GUAR_SHORT [p] q.short
    (s.wrB R.bpt_DRAW [p] q.draw).wrB R.bpt_ELIG [p] q.elig) s
  let s := foldS (List.range 4) (fun s c =>
    let q := nth ⟨0, 0, 0, 0, 0, false, false, true⟩ r.cps c
    let s := ((s.wrI R.bcp_BIAS [c] (sat32 q.bias)).wrI R.bcp_PLAN_IMP [c] (sat32 q.planImp)).wrI R.bcp_PDEM [c] (sat32 q.pdem)
    let s := (s.wrI R.bcp_FCAST [c] (sat32 q.fcast)).wr R.bcp_IMP_EFF [c] q.impEff
    (s.wrB R.bcp_LIMIT [c] q.limit).wrB R.bcp_DEM_OVER [c] q.above) s
  let s := foldS (List.range 2) (fun s k => s.wrI R.bsk_PLAN_NEXT [k] (sat32 (nth 0 r.plan.stack k))) s
  let s := foldS (List.range 128) (fun s i =>
    (s.wr R.bst_ROUTE_NEXT [i] (nth 4 r.plan.route i)).wrB R.bst_COUNTED [i] (nth false r.counted i)) s
  let s := if r.cps.any (·.above) then s.raise 128 4 else s
  if r.cps.any (·.limit) then s.raise 128 5 else s

/-- A plan is discarded (R215): ERRCODE, and the run of discarded plans grows. -/
def discardPlan (code : Nat) (s : State) : State :=
  ((s.setErr 128 code).satInc R.brd_FAILRUN []).brdF (fun b => { b with solving := none, ready := none, discarded := true })

/-- The end of a solve of the enabled block, 1,650 µs after the latch: a plan that passes its checks is READY and ends the
run of discarded ones, one that fails them is discarded, and so is one complete only in period 126 or later (R185, R215,
R216). -/
def solveEnd (s : State) : State :=
  match s.brd.solving with
  | some r =>
    if 126 ≤ s.spar.period then discardPlan 0x0101 s
    else
      let s := (brdReport r s).wr R.brd_SOLVE_US [] 1650
      if r.ok then
        (((s.wr R.brd_READY [] 1).wr R.brd_FAILRUN [] 0).raise 128 0).brdF (fun b =>
          { b with solving := none, ready := some r.plan })
      else discardPlan 0x0100 s
  | none => s

/-- SOLVE_DONE. -/
def execSolveDone (s : State) : Host.Outcome State Fault Refusal := .next (if s.runs 128 then solveEnd s else s)

/-- PLAN_LATE: a plan not complete by period 126 is discarded (R215). -/
def execPlanLate (s : State) : Host.Outcome State Fault Refusal :=
  if s.brd.solving.isSome && decide (126 ≤ s.spar.period) then .next (discardPlan 0x0101 s) else .next s

/-- LOFT_HOLD_TIMEOUT: HOLD set for 1,000 cycles is cleared (R209). -/
def execLoftHoldTimeout (s : State) : Host.Outcome State Fault Refusal :=
  if s.rdB R.lft_HOLD [] && decide (1000 ≤ s.brd.holdCycles) then
    .next ((((s.wr R.lft_HOLD [] 0).setErr 128 0x0103).raise 128 7).brdF (fun b => { b with holdCycles := 0 }))
  else .next s

/-- The plan in force. -/
def planInForce (s : State) : BrdPlan :=
  ⟨(List.range 32).map (fun p => s.rdI R.bpt_ALLOC [p]), (List.range 128).map (fun i => s.rd R.stg_ROUTE_PLAN [i]),
    (List.range 2).map (fun k => s.rdI R.bsk_PLAN [k])⟩

/-- Put a plan in force: ALLOC, loop-4 LIM, ROUTE_PLAN, stack PLAN (R185, R200). -/
def putPlan (q : BrdPlan) (s : State) : State :=
  let s := foldS (List.range 32) (fun s p =>
    (s.wrI R.bpt_ALLOC [p] (nth 0 q.alloc p)).wrI R.prt_LIM [p, 4] (nth 0 q.alloc p)) s
  let s := foldS (List.range 128) (fun s i => s.wr R.stg_ROUTE_PLAN [i] (nth 4 q.route i)) s
  foldS (List.range 2) (fun s k => s.wrI R.bsk_PLAN [k] (if battEn s k then nth 0 q.stack k else 0)) s

/-- The plan with zero for every port and stack, its routes as they are (R216, R217). -/
def BrdPlan.zeroed (q : BrdPlan) : BrdPlan := ⟨List.replicate 32 0, q.route, List.replicate 2 0⟩

/-- Step 1 of R185 with a plan: HOLD falls by one, then is set for each stage whose route changes (R213). While Spar is
FREE the plan gives every port and stack zero, whenever it was computed (R65, R217). -/
def applyPlan (q : BrdPlan) (s : State) : State :=
  let q := if lockOf s = lockFree then q.zeroed else q
  let m := max 50 (s.rd R.brd_REROUTE_MIN [])
  let s := foldS (List.range 128) (fun s i =>
    s.wr R.bst_HOLD [i] (if nth 4 q.route i ≠ s.rd R.stg_ROUTE_PLAN [i] then m else s.rd R.bst_HOLD [i] - 1)) s
  (((putPlan q s).inc R.brd_PLAN_SEQ []).raise 128 1).brdF (fun b => { b with req := true })

/-- Angle 0x0000 (R185, R216, R218): the completed plan, the plan in force once more, or a zeroed plan. -/
def planApply (s : State) : State :=
  if !s.active then s.brdF (fun b => { b with solving := none, ready := none, discarded := false, takeover := false })
  else if s.brd.takeover then
    let s := s.brdF (fun b => { b with solving := none, ready := none, discarded := false, takeover := false })
    match s.brd.img with
    | some q => (applyPlan q s).brdF (fun b => { b with img := none })
    | none => (applyPlan (planInForce s) (s.wr R.brd_REUSED [] 1)).raise 128 2
  else
    let s := if s.brd.solving.isSome then discardPlan 0x0101 s else s
    match s.brd.ready with
    | some q =>
      let s := (s.wr R.brd_REUSED [] 0).wr R.brd_ZEROED [] 0
      (applyPlan q s).brdF (fun b => { b with ready := none })
    | none =>
      if s.brd.discarded then
        let q := planInForce s
        if 3 ≤ s.rd R.brd_FAILRUN [] then
          applyPlan q.zeroed (((s.wr R.brd_REUSED [] 0).wr R.brd_ZEROED [] 1).raise 128 3)
        else applyPlan q ((s.wr R.brd_REUSED [] 1).raise 128 2)
      else s

/-- The stack setpoints in force (R196). -/
def stackNow (s : State) : List Int := (List.range 2).map (fun k => s.rdI R.bsk_PLAN [k])

/-- Bridle at angle 0x0000: application, then latch (R185, R186); `old` are the stack setpoints before any application of this
angle 0x0000, an image's too (R196). A block that is not enabled applies nothing, and what it had computed is dropped: only
the plan completed in cycle N−1 is applied in cycle N (R185). -/
def brdCycle (old : List Int) (s : State) : State :=
  if s.runs 128 then inputLatch old (planApply s)
  else if s.brd.solving.isNone && s.brd.ready.isNone && !s.brd.discarded then s
  else (s.wr R.brd_READY [] 0).brdF (fun b => { b with solving := none, ready := none, discarded := false })

end Sys2Proof.Machine
end

