-- ==== Sys2Proof/Machine/Splc.lean ====
section
/-! DEFINITION. Site feeder power-line network (10_site_feeder_plc.md). -/

namespace Sys2Proof.Machine

open Sys2Proof

/-- A change of the network. -/
def State.splcF (s : State) (f : SplcS → SplcS) : State := { s with splc := f s.splc }

/-- A change of one coupling. -/
def State.cplF (s : State) (c : Fin 4) (f : CplS → CplS) : State := s.splcF (fun q => { q with cpl := vupd q.cpl c f })

/-- A change of one entry. -/
def State.dspF (s : State) (d : Fin 32) (f : DspS → DspS) : State := s.splcF (fun q => { q with dsp := vupd q.dsp d f })

/-- What the network sends in this step. -/
def splcSend (o : SplcOut) (s : State) : State := s.splcF (fun q => { q with out := q.out ++ [o] })

/-- DSTATE values (R298). -/
def dEmpty : Nat := 0
def dAttached : Nat := 2
def dRobo : Nat := 3
def dLost : Nat := 4

/-- DSTATE, COUP, MAC of an entry. -/
def dstate (s : State) (d : Fin 32) : Nat := s.rd R.dsp_DSTATE [d.val]
def dspCoup (s : State) (d : Fin 32) : Nat := s.rd R.dsp_COUP [d.val]
def dspMac (s : State) (d : Fin 32) : Nat := s.rd R.dsp_MAC_LO [d.val] + 2 ^ 32 * s.rd R.dsp_MAC_HI [d.val]

/-- An entry is ATTACHED or ROBO. -/
def joined (s : State) (d : Fin 32) : Bool := dstate s d == dAttached || dstate s d == dRobo

/-- STA_CNT and the queue registers as they stand (R297, R299). -/
def splcShow (s : State) : State :=
  let s := foldS (List.finRange 4) (fun s c => s.wr R.cpl_STA_CNT [c.val]
    ((List.finRange 32).filter (fun d => joined s d && dspCoup s d == c.val)).length) s
  let q := s.splc
  let s := (s.wr R.splc_RX_MSGS [] q.rx.length).wr R.splc_TX_QUEUED [] q.tx.length
  match q.rx with
  | (d, b) :: _ => (s.wr R.splc_RX_SRC [] d).wr R.splc_RX_LEN [] b.length
  | [] => (s.wr R.splc_RX_SRC [] 0).wr R.splc_RX_LEN [] 0

/-- Bytes in a queue. -/
def rxBytes (q : SplcS) : Nat := q.rx.foldl (fun n m => n + m.2.length) 0
def txBytes (q : SplcS) : Nat := q.tx.foldl (fun n m => n + m.data.length) 0

/-- The network runs on this module as coordinator (R294). -/
def splcOn (s : State) : Bool := s.runs 224 && s.active && !s.reduced

/-- A coupling hears its network: enabled, beaconing or without its rail, its NMK slot usable (R278, R283, R548). -/
def cplHears (s : State) (c : Fin 4) : Bool :=
  splcOn s && s.rdB R.cpl_CEN [c.val] && (s.rd R.cpl_BSTATE [c.val] == 1 || s.rd R.cpl_BSTATE [c.val] == 3) &&
    couplingSlot s c.val (s.rd R.cpl_NMK_KEY [c.val])

/-- A coupling works: it hears its network and transmits (R278). -/
def cplOn (s : State) (c : Fin 4) : Bool := cplHears s c && s.rd R.cpl_BSTATE [c.val] == 1

/-- The NMK of a coupling, from its key slot (R283). -/
def cplNmk (s : State) (c : Fin 4) : List Byte := (slotMat s (s.rd R.cpl_NMK_KEY [c.val])).take 16

/-- A coupling transmits a frame; nothing while it may not (R278, R294). -/
def cplSend (c : Fin 4) (o : SplcOut) (s : State) : State := if cplOn s c then splcSend o s else s

/-- The coupling of an entry. -/
def dspCpl (s : State) (d : Fin 32) : Fin 4 := ⟨dspCoup s d % 4, Nat.mod_lt _ (by decide)⟩

/-- The transmit queue changes; TX_DONE when it empties (R300). -/
def txPut (l : List SplcTx) (s : State) : State :=
  let was := s.splc.tx
  let s := s.splcF (fun q => { q with tx := l })
  if was ≠ [] ∧ l = [] then s.raise 224 4 else s

/-! ## Leaving and falling back (R285, R290, R293) -/

/-- Messages queued for an entry that leaves are discarded (R289). -/
def dropTx (d : Fin 32) (s : State) : State :=
  if s.splc.tx.any (fun m => m.dest == d.val) then
    (txPut (s.splc.tx.filter (fun m => m.dest != d.val)) s).setErr 224 0x0104 else s

/-- Windsock gives up an entry's estimation. -/
def dropEst (d : Fin 32) (s : State) : State :=
  s.splcF (fun q => { q with cpl := q.cpl.map (fun c => match c.est with
    | some (e, _) => if e = d.val then { c with est := none } else c
    | none => c) })

/-- An entry leaves: LOST if LISTED, else EMPTY (R285). -/
def leave (d : Fin 32) (s : State) : State :=
  if joined s d then
    let s := s.wr R.dsp_DSTATE [d.val] (if s.rdB R.dsp_LISTED [d.val] then dLost else dEmpty)
    let s := dropEst d (dropTx d (s.dspF d (fun e => { e with due := false, unacked := 0, acked := false, maps := [] })))
    splcShow (s.raise 224 1)
  else s

/-- LEAVE_IND (R285). -/
def execLeaveInd (d : Fin 32) (s : State) : Host.Outcome State Fault Refusal :=
  .next (if cplHears s (dspCpl s d) then leave d s else s)

/-- LEAVE_TMO in beacon periods, 2-255 (R297). -/
def leaveTmo (s : State) : Nat := max 2 (s.rd R.splc_LEAVE_TMO [])

/-- LEAVE_TIMEOUT: no frame acknowledged for LEAVE_TMO beacon periods in a row (R285). -/
def execLeaveTimeout (d : Fin 32) (s : State) : Host.Outcome State Fault Refusal :=
  .next (if splcOn s = true ∧ leaveTmo s ≤ s.splc.dsp[d].unacked then leave d s else s)

/-- KICK: the module sends a leave, where its coupling transmits, and the entry leaves (R278, R285). -/
def execKick (w : World) (d : Fin 32) (s : State) : Host.Outcome State Fault Refusal :=
  .next (s.asWriter w 225 (fun s =>
    if joined s d then leave d (cplSend (dspCpl s d) (.leave d.val) (s.splcF (fun q => { q with out := [] }))) else s))

/-- An entry goes to ROBO and Windsock becomes due (R290, R293). -/
def toRobo (d : Fin 32) (s : State) : State :=
  (s.wr R.dsp_DSTATE [d.val] dRobo).dspF d (fun e => { e with due := true })

/-- TM_NOW (R290). -/
def execTmNow (w : World) (d : Fin 32) (s : State) : Host.Outcome State Fault Refusal :=
  .next (s.asWriter w 225 (fun s => if joined s d then s.dspF d (fun e => { e with due := true }) else s))

/-- TM_AGE: seconds since the last valid maps, 0 before the first (R290, R298). -/
def tmAge (s : State) (d : Fin 32) : Nat :=
  match s.splc.dsp[d].mapsAt with | some t => (s.now - t) / 200000000 | none => 0

/-- TM_AGE_EXPIRY: at TM_REFRESH the entry is due, at three times that it goes to ROBO (R290). -/
def tmExpiry (d : Fin 32) (s : State) : State :=
  let r := s.rd R.splc_TM_REFRESH []
  let a := tmAge s d
  if splcOn s = true ∧ dstate s d = dAttached ∧ r ≤ a then
    if 3 * r ≤ a then toRobo d s else s.dspF d (fun e => { e with due := true })
  else s

/-- TM_AGE_EXPIRY (R290). -/
def execTmAgeExpiry (d : Fin 32) (s : State) : Host.Outcome State Fault Refusal := .next (tmExpiry d s)

/-! ## Beacons (R278, R280-R282, R287, R290) -/

/-- Control period of a coupling's beacon; 800 means period 0 of the following cycle (R280). -/
def beaconPeriod (s : State) (c : Fin 4) : Nat := divCeil (s.rd R.cpl_BCN_OFS [c.val] * 800) 65536

/-- The current control period is the coupling's beacon instant, and no beacon has been sent in it (R280, R282). -/
def beaconDue (s : State) (c : Fin 4) : Bool :=
  let k := beaconPeriod s c
  (if k = 800 then s.spar.cycle % 2 == 1 && s.spar.period == 0 else s.spar.cycle % 2 == 0 && s.spar.period == k) &&
    s.splc.cpl[c].sentAt != some s.spar.serial && s.sparRuns

/-- Body of an entry's STATE frame: port, SSTATE, CAUSE of each port it serves (R287). -/
def stateBody (s : State) (d : Fin 32) : List Byte :=
  ((List.range 32).filter (fun p => bitB (s.rd R.dsp_PORT_MASK [d.val]) p)).flatMap (fun p =>
    leBytes 1 p ++ leBytes 1 (s.rd R.port_SSTATE [p]) ++ leBytes 1 (s.rd R.port_CAUSE [p]))

/-- STATE_FRAME, at CA3 (R287, R289). -/
def stateFrame (d : Fin 32) (s : State) : State :=
  (splcSend (.state d.val 3 s.splc.dsp[d].seqOut (stateBody s d)) s).dspF d (fun e => { e with seqOut := (e.seqOut + 1) % 256 })

/-- A beacon period has passed: the count of those without an acknowledgement (R285). -/
def ackCount (d : Fin 32) (s : State) : State :=
  s.dspF d (fun e => { e with unacked := if e.acked then 0 else e.unacked + 1, acked := false })

/-- The entries of a coupling that have joined. -/
def cplEntries (s : State) (c : Fin 4) : List (Fin 32) :=
  (List.finRange 32).filter (fun d => joined s d && dspCoup s d == c.val)

/-- The next entry Windsock takes on a coupling: ROBO entries first, then those whose maps are TM_REFRESH old, then those
with TM_NOW written, each ascending (R290). -/
def windsockNext (s : State) (c : Fin 4) : Option (Fin 32) :=
  let l := cplEntries s c
  let a := l.filter (fun d => dstate s d == dAttached)
  (l.filter (fun d => dstate s d == dRobo) ++ a.filter (fun d => decide (s.rd R.splc_TM_REFRESH [] ≤ tmAge s d)) ++
    a.filter (fun d => s.splc.dsp[d].due)).head?

/-- WINDSOCK_START: one estimation on each coupling at a time; one not complete in 2 beacon periods is restarted
(R290). -/
def windsockStart (c : Fin 4) (s : State) : State :=
  match s.splc.cpl[c].est with
  | some (d, n) =>
    if n < 1 then s.cplF c (fun q => { q with est := some (d, n + 1) })
    else splcSend (.sound d) (s.cplF c (fun q => { q with est := some (d, 0) }))
  | none =>
    match windsockNext s c with
    | some d => splcSend (.sound d.val) (s.cplF c (fun q => { q with est := some (d.val, 0) }))
    | none => s

/-- Length of two mains cycles in HomePlug AV allocation-time units of 10.24 µs at the period length in force (R282; log
entry 106). -/
def beaconUnits (s : State) : Nat := 1600 * periodPs s.spar.freq / 10240000

/-- A coupling has lost its rail (R278). -/
def noRail (c : Fin 4) (s : State) : State :=
  if s.rd R.cpl_BSTATE [c.val] = 3 then s else (s.wr R.cpl_BSTATE [c.val] 3).raise 224 7

/-- The field rail has been at 16 V or above for one whole beacon period, two mains cycles (R278, R280). -/
def railWhole (s : State) : Bool :=
  match s.lsw.low16 with | some k => decide (k + 1600 ≤ s.spar.serial) | none => true

/-- BEACON: at its instant an enabled coupling sends its beacon, unless the module is not active, the rail is low or
the NMK slot may not be used (R278, R280, R283, R294). -/
def beacon (c : Fin 4) (rail : Bool) (s : State) : State :=
  if beaconDue s c && s.rdB R.cpl_CEN [c.val] && s.runs 224 then
    let s := (s.splcF (fun q => { q with out := [] })).cplF c (fun q => { q with sentAt := some s.spar.serial })
    let s := if s.active then foldS (cplEntries s c) (fun s d => ackCount d s) s else s
    if !s.active then s.wr R.cpl_BSTATE [c.val] 2
    else if !couplingSlot s c.val (s.rd R.cpl_NMK_KEY [c.val]) then (s.wr R.cpl_BSTATE [c.val] 0).setErr 224 0x0103
    else if !rail || !railWhole s then noRail c s
    else
      let s := splcSend (.beacon c.val (beaconUnits s) s.rst.splcMac (Config.nidOf (cplNmk s c))) (s.wr R.cpl_BSTATE [c.val] 1)
      let s := foldS (cplEntries s c) (fun s d => stateFrame d s) s
      windsockStart c s
  else s

/-- BEACON (R280); `rail`: the field rail was not below 16 V between the samples of the beacon period before (R278). -/
def execBeacon (c : Fin 4) (rail : Bool) (s : State) : Host.Outcome State Fault Refusal := .next (beacon c rail s)

/-- The field rail falls below 16 V: the couplings transmit nothing (R278). A coupling without a usable NMK stays OFF
(R283). -/
def splcRailLow (s : State) : State :=
  if splcOn s then
    foldS ((List.finRange 4).filter (fun c => s.rdB R.cpl_CEN [c.val] && couplingSlot s c.val (s.rd R.cpl_NMK_KEY [c.val])))
      (fun s c => noRail c s) s
  else s

/-! ## Windsock (R290-R292) -/

/-- Carriers of the plan (R292). -/
def carriers : Nat := 917

/-- SNR thresholds of the codes in 0.5 dB (R291). -/
def snrThr (code : Nat) : Nat := [0, 8, 14, 22, 28, 40, 52, 64].getD code 0

/-- Bits of a carrier by code (R291). -/
def codeBits (code : Nat) : Nat := [0, 1, 2, 3, 4, 6, 8, 10].getD code 0

/-- The highest code whose threshold plus TM_MARGIN does not exceed the SNR, in 0.5 dB (R291). -/
def codeOf (margin snr : Nat) : Nat :=
  ((List.range 7).foldl (fun a k => if snrThr (k + 1) + margin ≤ snr then k + 1 else a) 0)

/-- Carrier `k` is masked. -/
def masked (m : BitVec 920) (k : Nat) : Bool := m.getLsbD k

/-- Codes of one slice from its SNRs (R291). -/
def sliceMap (mask : BitVec 920) (margin : Nat) (snr : List Nat) : List Nat :=
  (List.range carriers).map (fun k => if masked mask k then 0 else codeOf margin (snr.getD k 0))

/-- Bit load of a map. -/
def mapLoad (m : List Nat) : Nat := m.foldl (fun n c => n + codeBits c) 0

/-- Distinct maps in order of first use. -/
def distinct (l : List (List Nat)) : List (List Nat) := l.foldl (fun a m => if a.contains m then a else a ++ [m]) []

/-- A map put into a list ordered by load. -/
def insertLoad (m : List Nat) : List (List Nat) → List (List Nat)
  | [] => [m]
  | x :: t => if mapLoad m ≤ mapLoad x then m :: x :: t else x :: insertLoad m t

/-- The two adjacent-in-load maps with the closest load, the lower pair on a tie (R291). -/
def closest : List (List Nat) → Option (List Nat × List Nat)
  | [] => none
  | a :: t =>
    match t, closest t with
    | b :: _, some (x, y) => if mapLoad b - mapLoad a ≤ mapLoad y - mapLoad x then some (a, b) else some (x, y)
    | b :: _, none => some (a, b)
    | [], _ => none

/-- While more than 4 distinct maps remain, two are merged, the lower code carrier by carrier (R291). -/
def mergeMaps : Nat → List (List Nat) → List (List Nat)
  | 0, l => l
  | fuel + 1, l =>
    let ds := distinct l
    if ds.length ≤ 4 then l
    else
      match closest (ds.foldr insertLoad []) with
      | none => l
      | some (a, b) =>
        let m := List.zipWith min a b
        mergeMaps fuel (l.map (fun x => if x = a ∨ x = b then m else x))

/-- Bytes of a map's codes: carrier 2i in the low nibble of byte i (R292). -/
def codeBytes (m : List Nat) : List Byte :=
  (List.range 459).map (fun i => BitVec.ofNat 8 (m.getD (2 * i) 0 + 16 * m.getD (2 * i + 1) 0))

/-- End angle of slice `k` within the half-cycle. -/
def sliceEnd (k : Nat) : Nat := (k + 1) * 32768 / 6 - 1

/-- Uplink map records from the SNRs of 6 slices (R291, R292). -/
def uplinkMaps (mask : BitVec 920) (margin : Nat) (snr : List (List Nat)) : List (List Byte) :=
  let per := mergeMaps 6 ((List.range 6).map (fun k => sliceMap mask margin (snr.getD k [])))
  let ds := distinct per
  let total := snr.foldl (fun n l => n + l.foldl (· + ·) 0) 0
  let count := snr.foldl (fun n l => n + l.length) 0
  let gi := if total < 20 * count then 1 else 0
  let ivs := (List.range 6).flatMap (fun k => leBytes 2 (sliceEnd k) ++ leBytes 2 (ds.idxOf (per.getD k [])))
  (List.range 4).map (fun j =>
    match ds[j]? with
    | some m => leBytes 1 0 ++ leBytes 1 gi ++ leBytes 1 1 ++ leBytes 1 0 ++ codeBytes m ++ leBytes 1 0 ++
        (if j = 0 then ivs else List.replicate 24 0)
    | none => [])

/-- A map record as the table has it: reserved bytes and those that only map 0 uses read zero (R10, R292). -/
def recordClean (j : Nat) (r : List Byte) : List Byte :=
  let b := fun i => r.getD i 0
  [b 0, b 1, b 2, 0] ++ (List.range 458).map (fun i => b (4 + i)) ++ [b 462 &&& 0x0F, 0] ++
    (if j = 0 then (List.range 6).flatMap (fun k => [b (464 + 4 * k), b (465 + 4 * k), b (466 + 4 * k), 0]) else List.replicate 24 0)

/-- A map record is whole and in use (R292). -/
def mapValid (r : List Byte) : Bool := r.length == 488 && r.getD 2 0 == 1

/-- The downlink maps are valid: map 0 is there, and every interval in use names a valid map (R290, R292). -/
def downValid (l : List (List Byte)) : Bool :=
  mapValid (l.getD 0 []) && (List.range 6).all (fun k =>
    let iv := ((l.getD 0 []).drop (464 + 4 * k)).take 4
    iv.take 2 == [0xFF, 0xFF] || mapValid (l.getD (iv.getD 2 0).toNat []))

/-- WINDSOCK_DONE: valid maps of both directions are in place, and the module has sent the uplink maps (R290); `down` are
the records the dispenser returned, `snr` the worst SNR per carrier of each of the 6 slices, 0.5 dB. With downlink maps that
are not valid the estimation is not complete. The PHY rates are values the spec does not give. -/
def windsockDone (c : Fin 4) (down : List (List Byte)) (snr : List (List Nat)) (s : State) : State :=
  match s.splc.cpl[c].est with
  | none => s
  | some (e, _) =>
    if cplOn s c && downValid down then
      foldS ((List.finRange 32).filter (fun d => d.val == e)) (fun s d =>
        let up := uplinkMaps s.splc.cpl[c].mask (s.rd R.splc_TM_MARGIN []) snr
        let dn := (List.range 4).map (fun j => if (down.getD j []).isEmpty then [] else recordClean j (down.getD j []))
        let s := splcSend (.maps d.val up) (s.splcF (fun q => { q with out := [] }))
        let s := s.cplF c (fun q => { q with est := none })
        let s := s.dspF d (fun x => { x with due := false, maps := dn ++ up, mapsAt := some s.now })
        let s := (s.wr R.dsp_RATE_DN [d.val] (s.free 8)).took
        let s := (s.wr R.dsp_RATE_UP [d.val] (s.free 8)).took
        splcShow ((s.wr R.dsp_DSTATE [d.val] dAttached).raise 224 6)) s
    else s

/-- WINDSOCK_DONE (R290). -/
def execWindsockDone (c : Fin 4) (down : List (List Byte)) (snr : List (List Nat)) (s : State) :
    Host.Outcome State Fault Refusal := .next (windsockDone c down snr s)

/-! ## Joining (R284) -/

/-- An entry accepted: ROBO, TEI d + 1, Windsock due (R284). -/
def accept (d : Fin 32) (s : State) : State :=
  let s := (toRobo d s).dspF d (fun e => { e with unacked := 0, acked := true, oos := false, maps := [] })
  let s := cplSend (dspCpl s d) (.accept d.val (d.val + 1)) (s.wr R.dsp_FAILRUN [d.val] 0)
  splcShow (s.raise 224 0)

/-- A request refused (R284). -/
def refuse (c : Fin 4) (mac : Nat) (s : State) : State :=
  (cplSend c (.refuse mac) ((s.satInc R.cpl_JOIN_REF [c.val]).wr R.splc_LAST_REF [] mac)).raise 224 2

/-- ASSOC_REQUEST on a coupling, by JOIN (R284), from a dispenser that holds `nmk`: without the coupling's NMK it is not in
the network (R283). -/
def assoc (c : Fin 4) (mac : Nat) (nmk : List Byte) (s : State) : State :=
  if cplHears s c && nmk == cplNmk s c then
    let s := s.splcF (fun q => { q with out := [] })
    let same := (List.finRange 32).filter (fun d => dspMac s d == mac && dspCoup s d == c.val)
    match (same.filter (joined s) ++ same.filter (fun d => s.rdB R.dsp_LISTED [d.val])).head? with
    | some d => accept d s
    | none =>
      let j := s.rd R.cpl_JOIN [c.val]
      match same with
      | d :: _ => if j = 2 then accept d s else refuse c mac s
      | [] =>
        if j = 2 then
          match (List.finRange 32).find? (fun d => dstate s d == dEmpty && !s.rdB R.dsp_LISTED [d.val]) with
          | some d => accept d ((((s.wr R.dsp_MAC_LO [d.val] mac).wr R.dsp_MAC_HI [d.val] (mac / 2 ^ 32)).wr R.dsp_COUP
              [d.val] c.val).dspF d (fun e => { e with mapsAt := none }))
          | none => refuse c mac s
        else refuse c mac s
  else s

/-- ASSOC_REQUEST (R284). -/
def execAssocRequest (c : Fin 4) (rq : AssocReq) (s : State) : Host.Outcome State Fault Refusal :=
  .next (assoc c rq.mac rq.nmk s)

/-! ## Messages (R287-R289, R293) -/

/-- A dispenser that shows out of service acts on no button and no card (R286). -/
def oosDrops (s : State) (d : Fin 32) (typ : Nat) : Bool := s.splc.dsp[d].oos && (typ == 0x10 || typ == 0x11)

/-- SPLC_RX_MESSAGE: a new message of types 0x10-0x1F is queued and acknowledged if it fits, and not acknowledged if it does
not; a repeat is acknowledged and discarded (R286-R289). -/
def splcRx (d : Fin 32) (typ seq : Nat) (body : List Byte) (s : State) : State :=
  let s := s.splcF (fun q => { q with out := [] })
  if cplHears s (dspCpl s d) && joined s d && !oosDrops s d typ && decide (0x10 ≤ typ ∧ typ ≤ 0x1F ∧ body.length ≤ 1024) then
    let b := leBytes 1 typ ++ leBytes 1 seq ++ leBytes 2 body.length ++ body
    if seq % 256 = s.rd R.dsp_EVT_SEQ [d.val] then cplSend (dspCpl s d) (.ack d.val (seq % 256)) s
    else if 64 ≤ s.splc.rx.length ∨ 16384 < rxBytes s.splc + b.length then s
    else
      let s := cplSend (dspCpl s d) (.ack d.val (seq % 256)) s
      splcShow (((s.splcF (fun q => { q with rx := q.rx ++ [(d.val, b)] })).wr R.dsp_EVT_SEQ [d.val] seq).raise 224 3)
  else s

/-- SPLC_RX_MESSAGE (R288). -/
def execSplcRxMessage (d : Fin 32) (typ seq : Nat) (body : List Byte) (s : State) : Host.Outcome State Fault Refusal :=
  .next (splcRx d typ seq body s)

/-- A queued message of an entry has been sent once more, at its priority: delivered, or discarded after 8 transmissions
(R289). -/
def sentOnce (d : Fin 32) (done : Bool) (s : State) : State :=
  match s.splc.tx.find? (fun m => m.dest == d.val) with
  | none => s
  | some m =>
    let s := cplSend (dspCpl s d) (.msg d.val m.prio m.data) (s.splcF (fun q => { q with out := [] }))
    if done then txPut (s.splc.tx.erase m) s
    else if 7 ≤ m.sent then (txPut (s.splc.tx.erase m) s).setErr 224 0x0104
    else s.splcF (fun q => { q with tx := q.tx.map (fun x => if x = m then { x with sent := x.sent + 1 } else x) })

/-- FRAME_EXCHANGE_DONE (R293): whether an acknowledgement came, PBs and those named bad, PBs resent, bursts blanked,
and whether it carried the entry's queued message. A coupling without its rail sends neither a frame nor an acknowledgement:
its receiver blanks bursts, and no exchange comes about (R278). -/
def exchange (d : Fin 32) (acked : Bool) (total bad resent blanked : Nat) (queued : Bool) (s : State) : State :=
  if cplHears s (dspCpl s d) = true ∧ joined s d = true then
    let c := dspCoup s d
    let s := s.wr R.cpl_IMP_BLANK [c] (min 65535 (s.rd R.cpl_IMP_BLANK [c] + blanked))
    if !cplOn s (dspCpl s d) then s else
    let s := s.wr R.dsp_PB_RETX [d.val] (min 65535 (s.rd R.dsp_PB_RETX [d.val] + resent))
    let s := if acked then s.dspF d (fun e => { e with acked := true }) else s
    let s := if queued then sentOnce d (acked && bad == 0) s else s
    let s := if !acked || decide (total < 2 * bad) then
        let s := (s.satInc R.dsp_FRM_FAIL [d.val]).satInc R.dsp_FAILRUN [d.val]
        if s.rd R.dsp_FAILRUN [d.val] = 3 then (toRobo d s).raise 224 5 else s
      else s.wr R.dsp_FAILRUN [d.val] 0
    splcShow s
  else s

/-- FRAME_EXCHANGE_DONE (R293). -/
def execFrameExchangeDone (d : Fin 32) (acked : Bool) (total bad resent blanked : Nat) (queued : Bool) (s : State) :
    Host.Outcome State Fault Refusal := .next (exchange d acked total bad resent blanked queued s)

/-- Types Envelope may send (R287). -/
def txTypeOk (t : Nat) : Bool := t == 0x01 || t == 0x02 || (decide (0x04 ≤ t) && decide (t ≤ 0x0F))

/-- TX_GO: the staged message is queued under the entry's next number, or refused (R287-R289). -/
def splcTxGo (s : State) : State :=
  let n := s.rd R.splc_TX_LEN []
  let b := memBytes s.splc.stage 0 n
  if n < 4 ∨ 1028 < n ∨ txTypeOk (b.getD 0 0).toNat = false then s.setErr 224 0x0102
  else
    foldS ((List.finRange 32).filter (fun d => d.val == s.rd R.splc_TX_DEST [])) (fun s d =>
      if joined s d = false then s.setErr 224 0x0100
      else if 32 ≤ s.splc.tx.length ∨ 16384 < txBytes s.splc + n then s.setErr 224 0x0101
      else
        let q := s.splc.dsp[d].seqOut
        let m : SplcTx := { dest := d.val, prio := s.rd R.splc_TX_PRIO [], data := b.set 1 (BitVec.ofNat 8 q), sent := 0 }
        splcShow ((s.splcF (fun x => { x with tx := x.tx ++ [m] })).dspF d (fun e => { e with seqOut := (q + 1) % 256 }))) s

/-- SPLC_TX_GO (R289). -/
def execSplcTxGo (w : World) (s : State) : Host.Outcome State Fault Refusal := .next (s.asWriter w 226 splcTxGo)

/-- SPLC_RX_POP (R299). -/
def execSplcRxPop (w : World) (s : State) : Host.Outcome State Fault Refusal :=
  .next (s.asWriter w 226 (fun s => splcShow (s.splcF (fun q => { q with rx := q.rx.drop 1 }))))

/-- DISPENSER_BEACON_LOSS: a dispenser that has heard no beacon for 10 beacon periods shows out of service (R286). -/
def execDispenserBeaconLoss (d : Fin 32) (s : State) : Host.Outcome State Fault Refusal :=
  .next (s.dspF d (fun e => { e with oos := true }))

/-! ## Windows, pair, reset -/

/-- A word of the message window (R299). -/
def splcWinRead (s : State) (k : Nat) : Nat :=
  if s.rdB R.splc_WSEL [] then leNat (memBytes s.splc.stage (4 * k) 4)
  else match s.splc.rx with | (_, b) :: _ => leNat ((b.drop (4 * k)).take 4) | [] => 0

/-- A write of a word of the message window. -/
def splcWinWrite (k v : Nat) (s : State) : State :=
  if s.rdB R.splc_WSEL [] then s.splcF (fun q => { q with stage := memWrite q.stage (4 * k) (leBytes 4 v) }) else s

/-- A word of the tone-map window: a map record or a carrier mask (R292, R299). VALID reads 1 while the map is in use: an
entry that is not ATTACHED uses STD-ROBO (R293). -/
def tmWinRead (s : State) (k : Nat) : Nat :=
  let e := s.rd R.splc_TM_ENTRY []
  if s.rdB R.splc_MASK [] then trunc 32 ((s.splc.cpl.toList.getD (e % 4) ⟨none, none, 0⟩).mask.toNat / 2 ^ (32 * k))
  else
    let maps := (s.splc.dsp.toList.getD e DspS.reset).maps
    let v := leNat (((maps.getD (4 * s.rd R.splc_TM_DIR [] + s.rd R.splc_TM_MAP []) []).drop (4 * k)).take 4)
    if k = 0 ∧ s.rd R.dsp_DSTATE [e] ≠ dAttached then v % 2 ^ 16 else v

/-- A mask with its bits 32k and up replaced by a word. -/
def maskWord (k v : Nat) (m : BitVec 920) : BitVec 920 :=
  let w : BitVec 920 := BitVec.ofNat 920 (2 ^ 32 - 1) <<< (32 * k)
  (m &&& ~~~w) ||| (BitVec.ofNat 920 (v % 2 ^ 32) <<< (32 * k))

/-- A write of the tone-map window in mask view: bytes 0-114 (R292). -/
def tmWinWrite (k v : Nat) (s : State) : State :=
  if s.rdB R.splc_MASK [] ∧ 4 * k < 115 then
    foldS ((List.finRange 4).filter (fun c => c.val == s.rd R.splc_TM_ENTRY [] % 4)) (fun s c =>
      s.cplF c (fun q => { q with mask := maskWord k v q.mask })) s
  else s

/-- The module that becomes active takes every ATTACHED entry into ROBO (R294); the beacon period it takes over in does not
count (R285). -/
def splcTakeover (s : State) : State :=
  foldS (List.finRange 32) (fun s d =>
    let s := s.dspF d (fun e => { e with unacked := 0, acked := true })
    if dstate s d = dAttached then toRobo d s else s) s

/-- EN cleared: every coupling is OFF (R31, R297). -/
def splcOff (s : State) : State := foldS (List.finRange 4) (fun s c => s.wr R.cpl_BSTATE [c.val] 0) s

/-- A reset of SPLC empties queues and tone maps (R295); at levels 0 and 1 the dispenser table and the masks too. A
dispenser that shows out of service does so until it joins again (R286). -/
def splcReset (all : Bool) (s : State) : State :=
  if all then { s with splc := { SplcS.reset with dsp := s.splc.dsp.map (fun e => { DspS.reset with oos := e.oos }) } }
  else splcShow (s.splcF (fun q => { q with
    rx := [], tx := [], stage := [], out := [], cpl := q.cpl.map (fun c => ⟨none, none, c.mask⟩)
    dsp := q.dsp.map (fun e => { e with maps := [], due := false, unacked := 0, acked := false }) }))

end Sys2Proof.Machine
end

