-- ==== Sys2Proof/Machine/Thermal.lean ====
section
/-! DEFINITION. Cable and module thermal management: conversions, cross-checks, trips, cooling loops, module sensors
(13_cable_and_device_thermal.md). The thermal shutdown's reset is in Reset.lean. -/

namespace Sys2Proof.Machine

open Sys2Proof

/-- A change of thermal state. -/
def State.thF (s : State) (f : ThrmS → ThrmS) : State := { s with thrm := f s.thrm }

/-- The input is converted: KIND 1-3 (R380). -/
def tinOn (s : State) (i : Nat) : Bool := let k := s.rd R.tin_KIND [i]; 1 ≤ k && k ≤ 3

/-- TEMP of an input, 1/16 °C. -/
def tinTemp (s : State) (i : Nat) : Int := s.rdI R.tin_TEMP [i]

/-- The inputs are converted by this module: EN = 1 on the active module (R395, R396). -/
def thrmRuns (s : State) : Bool := s.runs 320 && s.active

/-! ## The schedule (R382) -/

/-- The next of a list of inputs in ascending order after position `last` (0-7), in turn. -/
def nextIn (l : List Nat) (last : Nat) : Option Nat :=
  (l.find? (fun k => decide (last < k))).orElse (fun _ => l.head?)

/-- The input a converter takes in a slot, and its rotations after it (R382). -/
def chooseInput (s : State) (c : Fin 18) (odd : Bool) (v : ConvS) : ConvS :=
  let on := (List.range 8).filter (fun k => tinOn s (8 * c.val + k))
  let fast := on.filter (fun k => s.rdB R.tin_FAST [8 * c.val + k])
  if odd || fast.isEmpty then
    match nextIn on v.odd with
    | some k => { v with slot := some (8 * c.val + k), odd := k }
    | none => { v with slot := none }
  else
    match nextIn fast v.fast with
    | some k => { v with slot := some (8 * c.val + k), fast := k }
    | none => { v with slot := none }

/-! ## Conversion (R381) -/

/-- 2^128 times the inverse hyperbolic tangent of a / b, for 0 ≤ a / b ≤ 1/3, by its series. -/
def atanhQ (a b : Nat) : Nat :=
  let z := a * 2 ^ 128 / b
  ((List.range 48).foldl (fun (x : Nat × Nat) k => (x.1 + x.2 / (2 * k + 1), x.2 * z / 2 ^ 128 * z / 2 ^ 128)) (0, z)).1

/-- 2^128 times the logarithm of 2, and of a / b: a power of two times a number from 1 to 2. Its error is below 2^-120. -/
def ln2Q : Nat := 2 * atanhQ 1 3
def lnQ (a b : Nat) : Int :=
  let e : Int := (Nat.log2 (a * 2 ^ 64 / b) : Int) - 64
  let y := if 0 ≤ e then a * 2 ^ 128 / (b * 2 ^ e.toNat) else a * 2 ^ (128 + e.natAbs) / b
  e * ln2Q + 2 * atanhQ (y - 2 ^ 128) (y + 2 ^ 128)

/-- An absolute temperature of num / den kelvin in 1/16 °C, rounded half up (R4): 16 (T - 273.15). -/
def ofKelvin (num den : Int) : Int := (160 * num - 43699 * den) / (10 * den)

/-- KIND 1: 1/T = 1/298.15 + ln(R / P1) / (P2 / 100), R in mΩ and P1 in Ω; open where that is not above zero. -/
def ntcTemp (p1 p2 raw : Nat) : Int :=
  let den := 20 * (p2 : Int) * 2 ^ 128 + 596300 * lnQ raw (1000 * p1)
  if p2 = 0 ∨ raw = 0 ∨ den ≤ 0 then Config.ntcOpen p1 p2 raw else ofKelvin (5963 * (p2 : Int) * 2 ^ 128) den

/-- The Callendar-Van Dusen ratio R(t) / R0 of IEC 60751 at t = m / 32 °C, times 10^15 × 32^4: A = 3.9083 × 10^-3,
B = -5.775 × 10^-7, and below 0 °C C = -4.183 × 10^-12. -/
def ptRatio (m : Int) : Int :=
  10 ^ 15 * 32 ^ 4 + 3908300000000 * m * 32 ^ 3 - 577500000 * m ^ 2 * 32 ^ 2 - (if m < 0 then 4183 * (m - 3200) * m ^ 3 else 0)

/-- KIND 2: the temperature in 1/16 °C whose rounding interval holds the reading, found by halving from -273 °C up. -/
def ptTemp (p1 raw : Nat) : Int :=
  (List.range 16).foldl (fun (n : Int) k =>
    let n' := n + 2 ^ (15 - k)
    if n' ≤ 32767 ∧ (p1 : Int) * ptRatio (2 * n' - 1) ≤ raw * 10 ^ 15 * 32 ^ 4 then n' else n) (-4368)

/-- KIND 3: T = q × ΔV / (η × k × ln 16), ΔV in µV and η in Q2.29; q / k with the constants of the SI. -/
def diodeTemp (p1 raw : Nat) : Int :=
  ofKelvin (16021766340 * (raw : Int) * 2 ^ 29 * 2 ^ 128) (1380649 * 10 ^ 6 * (p1 : Int) * (4 * ln2Q))

/-- A reading in mΩ or µV as a temperature in 1/16 °C (R381). OFS, in 1/16 °C, added after this rounding gives what it gives
before it. -/
def readTemp (kind p1 p2 raw : Nat) : Int :=
  if kind = 1 then ntcTemp p1 p2 raw else if kind = 2 then ptTemp p1 raw else diodeTemp p1 raw

/-! ## A reading (R380, R381, R383-R386) -/

/-- OPEN and SHORT of a raw reading in mΩ or µV; `over` is 1.2 V at 160 µA for KIND 3 (R380). -/
def readOpen (kind raw : Nat) (above : Bool) : Bool :=
  if kind = 1 then decide (2000000000 < raw) else if kind = 2 then decide (5000000 < raw)
  else decide (120000 < raw) || above
def readShort (kind raw : Nat) : Bool :=
  if kind = 1 then decide (raw < 100000) else if kind = 2 then decide (raw < 10000) else decide (raw < 40000)

/-- PIN_LOST follows VALID of the pin sensors (R388). -/
def showPins (s : State) : State :=
  s.wr R.thrm_PIN_LOST []
    ((List.range 32).foldl (fun a p =>
      if s.rdB R.tin_VALID [4 * p] != s.rdB R.tin_VALID [4 * p + 1] then a + 2 ^ p else a) 0)

/-- A change of one input's own state. -/
def State.tiF (s : State) (i : Fin 144) (f : TinS → TinS) : State := s.thF (fun t => { t with tins := vupd t.tins i f })

/-- No reading: OPEN, SHORT, RANGE and RATE read 0. -/
def tinClean (i : Fin 144) (s : State) : State :=
  ((((s.wr R.tin_OPEN [i.val] 0).wr R.tin_SHORT [i.val] 0).wr R.tin_RANGE [i.val] 0).wr R.tin_RATE [i.val] 0).tiF i
    (fun x => { x with rej := [] })

/-- The input becomes or stays invalid (R383, R384). -/
def tinInvalid (i : Fin 144) (s : State) : State :=
  let s := if s.rdB R.tin_VALID [i.val] then s.raise 320 2 else s
  (s.wr R.tin_VALID [i.val] 0).wr R.tin_FAST [i.val] 0

/-- Inputs whose KIND now is 0 or acts as 0 read invalid (R380, R384). -/
def tinKinds (s : State) : State :=
  showPins (foldS ((List.finRange 144).filter (fun i => s.rdB R.tin_VALID [i.val] && !tinOn s i.val)) (fun s i => tinInvalid i (tinClean i s)) s)

/-- TRIP with ACT 1 or 2 sets PTRIP (R386, R387). -/
def ptripSet (i : Fin 144) (s : State) : State :=
  let act := s.rd R.tin_ACT [i.val]
  let ports := if act = 1 then (if i.val < 128 then [i.val / 4] else []) else if act = 2 then List.range 32 else []
  foldS ports (fun s p =>
    let s := if bitB (s.rd R.thrm_PTRIP []) p then s else (s.wrBit R.thrm_PTRIP [] p true).raise 320 1
    s.tiF i (fun x => { x with trips := setBit x.trips p true })) s

/-- FAST, WARN and TRIP of a valid reading (R383, R386). -/
def tinLimits (i : Fin 144) (t : Int) (s : State) : State :=
  let ix := [i.val]
  let near := s.rdI R.tin_WARN ix - s.rd R.tin_NEAR ix
  let hyst : Int := s.rd R.tin_HYST ix
  let s := if near ≤ t then s.wr R.tin_FAST ix 1 else if t < near - hyst then s.wr R.tin_FAST ix 0 else s
  let s :=
    if s.rdI R.tin_WARN ix ≤ t then (if s.rdB R.tin_WARN_F ix then s else (s.wr R.tin_WARN_F ix 1).raise 320 0)
    else if t < s.rdI R.tin_WARN ix - hyst then s.wr R.tin_WARN_F ix 0 else s
  let s :=
    if s.rdI R.tin_TRIP ix ≤ t then s.wr R.tin_TRIP_F ix 1
    else if t < s.rdI R.tin_TRIP ix - hyst then s.wr R.tin_TRIP_F ix 0 else s
  if s.rdB R.tin_TRIP_F ix then ptripSet i s else s

/-- SUSPECT of both inputs takes a value (R385, R401). -/
def setSuspect (i j : Nat) (b : Bool) (s : State) : State :=
  let ch := s.rdB R.tin_SUSPECT [i] != b || s.rdB R.tin_SUSPECT [j] != b
  let s := (s.wrB R.tin_SUSPECT [i] b).wrB R.tin_SUSPECT [j] b
  if ch then s.raise 320 3 else s

/-- A valid reading is compared with the neighbour's (R385). -/
def crossCheck (i : Fin 144) (t : Int) (s : State) : State :=
  let n := s.rd R.tin_NBR [i.val]
  if h : n < 144 then
    match s.thrm.tins[n].lastAt with
    | none => s
    | some k =>
      if s.rdB R.tin_VALID [n] && decide (s.spar.serial - k ≤ 64) then
        let need := max 1 (s.rd R.tin_XCNT [i.val])
        let out := decide (s.rd R.tin_XTOL [i.val] < (t - tinTemp s n).natAbs)
        let s := s.tiF i (fun x => { x with above := if out then x.above + 1 else 0, within := if out then 0 else x.within + 1 })
        let x := s.thrm.tins[i]
        if need ≤ x.above then setSuspect i.val n true s
        else if need ≤ x.within then setSuspect i.val n false s else s
      else s
  else s

/-- A reading is valid: it becomes TEMP (R382-R386). -/
def tinAccept (i : Fin 144) (t : Int) (s : State) : State :=
  let s := ((s.wrI R.tin_TEMP [i.val] t).wr R.tin_VALID [i.val] 1).tiF i (fun x => { x with ever := true, rej := [] })
  crossCheck i t (tinLimits i t s)

/-- Three readings agree with one another within `r` (R384). -/
def agree3 (l : List Int) (r : Nat) : Bool :=
  l.length == 3 && l.all (fun a => l.all (fun b => decide ((a - b).natAbs ≤ r)))

/-- A converted reading: RANGE, RATE, and a jump that three readings confirm (R384). -/
def tinReading (i : Fin 144) (t : Int) (s : State) : State :=
  let ix := [i.val]
  let range := decide (t < s.rdI R.thrm_TMIN []) || decide (s.rdI R.thrm_TMAX [] < t)
  let rm := s.rd R.tin_RATE_MAX ix
  let rate := s.thrm.tins[i].ever && decide (rm < (t - tinTemp s i.val).natAbs)
  let s := (s.wrB R.tin_RANGE ix range).wrB R.tin_RATE ix rate
  if range then tinInvalid i (s.tiF i (fun x => { x with rej := [] }))
  else if rate then
    let l := (t :: s.thrm.tins[i].rej).take 3
    if agree3 l rm then tinAccept i t ((s.wr R.tin_RATE ix 0).raise 320 2)
    else tinInvalid i (s.tiF i (fun x => { x with rej := l.take 2 }))
  else tinAccept i t s

/-- A slot's reading is posted (R380-R386). -/
def postReading (i : Fin 144) (raw : Nat) (above : Bool) (s : State) : State :=
  let ix := [i.val]
  let kind := s.rd R.tin_KIND ix
  if !tinOn s i.val then tinInvalid i (tinClean i s)
  else
    let s := (s.wr R.tin_MEAS ix raw).tiF i (fun x => { x with lastAt := some s.spar.serial })
    let o := readOpen kind raw above
    let c := readShort kind raw
    let s := (s.wrB R.tin_OPEN ix o).wrB R.tin_SHORT ix c
    let t := ((s.wr R.tin_RANGE ix 0).wr R.tin_RATE ix 0).tiF i (fun x => { x with rej := [] })
    if s.rd R.tin_P1 ix = 0 then tinInvalid i (t.setErr 320 0x0101)
    else if o || c then tinInvalid i t
    else tinReading i (readTemp kind (s.rd R.tin_P1 ix) (s.rd R.tin_P2 ix) raw + s.rdI R.tin_OFS ix) s

/-- The readings of a slot, one converter at a time. -/
def postSlot (raw : List (Nat × Bool)) (c : Fin 18) (old : Option Nat) (s : State) : State :=
  match old with
  | some i => if h : i < 144 then
      let r := raw.getD c.val (0, false)
      postReading ⟨i, h⟩ r.1 r.2 s
    else s
  | none => s

/-- CONVERSION_SLOT: the slot ends; every converter chooses its next input from the flags as they stand and posts its
reading (R382). -/
def conversionSlot (raw : List (Nat × Bool)) (s : State) : State :=
  let odd := s.spar.period / 4 % 2 == 1
  let old := s.thrm.convs
  let s' := s.thF (fun t => { t with slotDue := false, convs := Vector.ofFn (fun c => chooseInput s c odd old[c]) })
  showPins (foldS (List.finRange 18) (fun s c => postSlot raw c old[c].slot s) s')

/-- CONVERSION_SLOT: raw readings by converter, mΩ or µV, with the 1.2 V flag of KIND 3 (R380, R382). -/
def execConversionSlot (raw : List (Nat × Bool)) (s : State) : Host.Outcome State Fault Refusal :=
  if s.thrm.slotDue && thrmRuns s && !s.reduced then .next (conversionSlot raw s) else .next s

/-- No cooling loop has an output (R390, R395, R396). -/
def coolNone (s : State) : State :=
  foldS (List.range 8) (fun s n => ((s.wr R.cool_REFUSED [n] 0).wr R.cool_NOSRC [n] 0).wr R.cool_DUTY [n] 0) s

/-- A loop is refused: its channel discharges a port, or belongs to an enabled loop with a lower number (R390). -/
def coolRefused (s : State) (n : Nat) : Bool :=
  let ch := s.rd R.cool_CH [n]
  (List.range 32).any (fun p => s.rdB R.port_DISCH_EN [p] && s.rd R.port_DISCH_CH [p] == ch) ||
    (List.range n).any (fun k => s.rdB R.cool_EN [k] && s.rd R.cool_CH [k] == ch)

/-- REFUSED, ERRCODE 0x0100 and no output follow the loops and channels as they stand (R390). -/
def coolShow (s : State) : State :=
  foldS (List.range 8) (fun s n =>
    let r := thrmRuns s && s.rdB R.cool_EN [n] && coolRefused s n
    if s.rdB R.cool_REFUSED [n] = r then s
    else if r then ((s.setErr 320 0x0100).wr R.cool_REFUSED [n] 1).wr R.cool_DUTY [n] 0
    else s.wr R.cool_REFUSED [n] 0) s

/-- A module that becomes active starts converting at its next slot, from the mirrored values (R395). -/
def thrmTakeover (s : State) : State :=
  coolShow (s.thF (fun t => { t with
    slotDue := false, convs := Vector.replicate 18 ⟨none, 7, 7⟩
    tins := Vector.ofFn (fun i => { t.tins[i] with
      ever := t.tins[i].ever || s.rdB R.tin_VALID [i.val], rej := [], lastAt := none, above := 0, within := 0 }) }))

/-- EN of THRM cleared or the block reset: every input reads invalid and no cooling loop has an output (R396). -/
def thrmOff (s : State) : State :=
  let s := foldS (List.finRange 144) (fun s i => ((s.wr R.tin_VALID [i.val] 0).wr R.tin_FAST [i.val] 0)) s
  let s := coolNone s
  showPins (s.thF (fun t => { t with slotDue := false, convs := Vector.replicate 18 ⟨none, 7, 7⟩ }))

/-- An input that set a port's PTRIP still has TRIP set (R387). -/
def tripHeld (s : State) (p : Nat) : Bool :=
  (List.finRange 144).any (fun i => bitB s.thrm.tins[i].trips p && s.rdB R.tin_TRIP_F [i.val])

/-- PTRIP_CLEAR: bits whose inputs have lost TRIP clear (R387). -/
def ptripClear (v : Nat) (s : State) : State :=
  foldS (List.range 32) (fun s p =>
    if bitB v p && !tripHeld s p then
      (s.wrBit R.thrm_PTRIP [] p false).thF (fun t => { t with tins := t.tins.map (fun x => { x with trips := setBit x.trips p false }) })
    else s) s

/-- PTRIP_CLEAR (R387). -/
def execPtripClear (w : World) (v : Word) (s : State) : Host.Outcome State Fault Refusal :=
  .next (s.asWriter w 320 (ptripClear v.toNat))

/-! ## Cooling loops (R389, R390) -/

/-- The temperatures a loop selects from (R389). -/
def coolSel (s : State) (n : Nat) : List Int :=
  let valid := fun (l : List Nat) => (l.filter (fun i => s.rdB R.tin_VALID [i])).map (tinTemp s)
  match s.rd R.cool_SEL [n] with
  | 1 => valid (((List.range 16).filter (bitB (s.rd R.cool_GEN_MASK [n]))).map (128 + ·))
  | 2 => (List.range 4).filterMap (fun k =>
      if bitB (s.rd R.thrm_TD_VALID []) k then
        some ([s.rdI R.thrm_TD0 [], s.rdI R.thrm_TD1 [], s.rdI R.thrm_TD2 [], s.rdI R.thrm_TD3 []].getD k 0)
      else none)
  | _ => valid (((List.range 32).filter (bitB (s.rd R.cool_PORT_MASK [n]))).map (4 * · + 3))

/-- COOLING_LOOP: one loop at a cycle start (R389, R390). -/
def coolLoop (n : Fin 8) (s : State) : State :=
  let ix := [n.val]
  if !s.rdB R.cool_EN ix then
    (((s.wr R.cool_REFUSED ix 0).wr R.cool_NOSRC ix 0).wr R.cool_DUTY ix 0).thF (fun t => { t with coolX := t.coolX.set n 0 })
  else if coolRefused s n.val then
    let s := if s.rdB R.cool_REFUSED ix then s else s.setErr 320 0x0100
    (s.wr R.cool_REFUSED ix 1).wr R.cool_DUTY ix 0
  else
    let s := s.wr R.cool_REFUSED ix 0
    match coolSel s n.val with
    | [] =>
      let s := if s.rdB R.cool_NOSRC ix then s else s.raise 320 7
      (s.wr R.cool_NOSRC ix 1).wr R.cool_DUTY ix (s.rd R.cool_FAIL_DUTY ix)
    | t :: l =>
      let tin := l.foldl max t
      let set := s.rdI R.cool_SET ix
      let e := if s.rdB R.cool_DIR ix then set - tin else tin - set
      let dmax : Int := s.rd R.cool_DMAX ix
      let x := clampI 0 (16 * dmax) (s.thrm.coolX[n] + s.rd R.cool_KI ix * e)
      let duty := clampI (s.rd R.cool_DMIN ix) dmax (rhu (s.rd R.cool_KP ix * e + x) 16)
      let s := ((s.wrI R.cool_TIN ix tin).wr R.cool_NOSRC ix 0).wr R.cool_DUTY ix duty.toNat
      s.thF (fun t => { t with coolX := t.coolX.set n x })

/-- The cooling loops of the active module at angle 0x0000 (R389, R395, R396). -/
def coolLoops (s : State) : State :=
  if thrmRuns s then foldS (List.finRange 8) (fun s n => coolLoop n s) s else coolNone s

/-- The duty a cooling loop gives a load switch channel, 0.1 % (R390, R404). -/
def coolDuty (s : State) (ch : Nat) : Option Nat :=
  if thrmRuns s then
    ((List.range 8).find? (fun n => s.rdB R.cool_EN [n] && s.rd R.cool_CH [n] == ch && !coolRefused s n)).map
      (fun n => s.rd R.cool_DUTY [n])
  else none

/-! ## Module sensors (R391-R394) -/

/-- The band of the coldest and hottest sensor, with limits lowered by `h` (R391). -/
def bandOf (lo hi h : Int) : Nat :=
  if 1680 - h ≤ hi then 3 else if 1360 - h ≤ hi then 2 else if lo < -160 - h then 0 else 1

/-- A rise takes effect at once, a fall 3 °C inside the lower band (R391). -/
def bandNext (band : Nat) (lo hi : Int) : Nat :=
  if band < bandOf lo hi 0 then bandOf lo hi 0 else if bandOf lo hi 48 < band then bandOf lo hi 48 else band

/-- DRAM refresh interval, ns, and MRAM write pulse, ns (R391, R392). -/
def refreshNs (s : State) : Nat :=
  if s.rdB R.thrm_BAND_FAIL [] then 975 else match s.rd R.thrm_BAND [] with | 2 => 1950 | 3 => 975 | _ => 3900
def mramNs (s : State) : Nat := if s.rdB R.thrm_BAND_FAIL [] || s.rd R.thrm_BAND [] == 0 then 80 else 60

/-- Shutdown limit of a sensor (R394). -/
def sdLimit (s : State) (k : Nat) : Int := if k = 0 then min 1440 (s.rdI R.thrm_TSD_PLATE []) else 2000

/-- SD_PEND is set, and Bremus acts on it as on hold-up (R394). -/
def sdPend (s : State) : State :=
  if s.rdB R.thrm_SD_PEND [] then s else billHoldup (((s.wr R.thrm_SD_PEND [] 1).raise 320 6).thF (fun t => { t with sdAt := s.now }))

/-- The Envelope cores run at 1/n of their rate (R393). -/
def envelopeRate (s : State) : Nat := 2 ^ s.rd R.thrm_THR_LVL []

/-- THR_LVL takes a value (R393). -/
def setThrottle (v : Nat) (s : State) : State :=
  if s.rd R.thrm_THR_LVL [] = v then s
  else ((s.wr R.thrm_THR_LVL [] v).raise 320 5).thF (fun t => { t with thrAt := some s.now })

/-- MODULE_TEMP_CONVERSION: TD0-TD3 at a port loop tick, none where invalid (R391, R393, R394). -/
def moduleTemps (td : List (Option Int)) (s : State) : State :=
  let t := fun (k : Nat) => td.getD k none
  let put := fun (r : Row) (k : Nat) (s : State) => match t k with | some v => s.wrI r [] v | none => s
  let s := put R.thrm_TD3 3 (put R.thrm_TD2 2 (put R.thrm_TD1 1 (put R.thrm_TD0 0 s)))
  let s := s.wr R.thrm_TD_VALID []
    (b2n (t 0).isSome + 2 * b2n (t 1).isSome + 4 * b2n (t 2).isSome + 8 * b2n (t 3).isSome)
  let vs := (List.range 4).filterMap t
  let band := match vs with
    | [] => s.rd R.thrm_BAND []
    | v :: l => bandNext (s.rd R.thrm_BAND []) (l.foldl min v) (l.foldl max v)
  let fail := decide (vs.length < 4)
  let ch := decide (band ≠ s.rd R.thrm_BAND []) || fail != s.rdB R.thrm_BAND_FAIL []
  let s := (s.wr R.thrm_BAND [] band).wrB R.thrm_BAND_FAIL [] fail
  let s := if ch then s.raise 320 4 else s
  let s := if (t 1).isNone then setThrottle 3 s else s
  if (List.range 4).any (fun k => match t k with | some v => decide (sdLimit s k ≤ v) | none => false) then sdPend s else s

/-- THROTTLE_STEP: THR_LVL moves by one, at most every 100 ms (R393). -/
def throttleStep (s : State) : State :=
  let ok := match s.thrm.thrAt with | some n => decide (20000000 ≤ s.now - n) | none => true
  let td := s.rdI R.thrm_TD1 []
  let lvl := s.rd R.thrm_THR_LVL []
  if !bitB (s.rd R.thrm_TD_VALID []) 1 || !ok || s.inReset 16 then s
  else if s.rdI R.thrm_THR_ON [] ≤ td then (if lvl < 3 then setThrottle (lvl + 1) s else s)
  else if td < s.rdI R.thrm_THR_ON [] - s.rd R.thrm_THR_HYST [] then (if 0 < lvl then setThrottle (lvl - 1) s else s)
  else s

/-- THROTTLE_STEP (R393). -/
def execThrottleStep (s : State) : Host.Outcome State Fault Refusal := .next (throttleStep s)

end Sys2Proof.Machine
end

