-- ==== Sys2Proof/Machine/Lsw.lean ====
section
/-! DEFINITION. Load switch channels: who drives them, generators, protection, the field rail, the keeper latch
(14_load_switch_channels.md). Loss and return of the field rail also act on the safety island (Safe.lean). -/

namespace Sys2Proof.Machine

open Sys2Proof

/-- A change of load switch state, and of one channel. -/
def State.lsF (s : State) (f : LswS → LswS) : State := { s with lsw := f s.lsw }
def State.lcF (s : State) (n : Fin 32) (f : LchS → LchS) : State := s.lsF (fun l => { l with ch := vupd l.ch n f })

/-- One channel. -/
def State.lc (s : State) (n : Fin 32) : LchS := s.lsw.ch[n]

/-- The output of a channel is on. -/
def lchOn (s : State) (n : Fin 32) : Bool := s.rdB R.lch_OUT [n.val]

/-- LSW works from its registers: out of reset, and EN has been set since (R404). -/
def lswLive (s : State) : Bool := s.lsw.ran && !s.inReset 17

/-- The channel is the discharge channel of a port (R241): the lowest such port. -/
def dischPort (s : State) (n : Nat) : Option Nat :=
  (List.range 32).find? (fun p => s.rdB R.port_DISCH_EN [p] && s.rd R.port_DISCH_CH [p] == n)

/-- LIMP_SEL in force (R404, R405): from the keeper while the logic is in reset, ignored for a discharge channel. -/
def limpSel (s : State) (n : Fin 32) : Bool :=
  (if lswLive s then s.rdB R.lch_LIMP_SEL [n.val] else (s.lc n).keepSel) && (dischPort s n.val).isNone

/-- The module is the standby of a pair, or waits to be one (R463, R482): its channels are held off (R416; log entry 218). -/
def pairStandby (s : State) : Bool := s.rd R.teth_TSTATE [] == 1 || s.rd R.teth_TSTATE [] == 2

/-- A trip of the channel is latched (R404). -/
def tripped (s : State) (n : Fin 32) : Bool :=
  s.rdB R.lch_TRIP_I [n.val] || s.rdB R.lch_TRIP_DT [n.val] || s.rdB R.lsw_CASE_TRIP []

/-- CH_SRC: the first row of R404 that applies. -/
def chSrc (s : State) (n : Fin 32) : Nat :=
  if tripped s n then 7
  else if s.rdB R.lsw_LIMP_EN_IN [] && limpSel s n then 4
  else if !lswLive s then (if (s.lc n).holdRun then 5 else 6)
  else if (dischPort s n.val).isSome then 3
  else if (coolDuty s n.val).isSome then 2
  else if s.rd R.lch_MODE [n.val] = 2 then 1
  else 0

/-- The output a row asks for (R404); on a module that is not active only the limp pin drives a channel (R416). -/
def chWant (s : State) (n : Fin 32) : Bool :=
  if s.lsw.railOff then false
  else
    match chSrc s n with
    | 7 => false
    | 4 => bitB s.lsw.limp n.val
    | 5 => !pairStandby s && (s.lc n).keepOut
    | 6 => !pairStandby s && (s.lc n).keepDef
    | 3 => s.active && (match dischPort s n.val with | some p => s.rdB R.port_DISCH_ON [p] | none => false)
    | 0 => s.active && s.rd R.lch_MODE [n.val] == 1
    | _ => s.active && ((s.lc n).genFull || decide (s.now < (s.lc n).genOff))

/-- The keeper holds a generator's channel on when its DUTY is above 0 (R414). -/
def keepWant (s : State) (n : Fin 32) : Bool :=
  if s.lsw.railOff then false
  else match chSrc s n with
  | 2 => decide (0 < (coolDuty s n.val).getD 0) && s.active
  | 1 => decide (0 < s.rd R.lch_DUTY [n.val]) && s.active
  | _ => chWant s n

/-- A turn-on starts a blanking window: after 100 ms off, after a retry or a return (`force`), or at each turn-on by the
generator with BLK_EACH (R408, R410, R413, R416). -/
def startsWindow (s : State) (n : Fin 32) (force : Bool) : Bool :=
  let gen := chSrc s n == 1 || chSrc s n == 2
  let long := match (s.lc n).offAt with | some t => decide (20000000 ≤ s.now - t) | none => true
  (force || long || (gen && s.rdB R.lch_BLK_EACH [n.val])) && decide (0 < s.rd R.lch_BLK [n.val])

/-- DT_LIM of a channel, 10-100 K (R402). -/
def dtLim (s : State) (n : Fin 32) : Int := (max 10 (min 100 (s.rd R.lch_DT_LIM [n.val])) : Nat)

/-- BLK of a channel in clocks, at most 500 ms (R408). -/
def blkClocks (s : State) (n : Fin 32) : Nat := min 500 (s.rd R.lch_BLK [n.val]) * 200000

/-- The channel's output turns on or off (R408). A turn-on that starts no window leaves one that runs as it is, and so does a
turn-off: a window lasts BLK ms. -/
def setOut (n : Fin 32) (on force : Bool) (s : State) : State :=
  if lchOn s n = on then s
  else if on then
    let s := if startsWindow s n force then
        (s.wr R.lch_INRUSH [n.val] 1).lcF n (fun c => { c with ext := false, winEnd := s.now + blkClocks s n })
      else s
    (s.wr R.lch_OUT [n.val] 1).lcF n (fun c => { c with onAt := some s.now })
  else
    ((s.wr R.lch_OUT [n.val] 0).wr R.lch_LIMIT [n.val] 0).lcF n
      (fun c => { c with offAt := some s.now, onAt := none, limAt := none, dtAt := none, lowAt := none })

/-- The channel passes to its row, and its keeper follows while LSW is in service, with the LIMP_SEL that is in force
(R404, R405, R414). -/
def lchEval (force : Bool) (n : Fin 32) (s : State) : State :=
  let s := s.wr R.lch_CH_SRC [n.val] (chSrc s n)
  let s := setOut n (chWant s n) force s
  if lswLive s then
    s.lcF n (fun c => { c with
      keepOut := keepWant s n, keepHold := min 200 (s.rd R.lch_HOLD [n.val])
      keepDef := s.rdB R.lch_LIMP_DEF [n.val], keepSel := limpSel s n, holdRun := false })
  else s

/-- Every channel passes to its row. -/
def lchEvals (force : Bool) (s : State) : State := foldS (List.finRange 32) (fun s n => lchEval force n s) s

/-! ## Limits (R403) -/

/-- ILIM and ILIM_INR as they are taken. -/
def ilim (s : State) (n : Nat) : Nat := max 250 (min 12000 (s.rd R.lch_ILIM [n]))
def ilimInr (s : State) (n : Nat) : Nat := max (ilim s n) (min 20000 (s.rd R.lch_ILIM_INR [n]))

/-- The current limit in force (R408). -/
def limitNow (s : State) (n : Nat) : Nat := if s.rdB R.lch_INRUSH [n] then ilimInr s n else ilim s n

/-- The limits taken of a written word: each at the nearest end of its range (R403). -/
def limitsTaken (v : Nat) : Nat :=
  let l := max 250 (min 12000 (v % 65536))
  l + 65536 * max l (min 20000 (v / 65536 % 65536))

/-- A written limit lies outside its range (R403). -/
def limitsBad (v : Nat) : Bool := limitsTaken v != v % 2 ^ 32

/-! ## Generators (R406, R407) -/

/-- `n` thousandths of a control period in clocks. -/
def milliPeriods (s : State) (n : Nat) : Nat :=
  if s.spar.inc = 0 then n * s.spar.clocks / 1000 else n * 2 ^ 48 / (800000 * s.spar.inc)

/-- The duty of the generator of a channel: the cooling loop's, else the register's (R407). -/
def genDuty (s : State) (n : Nat) : Nat := (coolDuty s n).getD (s.rd R.lch_DUTY [n])

/-- An off-phase of the generator that began and ended within the period that has passed: the output was off from the end of
its on-time until now (R406, R408). -/
def genGap (n : Fin 32) (s : State) : State :=
  let src := s.rd R.lch_CH_SRC [n.val]
  let c := s.lc n
  if (src = 1 ∨ src = 2) ∧ lchOn s n = true ∧ c.genFull = false ∧ c.genOff < s.now then
    (setOut n false false s).lcF n (fun x => { x with offAt := some c.genOff })
  else s

/-- GENERATOR_CYCLE: at a period start that meets R406 a cycle starts with its on-time; with DUTY >= 1,000 the output stays
on. -/
def genCycle (n : Fin 32) (s : State) : State :=
  let per := max 2 (s.rd R.lch_PER [n.val])
  if (s.lsw.count + per - s.rd R.lch_PHS [n.val] % per) % per = 0 then
    let d := genDuty s n.val
    (genGap n s).lcF n (fun c => { c with
      genOff := s.now + milliPeriods s (min 1000 d * per), genFull := decide (1000 ≤ d) })
  else s

/-- The count of control periods advances, or begins at the common origin (R406). -/
def genCount (s : State) : State :=
  s.lsF (fun l => { l with count := if l.origin then 0 else (l.count + 1) % 2 ^ 48, origin := false })

/-- SYNC (R406). -/
def execSync (w : World) (s : State) : Host.Outcome State Fault Refusal :=
  .next (s.asWriter w 328 (fun s => s.lsF (fun l => { l with origin := true })))

/-! ## What a control period does (R404, R406, R412, R413) -/

/-- A channel's currents, and since when it is at a limit or below OPEN_TH (R408, R411, R412). -/
def lchMeasure (n : Fin 32) (m : LchMeas) (s : State) : State :=
  let lim := lchOn s n && (m.limit || decide (limitNow s n.val ≤ m.mean))
  let s := ((s.wr R.lch_I_MEAS [n.val] m.mean).wrI R.lch_DT [n.val] m.dt).wrB R.lch_LIMIT [n.val] lim
  let s := if s.rd R.lch_I_PEAK [n.val] < m.peak then s.wr R.lch_I_PEAK [n.val] m.peak else s
  let out := lchOn s n && !s.rdB R.lch_INRUSH [n.val]
  let s := s.lcF n (fun c => { c with
    limAt := since s (out && lim) c.limAt
    dtAt := since s (lchOn s n && decide (dtLim s n ≤ m.dt)) c.dtAt
    lowAt := since s (out && decide (m.mean < s.rd R.lch_OPEN_TH [n.val])) c.lowAt })
  if s.rd R.lch_OPEN_TH [n.val] ≤ m.mean then s.wr R.lch_OPEN_LOAD [n.val] 0 else s

/-- The levels of the limp pins, and since when each is deasserted (R404, R410). -/
def setLimp (pins : Nat) (s : State) : State :=
  s.lsF (fun l => { l with limp := pins, limpLow := Vector.ofFn (fun n => since s (!bitB pins n.val) l.limpLow[n]) })

/-- A fall of the field rail below 16.0 V: windows that run are extended by their own length, each once (R409). -/
def extendWindows (s : State) : State :=
  foldS (List.finRange 32) (fun s n =>
    if s.rdB R.lch_INRUSH [n.val] && !(s.lc n).ext then
      s.lcF n (fun c => { c with ext := true, winEnd := c.winEnd + blkClocks s n })
    else s) s

/-- VRAIL reads below 16.0 V (R413); windows that run are extended once (R409). -/
def showRailLow (s : State) : State :=
  extendWindows (if s.rdB R.lsw_RAIL_LOW [] then s else (s.wr R.lsw_RAIL_LOW [] 1).raise 328 3)

/-- A sample of the field rail: what the couplings, the channels and the safety island make of it (R278, R413, R436). -/
def railSample (v : Nat) (s : State) : State :=
  let s := s.lsF (fun l => { l with
    rail := v, low16 := if v < 1600 then some s.spar.serial else l.low16, railUp := since s (decide (1300 ≤ v)) l.railUp })
  if v < 1600 then splcRailLow s else s

/-- CASE_TRIP: TCASE reaches 150 °C (R408). -/
def caseTrip (tcase : Int) (s : State) : State :=
  let s := (((s.wrI R.lsw_TCASE [] tcase).wr R.lsw_CASE_TRIP [] 1).raise 328 2).raise 328 0
  lchEvals false (foldS (List.finRange 32) (fun s n => s.wr R.lch_TRIP_CASE [n.val] 1) s)

/-- The load switches at a control period start. -/
def lswPeriod (q : PeriodIn) (s : State) : State :=
  if s.inReset 17 then s
  else
    let s := (s.wr R.lsw_VRAIL [] q.vrail).wrI R.lsw_TCASE [] q.tcase
    let s := if q.vrail < 1600 then showRailLow s else s.wr R.lsw_RAIL_LOW [] 0
    let s := (setLimp q.limp s).lsF (fun l => { l with ran := l.ran || s.enOf 328, kept := l.kept || s.enOf 328 })
    let s := if 2400 ≤ q.tcase ∧ s.rdB R.lsw_CASE_TRIP [] = false then caseTrip q.tcase s else s
    let s := foldS (List.finRange 32) (fun s n => lchMeasure n (q.lch.getD n.val ⟨0, 0, 0, false⟩) s) s
    let s := foldS (List.finRange 32) (fun s n => genCycle n s) (genCount s)
    lchEvals false s

/-! ## Protection (R408-R411) -/

/-- BLANKING_END: the window, with its extension, ends (R408, R409). While LSW is in reset its end is the command's. -/
def execBlankingEnd (n : Fin 32) (s : State) : Host.Outcome State Fault Refusal :=
  if s.rdB R.lch_INRUSH [n.val] && (!lswLive s || decide ((s.lc n).winEnd ≤ s.now + s.spar.clocks)) then
    .next (s.wr R.lch_INRUSH [n.val] 0)
  else .next s

/-- A trip turns the channel off; after RETRY turn-ons that each ended in a trip it stays off (R408, R410). -/
def lchTrip (r : Row) (n : Fin 32) (s : State) : State :=
  let s := ((s.wr r [n.val] 1).raise 328 0).lcF n (fun c => { c with old := false, tripAt := some s.now })
  let s := if 0 < s.rd R.lch_RETRY [n.val] ∧ s.rd R.lch_RETRY [n.val] ≤ s.rd R.lch_RETRY_CNT [n.val] then
      (s.wr R.lch_RETRY_END [n.val] 1).raise 328 1
    else s
  lchEval false n s

/-- TLIM at the limit outside the window (R408); while LSW is in reset nothing measures it but the power stage. -/
def limitHeld (s : State) (n : Fin 32) : Bool :=
  s.inReset 17 || (s.rdB R.lch_LIMIT [n.val] && heldFor s (s.lc n).limAt (200000 * max 1 (s.rd R.lch_TLIM [n.val])))

/-- TRIP_I (R408). -/
def execTripI (n : Fin 32) (s : State) : Host.Outcome State Fault Refusal :=
  if lchOn s n && !s.rdB R.lch_INRUSH [n.val] && limitHeld s n then
    .next (lchTrip R.lch_TRIP_I n s)
  else .next s

/-- DT_TIME at DT_LIM (R408). -/
def dtHeld (s : State) (n : Fin 32) : Bool :=
  s.inReset 17 || heldFor s (s.lc n).dtAt (200000 * s.rd R.lch_DT_TIME [n.val])

/-- TRIP_DT: DT at or above DT_LIM for DT_TIME, in or out of the window (R408). -/
def execTripDt (n : Fin 32) (dt : Int) (s : State) : Host.Outcome State Fault Refusal :=
  if lchOn s n && decide (dtLim s n ≤ dt) && dtHeld s n then
    .next (lchTrip R.lch_TRIP_DT n (s.wrI R.lch_DT [n.val] dt))
  else .next s

/-- CASE_TRIP (R408). -/
def execCaseTrip (tcase : Int) (s : State) : Host.Outcome State Fault Refusal :=
  if 2400 ≤ tcase ∧ s.rdB R.lsw_CASE_TRIP [] = false then .next (caseTrip tcase s) else .next s

/-- CASE_TRIP clears (R410). -/
def caseClear (s : State) : State :=
  foldS (List.finRange 32) (fun s n => s.wr R.lch_TRIP_CASE [n.val] 0) (s.wr R.lsw_CASE_TRIP [] 0)

/-- CASE_CLR: once TCASE is 130 °C or below (R410). -/
def execCaseClr (w : World) (s : State) : Host.Outcome State Fault Refusal :=
  .next (s.asWriter w 328 (fun s => if s.rdI R.lsw_TCASE [] ≤ 2080 then caseClear s else s))

/-- CASE_TRIP_SELF_CLEAR: while the logic is in reset (R410). -/
def execCaseTripSelfClear (tcase : Int) (s : State) : Host.Outcome State Fault Refusal :=
  if s.inReset 17 && s.rdB R.lsw_CASE_TRIP [] && decide (tcase ≤ 2080) then .next (lchEvals false (caseClear s)) else .next s

/-- RETRY_DLY × 10 ms have passed since the trip (R410). -/
def retryDue (s : State) (n : Fin 32) : Bool :=
  s.inReset 17 || heldFor s (s.lc n).tripAt (2000000 * s.rd R.lch_RETRY_DLY [n.val])

/-- CHANNEL_RETRY: RETRY_DLY after a trip the channel turns on again, with a window (R410). -/
def execChannelRetry (n : Fin 32) (s : State) : Host.Outcome State Fault Refusal :=
  if (s.rdB R.lch_TRIP_I [n.val] || s.rdB R.lch_TRIP_DT [n.val]) &&
      decide (s.rd R.lch_RETRY_CNT [n.val] < s.rd R.lch_RETRY [n.val]) && !s.rdB R.lch_RETRY_END [n.val] && retryDue s n then
    .next (lchEval true n (((s.wr R.lch_TRIP_I [n.val] 0).wr R.lch_TRIP_DT [n.val] 0).inc R.lch_RETRY_CNT [n.val]))
  else .next s

/-- RETRY_COUNT_RESET: on for 1 s without a trip (R410). -/
def execRetryCountReset (n : Fin 32) (s : State) : Host.Outcome State Fault Refusal :=
  if lchOn s n && (s.inReset 17 || heldFor s (s.lc n).onAt 200000000) then .next (s.wr R.lch_RETRY_CNT [n.val] 0) else .next s

/-- OPEN_LOAD: 100 ms below OPEN_TH outside the window (R411). -/
def execOpenLoad (n : Fin 32) (s : State) : Host.Outcome State Fault Refusal :=
  if lchOn s n && !s.rdB R.lch_INRUSH [n.val] && decide (s.rd R.lch_I_MEAS [n.val] < s.rd R.lch_OPEN_TH [n.val]) &&
      !s.rdB R.lch_OPEN_LOAD [n.val] && heldFor s (s.lc n).lowAt 20000000 then
    .next ((s.wr R.lch_OPEN_LOAD [n.val] 1).raise 328 4)
  else .next s

/-- Trips, RETRY_END and the retry count clear (R410). -/
def lchClear (n : Fin 32) (s : State) : State :=
  (((s.wr R.lch_TRIP_I [n.val] 0).wr R.lch_TRIP_DT [n.val] 0).wr R.lch_RETRY_END [n.val] 0).wr R.lch_RETRY_CNT [n.val] 0

/-- A limp pin drives the channel, tripped or not (R404, R410). -/
def limpDriven (s : State) (n : Fin 32) : Bool := s.rdB R.lsw_LIMP_EN_IN [] && limpSel s n

/-- CLR: the channel follows its row from the next period start; while a limp pin drives it, the pin clears its trips
instead (R410). -/
def execClr (w : World) (n : Fin 32) (s : State) : Host.Outcome State Fault Refusal :=
  .next (s.asWriter w 329 (fun s => if limpDriven s n then s else lchClear n s))

/-- PEAK_CLR (R418). -/
def execPeakClr (w : World) (n : Fin 32) (s : State) : Host.Outcome State Fault Refusal :=
  .next (s.asWriter w 329 (fun s => s.wr R.lch_I_PEAK [n.val] 0))

/-- RAIL_LOSS_CLEAR (R417). -/
def execRailLossClear (w : World) (s : State) : Host.Outcome State Fault Refusal :=
  .next (s.asWriter w 328 (fun s => s.wr R.lsw_RAIL_LOSS [] 0))

/-! ## Limp pins, keeper, enable (R404, R405, R414, R415) -/

/-- LIMP_EN_CHANGE: selected channels follow their pins at once, or leave them at the next period start, at once while
the logic is in reset (R405). `pins` are the levels of LIMP_IN0-31. -/
def limpEnChange (on : Bool) (pins : Nat) (s : State) : State :=
  let was := s.rdB R.lsw_LIMP_EN_IN []
  let s := setLimp pins (s.wrB R.lsw_LIMP_EN_IN [] on)
  let s := if on != was then s.raise 328 5 else s
  let s := if on && !was && lswLive s && (List.range 32).any (fun n =>
      s.rdB R.lch_LIMP_SEL [n] && (dischPort s n).isSome) then s.setErr 328 0x0100 else s
  if on then foldS ((List.finRange 32).filter (fun n => limpSel s n)) (fun s n => lchEval false n s) s
  else if lswLive s then s else lchEvals false s

/-- LIMP_EN_CHANGE (R405). -/
def execLimpEnChange (on : Bool) (pins : Nat) (s : State) : Host.Outcome State Fault Refusal := .next (limpEnChange on pins s)

/-- LIMP_TRIP_CLEAR: the pin of a limp-driven channel has been deasserted for 10 ms (R410). -/
def execLimpTripClear (n : Fin 32) (s : State) : Host.Outcome State Fault Refusal :=
  if limpDriven s n && !bitB s.lsw.limp n.val && (s.inReset 17 || heldFor s s.lsw.limpLow[n] 2000000) then
    .next (lchEval false n (lchClear n s))
  else .next s

/-- KEEPER_HOLD_EXPIRY: the hold time ends and the channel takes LIMP_DEF (R414). -/
def execKeeperHoldExpiry (n : Fin 32) (s : State) : Host.Outcome State Fault Refusal :=
  if (s.lc n).holdRun && !lswLive s then .next (lchEval false n (s.lcF n (fun c => { c with holdRun := false })))
  else .next s

/-- EN set from 0 to 1: counters, trips and I_PEAK restart, but a trip latched during the reset is kept; channels pass to
their rows at the next period start (R406, R415). -/
def lswEnable (s : State) : State :=
  if s.enOf 328 then s
  else
    let s := (s.wr R.hdr_EN [328] 1).lsF (fun l => { l with origin := true })
    foldS (List.finRange 32) (fun s n =>
      let s := ((s.wr R.lch_RETRY_CNT [n.val] 0).wr R.lch_RETRY_END [n.val] 0).wr R.lch_I_PEAK [n.val] 0
      if (s.lc n).old then (s.wr R.lch_TRIP_I [n.val] 0).wr R.lch_TRIP_DT [n.val] 0 else s) s

/-- LSW_ENABLE (R415). -/
def execLswEnable (w : World) (s : State) : Host.Outcome State Fault Refusal := .next (s.asWriter w 328 lswEnable)

/-- LSW enters reset (R414): at level 0 each channel takes LIMP_DEF, at the others the keeper holds for HOLD; a hold that runs
already, or has run out, goes on as it is, and none begins while the field rail is lost (R413). Trips latched before are old
(R415). -/
def lswEnterReset (level : Nat) (s : State) : State :=
  let ran := s.lsw.ran
  let up := !s.lsw.railOff
  let s := s.lsF (fun l => { l with ran := false, origin := false, count := 0 })
  let s := foldS (List.finRange 32) (fun s n =>
    s.lcF n (fun c => { c with
      holdRun := level ≠ 0 && (if ran then up && decide (0 < c.keepHold) else c.holdRun)
      old := true, genOff := 0, genFull := false
      keepOut := if level = 0 then false else c.keepOut })) s
  lchEvals false s

/-- The keeper of a channel takes HOLD, LIMP_DEF and LIMP_SEL from its registers, which have changed (R414). -/
def keepRegs (n : Fin 32) (s : State) : State :=
  s.lcF n (fun c => { c with
    keepHold := min 200 (s.rd R.lch_HOLD [n.val]), keepDef := s.rdB R.lch_LIMP_DEF [n.val]
    keepSel := s.rdB R.lch_LIMP_SEL [n.val] && (dischPort s n.val).isNone })

/-- A write of a channel's HOLD, LIMP_DEF or LIMP_SEL: its keeper follows, and the channel with it where it stands at its limp
default (R404, R414). -/
def keepWrite (n : Fin 32) (s : State) : State :=
  let s := keepRegs n (s.lsF (fun l => { l with kept := true }))
  if lswLive s then s else lchEval false n s

/-- The options are loaded: the keepers take HOLD, LIMP_DEF and LIMP_SEL from them unless a register has been written since
the first load (R414; log entry 220). -/
def keepOptions (s : State) : State :=
  if s.lsw.kept then s else lchEvals false (foldS (List.finRange 32) (fun s n => keepRegs n s) s)

/-- The module becomes active: the channels that the mirrored state has on switch on, each with a window (R416). -/
def lswTakeover (s : State) : State := if lswLive s then lchEvals true s else s

/-! ## The field rail (R409, R413) -/

/-- FIELD_RAIL_SAG: windows that run are extended once; SPLC stops sending (R409). -/
def fieldRailSag (v : Nat) (s : State) : State :=
  showRailLow (railSample v (s.wr R.lsw_VRAIL [] v))

/-- FIELD_RAIL_SAG (R409). -/
def execFieldRailSag (v : Nat) (s : State) : Host.Outcome State Fault Refusal :=
  if v < 1600 then .next (fieldRailSag v s) else .next s

/-- VRAIL has fallen below 12.0 V: every channel turns off, the keepers lose their state (R413). -/
def lswRailLoss (v : Nat) (s : State) : State :=
  let s := showRailLow (railSample v (((s.wr R.lsw_VRAIL [] v).wr R.lsw_RAIL_LOSS [] 1).raise 328 6))
  let s := s.lsF (fun l => { l with railOff := true })
  let s := foldS (List.finRange 32) (fun s n => s.lcF n (fun c => { c with keepOut := false, holdRun := false })) s
  lchEvals false s

/-- VRAIL has been at 13.0 V for 10 ms: the channels come back through R404, with a window (R413). -/
def lswRailReturn (v : Nat) (s : State) : State :=
  let s := (railSample v (s.wr R.lsw_VRAIL [] v)).lsF (fun l => { l with railOff := false })
  foldS (List.finRange 32) (fun s n => lchEval (decide (chSrc s n ≤ 3)) n s) s

end Sys2Proof.Machine
end

