-- ==== Sys2Proof/Machine/Words.lean ====
section
/-! DEFINITION. Register words: the 32-bit word at a register address, gathered from the fields that lie in it (R9,
R29). -/

namespace Sys2Proof.Machine

open Sys2Proof

/-- What one instance of a field, at byte address `b`, puts into the word at address `a`. -/
def partAt (get : Row → List Nat → Nat) (r : Row) (a b : Nat) : Nat :=
  match r.inst b with
  | none => 0
  | some ix =>
    let v := get r ix <<< r.lo
    (if b ≤ a then v >>> (8 * (a - b)) else v <<< (8 * (b - a))) % 2 ^ 32

/-- The byte addresses whose instances of a field can reach into the word at `a`: the word, its later bytes, and the words
below it that a wide field starts in. -/
def partBases (r : Row) (a : Nat) : List Nat :=
  (a + 1) :: (a + 2) :: (a + 3) :: (List.range ((r.lo + r.w + 31) / 32)).filterMap (fun j => if 4 * j ≤ a then some (a - 4 * j) else none)

/-- What a field puts into the word at `a`. -/
def rowPart (get : Row → List Nat → Nat) (r : Row) (a : Nat) : Nat :=
  if a + 4 ≤ r.base then 0 else (partBases r a).foldl (fun acc b => acc ||| partAt get r a b) 0

/-- The word at `a` of the given fields. -/
def wordOf (get : Row → List Nat → Nat) (rows : List Row) (a : Nat) : Nat :=
  rows.foldl (fun acc r => acc ||| rowPart get r a) 0

end Sys2Proof.Machine
end

