-- ==== Sys2Proof/Machine/Safe.lean ====
section
/-! DEFINITION. The safety island: configuration and identity, input pairs, zones, the Rip panel stop, safe outputs,
restart, the safety word (15_safety_functions.md). Xatch stands in Xatch.lean. -/

namespace Sys2Proof.Machine

open Sys2Proof

/-- A change of the island's state, of a port's stop, of an output, of a connection. -/
def State.sfF (s : State) (f : SafeS → SafeS) : State := { s with safe := f s.safe }
def State.ripF (s : State) (p : Port) (f : RipS → RipS) : State := s.sfF (fun x => { x with rip := vupd x.rip p f })
def State.qoF (s : State) (n : Fin 40) (f : QoutS → QoutS) : State := s.sfF (fun x => { x with out := vupd x.out n f })
def State.xcF (s : State) (n : Fin 16) (f : XconS → XconS) : State := s.sfF (fun x => { x with conn := vupd x.conn n f })

/-- A port's stop, an output. -/
def State.ripOf (s : State) (p : Port) : RipS := s.safe.rip[p]
def State.qo (s : State) (n : Fin 40) : QoutS := s.safe.out[n]

/-- The output of a port's contactor. -/
def qOf (p : Port) : Fin 40 := ⟨p.val, Nat.lt_of_lt_of_le p.isLt (by decide)⟩

/-- States of the island (R456). -/
def sfOff : Nat := 0
def sfCheck : Nat := 1
def sfRun : Nat := 2
def sfBad : Nat := 3
def sfHalt : Nat := 4

/-- States of a zone (R456). -/
def zOk : Nat := 0
def zTrip : Nat := 1
def zWait : Nat := 2
def zOff : Nat := 3

/-- The island is in RUN. -/
def safeRuns (s : State) : Bool := s.rd R.safe_SF_STATE [] == sfRun && !s.inReset 18

/-! ## The configuration copy (R421) -/

/-- The entries of SAFE page 2 and XCH page 1. -/
def cfgEntries (s : State) : List (Nat × Nat) :=
  s.regs.live.filter (fun e => (8 * 0x152000 ≤ e.1 ∧ e.1 < 8 * 0x153000) ∨ (8 * 0x159000 ≤ e.1 ∧ e.1 < 8 * 0x15A000))

/-- A configuration field as the island has it: its own copy while EN = 1. -/
def State.cf (s : State) (r : Row) (ix : List Nat) : Nat :=
  if s.enOf 336 then sget 0 s.safe.copy (r.key ix) ^^^ r.reset ix else s.rd r ix

/-- A configuration bit as the island has it. -/
def State.cfB (s : State) (r : Row) (ix : List Nat) : Bool := s.cf r ix != 0

/-- The bytes of SID_CALC: the words of SAFE page 2 from 0x100 to 0x37F, then of XCH page 1 from 0x100 to 0x3FF. -/
def sidBytes (s : State) : List Byte :=
  (List.range 160).flatMap (fun k => leBytes 4 (wordOf s.cf R.rows_safe (0x152100 + 4 * k))) ++
  (List.range 192).flatMap (fun k => leBytes 4 (wordOf s.cf R.rows_xch (0x159100 + 4 * k)))

/-- Zones in use, and those of a port. -/
def zonesOn (s : State) : List Nat := (List.range 8).filter (fun z => s.cfB R.scfg_ZEN [z])
def zonesOf (s : State) (p : Nat) : List Nat := (zonesOn s).filter (fun z => bitB (s.cf R.scfg_PORTS [z]) p)
def zonePorts (s : State) (z : Nat) : List Port := (List.finRange 32).filter (fun p => bitB (s.cf R.scfg_PORTS [z]) p.val)

/-- `v` lies in `lo`..`hi`. -/
def within (lo hi v : Nat) : Bool := decide (lo ≤ v) && decide (v ≤ hi)

/-- The field checks of R421. -/
def fieldsOk (s : State) : Bool :=
  (List.range 48).all (fun n => s.cf R.scfg_KIND [n] != 1 ||
    (within 2 50 (s.cf R.scfg_DISC [n]) && decide (s.cf R.scfg_FILT [n] ≤ 100))) &&
  (zonesOn s).all (fun z => within 5 200 (s.cf R.scfg_RAMP_MS [z]) &&
    decide (s.cf R.scfg_RST_IN [z] < 48) && s.cf R.scfg_KIND [s.cf R.scfg_RST_IN [z]] == 2) &&
  (List.range 32).all (fun p => (zonesOf s p).isEmpty || within 1 3000000 (s.cf R.scfg_IRATED [p])) &&
  (List.range 16).all (fun n => !s.cfB R.xch_EN [n] ||
    (within 5 1000 (s.cf R.xch_WDOG_MS [n]) && within 1 15 (s.cf R.xch_SEQ_WIN [n]))) &&
  (List.range 8).all (fun m => !s.cfB R.xpr_EN [m] ||
    (within 5 1000 (s.cf R.xpr_WDOG_MS [m]) && within 1 500 (s.cf R.xpr_SEND_MS [m]) &&
      decide (s.cf R.xpr_SEND_MS [m] < s.cf R.xpr_WDOG_MS [m])))

/-! ## Zones, permits, commands: what is read -/

/-- State of a zone. -/
def zst (s : State) (z : Nat) : Nat := bits (s.rd R.safe_ZSTATE []) (4 * z) 3

/-- State of a zone written. -/
def setZone (z v : Nat) (s : State) : State :=
  let o := s.rd R.safe_ZSTATE []
  s.wr R.safe_ZSTATE [] (o - zst s z * 2 ^ (4 * z) + v * 2 ^ (4 * z))

/-- State of a port (R456): 0 OK, 1 RAMP, 2 REMOVED. -/
def ripState (s : State) (p : Port) : Nat := s.rd R.safe_PSTATE [p.val]

/-- The partner's safety word, while present (R448). -/
def partnerWord (s : State) : Option SafetyWord := if s.rdB R.safe_TWORD [] then s.safe.pw else none

/-- The partner's island is in RUN. -/
def partnerRuns (s : State) : Bool := match partnerWord s with | some w => w.sf == sfRun | none => false

/-- The partner permit of a port (R449). -/
def ppermit (s : State) (p : Nat) : Bool :=
  match partnerWord s with
  | some w => w.sf != sfRun || bitB w.permit p
  | none => true

/-- The partner's word shows every zone of the port OK and the port was not stopped for the partner: the partner's permit
follows ours (DEDUCED from step 10 of R455's example, log entry 26). -/
def partnerRestarts (s : State) (p : Port) : Bool :=
  match partnerWord s with
  | some w => (s.ripOf p).cause != some 8 && (zonesOf s p.val).all (fun z => bits w.zones (4 * z) 3 == zOk)
  | none => false

/-- The terminals of an output show drive. -/
def termOn (s : State) (n : Nat) : Bool := s.rdB R.sout_TERM [n]

/-- Power removal of a port is complete, or none has run (R429, R434). -/
def removalDone (s : State) (p : Port) : Bool :=
  ripState s p == 2 && ((s.ripOf p).tR.isNone || s.rdB R.safe_RMV_DONE [p.val])

/-! ## Safe outputs: what is commanded (R436, R450) -/

/-- The own conditions of Qp apart from CONT_REQ: the permit. -/
def qpOwn (s : State) (p : Nat) : Bool := bitB (s.rd R.safe_PERMIT []) p

/-- The zone lets site output Q(32+k) stay on: it is OK, or it drops the output only when its ports are removed (R429). -/
def zoneLets (s : State) (z k : Nat) : Bool :=
  zst s z == zOk ||
    (zst s z == zTrip && s.cfB R.scfg_DLY [k] && s.rdB R.sout_CMD [32 + k] && !(zonePorts s z).all (fun p => ripState s p == 2))

/-- The own conditions of Q(32+k) apart from Q_REQ. -/
def qsOwn (s : State) (k : Nat) : Bool :=
  s.cfB R.scfg_EN [k] && ((zonesOn s).filter (fun z => bitB (s.cf R.scfg_OUTS [z]) k)).all (fun z => zoneLets s z k) &&
    !s.rdB R.sout_OUT_FLT [32 + k] && !s.rdB R.sout_OPEN_COIL [32 + k]

/-- The partner's last word commands an output on (R438, R450). -/
def partnerCmd (s : State) (n : Nat) : Bool := match s.safe.pw with | some w => bitB w.cmd n | none => false

/-- A reset of level 0 or 1 is accepted and waits for its holds: every safe output is off (R579). -/
def resetTaken (s : State) : Bool :=
  match s.rst.acc with
  | some l => decide (l ≤ 1)
  | none => false

/-- An output is commanded on (R436, R450, R579). -/
def outCmd (s : State) (n : Nat) : Bool :=
  safeRuns s && decide (1200 ≤ s.lsw.rail) && !resetTaken s &&
    (if n < 32 then qpOwn s n else qsOwn s (n - 32)) &&
    (if s.active then (if n < 32 then s.rdB R.port_CONT_REQ [n] else bitB (s.rd R.sout_Q_REQ []) (n - 32))
     else partnerCmd s n && !s.safe.sbOff)

/-- An output follows its command. -/
def outFollow (n : Fin 40) (s : State) : State :=
  let on := outCmd s n.val
  if on = s.rdB R.sout_CMD [n.val] then s
  else
    let s := s.wrB R.sout_CMD [n.val] on
    if on then s.qoF n (fun q => { q with lowAt := none, dpAt := some s.now })
    else (s.wr R.sout_DP [n.val] 0).qoF n (fun q => { q with offAt := some s.now, lowAt := none, dpEnd := none })

/-- Every output follows its command. -/
def safeOutputs (s : State) : State := foldS (List.finRange 40) (fun s n => outFollow n s) s

/-! ## Power removal and the ramp (R430-R434) -/

/-- Power removal of a port starts (R434). -/
def remove (p : Port) (rc : Nat) (s : State) : State :=
  if ripState s p = 2 then s
  else
    let s := if ripState s p = 0 then postRip p s else s
    let rc := match (s.ripOf p).cause with | some f => if rc = 0 ∨ rc = 1 ∨ rc = 3 then f else rc | none => rc
    let s := ((s.wr R.safe_PSTATE [p.val] 2).wr R.safe_RMV_DONE [p.val] 0).wr R.safe_RCAUSE [p.val] rc
    let s := s.wrBit R.safe_PERMIT [] p.val false
    let s := s.ripF p (fun r => { r with due := [], tR := some s.now, ss := if r.ss = 0 then 1 else r.ss })
    if rc = 1 ∨ rc = 2 ∨ rc = 4 then s.raise 336 2 else s

/-- |I| of a port as its meter's fast value has it (R139, R431). -/
def portAmps (s : State) (p : Port) : Nat := (s.rdI R.mt_I_FAST [p.val]).natAbs

/-- |I| is below 0.02 × IRATED (R433). -/
def below2 (s : State) (p : Port) (i : Nat) : Bool := decide (50 * i < s.cf R.scfg_IRATED [p.val])

/-- CEIL at this period start: the lowest of the ramps' (R430, R431). -/
def ceilNow (s : State) (p : Port) : Option Nat :=
  let i0 := s.rd R.safe_I0 [p.val]
  (s.ripOf p).ramps.foldl (fun acc e =>
    let c := if e.2 = 0 then 0 else i0 * (e.2 - (s.now - e.1)) / e.2
    match acc with | none => some c | some a => some (min a c)) none

/-- CEIL supplied to Burner. -/
def supplyCeil (p : Port) (s : State) : State := s.prtF p (fun q => { q with ceil := ceilNow s p })

/-- CEIL supplied where a ramp starts: it limits the reference of the period that has begun (R143, R431). -/
def startCeil (p : Port) (s : State) : State :=
  let s := supplyCeil p s
  if s.runs 64 then ceilActs p s else s

/-- The earliest deadline of the ramps (R430, R433). -/
def deadline (s : State) (p : Port) : Nat :=
  match (s.ripOf p).ramps with
  | [] => 0
  | e :: t => t.foldl (fun m x => min m (x.1 + x.2)) (e.1 + e.2)

/-- The envelope of R432 at this period start, from 2 ms after the ramp's start. -/
def envelopeOk (s : State) (p : Port) : Bool :=
  match (s.ripOf p).ramps with
  | [] => true
  | e :: _ =>
    let dt := s.now - e.1
    let i : Int := portAmps s p
    let t : Int := e.2
    decide (dt < 400000) ||
      decide (1000 * i * t ≤ 1000 * (s.rd R.safe_I0 [p.val] : Int) * (t - (dt - 200000)) + 2 * (s.cf R.scfg_IRATED [p.val] : Int) * t)

/-- One stop reaches its ramp start (R430, R431, R433). -/
def rampStart (p : Port) (d : RipDue) (s : State) : State :=
  if ripState s p = 1 then startCeil p (s.ripF p (fun r => { r with ramps := r.ramps ++ [(s.now, d.ms * 200000)] }))
  else if ripState s p = 0 then
    let i0 := portAmps s p
    let s := (postRip p s).wr R.safe_I0 [p.val] (min i0 (2 ^ 22 - 1))
    let s := (s.wr R.safe_PSTATE [p.val] 1).ripF p (fun r =>
      { r with ramps := [(s.now, d.ms * 200000)], ss := max 1 d.src, cause := d.cause })
    let s := spoolKind 5 0 (startCeil p s)
    if !s.rdB R.mt_FAST_VALID [p.val] then remove p 4 s
    else if below2 s p i0 then remove p 3 s
    else s
  else s

/-- Every stop of the port that is due reaches its ramp start. -/
def ripStart (p : Port) (s : State) : State :=
  let l := (s.ripOf p).due.filter (fun d => d.at_ ≤ s.spar.serial)
  let s := s.ripF p (fun r => { r with due := r.due.filter (fun d => s.spar.serial < d.at_) })
  foldS l (fun s d => rampStart p d s) s

/-- A Rip panel stop begins on a port (R429, R431): its ramp starts at the second control period start from here. -/
def ripAsk (p : Port) (ms src : Nat) (cause : Option Nat) (s : State) : State :=
  if ripState s p = 2 then s
  else s.ripF p (fun r => { r with due := r.due ++ [⟨s.spar.serial + 2, ms, src, cause⟩] })

/-- The least RAMP_MS of the zones of a port. -/
def leastRamp (s : State) (p : Port) : Nat :=
  match (zonesOf s p.val).map (fun z => s.cf R.scfg_RAMP_MS [z]) with
  | [] => 0
  | e :: t => t.foldl min e

/-- The ramp of a port at a control period start (R431-R433). -/
def rampPeriod (p : Port) (s : State) : State :=
  if ripState s p = 0 then s
  else
    let s := if (s.ripOf p).ramps.isEmpty then s else supplyCeil p s
    if ripState s p = 1 then
      if !s.rdB R.mt_FAST_VALID [p.val] then remove p 4 s
      else if below2 s p (portAmps s p) then remove p 0 s
      else if deadline s p ≤ s.now then remove p 1 s
      else if !envelopeOk s p then remove p 2 s
      else s
    else s

/-! ## Output faults (R437-R440) -/

/-- Stuck bits and OUT_FLT latch; a stop begins on the port of a contactor (R440). -/
def latchOut (n : Fin 40) (hs ls : Bool) (s : State) : State :=
  if !hs && !ls then s
  else
    let s := if hs then s.wr R.sout_HS_STUCK [n.val] 1 else s
    let s := if ls then s.wr R.sout_LS_STUCK [n.val] 1 else s
    if s.rdB R.sout_OUT_FLT [n.val] then s
    else
      let s := ((s.wr R.sout_OUT_FLT [n.val] 1).setErr 336 0x0103).raise 336 3
      if h : n.val < 32 then ripAsk ⟨n.val, h⟩ (leastRamp s ⟨n.val, h⟩) 1 (some 6) s else s

/-- A switch of an output that is off is judged (R438), 10 ms after it turned off. -/
def stuckCheck (n : Fin 40) (s : State) : State :=
  let q := s.qo n
  let settled := match q.offAt with | some t => decide (2000000 ≤ s.now - t) | none => true
  if s.rdB R.sout_CMD [n.val] || !settled then s
  else latchOut n (decide (5 ≤ q.hs) || (termOn s n.val && !partnerCmd s n.val)) (decide (5 ≤ q.ls)) s

/-! ## Demands and zones (R428, R429) -/

/-- The demand sources of a zone, in the table's order: cause and number. -/
def zoneSources (s : State) (z : Nat) : List (Nat × Nat) :=
  let ins := (List.range 48).filter (fun n => s.cf R.scfg_KIND [n] == 1 && bitB (s.cf R.scfg_ZMASK [n]) z &&
    !bitB (s.rd R.safe_IN_NORM []) n)
  let con := (List.finRange 16).filter (fun n => s.cfB R.xch_EN [n.val] && bitB (s.cf R.xch_ZONES [n.val]) z)
  let run := con.filter (fun n => s.rd R.xch_CSTATE [n.val] == 2)
  (ins.filter (fun n => !bitB (s.rd R.safe_DISC_FLT []) n)).map (fun n => (1, n)) ++
  (ins.filter (fun n => bitB (s.rd R.safe_DISC_FLT []) n)).map (fun n => (2, n)) ++
  (run.filter (fun n => !bitB (s.rd R.xch_RXDATA [n.val]) z)).map (fun n => (3, n.val)) ++
  (con.filter (fun n => s.rd R.xch_CSTATE [n.val] != 2)).map (fun n => (4, n.val)) ++
  (run.filter (fun n => s.safe.conn[n].bad)).map (fun n => (5, n.val)) ++
  (if s.lsw.railOff then [(6, 0)] else [])

/-- ZONE_TRIP (R428, R429). -/
def tripZone (z : Nat) (c : Nat × Nat) (s : State) : State :=
  let was := zst s z
  let s := ((setZone z zTrip s).wr R.safe_CAUSE [z] c.1).wr R.safe_SRC [z] c.2
  let s := (s.satInc R.safe_TRIPS [z]).raise 336 0
  if was = zOk then
    foldS (zonePorts s z) (fun s p =>
      if c.1 = 6 then remove p 5 s else ripAsk p (s.cf R.scfg_RAMP_MS [z]) (if 3 ≤ c.1 ∧ c.1 ≤ 5 then 2 else 1) none s) s
  else s

/-- A zone takes its demands, or leaves TRIPPED (R428, R429). -/
def zoneEval (z : Nat) (s : State) : State :=
  match zoneSources s z with
  | c :: _ => if zst s z = zOk ∨ zst s z = zWait then tripZone z c s else s
  | [] => if zst s z = zTrip ∧ (zonePorts s z).all (fun p => removalDone s p) = true then setZone z zWait s else s

/-! ## Restart (R441, R442) -/

/-- The conditions of R442 on a port that is REMOVED. -/
def mayReturn (s : State) (p : Port) : Bool :=
  ripState s p == 2 && removalDone s p && !(zonesOf s p.val).isEmpty &&
    (zonesOf s p.val).all (fun z => zst s z == zOk) &&
    !s.rdB R.sout_OUT_FLT [p.val] && !s.rdB R.sout_OPEN_COIL [p.val] && !s.rdB R.sout_SH_STUCK [p.val] &&
    (ppermit s p.val || partnerRestarts s p)

/-- A port returns to OK. -/
def portReturn (p : Port) (s : State) : State :=
  if mayReturn s p then
    let s := (s.wr R.safe_PSTATE [p.val] 0).wrBit R.safe_PERMIT [] p.val true
    (s.ripF p (fun _ => ⟨[], [], 0, none, none⟩)).prtF p (fun q => { q with ceil := none })
  else s

/-- Every port that may return does. -/
def portsReturn (s : State) : State := foldS (List.finRange 32) (fun s p => portReturn p s) s

/-- What a valid reset pulse clears in a zone (R440, R452). -/
def pulseClears (z : Nat) (s : State) : State :=
  let s := foldS (zonePorts s z) (fun s p =>
    let s := s.wr R.sout_OPEN_COIL [p.val] 0
    if termOn s p.val then s else s.wr R.sout_SH_STUCK [p.val] 0) s
  foldS ((List.range 8).filter (fun k => bitB (s.cf R.scfg_OUTS [z]) k)) (fun s k => s.wr R.sout_OPEN_COIL [32 + k] 0) s

/-- RESET_PULSE on input `n` (R442). -/
def resetPulse (n : Nat) (s : State) : State :=
  let zs := (zonesOn s).filter (fun z => s.cf R.scfg_RST_IN [z] == n)
  let s := foldS zs (fun s z =>
    let s := pulseClears z s
    if zst s z = zWait then (setZone z zOk s).raise 336 5 else s) s
  portsReturn s

/-! ## The island in RUN -/

/-- Demands are taken, zones settle, outputs follow. -/
def safeEval (s : State) : State :=
  if safeRuns s then safeOutputs (foldS (zonesOn s) (fun s z => zoneEval z s) s) else safeOutputs s

/-- SF_STATE changes (R460). -/
def setSf (v : Nat) (s : State) : State :=
  if s.rd R.safe_SF_STATE [] = v then s else (s.wr R.safe_SF_STATE [] v).raise 336 6

/-- The safe state (R422): no permit, every zone and connection OFF, every output off. -/
def safeState (s : State) : State :=
  let s := (s.wr R.safe_PERMIT [] 0).wr R.safe_ZSTATE [] 0x33333333
  let s := foldS (List.finRange 32) (fun s p =>
    ((s.wr R.safe_PSTATE [p.val] 2).ripF p (fun _ => ⟨[], [], 0, none, none⟩)).prtF p (fun q => { q with ceil := none })) s
  let s := foldS (List.finRange 16) (fun s n =>
    (s.wr R.xch_CSTATE [n.val] 0).xcF n (fun c => { c with got := false, dual := [], bad := false })) s
  safeOutputs (s.wr R.xch_CRUN [] 0)

/-- The island enters RUN (R424). -/
def enterRun (hs ls : Nat) (s : State) : State :=
  let s := (setSf sfRun s).sfF (fun x => { x with runAt := s.now, prod := Vector.replicate 8 0, sentAt := Vector.replicate 8 none })
  let s := foldS (List.finRange 40) (fun s n => latchOut n (bitB hs n.val) (bitB ls n.val) s) s
  let s := foldS ((List.finRange 16).filter (fun n => s.cfB R.xch_EN [n.val])) (fun s n => s.wr R.xch_CSTATE [n.val] 1) s
  let s := foldS (zonesOn s) (fun s z =>
    let there := match partnerWord s with | some w => w.sf == sfRun && bits w.zones (4 * z) 3 == zOk | none => false
    setZone z (if there && (zoneSources s z).isEmpty then zOk else zWait) s) s
  safeEval (portsReturn s)

/-- SAFE_ENABLE (R421, R440): the copy is taken, OUT_FLT clears, CHECK begins. HALT ends only with its reset (R453);
in RECOVERY the island stays OFF (R593). -/
def safeEnable (s : State) : State :=
  if s.enOf 336 then s
  else
    let s := (s.wr R.hdr_EN [336] 1).sfF (fun x => { x with copy := cfgEntries s })
    if s.rd R.safe_SF_STATE [] = sfHalt ∨ s.rd R.rst_MODE [] = 3 then s
    else
      let s := foldS (List.range 40) (fun s n =>
        ((s.wr R.sout_OUT_FLT [n] 0).wr R.sout_HS_STUCK [n] 0).wr R.sout_LS_STUCK [n] 0) s
      safeState (setSf sfCheck s)

/-- SAFE_ENABLE (R421). -/
def execSafeEnable (w : World) (s : State) : Host.Outcome State Fault Refusal := .next (s.asWriter w 336 safeEnable)

/-- The checks complete (R421): `hs` and `ls` are the switches that the output test of CHECK found stuck (R440). -/
def safeCheckDone (hs ls : Nat) (s : State) : State :=
  let sid := crc16 (sidBytes s)
  let s := s.wr R.safe_SID_CALC [] sid
  if sid ≠ s.rd R.safe_SID_SW [] then (setSf sfBad s).setErr 336 0x0100
  else if !fieldsOk s then (setSf sfBad s).setErr 336 0x0101
  else enterRun hs ls s

/-- SAFE_CHECK_DONE (R421). -/
def execSafeCheckDone (hs ls : Nat) (s : State) : Host.Outcome State Fault Refusal :=
  if s.rd R.safe_SF_STATE [] = sfCheck ∧ s.inReset 18 = false then .next (safeCheckDone hs ls s) else .next s

/-- SAFE_DISABLE (R423): refused while an output is commanded on or a port ramps. -/
def safeDisable (s : State) : State :=
  if !s.enOf 336 then s
  else if (List.range 40).any (fun n => s.rdB R.sout_CMD [n]) || (List.finRange 32).any (fun p => ripState s p == 1) then
    s.setErr 336 0x0102
  else
    let s := s.wr R.hdr_EN [336] 0
    safeState (if s.rd R.safe_SF_STATE [] = sfHalt then s else setSf sfOff s)

/-- SAFE_DISABLE (R423). -/
def execSafeDisable (w : World) (s : State) : Host.Outcome State Fault Refusal := .next (s.asWriter w 336 safeDisable)

/-- A lockstep mismatch or a failed reference (R453, R589): HALT and the safe state. -/
def islandHalt (s : State) : State := safeState (setSf sfHalt s)

/-! ## Input pairs (R425, R426, R441) -/

/-- Samples that must agree (R425). -/
def filtOf (s : State) (n : Nat) : Nat := max 1 (2 * s.cf R.scfg_FILT [n])

/-- One channel sampled: the last sample, the run of equal samples, the accepted level. -/
def chanSample (need : Nat) (x last : Bool) (run : Nat) (acc : Bool) : Bool × Nat × Bool :=
  let run := if x = last then min 511 (run + 1) else 1
  (x, run, if need ≤ run then x else acc)

/-- An input pair's agreed state, and whether a valid reset pulse ends at this sample (R426, R441). -/
def pairState (n : Fin 48) (a b : Bool) (s : State) : State × Bool :=
  let q := s.safe.pairs[n]
  let norm := bitB (s.rd R.safe_IN_NORM []) n.val
  let flt := bitB (s.rd R.safe_DISC_FLT []) n.val
  let put := fun (f : PairS → PairS) (s : State) => s.sfF (fun x => { x with pairs := vupd x.pairs n f })
  let on := fun (b : Bool) (s : State) => s.wrBit R.safe_IN_NORM [] n.val b
  let more := q.dem.map (fun k => min 65535 (k + 1))
  if a = b then
    (put (fun q => { q with disc := some (match q.disc with | none => 0 | some k => min 65535 (k + 1)), dem := more }) s, false)
  else if b then
    (put (fun q => { q with disc := none, seen := q.seen || flt, dem := if norm then some 0 else more }) (on false s), false)
  else if flt && !q.seen then (put (fun q => { q with disc := none }) s, false)
  else
    let pulse := !norm && !flt && (match q.dem with | some k => decide (1000 ≤ k + 1) && decide (k + 1 ≤ 10000) | none => false)
    (put (fun q => { q with disc := none, seen := false, dem := none })
      (on true (s.wrBit R.safe_DISC_FLT [] n.val false)), pulse && s.cf R.scfg_KIND [n.val] == 2)

/-- One pair sampled. -/
def pairSample (n : Fin 48) (a b : Bool) (s : State) : State × Bool :=
  let q := s.safe.pairs[n]
  let need := filtOf s n.val
  let ca := chanSample need a q.rawA q.runA (bitB (s.rd R.safe_RAW_A []) n.val)
  let cb := chanSample need b q.rawB q.runB (bitB (s.rd R.safe_RAW_B []) n.val)
  let s := s.sfF (fun x => { x with pairs := vupd x.pairs n (fun q =>
    { q with rawA := ca.1, runA := ca.2.1, rawB := cb.1, runB := cb.2.1 }) })
  let s := (s.wrBit R.safe_RAW_A [] n.val ca.2.2).wrBit R.safe_RAW_B [] n.val cb.2.2
  pairState n ca.2.2 cb.2.2 s

/-- Every pair sampled; demands are taken at the sample, then the pulses that end at it. -/
def inputSample (a b : Nat) (s : State) : State :=
  let r := (List.finRange 48).foldl (fun (acc : State × List Nat) n =>
    let x := pairSample n (bitB a n.val) (bitB b n.val) acc.1
    (x.1, if x.2 then acc.2 ++ [n.val] else acc.2)) (s, [])
  let s := safeEval r.1
  if safeRuns s then safeEval (foldS r.2 (fun s n => resetPulse n s) s) else s

/-- INPUT_SAMPLE (R425): levels of channels A and B of I00-I47. -/
def execInputSample (a b : Nat) (s : State) : Host.Outcome State Fault Refusal :=
  if s.inReset 18 then .next s else .next (inputSample a b s)

/-- DISC_FLT latches (R426). -/
def discFault (n : Fin 48) (s : State) : State :=
  let s := ((s.wrBit R.safe_DISC_FLT [] n.val true).wrBit R.safe_IN_NORM [] n.val false).raise 336 4
  safeEval (s.sfF (fun x => { x with pairs := vupd x.pairs n (fun q => { q with seen := false, dem := none }) }))

/-- DISCREPANCY_TIMEOUT (R426). -/
def execDiscrepancyTimeout (n : Fin 48) (s : State) : Host.Outcome State Fault Refusal :=
  let k := s.cf R.scfg_KIND [n.val]
  let late := match s.safe.pairs[n].disc with | some d => decide (20 * s.cf R.scfg_DISC [n.val] ≤ d) | none => false
  if late && (k == 1 || k == 2) && !bitB (s.rd R.safe_DISC_FLT []) n.val && !s.inReset 18 then .next (discFault n s) else .next s

/-! ## The Rip panel stop as commands -/

/-- RIP_PANEL_STOP_START (R431). -/
def execRipPanelStopStart (p : Port) (s : State) : Host.Outcome State Fault Refusal :=
  if safeRuns s then .next (safeEval (ripStart p s)) else .next s

/-- RAMP_DEADLINE (R433). -/
def execRampDeadline (p : Port) (s : State) : Host.Outcome State Fault Refusal :=
  if ripState s p = 1 ∧ deadline s p ≤ s.now + s.spar.clocks then .next (safeEval (remove p 1 s)) else .next s

/-- Both own switches of an output carry below 5 mA. -/
def ownOff (s : State) (n : Fin 40) : Bool := decide ((s.qo n).hs < 5) && decide ((s.qo n).ls < 5)

/-- REMOVAL_COMPLETE (R434). -/
def execRemovalComplete (p : Port) (s : State) : Host.Outcome State Fault Refusal :=
  if ripState s p = 2 ∧ (s.ripOf p).tR.isSome = true ∧ s.rdB R.safe_RMV_DONE [p.val] = false ∧
      ownOff s (qOf p) = true ∧ termOn s p.val = false then
    .next (portsReturn (safeEval ((s.wr R.safe_RMV_DONE [p.val] 1).raise 336 1)))
  else .next s

/-- The longest test, µs: DP_LEN × 10 µs, DP_LEN taken to 5-30 (R437, R458). -/
def dpLen (s : State) : Nat := 10 * max 5 (min 30 (s.cf R.scfg_DP_LEN []))

/-- A test of an output that is on is due: DP_INT seconds after the last one, or after it turned on, and 1 ms from any other
output's test (R437). -/
def dpDue (s : State) (n : Fin 40) : Bool :=
  heldFor s (s.qo n).dpAt (200000000 * max 1 (s.cf R.scfg_DP_INT [])) && (s.safe.dpLast.isNone || heldFor s s.safe.dpLast 200000)

/-- DARK_PULSE_TEST (R437): the switch under test fell below 5 mA after `fell` µs, or not at all. DP reads 1 until then, or
until the test ends (R457). -/
def darkPulse (n : Fin 40) (fell : Option Nat) (s : State) : State :=
  let low := (s.qo n).dpLow
  let len := min (dpLen s) (fell.getD (dpLen s))
  let s := (s.qoF n (fun q => { q with dpLow := !q.dpLow, dpAt := some s.now, dpEnd := some (s.now + 200 * len) })).wr R.sout_DP [n.val] 1
  let s := s.sfF (fun x => { x with dpLast := some s.now })
  if (match fell with | some t => decide (t ≤ dpLen s) | none => false) then s else safeEval (latchOut n (!low) low s)

/-- DARK_PULSE_TEST (R437). -/
def execDarkPulseTest (n : Fin 40) (fell : Option Nat) (s : State) : Host.Outcome State Fault Refusal :=
  if s.rdB R.sout_CMD [n.val] && safeRuns s && dpDue s n then .next (darkPulse n fell s) else .next s

/-- OPEN_COIL latches (R439, R440). -/
def openCoil (n : Fin 40) (s : State) : State :=
  let s := ((s.wr R.sout_OPEN_COIL [n.val] 1).setErr 336 0x0103).raise 336 3
  safeEval (if h : n.val < 32 then remove ⟨n.val, h⟩ 7 s else s)

/-- OPEN_COIL: below 20 mA for 100 ms while on (R439). -/
def execOpenCoil (n : Fin 40) (s : State) : Host.Outcome State Fault Refusal :=
  if s.rdB R.sout_CMD [n.val] && safeRuns s && (decide ((s.qo n).hs < 20) || decide ((s.qo n).ls < 20)) &&
      !s.rdB R.sout_OPEN_COIL [n.val] && heldFor s (s.qo n).lowAt 20000000 then .next (openCoil n s)
  else .next s

/-- SHARED_STUCK (R452). -/
def execSharedStuck (p : Port) (s : State) : Host.Outcome State Fault Refusal :=
  let old := match (s.ripOf p).tR with | some t => decide (2000000 ≤ s.now + s.spar.clocks - t) | none => false
  if ripState s p = 2 ∧ old = true ∧ ownOff s (qOf p) = true ∧ termOn s p.val = true ∧ s.rdB R.sout_SH_STUCK [p.val] = false then
    .next ((s.wr R.sout_SH_STUCK [p.val] 1).raise 336 3)
  else .next s

/-- SS and SS_SRC that the island asks for on the lines of a port (R431, R434, R452). -/
def portSs (s : State) (p : Port) : Nat := if s.rdB R.sout_SH_STUCK [p.val] then 3 else (s.ripOf p).ss

/-! ## The safety word (R448-R450) -/

/-- The module's own safety word. -/
def ownWord (s : State) : SafetyWord :=
  { slot := s.slotY, sf := s.rd R.safe_SF_STATE [], zones := s.rd R.safe_ZSTATE [], permit := s.rd R.safe_PERMIT []
    cmd := (List.range 40).foldl (fun acc n => if s.rdB R.sout_CMD [n] then acc + 2 ^ n else acc) 0 }

/-- Partner permits follow the partner's word; a fall stops a port that is OK (R449). -/
def partnerFollow (s : State) : State :=
  let s := s.wrB R.safe_PAIR_RUN [] (partnerRuns s)
  let s := foldS (List.finRange 32) (fun s p =>
    let old := bitB (s.rd R.safe_PPERMIT []) p.val
    let now := ppermit s p.val
    let s := s.wrBit R.safe_PPERMIT [] p.val now
    if old && !now then
      let s := s.raise 336 7
      if ripState s p = 0 && safeRuns s then ripAsk p (leastRamp s p) 1 (some 8) s else s
    else s) s
  if safeRuns s then safeEval (portsReturn s) else s

/-- SAFETY_WORD_RX (R448): ignored with PAIR = 0; a word with a bad CRC is not present. -/
def safetyWordRx (x : SafetyWord) (s : State) : State :=
  let s := if s.rdB R.safe_TWORD [] then s else (s.wr R.safe_TWORD [] 1).raise 336 8
  partnerFollow (s.sfF (fun y => { y with pw := some x, pwAge := 0, sbOff := false }))

/-- SAFETY_WORD_RX (R448); a module with PAIR_EN = 0 ignores the Tether (R463). -/
def execSafetyWordRx (x : SafetyWord) (crcOk : Bool) (s : State) : Host.Outcome State Fault Refusal :=
  if crcOk && s.cfB R.scfg_PAIR [] && s.rdB R.teth_PAIR_EN [] && !s.inReset 18 then .next (safetyWordRx x s) else .next s

/-- SAFETY_WORD_LOST (R448): 8 control periods without a good word. -/
def execSafetyWordLost (s : State) : Host.Outcome State Fault Refusal :=
  if s.rdB R.safe_TWORD [] = true ∧ 8 ≤ s.safe.pwAge then .next (partnerFollow ((s.wr R.safe_TWORD [] 0).raise 336 8))
  else .next s

/-- STANDBY_OUTPUT_TIMEOUT (R450): two mains cycles after the last word. -/
def execStandbyOutputTimeout (s : State) : Host.Outcome State Fault Refusal :=
  if s.rdB R.safe_TWORD [] = false ∧ 1600 ≤ s.safe.pwAge then .next (safeOutputs (s.sfF (fun x => { x with sbOff := true })))
  else .next s

/-! ## What a control period does -/

/-- A test pulse that is over reads 0 (R457). -/
def dpPeriod (n : Fin 40) (s : State) : State :=
  match (s.qo n).dpEnd with
  | some t => if t ≤ s.now then (s.wr R.sout_DP [n.val] 0).qoF n (fun q => { q with dpEnd := none }) else s
  | none => s

/-- Both switch currents and the terminals of an output (R435, R457); CONT_FB follows the terminals of Qp (R439). -/
def outMeasure (n : Fin 40) (hs ls : Nat) (term : Bool) (s : State) : State :=
  let low := s.rdB R.sout_CMD [n.val] && (decide (hs < 20) || decide (ls < 20))
  let s := s.qoF n (fun q => { q with hs := hs, ls := ls, lowAt := since s low q.lowAt })
  let s := dpPeriod n s
  let s := ((s.wr R.sout_HS_I [n.val] (min 255 (hs / 10))).wr R.sout_LS_I [n.val] (min 255 (ls / 10))).wrB R.sout_TERM [n.val] term
  if h : n.val < 32 then
    (if s.rdB R.port_CONT_FB [n.val] = term then s else contactorFeedback ⟨n.val, h⟩ term s)
  else s

/-- The island at a control period start (R431-R433, R438, R448, R450, R459). -/
def safePeriod (q : PeriodIn) (s : State) : State :=
  if s.inReset 18 then s
  else
    let s := foldS (List.finRange 40) (fun s n =>
      let i := q.swI.getD n.val (0, 0)
      outMeasure n i.1 i.2 (bitB q.term n.val) s) s
    let s := s.sfF (fun x => { x with pwAge := x.pwAge + 1 })
    let s := foldS (List.range 16) (fun s n =>
      match s.safe.conn[n]?.bind (·.accAt) with
      | some t => s.wr R.xch_AGE [n] (min 65535 ((s.now - t) / 200000))
      | none => s) s
    let s := foldS (List.finRange 40) (fun s n => stuckCheck n s) s
    let s := if safeRuns s then foldS (List.finRange 32) (fun s p => rampPeriod p s) s else s
    let s := safeEval s
    s.sfF (fun x => { x with word := some (ownWord s) })

/-! ## The field rail (R413, R454) -/

/-- FIELD_RAIL_LOSS: the feeder couplings, load switches, then every zone trips with cause RAIL and power is removed from every port at once. -/
def fieldRailLoss (v : Nat) (s : State) : State :=
  let s := safeEval (lswRailLoss v s)
  safeOutputs (if safeRuns s then foldS (List.finRange 32) (fun s p => remove p 5 s) s else s)

/-- FIELD_RAIL_LOSS (R413). -/
def execFieldRailLoss (v : Nat) (s : State) : Host.Outcome State Fault Refusal :=
  if v < 1200 then .next (fieldRailLoss v s) else .next s

/-- VRAIL has been at 13.0 V or above for 10 ms (R413); while Spar does not run, the command says so. -/
def railBack (s : State) : Bool := !s.sparRuns || heldFor s s.lsw.railUp 2000000

/-- A period start finds VRAIL below 12.0 V (R413). -/
def railGone (q : PeriodIn) (s : State) : State :=
  if q.vrail < 1200 ∧ s.lsw.railOff = false then fieldRailLoss q.vrail s else s

/-- FIELD_RAIL_RETURN (R413, R454). -/
def execFieldRailReturn (v : Nat) (s : State) : Host.Outcome State Fault Refusal :=
  if 1300 ≤ v ∧ s.lsw.railOff = true ∧ railBack s = true then .next (safeEval (lswRailReturn v s)) else .next s

end Sys2Proof.Machine
end

