-- ==== Sys2Proof/Machine/Xatch.lean ====
section
/-! DEFINITION. Xatch: consumed and produced safety connections (15_safety_functions.md, R443-R447, R459). -/

namespace Sys2Proof.Machine

open Sys2Proof

/-- The fields of an Xatch frame (R443). -/
structure XatchFrame where
  cid : Nat
  seq : Nat
  wdog : Nat
  len : Nat
  path : Bool
  restart : Bool
  data : List Byte
  crcOk : Bool
  deriving DecidableEq, Repr

/-- A frame's payload read (R443): a LEN outside 1-64 or a cut frame fails its CRC. -/
def xatchDecode (b : List Byte) : XatchFrame :=
  let len := fld b 8 1
  { cid := fld b 0 4, seq := fld b 4 2, wdog := fld b 6 2, len := len, path := bitB (fld b 9 1) 0, restart := bitB (fld b 9 1) 1
    data := (b.drop 10).take len
    crcOk := within 1 64 len && decide (14 + len ≤ b.length) && fld b (10 + len) 4 == crc32c (b.take (10 + len)) }

/-- The payload of a frame (R443), padded to the Ethernet minimum of 46 bytes. -/
def xatchBytes (cid seq wdog flags : Nat) (data : List Byte) : List Byte :=
  let b := leBytes 4 cid ++ leBytes 2 seq ++ leBytes 2 wdog ++ leBytes 1 data.length ++ leBytes 1 flags ++ data
  let b := b ++ leBytes 4 (crc32c b)
  b ++ List.replicate (46 - b.length) 0

/-! ## Consumed connections (R444, R445, R447) -/

/-- A connection takes frames: enabled, the island in RUN, out of OFF. -/
def xcOn (s : State) (n : Fin 16) : Bool :=
  s.cfB R.xch_EN [n.val] && safeRuns s && !s.inReset 19 && s.rd R.xch_CSTATE [n.val] != 0

/-- A frame is for a connection (R444). -/
def xcMatch (s : State) (n : Fin 16) (src : Nat) (f : XatchFrame) : Bool :=
  let want := s.cf R.xch_SRC_LO [n.val] + s.cf R.xch_SRC_HI [n.val] * 2 ^ 32
  xcOn s n && f.cid == s.cf R.xch_CID [n.val] && (want == 0 || want == src)

/-- CRC_ERR or SEQ_ERR advances with its error code (R444, R460). -/
def xcErr (r : Row) (n : Fin 16) (code : Nat) (s : State) : State := ((s.satInc r [n.val]).setErr 344 code).raise 344 2

/-- A frame is accepted (R444, R445). -/
def xcTake (n : Fin 16) (seq : Nat) (data : List Byte) (s : State) : State :=
  let s := ((s.wr R.xch_LAST_SEQ [n.val] seq).wr R.xch_RXDATA [n.val] (leNat data)).wr R.xch_AGE [n.val] 0
  let s := s.xcF n (fun c => { c with accAt := some s.now, bad := false })
  if s.rd R.xch_CSTATE [n.val] = 2 then s
  else ((s.wr R.xch_CSTATE [n.val] 2).wrBit R.xch_CRUN [] n.val true).raise 344 0

/-- A sequence number is 1 to SEQ_WIN past LAST_SEQ (R444). -/
def inWindow (s : State) (n : Fin 16) (seq : Nat) : Bool :=
  within 1 (s.cf R.xch_SEQ_WIN [n.val]) ((seq + 65536 - s.rd R.xch_LAST_SEQ [n.val]) % 65536)

/-- A valid frame, or a matching pair of copies, meets the sequence check (R444). Out of RUN the first one sets LAST_SEQ,
and so does one of a sender that has restarted with its sequence begun afresh. -/
def xcSeq (n : Fin 16) (f : XatchFrame) (s : State) : State :=
  let waits := s.rd R.xch_CSTATE [n.val] != 2
  if waits && (!s.safe.conn[n].got || (f.restart && !inWindow s n f.seq)) then
    (s.wr R.xch_LAST_SEQ [n.val] f.seq).xcF n (fun c => { c with got := true })
  else if inWindow s n f.seq then xcTake n f.seq f.data s
  else xcErr R.xch_SEQ_ERR n 0x0101 s

/-- A valid copy of a dual-path frame (R447): it waits up to 2 ms for the other copy of its SEQ. -/
def xcDual (n : Fin 16) (ringB : Bool) (f : XatchFrame) (s : State) : State :=
  if f.path ≠ ringB then xcErr R.xch_SEQ_ERR n 0x0101 s
  else
    let live := (s.safe.conn[n].dual).filter (fun q => s.now - q.at_ ≤ 400000)
    match live.find? (fun q => q.seq == f.seq && q.path != f.path) with
    | none => s.xcF n (fun c => { c with dual := live.filter (fun q => q.seq ≠ f.seq) ++ [⟨f.seq, f.path, s.now, f.data⟩] })
    | some q =>
      let s := s.xcF n (fun c => { c with dual := live.filter (fun q => q.seq ≠ f.seq) })
      if q.data = f.data then xcSeq n f s
      else (((s.satInc R.xch_DUAL_ERR [n.val]).setErr 344 0x0103).raise 344 3).xcF n (fun c => { c with bad := true })

/-- A frame at a connection it is for (R444). -/
def xcFrame (n : Fin 16) (ringB : Bool) (f : XatchFrame) (s : State) : State :=
  if !f.crcOk then xcErr R.xch_CRC_ERR n 0x0100 s
  else if f.wdog ≠ s.cf R.xch_WDOG_MS [n.val] then xcErr R.xch_SEQ_ERR n 0x0102 s
  else if s.cfB R.xch_DUAL [n.val] then xcDual n ringB f s
  else xcSeq n f s

/-- XATCH_FRAME_RX (R444): a frame on a ring port. -/
def xatchFrameRx (ringB : Bool) (src : Nat) (payload : List Byte) (s : State) : State :=
  let f := xatchDecode payload
  safeEval (foldS ((List.finRange 16).filter (fun n => xcMatch s n src f)) (fun s n => xcFrame n ringB f s) s)

/-- XATCH_FRAME_RX (R444). -/
def execXatchFrameRx (ringB : Bool) (src : Nat) (payload : List Byte) (s : State) : Host.Outcome State Fault Refusal :=
  .next (xatchFrameRx ringB src payload s)

/-- A watchdog expires: FAULT (R444). -/
def xcExpire (n : Fin 16) (s : State) : State :=
  let s := ((s.wr R.xch_CSTATE [n.val] 3).wrBit R.xch_CRUN [] n.val false).satInc R.xch_WDOG_EXP [n.val]
  let s := ((s.setErr 344 0x0104).raise 344 1).xcF n (fun c => { c with got := false, dual := [] })
  safeEval s

/-- XATCH_WATCHDOG_EXPIRY (R444): no accepted frame for WDOG_MS. -/
def execXatchWatchdogExpiry (n : Fin 16) (s : State) : Host.Outcome State Fault Refusal :=
  if xcOn s n && s.rd R.xch_CSTATE [n.val] == 2 &&
      heldFor s s.safe.conn[n].accAt (200000 * s.cf R.xch_WDOG_MS [n.val]) then .next (xcExpire n s) else .next s

/-! ## Produced connections (R446) -/

/-- The safe data of a produced frame (R446). -/
def safeData (s : State) : List Byte :=
  let zones := (zonesOn s).foldl (fun acc z => if zst s z = zOk then acc + 2 ^ z else acc) 0
  leBytes 1 zones ++ leBytes 6 (s.rd R.safe_IN_NORM [] % 2 ^ 48) ++ leBytes 5 (ownWord s).cmd ++ leBytes 4 (s.rd R.safe_PERMIT [])

/-- One copy of a produced frame. -/
def producedFrame (s : State) (m : Fin 8) (ringB : Bool) : Bool × Nat × List Byte :=
  let cid := if s.slotY then s.cf R.xpr_CID_Y [m.val] else s.cf R.xpr_CID_X [m.val]
  let restart := decide (s.now - s.safe.runAt < 200000000)
  (ringB, s.cf R.xpr_DEST_LO [m.val] + s.cf R.xpr_DEST_HI [m.val] * 2 ^ 32,
    xatchBytes cid s.safe.prod[m] (s.cf R.xpr_WDOG_MS [m.val]) (b2n ringB + 2 * b2n restart) (safeData s))

/-- A produced frame at its ring port: EtherType 0x88B6, priority 7 (R24, R443). -/
def xatchRing (f : Bool × Nat × List Byte) (s : State) : State :=
  ringPut (if f.1 then 1 else 0) ⟨7, some f.2.1, 0x88B6, ethPad f.2.2, none⟩ s

/-- XATCH_SEND: a produced connection sends (R446). -/
def xatchSend (m : Fin 8) (s : State) : State :=
  let dual := s.cfB R.xpr_DUAL [m.val]
  let l := producedFrame s m false :: (if dual then [producedFrame s m true] else [])
  let s := foldS l (fun s f => xatchRing f s) s
  let s := s.wr R.xch_TX_CNT [] (s.rd R.xch_TX_CNT [] + l.length)
  s.sfF (fun x => { x with xsent := l, prod := vupd x.prod m (fun q => (q + 1) % 65536), sentAt := vupd x.sentAt m (fun _ => some s.now) })

/-- SEND_MS have passed since the connection last sent (R446). -/
def sendDue (s : State) (m : Fin 8) : Bool :=
  s.safe.sentAt[m].isNone || heldFor s s.safe.sentAt[m] (200000 * s.cf R.xpr_SEND_MS [m.val])

/-- XATCH_SEND (R446). -/
def execXatchSend (m : Fin 8) (s : State) : Host.Outcome State Fault Refusal :=
  if safeRuns s && s.cfB R.xpr_EN [m.val] && !s.inReset 19 && sendDue s m then .next (xatchSend m s) else .next s

/-- XCH_CNT_CLR: the page 2 counters and TX_CNT clear (R459). -/
def execXchCntClr (w : World) (s : State) : Host.Outcome State Fault Refusal :=
  .next (s.asWriter w 344 (fun s =>
    foldS (List.range 16) (fun s n =>
      (((s.wr R.xch_CRC_ERR [n] 0).wr R.xch_SEQ_ERR [n] 0).wr R.xch_WDOG_EXP [n] 0).wr R.xch_DUAL_ERR [n] 0)
      (s.wr R.xch_TX_CNT [] 0)))

end Sys2Proof.Machine
end

