-- ==== Sys2Proof/Machine/Image.lean ====
section
/-! DEFINITION. The state image of a redundant pair (R469-R472): the contents of its chunks as keyed values. The spec gives
the sections' contents and chunk counts and leaves the layout inside a section to VERSION (R482), so a chunk carries
keyed values (log entry 27). -/

namespace Sys2Proof.Machine

open Sys2Proof

/-- One value of a section: its key, how it is read from the state and put into it. -/
structure ImgF where
  key : Nat
  get : State → Int
  set : Int → State → State

/-- A register field. -/
def imgR (r : Row) (ix : List Nat) : ImgF := ⟨r.key ix, fun s => s.rd r ix, fun v s => s.wr r ix v.toNat⟩

/-- Register fields of one instance. -/
def imgRs (l : List Row) (ix : List Nat) : List ImgF := l.map (fun r => imgR r ix)

/-- A value that stands beside the registers, numbered by kind and place. -/
def imgX (kind i : Nat) (get : State → Int) (set : Int → State → State) : ImgF := ⟨2 ^ 40 + kind * 2 ^ 24 + i, get, set⟩

/-- The entries a section gives at a state. -/
def imgTake (l : List ImgF) (s : State) : List (Nat × Int) := l.map (fun f => (f.key, f.get s))

/-- The entry of a key. -/
def imgFind (l : List (Nat × Int)) (k : Nat) : Option Int := (l.find? (fun e => e.1 == k)).map (·.2)

/-- A section put into the state. -/
def imgGive (l : List ImgF) (e : List (Nat × Int)) (s : State) : State :=
  foldS l (fun s f => match imgFind e f.key with | some v => f.set v s | none => s) s

/-- A flag as a number. -/
def bI (b : Bool) : Int := b2n b

/-! ## Sections (R469) -/

/-- PORT: the session of one port (R251). -/
def imgPort (p : Port) : List ImgF :=
  let x := fun (i : Nat) (get : SessS → Int) (set : Int → SessS → SessS) =>
    imgX 1 (16 * p.val + i) (fun s => get (s.se p)) (fun v s => s.seF p (set v))
  imgRs [R.port_SSTATE, R.port_STEP, R.port_CAUSE, R.port_WELD_LATE, R.port_WELD_RB, R.port_ISO_WARN_F, R.port_PAUSE_F,
    R.port_PRE_OK, R.port_ISO_RES, R.port_SESS_ID, R.port_SSTATE_CYCLE] [p.val] ++
  [x 0 (fun e => bI e.stepDone) (fun v e => { e with stepDone := v != 0 }),
   x 1 (fun e => bI e.dischTmo) (fun v e => { e with dischTmo := v != 0 }),
   x 2 (fun e => e.cause) (fun v e => { e with cause := v.toNat }),
   x 3 (fun e => bI e.bad) (fun v e => { e with bad := v != 0 }),
   x 4 (fun e => e.vs) (fun v e => { e with vs := v }),
   x 5 (fun e => bI e.unplugged) (fun v e => { e with unplugged := v != 0 })]

/-- VLNK: the link identity of one port (R274). -/
def imgLink (p : Port) : List ImgF :=
  imgRs [R.vl_LINK, R.vl_PEER_IP, R.vl_PEER_MAC] [p.val] ++
  [imgX 2 (2 * p.val) (fun s => leNat (s.vl p).nmk) (fun v s => s.vlF p (fun x => { x with nmk := leBytes 16 v.toNat })),
   imgX 2 (2 * p.val + 1) (fun s => leNat (s.vl p).nid) (fun v s => s.vlF p (fun x => { x with nid := leBytes 7 v.toNat }))]

/-- SPLC: one entry of the dispenser table (R294). The TEI is the entry's own (R284). -/
def imgDisp (d : Nat) : List ImgF :=
  imgRs [R.dsp_MAC_LO, R.dsp_MAC_HI, R.dsp_LISTED, R.dsp_COUP, R.dsp_PORT_MASK, R.dsp_DSTATE, R.dsp_EVT_SEQ] [d]

/-- An accumulator with its remainder, in W µs. -/
def accOf (mwh : Int) (rem : Nat) : Int := mwh * mWh + rem

/-- MTR: accumulators with remainders and tariff accumulators of one meter, in W µs (R332, R472). -/
def imgMeter (m : Meter) : List ImgF :=
  let k := 64 * m.val
  [imgX 3 k (fun s => accOf (s.rd R.mt_E_POS [m.val]) (s.mtr m).posR)
     (fun v s => (s.wrI R.mt_E_POS [m.val] (v / mWh)).mtrF m (fun x => { x with posR := (v % mWh).toNat })),
   imgX 3 (k + 1) (fun s => accOf (s.rd R.mt_E_NEG [m.val]) (s.mtr m).negR)
     (fun v s => (s.wrI R.mt_E_NEG [m.val] (v / mWh)).mtrF m (fun x => { x with negR := (v % mWh).toNat })),
   imgX 3 (k + 2) (fun s => accOf (s.rdI R.mt_E_NET [m.val]) (s.mtr m).netR)
     (fun v s => (s.wrI R.mt_E_NET [m.val] (v / mWh)).mtrF m (fun x => { x with netR := (v % mWh).toNat }))] ++
  (List.range 16).map (fun t => imgX 3 (k + 8 + t) (fun s => sget 0 s.bill.tpos (16 * m.val + t))
    (fun v s => s.billF (fun b => { b with tpos := sput 0 b.tpos (16 * m.val + t) v }))) ++
  (List.range 16).map (fun t => imgX 3 (k + 32 + t) (fun s => sget 0 s.bill.tneg (16 * m.val + t))
    (fun v s => s.billF (fun b => { b with tneg := sput 0 b.tneg (16 * m.val + t) v })))

/-- MTR: the pulse counters, in the section's first chunk. -/
def imgPulses : List ImgF :=
  (List.finRange 8).map (fun n => imgX 4 n.val (fun s => s.pulses[n].c)
    (fun v s => { s with pulses := vupd s.pulses n (fun q => { q with c := v }) }))

/-- BILL: the open interval, sequence numbers and causes; prepayment and maxima follow (R469). -/
def imgBill : List ImgF :=
  let x := fun (i : Nat) (get : BillS → Int) (set : Int → BillS → BillS) =>
    imgX 5 i (fun s => get s.bill) (fun v s => s.billF (set v))
  imgRs [R.bill_OPEN, R.bill_OPEN_START, R.bill_OPEN_END, R.bill_OPEN_FLAGS, R.bill_REC_SEQ, R.bill_LOG_SEQ, R.bill_LAST_BOUND,
    R.bill_DEF_CAUSE] [] ++
  [x 0 (fun b => b.demL) (fun v b => { b with demL := v.toNat }), x 1 (fun b => b.demT) (fun v b => { b with demT := v.toNat }),
   x 2 (fun b => b.openMono) (fun v b => { b with openMono := v.toNat }),
   x 3 (fun b => b.openTariff) (fun v b => { b with openTariff := v.toNat })] ++
  (List.finRange 36).flatMap (fun m =>
    let y := fun (i : Nat) (get : OpenM → Int) (set : Int → OpenM → OpenM) =>
      x (16 + 8 * m.val + i) (fun b => get b.opens[m]) (fun v b => { b with opens := vupd b.opens m (set v) })
    [y 0 (fun o => o.pos) (fun v o => { o with pos := v.toNat }), y 1 (fun o => o.neg) (fun v o => { o with neg := v.toNat }),
     y 2 (fun o => o.net) (fun v o => { o with net := v }), y 3 (fun o => o.rev) (fun v o => { o with rev := v.toNat }),
     y 4 (fun o => o.ft) (fun v o => { o with ft := v.toNat })]) ++
  (List.range 32).flatMap (fun p => imgRs [R.pre_DISC_FAIL, R.pre_DISC_SENT, R.pre_LOW, R.pre_PREPAY, R.pre_SESS_ID, R.pre_BAL,
    R.pre_LOW_AT, R.pre_SESS_E] [p])

/-- BILL: the maxima. -/
def imgMaxima : List ImgF :=
  (List.range 36).flatMap (fun m => (List.range 16).flatMap (fun t => imgRs [R.leg_MD_POS, R.leg_MD_NEG] [m, t]))

/-- An entry that a standby takes only while its own THRM runs: with EN = 0 or in reset every input reads invalid (R396). -/
def ImgF.thrm (f : ImgF) : ImgF := { f with set := fun v s => if s.runs 320 then f.set v s else s }

/-- THRM: readings and status of an input, and the ports it has tripped (R387, R395). -/
def imgInput (i : Fin 144) : List ImgF := List.map ImgF.thrm <|
  imgX 12 i.val (fun s => s.thrm.tins[i].trips)
    (fun v s => { s with thrm := { s.thrm with tins := vupd s.thrm.tins i (fun x => { x with trips := v.toNat }) } }) ::
  imgRs [R.tin_TEMP, R.tin_TRIP_F, R.tin_WARN_F, R.tin_FAST, R.tin_SUSPECT, R.tin_RATE, R.tin_RANGE, R.tin_SHORT, R.tin_OPEN,
    R.tin_VALID] [i.val]

/-- THRM: PTRIP and the cooling-loop integrators. -/
def imgCool : List ImgF :=
  (imgR R.thrm_PTRIP []).thrm :: (List.finRange 8).map (fun k => imgX 6 k.val (fun s => s.thrm.coolX[k])
    (fun v s => { s with thrm := { s.thrm with coolX := vupd s.thrm.coolX k (fun _ => v) } }))

/-- LSW: the register state of one channel (R416). -/
def imgSwitch (n : Nat) : List ImgF :=
  imgRs [R.lch_RETRY_DLY, R.lch_HOLD, R.lch_RETRY, R.lch_LIMP_DEF, R.lch_LIMP_SEL, R.lch_BLK_EACH, R.lch_MODE, R.lch_ILIM_INR,
    R.lch_ILIM, R.lch_BLK, R.lch_TLIM, R.lch_OPEN_TH, R.lch_DT_LIM, R.lch_DT_TIME, R.lch_PER, R.lch_PHS, R.lch_DUTY] [n]

/-- BRN: one port (R154). -/
def imgBrnPort (p : Port) : List ImgF :=
  let x := fun (i : Nat) (get : PrtS → Int) (set : Int → PrtS → PrtS) =>
    imgX 7 (16 * p.val + i) (fun s => get (s.prt p)) (fun v s => s.prtF p (set v))
  (List.range 6).map (fun k => imgR R.prt_XI [p.val, k]) ++
  imgRs [R.prt_DIR, R.prt_PREQ, R.prt_PSTATE, R.prt_LEAD, R.prt_VR, R.prt_VRUN, R.prt_BURST, R.prt_NBLAST] [p.val] ++
  [x 0 (fun q => q.prev) (fun v q => { q with prev := v }), x 1 (fun q => q.dirPrev) (fun v q => { q with dirPrev := v.toNat }),
   x 2 (fun q => q.th) (fun v q => { q with th := v }), x 3 (fun q => q.tc) (fun v q => { q with tc := v }),
   x 4 (fun q => q.ths) (fun v q => { q with ths := v }),
   x 5 (fun q => match q.lead with | some i => (i : Int) + 1 | none => 0)
     (fun v q => { q with lead := if v = 0 then none else some (v.toNat - 1) }),
   x 6 (fun q => q.ssCount) (fun v q => { q with ssCount := v.toNat }), x 7 (fun q => bI q.ssOver) (fun v q => { q with ssOver := v != 0 }),
   x 8 (fun q => q.ssTime) (fun v q => { q with ssTime := v.toNat }), x 9 (fun q => q.burstLow) (fun v q => { q with burstLow := v.toNat }),
   x 10 (fun q => match q.burstStart with | some i => (i : Int) + 1 | none => 0)
     (fun v q => { q with burstStart := if v = 0 then none else some (v.toNat - 1) }),
   x 11 (fun q => q.rotCnt) (fun v q => { q with rotCnt := v.toNat })]

/-- BRN: one stage (R154). -/
def imgBrnStage (i : Stage) : List ImgF :=
  imgRs [R.line_INFORCE, R.stg_FAILED, R.stg_CAUSE, R.stg_HOSTATE, R.stg_H, R.stg_HO_ABORT] [i.val] ++
  [imgX 8 i.val (fun s => (s.stg i).mode) (fun v s => s.stgF i (fun g => { g with mode := v.toNat }))]

/-- The fixed fields of a chunk, but for HDR, LOFT, ENV and BRD. -/
def chunkFields (idx : Nat) : List ImgF :=
  if 2 ≤ idx ∧ idx ≤ 5 then ((List.finRange 32).filter (fun p => p.val / 8 + 2 = idx)).flatMap imgPort
  else if 6 ≤ idx ∧ idx ≤ 7 then ((List.finRange 32).filter (fun p => p.val / 16 + 6 = idx)).flatMap imgLink
  else if idx = 8 then (List.range 32).flatMap imgDisp
  else if 9 ≤ idx ∧ idx ≤ 26 then
    (if idx = 9 then imgPulses else []) ++ ((List.finRange 36).filter (fun m => m.val / 2 + 9 = idx)).flatMap imgMeter
  else if idx = 27 then imgBill
  else if idx = 28 then imgMaxima
  else if idx = 29 then (List.finRange 144).flatMap imgInput
  else if idx = 30 then imgCool
  else if idx = 31 then (List.range 32).flatMap imgSwitch
  else if 32 ≤ idx ∧ idx ≤ 47 then
    ((List.finRange 32).filter (fun p => p.val / 2 + 32 = idx)).flatMap imgBrnPort ++
      ((List.finRange 128).filter (fun i => i.val / 8 + 32 = idx)).flatMap imgBrnStage
  else []

/-- ENV_LEN as it acts (R484). -/
def envLen (s : State) : Nat := min 14336 (s.rd R.teth_ENV_LEN [])

/-- Loft words of a chunk: 64 entries of 4 words. -/
def loftWords (idx : Nat) (l : List (Nat × Nat)) : List (Nat × Nat) :=
  l.filter (fun e => (idx - 48) * 256 ≤ e.1 ∧ e.1 < (idx - 47) * 256)

/-- MODE = SELECTIVE cannot be taken (R470). -/
def modeForced (s : State) : Bool :=
  !s.rdB R.teth_MODE [] &&
    (decide (8 < ((List.range 32).filter (fun p => s.enOf (160 + p))).length) ||
     decide (32 < ((List.range 128).filter (fun i => s.rdB R.line_LEN [i])).length))

/-- The image is FULL (R470). -/
def imgFull (s : State) : Bool := s.rdB R.teth_MODE [] || modeForced s

/-! ## Chunks of an image -/

/-- Chunks of an image in the order of their control periods (R469): FULL from period 1, SELECTIVE those marked Yes. -/
def chunkAt (full : Bool) (period : Nat) : Option Nat :=
  if full then (if 1 ≤ period ∧ period ≤ 128 then some period else none)
  else if 1 ≤ period ∧ period ≤ 31 then some period
  else if 32 ≤ period ∧ period ≤ 45 then some (period + 80)
  else if 126 ≤ period ∧ period ≤ 128 then some period
  else none

/-- Every chunk of an image. -/
def chunkSet (full : Bool) : List Nat := (List.range 129).filterMap (chunkAt full)

/-- The bodies that the image's CRC covers: those of chunks 2 to 125 that are sent. BRD is known after HDR has gone (DEDUCED,
log entry 27). -/
def crcBodies (full : Bool) (body : Nat → List (Nat × Int)) : List (List (Nat × Int)) :=
  ((chunkSet full).filter (fun k => decide (2 ≤ k) && decide (k < 126))).map body

/-- HDR: cycle, slot, claim, section map (bit k for row k of the table of R469), ENV_LEN and the image's CRC-32C. -/
def hdrTake (bodies : List (List (Nat × Int))) (s : State) : List (Nat × Int) :=
  let full := imgFull s
  [(0, s.spar.cycle), (1, b2n s.slotY), (2, s.rd R.teth_CLAIM []), (3, if full then 0xFFF else 0xCFF), (4, envLen s),
    (5, Config.imageCrc (crcBodies full (fun k => nth [] bodies k)))]

/-- The contents of a chunk at a state, but for HDR and BRD (R469). -/
def chunkTake (idx : Nat) (s : State) : List (Nat × Int) :=
  if 48 ≤ idx ∧ idx ≤ 111 then (loftWords idx s.brd.loft).map (fun e => (e.1, (e.2 : Int)))
  else if 112 ≤ idx ∧ idx ≤ 125 then
    let o := (idx - 112) * 1024
    (List.range (min 1024 (envLen s - o))).map (fun i => (o + i, ((memGet s.dram (s.rd R.teth_ENV_ADDR [] + o + i)).toNat : Int)))
  else imgTake (chunkFields idx) s

/-- ENV bytes written to the standby's own ENV_ADDR (R471), as far as DRAM goes. -/
def envGive (e : List (Nat × Int)) (s : State) : State :=
  let l := (e.map (fun x => (s.rd R.teth_ENV_ADDR [] + x.1, x.2))).filter (fun x => x.1 < 2 ^ 32)
  { s with dram := l.foldl (fun m x => memPut m x.1 (BitVec.ofNat 8 x.2.toNat)) s.dram }

/-- A chunk's contents put into the state, but for MTR, HDR and BRD (R471). -/
def chunkGive (c : Chunk) (s : State) : State :=
  if 48 ≤ c.idx ∧ c.idx ≤ 111 then
    { s with brd := { s.brd with
        loft := scopy s.brd.loft (c.ents.map (fun e => (e.1, e.2.toNat))) ((c.idx - 48) * 256) ((c.idx - 47) * 256) } }
  else if 112 ≤ c.idx ∧ c.idx ≤ 125 then envGive c.ents s
  else if 9 ≤ c.idx ∧ c.idx ≤ 26 then s
  else
    let s := imgGive (chunkFields c.idx) c.ents s
    if c.idx = 8 then splcShow s else s

/-! ## BRD (R216, R218, R469) -/

/-- The plan Bridle will apply at the next angle 0x0000, with REUSED and ZEROED (R216). -/
def planNext (s : State) : BrdPlan × Bool × Bool :=
  match s.brd.ready with
  | some q => (q, false, false)
  | none =>
    let q := planInForce s
    if s.brd.discarded && decide (3 ≤ s.rd R.brd_FAILRUN []) then
      (q.zeroed, false, true)
    else (q, true, false)

/-- The BRD section: ALLOC, ROUTE_PLAN, stack PLAN, HOLD and bias for the next cycle. -/
def brdTake (s : State) : List (Nat × Int) :=
  let n := planNext s
  let q := n.1
  let m := max 50 (s.rd R.brd_REROUTE_MIN [])
  (List.range 32).map (fun p => (p, nth 0 q.alloc p)) ++
  (List.range 128).map (fun i => (64 + i, ((nth 4 q.route i : Nat) : Int))) ++
  (List.range 2).map (fun k => (32 + k, nth 0 q.stack k)) ++
  (List.range 128).map (fun i =>
    (192 + i, ((if nth 4 q.route i ≠ s.rd R.stg_ROUTE_PLAN [i] then m else s.rd R.bst_HOLD [i] - 1 : Nat) : Int))) ++
  (List.range 4).map (fun c => (40 + c, s.rdI R.bcp_BIAS [c])) ++
  [(48, bI n.2.1), (49, bI n.2.2)]

/-- The part of BRD in a chunk: ALLOC, stack PLAN, bias and the flags in 126, ROUTE_PLAN in 127, HOLD in 128 (log entry 27). -/
def brdChunk (idx : Nat) (s : State) : List (Nat × Int) :=
  (brdTake s).filter (fun e => if idx = 126 then decide (e.1 < 64) else if idx = 127 then within 64 191 e.1 else decide (192 ≤ e.1))

/-- The image of a state at angle 0x0000 but for BRD: its chunks' contents by number (R469). -/
def imageTake (s : State) : List (List (Nat × Int)) :=
  let bodies := (List.range 126).map (fun k => chunkTake k s)
  bodies.set 1 (hdrTake bodies s)

/-- The plan of a BRD section. -/
def brdPlanOf (e : List (Nat × Int)) : BrdPlan :=
  let v := fun k => (imgFind e k).getD 0
  ⟨(List.range 32).map v, (List.range 128).map (fun i => (v (64 + i)).toNat), (List.range 2).map (fun k => v (32 + k))⟩

/-- A BRD section put in force (R218). -/
def brdGive (e : List (Nat × Int)) (s : State) : State :=
  let v := fun k => (imgFind e k).getD 0
  let s := putPlan (brdPlanOf e) s
  let s := foldS (List.range 128) (fun s i => s.wr R.bst_HOLD [i] (v (192 + i)).toNat) s
  let s := foldS (List.range 4) (fun s c => s.wrI R.bcp_BIAS [c] (v (40 + c))) s
  (s.wr R.brd_REUSED [] (v 48).toNat).wr R.brd_ZEROED [] (v 49).toNat

/-! ## Meter alignment (R472) -/

/-- The metering values of every chunk of MTR. -/
def mtrFields : List ImgF := (List.range 18).flatMap (fun k => chunkFields (9 + k))

/-- The accumulators of a meter that METER_TOL compares. -/
def tolKeys (m : Nat) : List Nat := (List.range 3).map (fun j => (imgX 3 (64 * m + j) (fun _ => 0) (fun _ s => s)).key)

/-- The standby's metering values take the partner's latched ones (R472). `old` is the own latch of the last angle 0x0000;
with none, nothing has been closed since it. -/
def mtrAlign (e : List (Nat × Int)) (old : Option (List (Nat × Int))) (s : State) : State :=
  foldS mtrFields (fun s f =>
    match imgFind e f.key with
    | none => s
    | some v =>
      let base := match old with | some l => (imgFind l f.key).getD 0 | none => f.get s
      f.set (v + (f.get s - base)) s) s

/-- Meters whose difference exceeds METER_TOL. -/
def mtrOff (e : List (Nat × Int)) (old : List (Nat × Int)) (tol : Nat) : List Nat :=
  (List.range 36).filter (fun m => (tolKeys m).any (fun k =>
    decide (tol * mWh < ((imgFind e k).getD 0 - (imgFind old k).getD 0).natAbs)))

end Sys2Proof.Machine
end

