-- ==== Sys2Proof/Machine/Teth.lean ====
section
/-! DEFINITION. The redundant pair: claims, the Tether, health reports, the standby, taking and releasing the claim,
joining (16_redundant_pair.md). -/

namespace Sys2Proof.Machine

open Sys2Proof

/-- A change of the pair's state. -/
def State.teF (s : State) (f : TethS → TethS) : State := { s with teth := f s.teth }

/-- States of TSTATE (R482). -/
def tsOff : Nat := 0
def tsJoin : Nat := 1
def tsStandby : Nat := 2
def tsActive : Nat := 3

/-- TSTATE. -/
def tstate (s : State) : Nat := s.rd R.teth_TSTATE []

/-- TETH runs as one of a pair (R463). -/
def pairOn (s : State) : Bool := s.runs 352 && s.rdB R.teth_PAIR_EN []

/-! ## Claims (R461, R462) -/

/-- The slot byte (R461). -/
def slotByte (s : State) : Nat := if s.slotY == s.teth.prio then 1 else 2

/-- Claim `a` is newer than claim `b` (R462). -/
def newer (a b : Nat) : Bool :=
  let d := (a % 256 + 256 - b % 256) % 256
  (decide (1 ≤ d) && decide (d ≤ 127)) || (d == 0 && decide (b / 256 < a / 256))

/-- The newer of two claims, 0 standing for none. -/
def newest (k c : Nat) : Nat := if c ≠ 0 ∧ (k = 0 ∨ newer c k = true) then c else k

/-- A claim is heard of (R462). -/
def know (c : Nat) (s : State) : State := s.teF (fun t => { t with known := newest t.known c })

/-- The newest claim the module knows of (R462). -/
def knownNow (s : State) : Nat := (List.range 128).foldl (fun k i => newest k (s.rd R.line_CLAIM_HEARD [i])) s.teth.known

/-- The claim the module would take now (R462). -/
def nextClaim (s : State) : Nat := slotByte s * 256 + (knownNow s % 256 + 1) % 256

/-! ## Self-test (R468) -/

/-- A bit of SELFTEST; setting one raises IRQ_RAW.SELFTEST. -/
def selfTest (n : Nat) (b : Bool) (s : State) : State :=
  let was := bitB (s.rd R.tethp_SELFTEST []) n
  let s := s.wrBit R.tethp_SELFTEST [] n b
  if b && !was then s.raise 352 5 else s

/-- UNCORRECTABLE_ECC_ERROR (R468). -/
def execUncorrectableEccError (s : State) : Host.Outcome State Fault Refusal := .next (selfTest 4 true s)

/-! ## Becoming active and ceasing to be (R474, R476, R477) -/

/-- SILENCE_TRIP of a line's driver (R102). -/
def silenceTripped (s : State) (i : Nat) : Bool := bitB (s.rd R.line_STATUS [i]) 14

/-- The module becomes active (R476): claim, registers, and what each chapter sets out for that period. -/
def becomeActive (cause : Nat) (s : State) : State :=
  let c := nextClaim s
  let s := (((s.wr R.teth_ACTIVE [] 1).wr R.teth_TSTATE [] tsActive).wr R.teth_CLAIM [] c).wr R.teth_TAKE_CAUSE [] cause
  let s := ((s.wr R.teth_TAKE_CYCLE [] s.spar.cycle).wr R.teth_TAKE_PERIOD [] s.spar.period).satInc R.teth_TAKEOVERS []
  let s := (s.wr R.teth_TAKE_BLOCKED [] 0).raise 352 0
  let s := s.teF (fun t => { t with
    known := c, relRx := none, relTx := none, force := false, takereq := false
    offLines := (List.range 128).filter (silenceTripped s) })
  let s := mclkActive true s
  let s := foldS (List.finRange 32) (fun s p => vlTakeover p (portTakeover p (sessTakeover p s))) s
  let s := s.brdF (fun b => { b with takeover := true })
  safeOutputs (lswTakeover (splcTakeover (thrmTakeover s)))

/-- The module is not active any more. -/
def ceaseActive (st : Nat) (s : State) : State :=
  let s := ((s.wr R.teth_ACTIVE [] 0).wr R.teth_TSTATE [] st).wr R.teth_CLAIM [] 0
  let s := s.teF (fun t => { t with relTx := none, takereq := false, snap := [], offLines := [] })
  safeOutputs (lchEvals false (mclkActive false (foldS (List.finRange 32) (fun s p => vlCease p (sessCease p s)) s)))

/-- RELEASE is set in the Tether word of this period (R474). A single module never demotes (R463). -/
def tethRelease (s : State) : State :=
  if s.active && s.rdB R.teth_PAIR_EN [] && s.teth.relTx.isNone then
    (s.teF (fun t => { t with
      relTx := some s.spar.serial, word := t.word.map (fun w => { w with release := true }) })).raise 352 2
  else s

/-- RELEASE: W0 alone (R474, R484). -/
def execReleaseClaim (w : World) (s : State) : Host.Outcome State Fault Refusal := .next (s.onlyBy 0 w 352 tethRelease)

/-- TAKE: W0 alone; refused unless a standby is SILENT (R475, R484). -/
def tethTake (s : State) : State :=
  if tstate s = tsStandby ∧ s.rdB R.teth_SILENT [] = true then s.teF (fun t => { t with force := true }) else s.setErr 352 0x0102

/-- TAKE (R475). -/
def execTake (w : World) (s : State) : Host.Outcome State Fault Refusal := .next (s.onlyBy 0 w 352 tethTake)

/-- The conditions of R473 on the module itself. -/
def mayTake (s : State) : Bool := !s.rdB R.pwr_HOLDUP [] && safeRuns s && s.rdB R.teth_SYNCED []

/-- The cause for which a standby takes the claim at this period start: 2 RELEASE, 3 FORCED, 1 SILENT (R473-R475). -/
def takeCause (s : State) : Option Nat :=
  if tstate s ≠ tsStandby ∨ pairOn s = false then none
  else if (match s.teth.relRx with | some n => n + 1 == s.spar.serial | none => false) && mayTake s then some 2
  else if s.teth.force && s.rdB R.teth_SILENT [] then some 3
  else if s.rdB R.teth_SILENT [] && s.rdB R.teth_HLTH_LOST [] && mayTake s then some 1
  else none

/-- TAKE_CLAIM (R473-R476). -/
def execTakeClaim (s : State) : Host.Outcome State Fault Refusal :=
  match takeCause s with
  | some c => .next (becomeActive c s)
  | none => .next s

/-! ## The link (R464, R467) -/

/-- LANE_FAULT (R464). -/
def execLaneFault (s : State) : Host.Outcome State Fault Refusal :=
  if s.runs 352 && !s.rdB R.teth_LANE_FLT [] then .next (selfTest 6 true ((s.wr R.teth_LANE_FLT [] 1).raise 352 7)) else .next s

/-- FALLBACK reads 1 while the Tether is down and images go over ring port A (R467). -/
def showFallback (s : State) : State := s.wrB R.teth_FALLBACK [] (pairOn s && s.rdB R.teth_TDOWN [])

/-- TETHER_DOWN: TDOWN, fallback frames, Spar's source (R464, R467, R75). -/
def tetherDown (s : State) : State :=
  followSource (selfTest 6 true (showFallback ((s.wr R.teth_TDOWN [] 1).raise 352 7)))

/-- TETHER_DOWN (R464). -/
def execTetherDown (s : State) : Host.Outcome State Fault Refusal :=
  if s.runs 352 && !s.rdB R.teth_TDOWN [] then .next (tetherDown s) else .next s

/-- TETHER_RETURN: a lane, or both (`two`), have lock again (R464, R75). -/
def tetherReturn (two : Bool) (s : State) : State :=
  let down := s.rdB R.teth_TDOWN []
  let s := (showFallback (s.wr R.teth_TDOWN [] 0)).wrB R.teth_LANE_FLT [] (!two)
  let s := selfTest 6 (!two) (s.raise 352 7)
  if down then followSource s else s

/-- TETHER_RETURN (R75). -/
def execTetherReturn (two : Bool) (s : State) : Host.Outcome State Fault Refusal :=
  if s.runs 352 && (s.rdB R.teth_TDOWN [] || s.rdB R.teth_LANE_FLT []) then .next (tetherReturn two s) else .next s

/-- A chunk arrives: those of one cycle are kept (R469). -/
def chunkRx (c : Chunk) (s : State) : State :=
  s.teF (fun t => { t with rx := c :: t.rx.filter (fun x => x.cycle == c.cycle && x.idx != c.idx) })

/-- The partner is ACTIVE with an older claim than the module's own (R479). -/
def partnerOlder (s : State) (ts claim : Nat) : Bool := s.active && ts == tsActive && newer (s.rd R.teth_CLAIM []) claim

/-- TETHER_WORD_RX (R464, R474, R479). -/
def tetherWordRx (x : TethWord) (chunk : Option Chunk) (s : State) : State :=
  let s := know x.claim s
  let s := s.teF (fun t => { t with
    pword := some x, heardAny := true, takereq := partnerOlder s x.tstate x.claim
    relRx := if x.release && tstate s == tsStandby then some s.spar.serial else t.relRx })
  let s := if x.takereq then requestReset 10 s else s
  match chunk with | some c => chunkRx c s | none => s

/-- TETHER_WORD_RX (R464). -/
def execTetherWordRx (x : TethWord) (chunk : Option Chunk) (s : State) : Host.Outcome State Fault Refusal :=
  if pairOn s && !s.rdB R.teth_TDOWN [] then .next (tetherWordRx x chunk s) else .next s

/-- FALLBACK_FRAME_RX: chunks come over a ring port while the Tether is down (R467). -/
def execFallbackFrameRx (chunk : Chunk) (s : State) : Host.Outcome State Fault Refusal :=
  if pairOn s && s.rdB R.teth_TDOWN [] then .next (chunkRx chunk (s.teF (fun t => { t with heardAny := true }))) else .next s

/-! ## Health reports (R465, R466, R480, R481) -/

/-- CFG_ID (R480). -/
def cfgId (s : State) : Nat :=
  crc32c (Config.cfgBytes [s.rst.vmac, s.rst.splcMac, s.rd R.spar_NOMINAL [], s.rd R.spar_PHASES [], b2n s.teth.prio,
    s.rd R.safe_SID_SW [], s.rd R.mtr_MSW []])

/-- The health report of this period (R465). -/
def healthReport (s : State) : List Byte :=
  let claim := if s.active then s.rd R.teth_CLAIM [] else knownNow s
  let flags := b2n (s.rdB R.teth_SYNCED []) + 2 * b2n (s.rdB R.pwr_HOLDUP []) + 4 * b2n (safeRuns s)
  let wall := s.rd R.spar_WALL_AT0 [] % 2 ^ 62 + 2 ^ 63 * b2n (s.rdB R.wall_VALID []) + 2 ^ 62 * b2n (s.rdB R.wall_AUTH [])
  let b := leBytes 1 1 ++ leBytes 1 (b2n s.slotY) ++ leBytes 1 (tstate s) ++ leBytes 1 flags ++ leBytes 2 claim ++
    leBytes 2 (s.rd R.tethp_SELFTEST []) ++ leBytes 4 s.spar.cycle ++ leBytes 4 (s.spar.freq / 1000000) ++ leBytes 8 wall ++
    leBytes 4 (s.rd R.tethp_CFG_ID []) ++ leBytes 4 (s.rd R.teth_IMG_SEQ []) ++ leBytes 16 s.teth.heardMask ++
    leBytes 4 (leNat (Config.fwVersion.take 4))
  b ++ leBytes 4 (crc32c b)

/-- A valid report: its size and CRC (R465). -/
def reportOk (b : List Byte) : Bool := b.length == 56 && fld b 52 4 == crc32c (b.take 52)

/-- The partner's reports show another identity or another VERSION: the modules do not pair (R480, R482). -/
def unlike (s : State) : Bool := s.teth.cfgBad || s.teth.verBad

/-- JOIN meets a partner that is ACTIVE (R481). -/
def joinStandby (s : State) : State :=
  if tstate s = tsJoin ∧ unlike s = false then
    (s.wr R.teth_TSTATE [] tsStandby).teF (fun t => { t with joinBoth := 0, joinQuiet := 0 })
  else s

/-- A standby whose partner turns out unlike it goes back to JOIN (R480, R482). -/
def leaveStandby (s : State) : State := if tstate s = tsStandby then s.wr R.teth_TSTATE [] tsJoin else s

/-- The partner's CFG_ID is compared (R480). -/
def cfgCheck (id : Nat) (s : State) : State :=
  let bad := decide (id ≠ s.rd R.tethp_CFG_ID [])
  let s := if bad && (tstate s == tsJoin || tstate s == tsStandby) then leaveStandby (s.setErr 352 0x0100) else s
  s.teF (fun t => { t with cfgBad := bad, cfgOk := !bad, verBad := false })

/-- A valid health report is taken (R465, R466, R479-R481, R485, R73). -/
def healthRx (b : List Byte) (s : State) : State :=
  let old := s.rd R.tethp_P_SELFTEST []
  let s := ((s.wr R.tethp_P_TSTATE [] (fld b 2 1)).wr R.tethp_P_FLAGS [] (fld b 3 1)).wr R.tethp_P_CLAIM [] (fld b 4 2)
  let s := ((s.wr R.tethp_P_SELFTEST [] (fld b 6 2)).wr R.tethp_P_CYCLE [] (fld b 8 4)).wr R.tethp_P_CFG_ID [] (fld b 24 4)
  let s := ((s.wr R.tethp_P_IMG_ACK [] (fld b 28 4)).wr R.tethp_P_HEARD [] (fld b 32 16)).wr R.tethp_P_FW [] (fld b 48 4)
  let s := if fld b 6 2 &&& (2 ^ 16 - 1 - old) ≠ 0 then s.raise 352 5 else s
  let s := know (fld b 4 2) ((s.wr R.tethp_HLTH_AGE [] 0).wr R.teth_HLTH_LOST [] 0)
  let s := cfgCheck (fld b 24 4) s
  let s := s.teF (fun t => { t with heardAny := true, takereq := partnerOlder s (fld b 2 1) (fld b 4 2) })
  let s := s.sparF (fun p => { p with
    partnerFreq := fld b 12 4
    alignCycle := if p.alignDue && followsTether s then some (fld b 8 4) else p.alignCycle })
  if fld b 2 1 = tsActive then joinStandby s else s

/-- A valid report of another VERSION, whose layout the module does not know: the partner is heard and does not pair (R465, R466,
R482). -/
def otherVersion (s : State) : State :=
  leaveStandby (((s.wr R.tethp_HLTH_AGE [] 0).wr R.teth_HLTH_LOST [] 0).teF (fun t => { t with heardAny := true, verBad := true, cfgOk := false }))

/-- HEALTH_REPORT_RX (R465): no report arrives while TDOWN = 1. -/
def execHealthReportRx (body : List Byte) (s : State) : Host.Outcome State Fault Refusal :=
  if pairOn s && !s.rdB R.teth_TDOWN [] && reportOk body then
    .next (if fld body 0 1 = 1 then healthRx body s else otherVersion s)
  else .next s

/-- TAKE_BLOCKED (R473). -/
def takeBlocked (s : State) : State :=
  let b := tstate s == tsStandby && s.rdB R.teth_SILENT [] && s.rdB R.teth_HLTH_LOST [] && !s.rdB R.teth_SYNCED []
  let s := if b && !s.rdB R.teth_TAKE_BLOCKED [] then s.raise 352 6 else s
  s.wrB R.teth_TAKE_BLOCKED [] b

/-- HLTH_LOST: 808 control periods without a valid report (R466); a standby that cannot take the claim then says so (R473). -/
def execHlthLost (s : State) : Host.Outcome State Fault Refusal :=
  if !s.inReset 20 && decide (808 ≤ s.rd R.tethp_HLTH_AGE []) && !s.rdB R.teth_HLTH_LOST [] then
    .next (takeBlocked ((s.wr R.teth_HLTH_LOST [] 1).raise 352 3))
  else .next s

/-! ## Joining (R463, R481) -/

/-- TETH EN set from 0 to 1 (R463, R481). -/
def tethStart (s : State) : State :=
  let s := (s.wr R.tethp_CFG_ID [] (cfgId s)).teF (fun t => { t with
    quiet := 3, joinBoth := 0, joinQuiet := 0, heardAny := false, cfgBad := false, cfgOk := false, verBad := false })
  let s := showFallback s
  if s.rdB R.teth_PAIR_EN [] then (s.wr R.teth_TSTATE [] tsJoin).wr R.teth_SILENT [] 1 else becomeActive 4 s

/-- TETH_ENABLE (R463, R481). -/
def tethEnable (s : State) : State :=
  if s.enOf 352 then s
  else
    let s := s.wr R.hdr_EN [352] 1
    if s.inReset 20 then s else tethStart s

/-- TETH_ENABLE (R481). -/
def execTethEnable (w : World) (s : State) : Host.Outcome State Fault Refusal := .next (s.asWriter w 352 tethEnable)

/-- TETH EN cleared: on an active module of a pair first as RELEASE (R487). -/
def tethDisable (s : State) : State :=
  if !s.enOf 352 then s
  else
    let s := tethRelease s
    let s := s.wr R.hdr_EN [352] 0
    if s.teth.relTx.isSome then s
    else showFallback (if s.active then ceaseActive tsOff s else s.wr R.teth_TSTATE [] tsOff)

/-- The partner's last report shows it in JOIN with an equal CFG_ID (R481). -/
def bothJoin (s : State) : Bool :=
  tstate s == tsJoin && s.rd R.tethp_P_TSTATE [] == tsJoin && s.teth.cfgOk && !s.rdB R.teth_HLTH_LOST []

/-- JOIN_WAIT cycles have passed (R481). -/
def joinExpire (s : State) : State :=
  let n := s.rd R.teth_JOIN_WAIT []
  if unlike s then s
  else if bothJoin s = true ∧ n ≤ s.teth.joinBoth then (if slotByte s = 2 then becomeActive 4 s else joinStandby s)
  else if s.teth.heardAny = false ∧ n ≤ s.teth.joinQuiet then becomeActive 4 s
  else s

/-- JOIN_WAIT_EXPIRY (R481). -/
def execJoinWaitExpiry (s : State) : Host.Outcome State Fault Refusal :=
  if pairOn s && tstate s == tsJoin then .next (joinExpire s) else .next s

/-- DEMOTED_CLEAR (R484). -/
def execDemotedClear (w : World) (s : State) : Host.Outcome State Fault Refusal :=
  .next (s.asWriter w 352 (fun s => s.wr R.teth_DEMOTED [] 0))

/-- TETH_CNT_CLR (R484). -/
def execTethCntClr (w : World) (s : State) : Host.Outcome State Fault Refusal :=
  .next (s.asWriter w 352 (fun s =>
    (((s.wr R.teth_IMG_BAD [] 0).wr R.teth_IMG_LATE [] 0).wr R.teth_TAKEOVERS [] 0).wr R.teth_DEMOTIONS [] 0))

/-! ## What a control period does -/

/-- MODE_FORCED follows (R470). -/
def modeCheck (s : State) : State :=
  let b := modeForced s
  let s := if b && !s.rdB R.teth_MODE_FORCED [] then s.setErr 352 0x0101 else s
  s.wrB R.teth_MODE_FORCED [] b

/-- IMAGE_CHUNK_TX: the chunk of this period (R469), while the Tether is down in a fallback frame on ring port A at priority 6
to the partner's learnt address (R24, R467; without one no frame can go, log entry 192). -/
def chunkTx (s : State) : State :=
  match (if s.active && !s.teth.snap.isEmpty && s.teth.snapCycle == s.spar.cycle then chunkAt s.teth.snapFull s.spar.period else none) with
  | none => s.teF (fun t => { t with chunk := none })
  | some k =>
    let ents := if 126 ≤ k then brdChunk k s else (s.teth.snap[k]?).getD []
    let c : Chunk := ⟨s.spar.cycle, k, s.teth.snapFull, true, ents⟩
    let down := s.rdB R.teth_TDOWN []
    let s := s.teF (fun t => { t with chunk := some c, fallback := down })
    match s.teth.mac with
    | some m => if down then ringPut 0 ⟨6, some m, 0x88B7, [], some c⟩ s else s
    | none => s

/-- HEALTH_REPORT_TX: in control period 0, with HEARD of the last cycle (R465), once the wall time at angle 0x0000 stands. -/
def healthTx (s : State) : State :=
  let heard := (List.finRange 128).foldl (fun acc i =>
    if (s.line i).heardAll && !lineIdle s i then acc + 2 ^ i.val else acc) 0
  let s := foldS (List.finRange 128) (fun s i => s.lineF i (fun l => { l with heardAll := true })) s
  let s := s.teF (fun t => { t with heardMask := heard })
  if s.rdB R.teth_TDOWN [] then s else s.teF (fun t => { t with report := healthReport s })

/-- Lines whose LINE_TX test is due in this period: once per line every 64 cycles, on a standby (R468); on a
DISABLED line the module sends nothing. -/
def txDueNow (s : State) : List Nat :=
  if tstate s = tsStandby ∧ s.spar.period < 2 then
    [s.spar.cycle % 64 + 64 * s.spar.period].filter (fun i => s.rd R.line_LSTATE [i] != lsDisabled)
  else []

/-- The module's own Tether word (R464); none while the Tether is down. -/
def ownTethWord (s : State) : Option TethWord :=
  if s.rdB R.teth_TDOWN [] then none
  else some ⟨tstate s, s.rd R.teth_CLAIM [], s.teth.relTx.isSome, s.teth.takereq,
    s.rdB R.pwr_HOLDUP []⟩

/-- A module of a pair at a control period start (R468-R475). -/
def pairPeriod (s : State) : State :=
  let s := s.teF (fun t => { t with quiet := min 255 (t.quiet + 1) })
  let s := s.wrB R.teth_SILENT [] (decide (3 ≤ s.teth.quiet))
  let s := if s.teth.force && !s.rdB R.teth_SILENT [] then (s.teF (fun t => { t with force := false })).setErr 352 0x0102 else s
  let s := if s.rdB R.teth_SILENT [] then s else joinStandby s
  let s := chunkTx (takeBlocked (selfTest 5 (!safeRuns s) (modeCheck s)))
  s.teF (fun t => { t with txDue := txDueNow s })

/-- TETH at a control period start (R464-R475): the age of the partner's reports counts and the Tether word is formed whether or
not the module is one of a pair (R464, R466, R485). -/
def tethPeriod (s : State) : State :=
  let s := match s.teth.relTx with
    | some n => if n < s.spar.serial then ceaseActive (if s.enOf 352 then tsStandby else tsOff) s else s
    | none => s
  if s.inReset 20 then s
  else
    let s := showFallback (s.satInc R.tethp_HLTH_AGE [])
    let s := if pairOn s then pairPeriod s else s.teF (fun t => { t with txDue := [], chunk := none })
    let s := s.wr R.teth_NEXT_CLAIM [] (nextClaim s)
    s.teF (fun t => { t with word := ownTethWord s })

/-! ## What a cycle start does (R468, R469, R471, R472, R481) -/

/-- The CRC-32C that HDR carries fits what was received (R469, R471). -/
def crcFits (full : Bool) (l : List Chunk) : Bool :=
  let ents := fun k => match l.find? (fun c => c.idx == k) with | some c => c.ents | none => []
  imgFind (ents 1) 5 == some (Config.imageCrc (crcBodies full ents) : Int)

/-- The image of cycle `n` as received: its chunks, whether it is whole, whether it is good. -/
def imgState (n : Nat) (s : State) : List Chunk × Bool × Bool :=
  let l := s.teth.rx.filter (fun c => c.cycle == n)
  let full := match l with | c :: _ => c.full | [] => true
  (l, (chunkSet full).all (fun k => l.any (fun c => c.idx == k)), l.all (·.good) && crcFits full l)

/-- The BRD entries of an image. -/
def imgBrd (l : List Chunk) : List (Nat × Int) := (l.filter (fun c => 126 ≤ c.idx)).flatMap (·.ents)

/-- The MTR section is aligned (R472). -/
def imgMetersGive (n : Nat) (l : List Chunk) (s : State) : State :=
  let e := (l.filter (fun c => 9 ≤ c.idx && c.idx ≤ 26)).flatMap (·.ents)
  let old := match s.teth.latch with | some x => if x.1 = n then some x.2 else none | none => none
  let on := if old.isSome then s.teth.latchOn else []
  let off := (match old with | some o => mtrOff e o (s.rd R.teth_METER_TOL []) | none => []).filter
    (fun m => on.contains m && !s.teth.noTol.contains m)
  let s := mtrAlign e old s
  let s := foldS (List.finRange 36) (fun s m => tregDerive m (legalDerive m s)) s
  let s := match off with | m :: _ => s.wr R.teth_ALIGN_MTR [] m | [] => s
  (selfTest 3 (!off.isEmpty) s).teF (fun t => { t with noTol := (List.range 36).filter (fun m => !on.contains m) })

/-- A whole good image is applied (R471). -/
def imgApply (n : Nat) (l : List Chunk) (s : State) : State :=
  let s := foldS (l.filter (fun c => c.idx < 126)) (fun s c => chunkGive c s) s
  let s := showPins (brdGive (imgBrd l) (imgMetersGive n l s))
  let s := if l.any (fun c => 112 ≤ c.idx && c.idx ≤ 125) then s.inc R.teth_ENV_SEQ [] else s
  (s.wr R.teth_IMG_SEQ [] n).teF (fun t => { t with applied := some 0 })

/-- SYNCED follows the age of the image last applied (R471). -/
def syncedFollow (s : State) : State :=
  let b := match s.teth.applied with | some k => decide (k < max 1 (s.rd R.teth_STALE_MAX [])) | none => false
  let s := if b == s.rdB R.teth_SYNCED [] then s else s.raise 352 4
  s.wrB R.teth_SYNCED [] b

/-- IMAGE_APPLY at angle 0x0000 of cycle `n + 1` (R471, R218), of a partner that pairs (R480, R482). -/
def imageApply (n : Nat) (s : State) : State :=
  let q := imgState n s
  if tstate s = tsStandby then
    if s.teth.cfgOk = false then s
    else if q.2.1 && q.2.2 then imgApply n q.1 s
    else if q.2.1 then (s.satInc R.teth_IMG_BAD []).setErr 352 0x0103
    else s.satInc R.teth_IMG_LATE []
  else if s.active && s.brd.takeover && q.2.1 && q.2.2 then
    let e := imgBrd q.1
    let v := fun k => ((imgFind e k).getD 0).toNat
    ((s.wr R.brd_REUSED [] (v 48)).wr R.brd_ZEROED [] (v 49)).brdF (fun b => { b with img := some (brdPlanOf e) })
  else s

/-- LINE_RX of the last cycle (R468). -/
def lineRxTest (s : State) : State :=
  if tstate s = tsStandby then
    selfTest 0 ((List.range 128).any (fun i => s.rd R.line_LSTATE [i] == lsAttached && bitB (s.rd R.tethp_P_HEARD []) i &&
      !s.teth.rxAny.contains i)) s
  else s

/-- Cycles in JOIN (R481). -/
def joinCount (s : State) : State :=
  let both := bothJoin s
  s.teF (fun t => { t with
    joinBoth := if both then t.joinBoth + 1 else 0
    joinQuiet := if tstate s = tsJoin ∧ t.heardAny = false then t.joinQuiet + 1 else 0
    heardAny := false })

/-- The pair at angle 0x0000, before Bridle (R465, R471, R481): the image applied is the one the report acknowledges. -/
def tethCycle (s : State) : State :=
  if s.inReset 20 then s
  else
    let s := s.teF (fun t => { t with applied := t.applied.map (· + 1) })
    if pairOn s then
      let s := s.wr R.tethp_CFG_ID [] (cfgId s)
      let s := syncedFollow (imageApply ((s.spar.cycle + 2 ^ 32 - 1) % 2 ^ 32) (lineRxTest s))
      (healthTx (takeBlocked (joinCount s))).teF (fun t => { t with rxAny := [] })
    else syncedFollow s

/-- The state as it stands at angle 0x0000 is kept: for the meter alignment, and for the image that an active module of a pair
sends (R469, R472). -/
def tethLatch (s : State) : State :=
  if s.inReset 20 then s
  else s.teF (fun t => { t with
    latch := some (s.spar.cycle, imgTake mtrFields s)
    latchOn := ((List.range 36).filter (fun m => s.runs (257 + m)))
    snapCycle := s.spar.cycle
    snapFull := imgFull s
    snap := if pairOn s && s.active then imageTake s else [] })

/-! ## The BURNER test (R468) -/

/-- A stage's own computed command against the partner's heard one: beyond 2^-8 per unit for 3 periods in a row. -/
def burnerTest (i : Nat) (own heard : Int × Int) (s : State) : State :=
  let off := decide (2 ^ 21 < (own.1 - heard.1).natAbs) || decide (2 ^ 21 < (own.2 - heard.2).natAbs)
  let n := if off then sget 0 s.teth.burn i + 1 else 0
  let s := s.teF (fun t => { t with burn := sput 0 t.burn i (min 3 n) })
  selfTest 2 (s.teth.burn.any (fun e => decide (3 ≤ e.2))) s

end Sys2Proof.Machine
end

