-- ==== Sys2Proof/Machine/Blst.lean ====
section
/-! DEFINITION. Ballast cell rings: the monitors, enumeration and breaks, the measurement slot, balancing, the fault loop,
wire diagnosis and stack limits (17_ballast_cell_rings.md). -/

namespace Sys2Proof.Machine

open Sys2Proof

/-- A change of a ring. -/
def State.rgF (s : State) (r : Fin 2) (f : RingS → RingS) : State := { s with blst := vupd s.blst r f }

/-- A change of a monitor. -/
def State.mnF (s : State) (r : Fin 2) (m : Fin 64) (f : MonS → MonS) : State :=
  s.rgF r (fun g => { g with mons := vupd g.mons m f })

/-- A change of BLST's record of a monitor. -/
def State.bmF (s : State) (r : Fin 2) (m : Fin 64) (f : BmonS → BmonS) : State :=
  s.rgF r (fun g => { g with bm := vupd g.bm m f })

/-! ## Frames (R490; byte layouts in log entry 29) -/

/-- A frame after its SOF. -/
def monFrame (cmd : Nat) (p : List Byte) : List Byte :=
  let b := BitVec.ofNat 8 cmd :: leBytes 2 p.length ++ p
  b ++ leBytes 2 (crc16 b)

/-- The payload of a good frame of command `cmd`, none for any other. -/
def framePay (cmd : Nat) (f : List Byte) : Option (List Byte) :=
  match f with
  | c :: l0 :: l1 :: t =>
    let n := leNat [l0, l1]
    let p := t.take n
    let b := c :: l0 :: l1 :: p
    if c.toNat = cmd ∧ p.length = n ∧ ((t.drop n).take 2) = leBytes 2 (crc16 b) then some p else none
  | _ => none

/-- MSTAT of a monitor's block: CMP, OW_RUN, BAL and TIMEOUT at the bits of the monitor word (R507; log entry 29). -/
def MonS.mstat (m : MonS) : Nat :=
  b2n m.cmp * 1024 + b2n m.test * 128 + b2n (m.bal && m.map != 0) * 64 + b2n m.timeout * 32

/-- A monitor's block of 47 bytes (R490). -/
def MonS.block (m : MonS) : List Byte :=
  let b := leBytes 1 m.addr ++ leBytes 2 m.mstat ++ leBytes 2 m.temp ++ leBytes 4 m.msum
    ++ ((List.range 18).map (fun k => leBytes 2 (m.cells.getD k 0))).flatten
  b ++ leBytes 2 (crc16 b)

/-- A frame sent on: to the next hop, or turned back where that hop is broken (R491). -/
def MonS.forward (m : MonS) (fromB : Bool) (f : List Byte) : MonS :=
  let toB := if fromB then m.brkA else !m.brkB
  { m with out := some (toB, f) }

/-- The fault code a monitor sends (R498, R499): an internal fault, or a trip of a cell beside no masked wire that no
adjacent cell answers with the opposite trip. -/
def MonS.faulty (m : MonS) : Bool :=
  let beside := fun k => bitB m.mask k || bitB m.mask (k + 1)
  let ov := fun k => bitB m.ov k && !beside k
  let uv := fun k => bitB m.uv k && !beside k
  m.intern || (List.range 18).any (fun k =>
    (ov k && !(decide (k < 17) && uv (k + 1)) && !(decide (0 < k) && uv (k - 1)))
    || (uv k && !(decide (k < 17) && ov (k + 1)) && !(decide (0 < k) && ov (k - 1))))

/-! ## The monitors -/

/-- A frame is valid: its length and CRC agree (R490). -/
def goodFrame (f : List Byte) : Bool :=
  match f with
  | c :: _ => (framePay c.toNat f).isSome
  | [] => false

/-- A frame reaches a monitor; a valid one restarts its MON_TMO (R500). -/
def State.mnIn (s : State) (r : Fin 2) (m : Fin 64) (f : List Byte) (g : MonS → MonS) : State :=
  s.mnF r m (fun n => g (if goodFrame f then { n with heard := s.now } else n))


/-- MON_RESET (R490): address cleared, balancing stopped. -/
def execMonReset (r : Fin 2) (m : Fin 64) (fromB : Bool) (f : List Byte) (s : State) : Host.Outcome State Fault Refusal :=
  .next (s.mnIn r m f (fun n => match framePay 1 f with
    | some _ => MonS.forward { n with addr := 0, map := 0, bal := false } fromB f
    | none => n.forward fromB f))

/-- MON_ENUM (R490): an unaddressed monitor takes NEXT and forwards the next number. -/
def execMonEnum (r : Fin 2) (m : Fin 64) (fromB : Bool) (f : List Byte) (s : State) : Host.Outcome State Fault Refusal :=
  .next (s.mnIn r m f (fun n => match framePay 2 f with
    | some [nx, dir] =>
      if n.addr = 0 then
        let nx' := if dir.toNat = 0 then nx.toNat + 1 else nx.toNat + 255
        MonS.forward { n with addr := nx.toNat } fromB (monFrame 2 [BitVec.ofNat 8 nx', dir])
      else n.forward fromB f
    | _ => n.forward fromB f))

/-- MON_CONFIG (R490). -/
def execMonConfig (r : Fin 2) (m : Fin 64) (fromB : Bool) (f : List Byte) (s : State) : Host.Outcome State Fault Refusal :=
  .next (s.mnIn r m f (fun n => match framePay 3 f with
    | some p =>
      MonS.forward { n with ovHw := leNat (p.take 2), uvHw := leNat ((p.drop 2).take 2), tmo := leNat ((p.drop 4).take 2) } fromB f
    | none => n.forward fromB f))

/-- MON_HUSH (R490, R495): balancing stops. -/
def execMonHush (r : Fin 2) (m : Fin 64) (fromB : Bool) (f : List Byte) (s : State) : Host.Outcome State Fault Refusal :=
  .next (s.mnIn r m f (fun n => match framePay 4 f with
    | some _ => MonS.forward { n with bal := false } fromB f
    | none => n.forward fromB f))

/-- MON_CONVERT (R490, R495): cells and module sum converted and balancing resumed, or the open-wire test, whose cell
bytes are not stated (log entry 29) and after which the monitor balances nothing until its next BALANCE. -/
def execMonConvert (r : Fin 2) (m : Fin 64) (fromB : Bool) (f : List Byte) (cells : List Nat) (msum temp : Nat) (s : State) :
    Host.Outcome State Fault Refusal :=
  match framePay 5 f with
  | none => .next (s.mnIn r m f (fun n => n.forward fromB f))
  | some p =>
    let a := (s.blst[r]).mons[m].addr
    if a ≠ 0 ∧ bitB (leNat p) (a - 1) = true then
      let v := s.free 288
      .next (s.took.mnIn r m f (fun n => MonS.forward { n with
        test := true, bal := false, map := 0, temp := temp % 65536, cells := (List.range 18).map (fun k => bits v (16 * k) 16) } fromB f))
    else
      .next (s.mnIn r m f (fun n => MonS.forward { n with
        test := false, bal := !n.timeout, cells := (List.range 18).map (fun k => cells.getD k 0 % 65536)
        msum := msum % 2 ^ 32, temp := temp % 65536 } fromB f))

/-- MON_READ (R490): the monitor appends its block. CMP and TIMEOUT stand until they are reported (log entry 30). -/
def execMonRead (r : Fin 2) (m : Fin 64) (fromB : Bool) (f : List Byte) (s : State) : Host.Outcome State Fault Refusal :=
  .next (s.mnIn r m f (fun n => match framePay 6 f with
    | some _ => MonS.forward { n with cmp := n.intern || n.ov != 0 || n.uv != 0, timeout := false } fromB (f ++ n.block)
    | none => n.forward fromB f))

/-- MON_BALANCE (R490, R499): the entry of its address, its balance map and its comparator mask. -/
def execMonBalance (r : Fin 2) (m : Fin 64) (fromB : Bool) (f : List Byte) (s : State) : Host.Outcome State Fault Refusal :=
  .next (s.mnIn r m f (fun n => match framePay 7 f with
    | some p =>
      if n.addr = 0 then n.forward fromB f
      else
        let e := (p.drop (6 * (n.addr - 1))).take 6
        let n := { n with map := leNat (e.take 3) % 2 ^ 18, mask := leNat (e.drop 3) % 2 ^ 19, bal := true }
        MonS.forward { n with fault := n.faulty } fromB f
    | none => n.forward fromB f))

/-- CELL_COMPARATOR_TRIP (R498, R499): the comparators of a monitor change. -/
def execCellComparatorTrip (r : Fin 2) (m : Fin 64) (ov uv : Nat) (intern : Bool) (s : State) :
    Host.Outcome State Fault Refusal :=
  .next (s.mnF r m (fun n =>
    let n := { n with ov := ov % 2 ^ 18, uv := uv % 2 ^ 18, intern := intern }
    { n with cmp := n.cmp || n.intern || n.ov != 0 || n.uv != 0, fault := n.faulty }))

/-- MONITOR_TIMEOUT (R500): no valid frame for MON_TMO ms. -/
def execMonitorTimeout (r : Fin 2) (m : Fin 64) (s : State) : Host.Outcome State Fault Refusal :=
  .next (s.mnF r m (fun n =>
    if heldFor s (some n.heard) (200000 * n.tmo) then { n with bal := false, map := 0, timeout := true } else n))

/-- HOP_BREAK (R491): no idle code from a neighbour for 20 µs. -/
def execHopBreak (r : Fin 2) (m : Fin 64) (toB : Bool) (s : State) : Host.Outcome State Fault Refusal :=
  .next (s.mnF r m (fun n => if toB then { n with brkB := true } else { n with brkA := true }))

/-- HOP_RESTORE (R491): 1 ms of idle code from the neighbour. -/
def execHopRestore (r : Fin 2) (m : Fin 64) (toB : Bool) (s : State) : Host.Outcome State Fault Refusal :=
  .next (s.mnF r m (fun n => if toB then { n with brkB := false } else { n with brkA := false }))

/-! ## Ring registers -/

/-- Monitors expected, in their range (R506). -/
def expect (s : State) (r : Fin 2) : Nat := min (s.rd R.ring_EXPECT [r.val]) 64

/-- CONV_PER and MON_TMO in their ranges (R506). -/
def convPer (s : State) (r : Fin 2) : Nat := max 56 (min 600 (s.rd R.ring_CONV_PER [r.val]))
def monTmo (s : State) (r : Fin 2) : Nat := max 100 (min 5000 (s.rd R.ring_MON_TMO [r.val]))

/-- An interrupt bit of a ring (R508). -/
def ringIrq (r : Fin 2) (n : Nat) (s : State) : State := s.raise 360 (8 * r.val + n)

/-- RSTATE changes; BROKEN and DOWN interrupt when entered (R508). -/
def setRing (r : Fin 2) (v : Nat) (s : State) : State :=
  let was := s.rd R.ring_RSTATE [r.val]
  let s := s.wr R.ring_RSTATE [r.val] v
  if (v = 3 ∨ v = 4) ∧ was ≠ v then ringIrq r 2 s else s

/-- Frames from the given ends: only an active module out of reduced mode drives the ring (R505, R571). -/
def ringSend (r : Fin 2) (fs : List (Bool × List Byte)) (s : State) : State :=
  s.rgF r (fun g => { g with tx := if s.active && !s.reduced then fs else [] })

/-- A command from the A end, or from both ends of a broken ring (R493). -/
def ringCmd (r : Fin 2) (f : List Byte) (s : State) : State :=
  ringSend r ((false, f) :: (if (s.blst[r]).both then [(true, f)] else [])) s

/-- BLx_TRIP_N is driven low (R498). -/
def tripPinLow (s : State) (r : Fin 2) : Bool := s.rdB R.ring_TRIP [r.val]

/-- Valid cells of a ring: those of monitors whose block stands. -/
def validCells (s : State) (r : Fin 2) : List Nat :=
  ((List.range (expect s r)).filter (fun m => s.rd R.mon_MSTATE [r.val, m] = 1)).flatMap (fun m =>
    ((List.range 18).map (fun k => s.rd R.cell_V [r.val, m, k])).filter (· ≠ 0xFFFF))

/-- Both limits are zero (R498, R500, R504). -/
def limitsZero (s : State) (r : Fin 2) : Bool :=
  s.rdB R.ring_TRIP [r.val] || s.rdB R.ring_LOST_ANY [r.val]
    || (s.rd R.ring_RSTATE [r.val] != 2 && s.rd R.ring_RSTATE [r.val] != 3)

/-- Limits forced to zero at once where R504 has them zero. -/
def limitsCut (r : Fin 2) (s : State) : State :=
  if limitsZero s r then (s.wr R.ring_CHG_MAX [r.val] 0).wr R.ring_DIS_MAX [r.val] 0 else s

/-- LIM_HI and LIM_LO after a slot, with their hysteresis (R504). -/
def limitFlags (r : Fin 2) (s : State) : State :=
  match validCells s r with
  | [] => s
  | c :: l =>
    let hi := l.foldl max c
    let lo := l.foldl min c
    let vhi := s.rd R.ring_CHG_VHI [r.val]
    let vlo := s.rd R.ring_DIS_VLO [r.val]
    let hy := s.rd R.ring_VHYS [r.val]
    let fh := if vhi ≤ hi then true else if hi + hy < vhi then false else s.rdB R.ring_LIM_HI [r.val]
    let fl := if lo ≤ vlo then true else if vlo + hy < lo then false else s.rdB R.ring_LIM_LO [r.val]
    (s.wrB R.ring_LIM_HI [r.val] fh).wrB R.ring_LIM_LO [r.val] fl

/-- The stack limits after a slot (R504). -/
def stackLimits (r : Fin 2) (s : State) : State :=
  let s := limitFlags r s
  let s := s.wr R.ring_CHG_MAX [r.val] (if s.rdB R.ring_LIM_HI [r.val] then 0 else s.rd R.ring_LIM_CHG [r.val])
  let s := s.wr R.ring_DIS_MAX [r.val] (if s.rdB R.ring_LIM_LO [r.val] then 0 else s.rd R.ring_LIM_DIS [r.val])
  limitsCut r s

/-! ## LOST (R500) -/

/-- A monitor becomes LOST: its cells read 0xFFFF. -/
def monLost (r : Fin 2) (m : Fin 64) (s : State) : State :=
  let s := if bitB (s.rd R.ring_LOST [r.val]) m.val then s else ringIrq r 1 s
  let s := ((s.wrBit R.ring_LOST [r.val] m.val true).wr R.ring_LOST_ANY [r.val] 1).wr R.mon_MSTATE [r.val, m.val] 2
  foldS (List.range 18) (fun s k => s.wr R.cell_V [r.val, m.val, k] 0xFFFF) s

/-- A monitor's block is good again. -/
def monFound (r : Fin 2) (m : Fin 64) (s : State) : State :=
  let s := (s.wrBit R.ring_LOST [r.val] m.val false).wr R.mon_MSTATE [r.val, m.val] 1
  (s.wrB R.ring_LOST_ANY [r.val] (s.rd R.ring_LOST [r.val] != 0)).bmF r m (fun b => { b with miss := 0 })

/-! ## Enumeration (R492) -/

/-- A slot under way is given up (R494): a test it ran for a monitor is due again (R502). -/
def RingS.drop (g : RingS) : RingS :=
  { g with
    enumB := none, both := false, slot := none, conv := false, reading := false, owMap := 0
    bm := Vector.ofFn (fun m => { g.bm[m] with due := g.bm[m].due || bitB g.owMap m.val }) }

/-- A ring with EXPECT > 0 is enumerated: RESET and ENUM from the A end. RESET stops all balancing (R490). -/
def enumRing (r : Fin 2) (s : State) : State :=
  if expect s r = 0 then s
  else
    let s := (setRing r 1 s).rgF r RingS.drop
    let s := if s.active && !s.reduced then s.rgF r (fun g => { g with bm := g.bm.map (fun b => { b with bal := 0 }) }) else s
    limitsCut r (ringSend r [(false, monFrame 1 []), (false, monFrame 2 [1#8, 0#8])] s)

/-- A fault code trips the ring (R498): TRIP, the pin, IRQ TRIP and limits of zero. -/
def ringTrip (r : Fin 2) (s : State) : State :=
  let s := if s.rdB R.ring_TRIP [r.val] then s else s.rgF r (fun g => { g with look := true })
  limitsCut r (ringIrq r 0 (s.wr R.ring_TRIP [r.val] 1))

/-- FCODE shows the fault code that arrives (R506). -/
def showCode (s : State) : State := foldS (List.finRange 2) (fun s r => s.wrB R.ring_FCODE [r.val] (s.blst[r]).code) s

/-- BLST starts (R492): at EN, and with EN = 1 out of its reset (R505). A fault code that arrives then trips its ring. -/
def blstStart (s : State) : State :=
  foldS (List.finRange 2) (fun s r =>
    let s := enumRing r s
    if (s.blst[r]).code then ringTrip r s else s) (showCode s)

/-- EN is cleared: both rings are OFF with limits of zero (R504, R506), every monitor ABSENT and none LOST. -/
def blstStop (s : State) : State :=
  foldS (List.finRange 2) (fun s r =>
    let s := (setRing r 0 s).rgF r (fun g =>
      { g.drop with tx := [], bm := g.drop.bm.map (fun b => { b with miss := 0 }) })
    let s := foldS (List.finRange 64) (fun s m => s.wr R.mon_MSTATE [r.val, m.val] 0) s
    limitsCut r ((s.wr R.ring_LOST [r.val] 0).wr R.ring_LOST_ANY [r.val] 0)) s

/-- BLST_ENUMERATE (R492): ENUM = 1. -/
def execBlstEnumerate (w : World) (r : Fin 2) (s : State) : Host.Outcome State Fault Refusal :=
  .next (s.asWriter w 360 (fun s => if s.runs 360 then enumRing r s else s))

/-- CONFIG with the fields of class F (R490, R492). -/
def configFrame (s : State) (r : Fin 2) : List Byte :=
  monFrame 3 (leBytes 2 (s.rd R.ring_OV_HW [r.val]) ++ leBytes 2 (s.rd R.ring_UV_HW [r.val]) ++ leBytes 2 (monTmo s r))

/-- Cell readings posted. -/
def postCells (r : Fin 2) (m : Fin 64) (cells : List Nat) (s : State) : State :=
  foldS (List.range 18) (fun s k => s.wr R.cell_V [r.val, m.val, k] (cells.getD k 0)) s

/-- Monitors with numbers above `a` up to `b` become LOST; the others are addressed, with no reading yet (0xFFFF)
where they were ABSENT. One that is LOST stays so until its next good block (R500). -/
def addressed (r : Fin 2) (a b : Nat) (s : State) : State :=
  foldS ((List.finRange 64).filter (fun m => m.val < expect s r)) (fun s m =>
    if a ≤ m.val ∧ m.val < b then monLost r m s
    else if s.rd R.mon_MSTATE [r.val, m.val] ≠ 0 then s
    else monFound r m (postCells r m (List.replicate 18 0xFFFF) s)) s

/-- Enumeration ends in state `v` with `a` monitors reached from the A end and `b` from the B end. -/
def enumDone (r : Fin 2) (v a b : Nat) (ok : Bool) (s : State) : State :=
  let s := s.rgF r (fun g => { g with enumB := none, both := v == 3 })
  let s := ((setRing r v s).wr R.ring_N_A [r.val] a).wr R.ring_N_B [r.val] b
  let s := if v = 3 then s.wr R.ring_BREAK_AT [r.val] a else s
  let s := addressed r a (expect s r - b) s
  let s := if ok then ringCmd r (configFrame s r) s else s.setErr 360 0x0100
  limitsCut r (ringIrq r 6 s)

/-- ENUM_RETURN (R492): where the ENUM frame came back, with its NEXT. -/
def execEnumReturn (r : Fin 2) (ret : Option Bool) (next : Nat) (s : State) : Host.Outcome State Fault Refusal :=
  if !s.runs 360 || s.rd R.ring_RSTATE [r.val] != 1 then .next s
  else
    let n := expect s r
    match (s.blst[r]).enumB with
    | none =>
      match ret with
      | some true => .next (if next = n + 1 then enumDone r 2 n 0 true s else enumDone r 2 (min n (next - 1)) 0 false s)
      | some false =>
        if 1 ≤ next ∧ next ≤ n + 1 then
          let s := s.rgF r (fun g => { g with enumB := some (next - 1) })
          .next (ringSend r [(true, monFrame 2 [BitVec.ofNat 8 n, 1#8])] s)
        else .next (enumDone r 3 n 0 false s)
      | none => .next (enumDone r 4 0 0 false s)
    | some k =>
      match ret with
      | some true =>
        .next (if next = k then enumDone r 3 k (n - k) true s else enumDone r 3 k (min (n - k) (n - next)) false s)
      | _ => .next (enumDone r 3 k 0 false s)

/-- RING_BREAK (R493): a frame is back at its sending end, or crosses the ring again, or is back at neither end. -/
def execRingBreak (r : Fin 2) (fromB : Bool) (ret : Option Bool) (reached : Nat) (s : State) :
    Host.Outcome State Fault Refusal :=
  let st := s.rd R.ring_RSTATE [r.val]
  if !s.runs 360 || st == 0 || (st == 1 && s.active) then .next s
  else
    match ret with
    | none => .next (limitsCut r (setRing r 4 (s.rgF r (fun g => { g with both := true }))))
    | some b =>
      if b = fromB then
        let s := (setRing r 3 s).rgF r (fun g => { g with both := true })
        .next (limitsCut r (if fromB then s.wr R.ring_N_B [r.val] reached
          else (s.wr R.ring_N_A [r.val] reached).wr R.ring_BREAK_AT [r.val] reached))
      else if fromB then .next s
      else
        let s := (setRing r 2 s).rgF r (fun g => { g with both := false })
        .next (limitsCut r ((s.wr R.ring_N_A [r.val] (expect s r)).wr R.ring_N_B [r.val] 0))

/-! ## The fault loop (R498) -/

/-- FAULT_CODE (R498): the fault code starts or stops arriving. FCODE follows it unless BLST is in reset; TRIP is set
while BLST runs. -/
def execFaultCode (r : Fin 2) (on : Bool) (s : State) : Host.Outcome State Fault Refusal :=
  let s := s.rgF r (fun g => { g with code := on })
  if s.rst.inReset[21] then .next s
  else
    let s := s.wrB R.ring_FCODE [r.val] on
    .next (if on && s.runs 360 then ringTrip r s else s)

/-- TRIP_CLR (R498). -/
def execTripClr (w : World) (r : Fin 2) (s : State) : Host.Outcome State Fault Refusal :=
  .next (s.asWriter w 360 (fun s =>
    if s.rdB R.ring_FCODE [r.val] then s.setErr 360 0x0102 else s.wr R.ring_TRIP [r.val] 0))

/-- OW_NOW (R502): every monitor runs the open-wire test in the next slot. -/
def execOwNow (w : World) (r : Fin 2) (s : State) : Host.Outcome State Fault Refusal :=
  .next (s.asWriter w 360 (fun s =>
    foldS ((List.finRange 64).filter (fun m => m.val < expect s r)) (fun s m =>
      (s.bmF r m (fun b => { b with due := true })).wr R.mon_OW_RUN [r.val, m.val] 1) s))

/-! ## The measurement slot (R494) -/

/-- A slot falls in this cycle. -/
def slotCycle (s : State) (r : Fin 2) : Bool := s.spar.cycle % max 1 (s.rd R.ring_MEAS_CYC [r.val]) == 0

/-- Monitors whose open-wire test is due, bit m - 1 (R502): also those whose last test slot gave no result. -/
def owDue (s : State) (r : Fin 2) : Nat :=
  (List.finRange 64).foldl (fun v m =>
    if (s.blst[r]).bm[m].due || bitB (s.blst[r]).owMap m.val then v + 2 ^ m.val else v) 0

/-- A slot begins: only a module that is active then sends its frames (R505). -/
def slotBegin (r : Fin 2) (s : State) : State := s.rgF r (fun g => { g with slot := some s.active, conv := false })

/-- A frame of the slot. -/
def slotCmd (r : Fin 2) (f : List Byte) (s : State) : State :=
  if (s.blst[r]).slot = some true then ringCmd r f s else s.rgF r (fun g => { g with tx := [] })

/-- MEASUREMENT_SLOT (R494): the step that the current control period has. The slot begins with HUSH, or with CONVERT
where HUSH_EN = 0; a ring that enumerates at one of its steps skips it. -/
def execMeasurementSlot (r : Fin 2) (s : State) : Host.Outcome State Fault Refusal :=
  let st := s.rd R.ring_RSTATE [r.val]
  if !s.runs 360 || st < 2 || !slotCycle s r then .next s
  else
    let c := convPer s r
    let p := s.spar.period
    if p + 56 = c then .next (if s.rdB R.ring_HUSH_EN [r.val] then slotCmd r (monFrame 4 []) (slotBegin r s) else s)
    else if p = c then
      let s := if s.rdB R.ring_HUSH_EN [r.val] then s else slotBegin r s
      if (s.blst[r]).slot.isNone then .next s
      else
        let map := owDue s r
        let s := slotCmd r (monFrame 5 (leBytes 8 map)) (s.wr R.ring_SLOT_CYCLE [r.val] s.spar.cycle)
        .next (s.rgF r (fun g => { g with conv := true, owMap := map, bm := g.bm.map (fun b => { b with due := false }) }))
    else if p = c + 32 ∧ (s.blst[r]).conv = true then
      .next (slotCmd r (monFrame 6 []) (s.rgF r (fun g => { g with conv := false, reading := true })))
    else .next s

/-! ## Blocks: correction and diagnosis (R497, R501-R503) -/

/-- A block's fields: address, MSTAT, TEMP, MSUM, cells. None where its CRC fails. -/
def parseBlock (b : List Byte) : Option (Nat × Nat × Nat × Nat × List Nat) :=
  if b.length = 47 ∧ b.drop 45 = leBytes 2 (crc16 (b.take 45)) then
    some (leNat (b.take 1), leNat ((b.drop 1).take 2), leNat ((b.drop 3).take 2), leNat ((b.drop 5).take 4),
      (List.range 18).map (fun k => leNat ((b.drop (9 + 2 * k)).take 2)))
  else none

/-- Drop on a wire with the balancing current, in 0.1 mV (R497; rounding in log entry 30). -/
def wireDrop (s : State) (r : Fin 2) (m k : Nat) : Int :=
  rhu (Int.ofNat (s.rd R.ring_BAL_I [r.val] * s.rd R.mon_RW [r.val, m, k])) 100

/-- A reading corrected for balancing cells (R497), cells counted from 0. 0xFFFF, which reads as none, stays; no
correction leads to it. -/
def balCorrect (s : State) (r : Fin 2) (m map : Nat) (cells : List Nat) : List Nat :=
  (List.range 18).map (fun k =>
    let on := bitB map
    let below : Int := if 0 < k ∧ on (k - 1) = true then wireDrop s r m k else 0
    let above : Int := if k < 17 ∧ on (k + 1) = true then wireDrop s r m (k + 1) else 0
    let own : Int := if on k then wireDrop s r m k + wireDrop s r m (k + 1) else 0
    let raw := cells.getD k 0
    if raw = 0xFFFF then raw else (clampI 0 0xFFFE (Int.ofNat raw - below - above + own)).toNat)

/-- Cells that share a wire with a balancing cell, bit k (R497). -/
def balAdj (map : Nat) : Nat :=
  (List.range 18).foldl (fun v k =>
    if (0 < k ∧ bitB map (k - 1) = true) ∨ (k < 17 ∧ bitB map (k + 1) = true) then v + 2 ^ k else v) 0

/-- SUSPECT of wire k = 1-17 (R501): cells k and k + 1 are entries k - 1 and k. -/
def wireSuspect (dev tol : Nat) (cells : List Nat) (k : Nat) : Bool :=
  let a : Int := cells.getD (k - 1) 0
  let b : Int := cells.getD k 0
  let rest : Int := Int.ofNat (cells.foldl (· + ·) 0) - a - b
  let da := 16 * a - rest
  let db := 16 * b - rest
  let d : Int := 16 * dev
  ((decide (d < da) && decide (db < -d)) || (decide (d < db) && decide (da < -d)))
    && decide (16 * (a + b) - 2 * rest ≤ 16 * (tol : Int)) && decide (-(16 * (tol : Int)) ≤ 16 * (a + b) - 2 * rest)

/-- Wires with SUSPECT, bit k. -/
def suspects (dev tol : Nat) (cells : List Nat) : Nat :=
  ((List.range 18).filter (fun k => decide (1 ≤ k) && wireSuspect dev tol cells k)).foldl (fun v k => v + 2 ^ k) 0

/-- Readings beside open wires (R502): half the sum of the pair, or MSUM minus the other cells, in 0.1 mV. -/
def openCorrect (wires msum : Nat) (cells : List Nat) : List Nat :=
  (List.range 19).foldl (fun c k =>
    if !bitB wires k then c
    else
      let sum := c.foldl (· + ·) 0
      if k = 0 then c.set 0 (min 0xFFFF (10 * msum + c.getD 0 0 - sum))
      else if k = 18 then c.set 17 (min 0xFFFF (10 * msum + c.getD 17 0 - sum))
      else
        let h := (c.getD (k - 1) 0 + c.getD k 0) / 2
        (c.set (k - 1) h).set k h) cells

/-- OV and UV of a monitor (R503): a cell beside a wire of `held` is not reported yet, and one that reads none (0xFFFF,
R507) never. -/
def cellLimits (r : Fin 2) (m : Fin 64) (held : Nat) (cells : List Nat) (s : State) : State :=
  let ov := s.rd R.ring_OV [r.val]
  let uv := s.rd R.ring_UV [r.val]
  let free := fun k => !bitB held k && !bitB held (k + 1) && cells.getD k 0 != 0xFFFF
  let above := (List.range 18).filter (fun k => free k && decide (ov < cells.getD k 0))
  let under := (List.range 18).filter (fun k => free k && decide (cells.getD k 0 < uv))
  let first := (List.range 18).find? (fun k => above.contains k || under.contains k)
  let s := ((s.wrB R.mon_OV [r.val, m.val] (above != [])).wrB R.mon_UV [r.val, m.val] (under != [])).wr R.mon_FCELL [r.val, m.val]
    (match first with | some k => k + 1 | none => 0)
  if first.isSome then ringIrq r 4 s else s

/-- A good block of a monitor that converted its cells (R497, R501-R503). -/
def blockReadings (r : Fin 2) (m : Fin 64) (msum : Nat) (raw : List Nat) (s : State) : State :=
  let map := if s.rdB R.ring_HUSH_EN [r.val] then 0 else (s.blst[r]).bm[m].bal
  let cells := balCorrect s r m.val map raw
  let s := (s.wr R.mon_MSUM [r.val, m.val] msum).wr R.mon_BAL_ADJ [r.val, m.val] (balAdj map)
  let sum : Int := Int.ofNat (cells.foldl (· + ·) 0) - 10 * Int.ofNat msum
  let tol : Int := 10 * Int.ofNat (s.rd R.ring_SUM_TOL [r.val])
  let bad := decide (tol < sum) || decide (sum < -tol)
  let susp := suspects (s.rd R.ring_WIRE_DEV [r.val]) (s.rd R.ring_WIRE_TOL [r.val]) cells
  let s := (s.wrB R.mon_SUM_ERR [r.val, m.val] bad).wrB R.mon_SUSPECT [r.val, m.val] (susp != 0)
  let s := if bad then ringIrq r 5 s else s
  let due := (s.blst[r]).bm[m].due || bad || susp != 0
  let s := (s.bmF r m (fun b => { b with susp := susp, due := due })).wrB R.mon_OW_RUN [r.val, m.val] due
  let wires := s.rd R.mon_WIRE_OPEN [r.val, m.val]
  let cells := openCorrect wires msum cells
  cellLimits r m (susp &&& (wires ^^^ 0x7FFFF)) cells (postCells r m cells s)

/-- The open-wire test's result of a monitor (R502): each wire's move. Readings that stand are corrected; where none
stands yet, none is formed. -/
def wireResult (r : Fin 2) (m : Fin 64) (moves : List Nat) (s : State) : State :=
  let th := s.rd R.ring_OW_TH [r.val]
  let wires := (List.range 19).foldl (fun v k => if th < moves.getD k 0 then v + 2 ^ k else v) 0
  let s := s.wr R.mon_WIRE_OPEN [r.val, m.val] wires
  let s := if wires ≠ 0 then ringIrq r 3 s else s
  let due := (s.blst[r]).bm[m].due
  let s := ((s.bmF r m (fun b => { b with susp := 0 })).wr R.mon_SUSPECT [r.val, m.val] 0).wrB R.mon_OW_RUN [r.val, m.val] due
  let shown := (List.range 18).map (fun k => s.rd R.cell_V [r.val, m.val, k])
  let cells := if shown.contains 0xFFFF then shown else openCorrect wires (s.rd R.mon_MSUM [r.val, m.val]) shown
  cellLimits r m 0 cells (postCells r m cells s)

/-- The test of a monitor that gave no result is due again (R502). -/
def dueAgain (r : Fin 2) (m : Fin 64) (s : State) : State :=
  if bitB (s.blst[r]).owMap m.val then
    (s.bmF r m (fun b => { b with due := true })).wr R.mon_OW_RUN [r.val, m.val] 1
  else s

/-- A monitor's block of the slot, or none (R500). Which monitors ran the open-wire test is known to the module that sent
CONVERT, and read from OW_RUN of MSTAT by one that only hears the ring (R505). -/
def slotBlock (r : Fin 2) (m : Fin 64) (b : Option (Nat × Nat × Nat × Nat × List Nat)) (moves : List Nat) (s : State) : State :=
  match b with
  | none =>
    let n := (s.blst[r]).bm[m].miss + 1
    let s := dueAgain r m (s.bmF r m (fun b => { b with miss := n }))
    if max 1 (s.rd R.ring_LOSS_N [r.val]) ≤ n then monLost r m s else s
  | some (_, mstat, temp, msum, raw) =>
    let s := (monFound r m s).wr R.mon_TEMP [r.val, m.val] temp
    let s := (s.wrB R.mon_CMP [r.val, m.val] (bitB mstat 10)).wrB R.mon_TIMEOUT [r.val, m.val] (bitB mstat 5)
    let s := if (s.blst[r]).look && bitB mstat 10 then
        (s.wr R.ring_TRIP_MON [r.val] (m.val + 1)).rgF r (fun g => { g with look := false })
      else s
    let test := if (s.blst[r]).slot = some true then bitB (s.blst[r]).owMap m.val else bitB mstat 7
    if test then wireResult r m moves s
    else
      let s := dueAgain r m s
      blockReadings r m msum raw (if bitB mstat 5 then s.bmF r m (fun b => { b with bal := 0 }) else s)

/-! ## Balancing (R496) -/

/-- A monitor's map in the next BALANCE: the requested cells of the phase, none beside an open wire. -/
def balMap (s : State) (r : Fin 2) (m : Nat) : Nat :=
  if !s.rdB R.ring_BAL_EN [r.val] || expect s r ≤ m then 0
  else
    let w := s.rd R.mon_WIRE_OPEN [r.val, m]
    let cells := s.rd R.mon_BAL_REQ [r.val, m] &&& (if s.rdB R.ring_PHASE [r.val] then 0x2AAAA else 0x15555)
    (List.range 18).foldl (fun v k => if bitB cells k && !bitB w k && !bitB w (k + 1) then v + 2 ^ k else v) 0

/-- BALANCE with the next phase; the phase toggles (R494 step 5, R496). -/
def balanceSend (r : Fin 2) (s : State) : State :=
  let e := (List.range 64).flatMap (fun m => leBytes 3 (balMap s r m) ++ leBytes 3 (s.rd R.mon_WIRE_OPEN [r.val, m]))
  let s := slotCmd r (monFrame 7 e) s
  let s := foldS (List.finRange 64) (fun s m =>
    let v := balMap s r m.val
    (s.bmF r m (fun b => { b with bal := v })).wrB R.mon_BAL [r.val, m.val] (v != 0)) s
  s.wrB R.ring_PHASE [r.val] (!s.rdB R.ring_PHASE [r.val])

/-- SLOT_READINGS_DONE (R494 steps 4 and 5, R500-R504). -/
def execSlotReadingsDone (r : Fin 2) (blocks : List (List Byte)) (moves : List (Nat × List Nat)) (s : State) :
    Host.Outcome State Fault Refusal :=
  if !s.runs 360 || !(s.blst[r]).reading || s.rd R.ring_RSTATE [r.val] < 2 then .next s
  else
    let good := blocks.filterMap parseBlock
    let s := foldS blocks (fun s b => if (parseBlock b).isSome then s else s.satInc R.ring_BAD_BLK [r.val]) s
    let s := foldS ((List.finRange 64).filter (fun m => m.val < expect s r)) (fun s m =>
      slotBlock r m (good.find? (fun b => b.1 == m.val + 1))
        (((moves.find? (fun x => x.1 == m.val + 1)).map Prod.snd).getD []) s) s
    let s := ringIrq r 7 (stackLimits r (s.rgF r (fun g => { g with reading := false, owMap := 0 })))
    .next ((balanceSend r s).rgF r (fun g => { g with slot := none }))

end Sys2Proof.Machine
end

