-- ==== Sys2Proof/Machine/Can.lean ====
section
/-! DEFINITION. The CAN controllers: message objects, arbitration, the receive ring, errors and bus-off
(18_can_controllers.md). -/

namespace Sys2Proof.Machine

open Sys2Proof

/-- A change of a controller. -/
def State.cnF (s : State) (c : Fin 4) (f : CanS → CanS) : State := { s with can := vupd s.can c f }

/-- Page 0 of a controller, and the page of one of its objects. -/
def canPage (c : Fin 4) : Nat := 368 + 4 * c.val
def objPage (c : Fin 4) (o : Fin 128) : Nat := canPage c + 1 + o.val / 48

/-- States of a transmit object (R511). -/
def coIdle : Nat := 0
def coPending : Nat := 1
def coActive : Nat := 2
def coSent : Nat := 3
def coCancelled : Nat := 4
def coFailed : Nat := 5

/-- STATE of an object. -/
def objState (s : State) (c : Fin 4) (o : Fin 128) : Nat := s.rd R.obj_STATE [c.val, o.val]

/-- A transmit object is PENDING or ACTIVE: its words are not written (R511). -/
def objBusy (s : State) (c : Fin 4) (o : Fin 128) : Bool := objState s c o == coPending || objState s c o == coActive

/-- Data length of a DLC (R509). -/
def dlcLen (fdf : Bool) (dlc : Nat) : Nat :=
  if dlc ≤ 8 then dlc
  else if !fdf then 8
  else match dlc with
    | 9 => 12 | 10 => 16 | 11 => 20 | 12 => 24 | 13 => 32 | 14 => 48 | _ => 64

/-! ## Receive ring (R513) -/

/-- DIR of an object; 3 acts as 0 (chapter text before R511). -/
def objDir (s : State) (c : Fin 4) (o : Fin 128) : Nat :=
  if s.rd R.obj_DIR [c.val, o.val] = 3 then 0 else s.rd R.obj_DIR [c.val, o.val]

/-- The receive objects in ascending order. -/
def rxObjs (s : State) (c : Fin 4) : List (Fin 128) := (List.finRange 128).filter (fun o => objDir s c o = 2)

/-- RX_PEND (R521): receive objects with NEWDAT = 1. -/
def rxPend (s : State) (c : Fin 4) : Nat := ((rxObjs s c).filter (fun o => s.rdB R.obj_NEWDAT [c.val, o.val])).length

/-- TXPEND (R521), bit o. -/
def txPend (s : State) (c : Fin 4) : Nat := (List.finRange 128).foldl (fun v o => if objBusy s c o then v + 2 ^ o.val else v) 0

/-- The receive object after `h` in the ring. -/
def nextRx (l : List (Fin 128)) (h : Nat) : Option (Fin 128) :=
  match l.find? (fun o => h < o.val) with
  | some o => some o
  | none => l.head?

/-- A frame is dropped: RX_LOST. -/
def rxLost (c : Fin 4) (s : State) : State := (s.satInc R.can_RX_LOST [c.val]).raise (canPage c) 7

/-- The whole object is written in one clock (R513). Data bytes the frame does not have are free (log entry 1). -/
def objStore (c : Fin 4) (o : Fin 128) (f : CanFrame) (ovw : Bool) (s : State) : State :=
  let ix := [c.val, o.val]
  let z := s.free 512
  let len := if f.rtr then 0 else dlcLen f.fdf f.dlc
  let byte := fun k => if k < len then (f.data.getD k 0#8).toNat else bits z (8 * k) 8
  let s := s.took
  let s := (((s.wrB R.obj_IDE ix f.ide).wrB R.obj_RTR ix f.rtr).wrB R.obj_FDF ix f.fdf).wr R.obj_ID ix f.id
  let s := ((s.wrB R.obj_BRS ix f.brs).wrB R.obj_ESI ix f.esi).wr R.obj_DLC ix f.dlc
  let s := (s.wr R.obj_TS_CYCLE ix (s.can[c]).sofCycle).wr R.obj_TS_PERIOD ix (s.can[c]).sofPeriod
  let s := foldS (List.range 16) (fun s k => s.wr R.obj_DATA [c.val, o.val, k]
    (byte (4 * k) + 256 * byte (4 * k + 1) + 65536 * byte (4 * k + 2) + 16777216 * byte (4 * k + 3))) s
  ((s.wrB R.obj_OVW ix ovw).wr R.obj_NEWDAT ix 1).inc R.obj_WSEQ ix

/-- A frame goes into the ring at RX_HEAD, or is dropped (R513). -/
def rxStore (c : Fin 4) (f : CanFrame) (s : State) : State :=
  let l := rxObjs s c
  match l.find? (fun o => o.val = s.rd R.can_RX_HEAD [c.val]) with
  | none => rxLost c s
  | some o =>
    let full := s.rdB R.obj_NEWDAT [c.val, o.val]
    if full && !s.rdB R.can_RX_MODE [c.val] then rxLost c s
    else
      let s := objStore c o f full s
      let s := match nextRx l o.val with | some h => s.wr R.can_RX_HEAD [c.val] h.val | none => s
      s.raise (canPage c) 0

/-- NEWDAT_CLEAR (R513). -/
def execNewdatClear (w : World) (c : Fin 4) (o : Fin 128) (s : State) : Host.Outcome State Fault Refusal :=
  .next (s.asWriter w (objPage c o) (fun s => if objDir s c o = 2 then s.wr R.obj_NEWDAT [c.val, o.val] 0 else s))

/-- CAN_CNT_CLR (R521). -/
def execCanCntClr (w : World) (c : Fin 4) (s : State) : Host.Outcome State Fault Refusal :=
  .next (s.asWriter w (canPage c) (fun s => (s.wr R.can_RX_LOST [c.val] 0).wr R.can_BO_CNT [c.val] 0))

/-! ## Requests and cancels (R511, R514) -/

/-- An object is requested, by TXREQ or by its Spar event (R511; the refusal of an event's request in log entry 31). -/
def objRequest (c : Fin 4) (o : Fin 128) (s : State) : State :=
  if objDir s c o ≠ 1 ∨ objBusy s c o = true then s
  else
    let ix := [c.val, o.val]
    let fdf := s.rdB R.obj_FDF ix
    if (8 < s.rd R.obj_DLC ix ∧ fdf = false) ∨ (s.rdB R.obj_RTR ix = true ∧ fdf = true) then s.setErr (canPage c) 0x0102
    else s.wr R.obj_STATE ix coPending

/-- TXREQ (R511). -/
def execTxreq (w : World) (c : Fin 4) (o : Fin 128) (s : State) : Host.Outcome State Fault Refusal :=
  .next (s.asWriter w (objPage c o) (objRequest c o))

/-- Spar event `n` requests the objects armed on it (R511). -/
def canEvent (n : Nat) (s : State) : State :=
  foldS (List.finRange 4) (fun s c =>
    if s.inReset (24 + c.val) then s
    else foldS (List.finRange 128) (fun s o =>
      if s.rdB R.obj_EVT_EN [c.val, o.val] && s.rd R.obj_TXEVT [c.val, o.val] == n then objRequest c o s else s) s) s

/-- CAN_CANCEL (R514). -/
def execCanCancel (w : World) (c : Fin 4) (o : Fin 128) (s : State) : Host.Outcome State Fault Refusal :=
  .next (s.asWriter w (objPage c o) (fun s =>
    if objDir s c o ≠ 1 then s
    else if objState s c o = coPending then (s.wr R.obj_STATE [c.val, o.val] coCancelled).raise (canPage c) 2
    else if objState s c o = coActive then s.wr R.obj_CPEND [c.val, o.val] 1
    else s))

/-! ## Arbitration and transmission (R512, R514, R515) -/

/-- The identifier as arbitrated: base identifier, RTR or SRR, IDE, extension, RTR (R512). -/
def arbKey (s : State) (c : Fin 4) (o : Fin 128) : Nat :=
  let ix := [c.val, o.val]
  let id := s.rd R.obj_ID ix
  let rtr := s.rd R.obj_RTR ix
  if s.rdB R.obj_IDE ix then (id / 2 ^ 18) * 2 ^ 21 + 2 ^ 20 + 2 ^ 19 + (id % 2 ^ 18) * 2 + rtr
  else (id % 2 ^ 11) * 2 ^ 21 + rtr * 2 ^ 20

/-- Objects that may be sent: no FD frame while FDOE = 0 (R509). -/
def sendable (s : State) (c : Fin 4) : List (Fin 128) :=
  (List.finRange 128).filter (fun o => objDir s c o = 1 ∧ objState s c o = coPending
    ∧ (s.rdB R.can_FDOE [c.val] || !s.rdB R.obj_FDF [c.val, o.val]) = true)

/-- The object chosen at the start of arbitration (R512). -/
def choose (s : State) (c : Fin 4) : Option (Fin 128) :=
  match sendable s c with
  | [] => none
  | o :: t =>
    if s.rdB R.can_TXP [c.val] then some o
    else some (t.foldl (fun b x => if arbKey s c x < arbKey s c b then x else b) o)

/-- The controller takes part in bus traffic. -/
def canOn (s : State) (c : Fin 4) : Bool :=
  s.runs (canPage c) && !s.reduced && !s.rdB R.can_INTEG [c.val] && decide (s.rd R.can_FSTATE [c.val] < 2)

/-- ARBITRATION_START (R512): a SOF on the bus. -/
def execArbitrationStart (c : Fin 4) (s : State) : Host.Outcome State Fault Refusal :=
  if !canOn s c || (s.can[c]).busy then .next s
  else
    let s := s.cnF c (fun n => { n with busy := true, sofCycle := s.spar.cycle, sofPeriod := s.spar.period })
    if (s.can[c]).mode ≠ 0 ∨ (s.can[c]).off = true then .next s
    else match choose s c with
      | none => .next s
      | some o => .next ((s.cnF c (fun n => { n with cur := some o })).wr R.obj_STATE [c.val, o.val] coActive)

/-- EN = 0 takes effect (R520). -/
def canStop (c : Fin 4) (s : State) : State :=
  let s := s.cnF c (fun _ => CanS.reset)
  shadowNow (canPage c) (((s.wr R.hdr_EN [canPage c] 0).wr R.can_INTEG [c.val] 1).wr R.can_ROM_ACT [c.val] 0)

/-- The frame in progress ends. -/
def frameEnd (c : Fin 4) (s : State) : State :=
  let s := s.cnF c (fun n => { n with busy := false, cur := none })
  if (s.can[c]).off then canStop c s else s

/-- The ACTIVE object's attempt ends without success (R511, R514, R515). -/
def attemptEnd (c : Fin 4) (s : State) : State :=
  match (s.can[c]).cur with
  | none => s
  | some o =>
    let ix := [c.val, o.val]
    let cp := s.rdB R.obj_CPEND ix
    let ss := s.rdB R.obj_SS ix
    let s := (s.wr R.obj_CPEND ix 0).cnF c (fun n => { n with cur := none })
    if cp then (s.wr R.obj_STATE ix coCancelled).raise (canPage c) 2
    else if ss then (s.wr R.obj_STATE ix coFailed).raise (canPage c) 3
    else s.wr R.obj_STATE ix coPending

/-- ARBITRATION_LOST (R511, R514, R515): the controller goes on as a receiver. -/
def execArbitrationLost (c : Fin 4) (s : State) : Host.Outcome State Fault Refusal := .next (attemptEnd c s)

/-! ## Error counters (R516; the standard's rules in log entry 32) -/

/-- FSTATE follows TEC and REC below bus-off; EP interrupts on a change. -/
def passiveUpdate (c : Fin 4) (s : State) : State :=
  let f := s.rd R.can_FSTATE [c.val]
  let p := b2n (decide (128 ≤ s.rd R.can_TEC [c.val]) || decide (128 ≤ s.rd R.can_REC [c.val]))
  if 2 ≤ f ∨ f = p then s else (s.wr R.can_FSTATE [c.val] p).raise (canPage c) 4

/-- Bus-off (R517). -/
def busOff (c : Fin 4) (s : State) : State :=
  let s := (s.wr R.can_FSTATE [c.val] (if s.rdB R.can_ABO [c.val] then 3 else 2)).satInc R.can_BO_CNT [c.val]
  s.raise (canPage c) 5

/-- TEC rises by `n`: bus-off above 255. -/
def tecAdd (c : Fin 4) (n : Nat) (s : State) : State :=
  let v := s.rd R.can_TEC [c.val] + n
  let s := s.wr R.can_TEC [c.val] (min v 255)
  if 255 < v then busOff c s else passiveUpdate c s

/-- REC rises by `n`. -/
def recAdd (c : Fin 4) (n : Nat) (s : State) : State :=
  passiveUpdate c (s.wr R.can_REC [c.val] (min 255 (s.rd R.can_REC [c.val] + n)))

/-- A frame is received without error: REC falls, above 127 to a value of 119-127 that the standard leaves open. -/
def recDown (c : Fin 4) (s : State) : State :=
  let v := s.rd R.can_REC [c.val]
  if v = 0 then s
  else if v < 128 then passiveUpdate c (s.wr R.can_REC [c.val] (v - 1))
  else passiveUpdate c ((s.wr R.can_REC [c.val] (119 + s.free 8 % 9)).took)

/-- A frame is sent without error: TEC falls by 1. -/
def tecDown (c : Fin 4) (s : State) : State :=
  passiveUpdate c (s.wr R.can_TEC [c.val] (s.rd R.can_TEC [c.val] - 1))

/-- The frame a transmit object holds. -/
def objFrame (s : State) (c : Fin 4) (o : Fin 128) : CanFrame :=
  let ix := [c.val, o.val]
  { ide := s.rdB R.obj_IDE ix, rtr := s.rdB R.obj_RTR ix, fdf := s.rdB R.obj_FDF ix, brs := s.rdB R.obj_BRS ix
    esi := s.rdB R.obj_ESI ix, id := s.rd R.obj_ID ix, dlc := s.rd R.obj_DLC ix
    data := (List.range 16).flatMap (fun k => leBytes 4 (s.rd R.obj_DATA [c.val, o.val, k])) }

/-- CAN_TX_SUCCESS (R511, R513, R514, R516). -/
def execCanTxSuccess (c : Fin 4) (s : State) : Host.Outcome State Fault Refusal :=
  match (s.can[c]).cur with
  | none => .next s
  | some o =>
    let ix := [c.val, o.val]
    let esi := s.rdB R.obj_FDF ix && s.rd R.can_FSTATE [c.val] == 1
    let s := ((s.wr R.obj_STATE ix coSent).wr R.obj_CPEND ix 0).wrB R.obj_ESI ix esi
    let s := (tecDown c (s.wr R.can_LEC [c.val] 0)).raise (canPage c) 1
    let s := if s.rdB R.can_SELF_RX [c.val] then rxStore c (objFrame s c o) s else s
    .next (frameEnd c s)

/-- What an error code adds to TEC of a transmitter (R516). -/
def tecStep (s : State) (c : Fin 4) (e : CanErr) : Nat :=
  match e with
  | .bus lec noDom arb =>
    if lec = 3 ∧ s.rd R.can_FSTATE [c.val] = 1 ∧ noDom = true then 0 else if lec = 1 ∧ arb = true then 0 else 8
  | _ => 8

/-- LEC of an error (R521); an FDF or res bit that is refused is a form error (R509). -/
def errLec (e : CanErr) : Nat := match e with | .bus l _ _ => l | _ => 2

/-- CAN_ERROR (R509, R511, R514-R518): an error, or a protocol exception event, ends the frame; each further rise by 8
that the standard provides for is counted in `eights`. -/
def execCanError (c : Fin 4) (e : CanErr) (eights : Nat) (s : State) : Host.Outcome State Fault Refusal :=
  if !canOn s c || (e == .fdfBit && s.rdB R.can_FDOE [c.val]) then .next s
  else if e = .resBit ∧ s.rdB R.can_PXE [c.val] = true then
    .next (frameEnd c ((attemptEnd c s).wr R.can_INTEG [c.val] 1))
  else
    let s := s.wr R.can_LEC [c.val] (errLec e)
    if (s.can[c]).mode ≠ 0 then .next (frameEnd c (s.wr R.can_INTEG [c.val] 1))
    else if (s.can[c]).cur.isSome then
      .next (frameEnd c (attemptEnd c (tecAdd c (tecStep s c e + 8 * eights) s)))
    else .next (frameEnd c (recAdd c (1 + 8 * eights) s))

/-- CAN_FRAME_RX (R509, R513, R516, R518): a frame that is valid for a receiver; the FDF bit of an FD frame is a form error
while FDOE = 0. -/
def execCanFrameRx (c : Fin 4) (f : CanFrame) (s : State) : Host.Outcome State Fault Refusal :=
  if !canOn s c || (s.can[c]).cur.isSome then .next s
  else if f.fdf && !s.rdB R.can_FDOE [c.val] then execCanError c .fdfBit 0 s
  else
    let s := s.wr R.can_LEC [c.val] 0
    let s := if (s.can[c]).mode = 0 then recDown c s else s
    .next (frameEnd c (rxStore c f s))

/-- BO_REC (R517). -/
def execBoRec (w : World) (c : Fin 4) (s : State) : Host.Outcome State Fault Refusal :=
  .next (s.asWriter w (canPage c) (fun s =>
    if s.rd R.can_FSTATE [c.val] = 2 then s.wr R.can_FSTATE [c.val] 3
    else if s.rd R.can_FSTATE [c.val] = 3 then s
    else s.setErr (canPage c) 0x0103))

/-- BUS_OFF_RECOVERY_DONE (R517). -/
def execBusOffRecoveryDone (c : Fin 4) (s : State) : Host.Outcome State Fault Refusal :=
  if s.rd R.can_FSTATE [c.val] ≠ 3 then .next s
  else .next ((((s.wr R.can_TEC [c.val] 0).wr R.can_REC [c.val] 0).wr R.can_FSTATE [c.val] 0).raise (canPage c) 6)

/-! ## Modes, enabling and disabling (R510, R518-R520) -/

/-- The mode asked for: monitoring over restricted operation; forced while the pair's other module is active (R519). -/
def modeWanted (s : State) (c : Fin 4) : Nat :=
  if s.rdB R.can_MON [c.val] || (s.rdB R.can_PAIRMODE [c.val] && !s.active) then 2
  else if s.rdB R.can_ROM [c.val] then 1 else 0

/-- CAN_BUS_IDLE (R518, R519). -/
def execCanBusIdle (c : Fin 4) (s : State) : Host.Outcome State Fault Refusal :=
  if !s.runs (canPage c) then .next s
  else
    let m := modeWanted s c
    let s := s.cnF c (fun n => { n with mode := m, busy := false })
    let s := (s.wr R.can_INTEG [c.val] 0).wrB R.can_ROM_ACT [c.val] (m != 0)
    .next (if (s.can[c]).off then canStop c s else s)

/-- Bit timing inside its ranges (R510, R521). -/
def timingOk (s : State) (c : Fin 4) : Bool :=
  decide (1 ≤ s.rd R.can_NTSEG1 [c.val]) && decide (1 ≤ s.rd R.can_NTSEG2 [c.val])
    && decide (s.rd R.can_NSJW [c.val] ≤ s.rd R.can_NTSEG2 [c.val])
    && decide (s.rd R.can_DSJW [c.val] ≤ s.rd R.can_DTSEG2 [c.val])

/-- A write of EN = 1 (R510): refused on a bit timing out of range; the ring starts at a receive object. -/
def canEnable (c : Fin 4) (s : State) : State :=
  if !timingOk s c then s.setErr (canPage c) 0x0100
  else
    let l := rxObjs s c
    let h := s.rd R.can_RX_HEAD [c.val]
    let s := match l with
      | [] => s
      | o :: _ => if l.any (fun x => x.val = h) then s else s.wr R.can_RX_HEAD [c.val] o.val
    ((s.wr R.hdr_EN [canPage c] 1).wr R.can_INTEG [c.val] 1).cnF c (fun n => { n with off := false })

/-- CAN_DISABLE (R520): EN = 0, at the end of the frame in progress. -/
def execCanDisable (w : World) (c : Fin 4) (s : State) : Host.Outcome State Fault Refusal :=
  .next (s.asWriter w (canPage c) (fun s =>
    if !s.enOf (canPage c) then s
    else if (s.can[c]).busy then s.cnF c (fun n => { n with off := true })
    else canStop c s))

end Sys2Proof.Machine
end

