-- ==== Sys2Proof/Machine/ReelCtl.lean ====
section
/-! DEFINITION. Reel channels: programs and their fetch, start and stop, loops and waits, errors (19_reel_dma.md). What
moves data stands in Reel.lean. -/

namespace Sys2Proof.Machine

open Sys2Proof

/-- A change of a channel. -/
def State.chF (s : State) (c : Fin 64) (f : ChS → ChS) : State := { s with reel := vupd s.reel c f }

/-- Page of a channel (R539). -/
def chPage (c : Fin 64) : Nat := 25 + c.val / 16

/-- States of a channel (R536). -/
def rsIdle : Nat := 0
def rsRun : Nat := 1
def rsWait : Nat := 2
def rsDone : Nat := 3
def rsError : Nat := 4
def rsStopped : Nat := 5

/-- STATE of a channel, and RUN or WAIT. -/
def chState (s : State) (c : Fin 64) : Nat := s.rd R.rch_STATE [c.val]
def chBusy (s : State) (c : Fin 64) : Bool := chState s c == rsRun || chState s c == rsWait

/-- World of a channel's accesses (R525). -/
def chWorld (s : State) (c : Fin 64) : Nat := s.rd R.rch_WORLD [c.val]

/-- The channel lets go of the engine. -/
def chLeave (c : Fin 64) (s : State) : State :=
  if s.rd R.reel_ACT_CH [] = c.val then s.wr R.reel_ACT_VALID [] 0 else s

/-- Bytes that the channel's MOVE has moved. -/
def mvMoved (m : MoveS) : Nat := m.moved + (match m.piece with | some p => p.put | none => 0)

/-- A channel ends in a state: nothing of its program is under way. A MOVE that ends with it sets LAST_LEN (R531). -/
def chEnd (c : Fin 64) (st : Nat) (s : State) : State :=
  let s := match (s.reel[c]).move with | some m => s.wr R.rch_LAST_LEN [c.val] (mvMoved m) | none => s
  let s := s.chF c (fun h => { h with move := none, wait := none, stopping := false })
  chLeave c (s.wr R.rch_STATE [c.val] st)

/-- An error ends the channel (R537). -/
def chErr (c : Fin 64) (code : Nat) (s : State) : State :=
  ((chEnd c rsError s).wr R.rch_ECODE [c.val] code).raise (chPage c) (16 + c.val % 16)

/-! ## Addresses (R524) -/

/-- An address in the register pages, in DRAM. -/
def inPages (a : Nat) : Bool := decide (0x40000000 ≤ a) && decide (a < 0x40184000)
def inDram (a : Nat) : Bool := decide (0x100000000 ≤ a) && decide (a < 0x200000000)

/-- A DRAM byte as a channel's world reads it (R525). -/
def reelByte (s : State) (w a : Nat) : Byte :=
  let d := a - 0x100000000
  if dramOk s w d false then memGet s.dram d else 0

/-! ## Program fetch (R535) -/

/-- CUR_PC of a channel, 40 bits. -/
def chPc (s : State) (c : Fin 64) : Nat := s.rd R.rch_CUR_PC_HI [c.val] * 2 ^ 32 + s.rd R.rch_CUR_PC [c.val]

/-- CUR_PC written. -/
def setPc (c : Fin 64) (a : Nat) (s : State) : State :=
  (s.wr R.rch_CUR_PC_HI [c.val] (a / 2 ^ 32 % 256)).wr R.rch_CUR_PC [c.val] (a % 2 ^ 32)

/-- Word `k` of the instruction at CUR_PC, from the prefetch buffer. -/
def chInstr (s : State) (c : Fin 64) (k : Nat) : Nat :=
  match (s.reel[c]).line with
  | some (_, b) => leNat ((b.drop (chPc s c % 64 + 4 * k)).take 4)
  | none => 0

/-- OP of the instruction at CUR_PC. -/
def chOp (s : State) (c : Fin 64) : Nat := bits (chInstr s c 0) 28 4

/-- Errors of an instruction's words (R527, R528, R532, R537): reserved bits, alignment, reserved line, loop offset. -/
def instrError (w0 w1 w2 w3 : Nat) : Option Nat :=
  match bits w0 28 4 with
  | 1 =>
    if bits w3 22 10 ≠ 0 then some 1
    else if w1 % 4 ≠ 0 ∨ w2 % 4 ≠ 0 then some 2
    else if 37 ≤ bits w3 16 6 then some 6
    else none
  | 2 =>
    if bits w0 17 11 ≠ 0 ∨ bits w1 16 16 ≠ 0 ∨ w2 ≠ 0 ∨ w3 ≠ 0 then some 1
    else if 0 ≤ sext 16 w1 then some 7
    else none
  | 3 =>
    if bits w0 26 2 ≠ 0 ∨ bits w0 8 16 ≠ 0 ∨ bits w1 16 16 ≠ 0 ∨ bits w2 16 16 ≠ 0 ∨ w3 ≠ 0 then some 1
    else if bits w0 24 2 = 0 ∧ 37 ≤ bits w0 0 8 then some 6
    else none
  | 4 =>
    if bits w0 6 18 ≠ 0 ∨ bits w3 8 24 ≠ 0 then some 1
    else if bitB w0 25 = true ∧ w1 % 4 ≠ 0 then some 2
    else none
  | _ => some 1

/-- A DRAM access of the channel's world with a byte outside its grant counts as one violation (R43). -/
def chDramCount (c : Fin 64) (a n : Nat) (write : Bool) (s : State) : State :=
  if h : chWorld s c < 10 then
    (if (List.range n).all (fun i => dramOk s (chWorld s c) (a + i - 0x100000000) write) then s else s.violate ⟨chWorld s c, h⟩)
  else s

/-- The 64-byte line of an address is in the buffer, fetched where it is not. -/
def chFetch (c : Fin 64) (a : Nat) (s : State) : State :=
  (chDramCount c a 64 false s).chF c (fun h => { h with line := some (a, (List.range 64).map (fun i => reelByte s (chWorld s c) (a + i))) })

/-- The 64-byte line of an address is in the buffer. -/
def lineHeld (c : Fin 64) (a : Nat) (s : State) : Bool :=
  match (s.reel[c]).line with
  | some (b, _) => b == a
  | none => false

/-- The instruction at CUR_PC is fetched and judged (R535, R537). `ecc`: the fetch meets an uncorrectable error. In hold-up
a fetch waits (R571): the channel stays before an instruction that it does not hold. -/
def chLoad (c : Fin 64) (ecc : Bool) (s : State) : State :=
  let pc := chPc s c
  let a := pc / 64 * 64
  let gotLine := lineHeld c a s
  if pc % 16 ≠ 0 then chErr c 2 s
  else if !inDram pc then chErr c 3 s
  else if !gotLine && s.reduced then s.wr R.rch_STATE [c.val] rsRun
  else if !gotLine && ecc then chErr c 4 s
  else
    let s := if gotLine then s else chFetch c a s
    match instrError (chInstr s c 0) (chInstr s c 1) (chInstr s c 2) (chInstr s c 3) with
    | some e => chErr c e s
    | none => s.wr R.rch_STATE [c.val] rsRun

/-- On to an instruction (R529, R536); an instruction that a STOP found under way is the last. -/
def chGo (c : Fin 64) (a : Nat) (ecc : Bool) (s : State) : State :=
  if (s.reel[c]).stopping then chEnd c rsStopped s else chLoad c ecc (setPc c (a % 2 ^ 40) s)

/-- On to the next instruction. -/
def chNext (c : Fin 64) (ecc : Bool) (s : State) : State := chGo c (chPc s c + 16) ecc s

/-- A channel stands before an instruction of opcode `op`. -/
def chAt (s : State) (c : Fin 64) (op : Nat) : Bool :=
  s.runs 24 && chState s c == rsRun && (s.reel[c]).move.isNone && (s.reel[c]).wait.isNone &&
    lineHeld c (chPc s c / 64 * 64) s && chOp s c == op

/-- A hold-up ends: the channels whose fetch waited for DRAM go on (R571, R573). -/
def reelReturn (s : State) : State :=
  foldS (List.finRange 64) (fun s c =>
    if chState s c == rsRun && (s.reel[c]).move.isNone && (s.reel[c]).wait.isNone && !lineHeld c (chPc s c / 64 * 64) s then
      chLoad c false s
    else s) s

/-! ## Commands of firmware (R526, R536, R538, R540) -/

/-- START (R526, R536). -/
def chStart (w : World) (c : Fin 64) (ecc : Bool) (s : State) : State :=
  if w.val ≠ 0 ∧ w.val ≠ chWorld s c then s.setErr (chPage c) 0x0100
  else if chBusy s c || !s.runs 24 then s
  else
    let s := (s.wr R.rch_ECODE [c.val] 0).wr R.rch_LAST_LEN [c.val] 0
    let s := s.chF c (fun h => { h with lact0 := false, lact1 := false, line := none, move := none, wait := none })
    chLoad c ecc (setPc c (s.rd R.rch_PC_HI [c.val] * 2 ^ 32 + s.rd R.rch_PC_LO [c.val]) s)

/-- REEL_START. -/
def execReelStart (w : World) (c : Fin 64) (ecc : Bool) (s : State) : Host.Outcome State Fault Refusal :=
  .next (s.asWriter w (chPage c) (chStart w c ecc))

/-- STOP (R538): at once, or after the bytes in the burst buffer are written. -/
def chStop (c : Fin 64) (s : State) : State :=
  if chState s c = rsWait then chEnd c rsStopped s
  else if chState s c ≠ rsRun then s
  else match (s.reel[c]).move with
    | some m => match m.piece with
      | some p => if p.put < p.buf.length then s.chF c (fun h => { h with stopping := true }) else chEnd c rsStopped s
      | none => chEnd c rsStopped s
    | none => chEnd c rsStopped s

/-- REEL_STOP. -/
def execReelStop (w : World) (c : Fin 64) (s : State) : Host.Outcome State Fault Refusal :=
  .next (s.asWriter w (chPage c) (chStop c))

/-- FLAG of a channel is set (R528). -/
def chFlag (c : Fin 64) (s : State) : State := s.wr R.rch_FLAGGED [c.val] 1

/-- REEL_FLAG. -/
def execReelFlag (w : World) (c : Fin 64) (s : State) : Host.Outcome State Fault Refusal :=
  .next (s.asWriter w (chPage c) (chFlag c))

/-- CNT_CLR of a channel. -/
def chCntClr (c : Fin 64) (s : State) : State :=
  ((s.wr R.rch_SPLITS [c.val] 0).wr R.rch_PREEMPT [c.val] 0).wr R.rch_BYTES [c.val] 0

/-- REEL_CNT_CLR. -/
def execReelCntClr (w : World) (c : Fin 64) (s : State) : Host.Outcome State Fault Refusal :=
  .next (s.asWriter w (chPage c) (chCntClr c))

/-! ## LOOP and WAIT (R528) -/

/-- LOOP: the counter is loaded, counted down, or let go. -/
def execLoop (c : Fin 64) (ecc : Bool) (s : State) : Host.Outcome State Fault Refusal :=
  if !chAt s c 2 then .next s
  else
    let w0 := chInstr s c 0
    let one := bitB w0 16
    let count := bits w0 0 16
    let r := if one then R.rch_LCNT1 else R.rch_LCNT0
    let act := fun (b : Bool) (s : State) => s.chF c (fun h => if one then { h with lact1 := b } else { h with lact0 := b })
    let on := if one then (s.reel[c]).lact1 else (s.reel[c]).lact0
    let back := (Int.ofNat (chPc s c) + 16 * sext 16 (chInstr s c 1)) % 2 ^ 40
    let s := if on then s else act true (s.wr r [c.val] count)
    if count = 0xFFFF then .next (chGo c back.toNat ecc s)
    else if 0 < s.rd r [c.val] then .next (chGo c back.toNat ecc (s.wr r [c.val] (s.rd r [c.val] - 1)))
    else .next (chNext c ecc (act false s))

/-- WAIT: the channel waits in WAIT. -/
def execWait (c : Fin 64) (s : State) : Host.Outcome State Fault Refusal :=
  if !chAt s c 3 then .next s
  else
    let kind := bits (chInstr s c 0) 24 2
    let t := bits (chInstr s c 2) 0 16
    let x : WaitS := {
      kind := kind, index := bits (chInstr s c 0) 0 8, n := if kind = 3 then bits (chInstr s c 1) 0 16 else 1
      tmo := if kind = 3 ∨ t = 0 then none else some t }
    .next ((s.chF c (fun h => { h with wait := some x })).wr R.rch_STATE [c.val] rsWait)

/-- A request line (R532): the bytes it offers and END; none while it is not asserted. -/
def reelLine (s : State) (l : Nat) : Option (Nat × Bool) :=
  if h : l < 32 then vlLine s ⟨l, h⟩
  else if h : l < 36 then (if 0 < rxPend s ⟨l - 32, by omega⟩ then some (80, false) else none)
  else if l = 36 then (if s.brd.req then some (65535, false) else none)
  else none

/-- The condition of a wait is met. -/
def waitMet (s : State) (c : Fin 64) (x : WaitS) : Bool :=
  match x.kind with
  | 0 => (reelLine s x.index).isSome
  | 2 => s.rdB R.rch_FLAGGED [c.val]
  | _ => x.n == 0

/-- WAIT_END: the condition is met, or TMO control periods have started. -/
def execWaitEnd (c : Fin 64) (ecc : Bool) (s : State) : Host.Outcome State Fault Refusal :=
  match (s.reel[c]).wait with
  | none => .next s
  | some x =>
    if !s.runs 24 then .next s
    else if waitMet s c x then
      let s := if x.kind = 2 then s.wr R.rch_FLAGGED [c.val] 0 else s
      .next (chNext c ecc (s.chF c (fun h => { h with wait := none })))
    else if x.tmo = some 0 then .next (chErr c 5 s)
    else .next s

/-- A control period starts: waits count (R528). -/
def reelPeriod (s : State) : State :=
  if !s.runs 24 then s
  else { s with reel := s.reel.map (fun h => { h with wait := h.wait.map (fun x =>
    { x with n := if x.kind = 3 then x.n - 1 else x.n, tmo := x.tmo.map (· - 1) }) }) }

/-- Spar event `n` fires: waits on it are met (R528). -/
def reelEvent (n : Nat) (s : State) : State :=
  if !s.runs 24 then s
  else { s with reel := s.reel.map (fun h => { h with wait := h.wait.map (fun x =>
    if x.kind = 1 ∧ x.index = n then { x with n := 0 } else x) }) }

/-! ## Resets (R538) -/

/-- A level 2 reset: channels of W2-W9 end, those of W0 and W1 run on. -/
def reelLevel2 (s : State) : State :=
  foldS (List.finRange 64) (fun s c =>
    if 2 ≤ chWorld s c ∧ chBusy s c = true then (chEnd c rsStopped s).wr R.rch_ECODE [c.val] 8 else s) s

end Sys2Proof.Machine
end

