-- ==== Sys2Proof/Machine/Reset.lean ====
section
/-! DEFINITION. Supplies and hold-up, reset sources and levels, block resets, clocks, options, flash and start-up
(21_power_reset_startup.md). -/

namespace Sys2Proof.Machine

open Sys2Proof

/-- A change of the reset controller. -/
def State.rsF (s : State) (f : RstS → RstS) : State := { s with rst := f s.rst }

/-! ## Hold-up (R569-R573) -/

/-- HOLDUP_START (R571, R572): RELEASE, E001, CYC_MARK; T000-T143 read invalid in reduced mode. -/
def holdupStart (s : State) : State :=
  let s := ((s.wr R.pwr_HOLDUP [] 1).satInc R.pwr_HU_COUNT []).raise 2 2
  let s := s.rsF (fun r => { r with huAt := some s.now, huW0 := false, huW1 := false })
  let s := billHoldup (tethRelease (s.teF (fun t => { t with atLoss := tstate s })))
  thrmOff (s.wr R.rst_CYC_MARK [] s.spar.cycle)

/-- RING_SUPPLY_LOSS (R569): one input is lost; the loss of the second starts the hold-up. -/
def execRingSupplyLoss (portB : Bool) (s : State) : Host.Outcome State Fault Refusal :=
  let r := if portB then R.pwr_B_OK else R.pwr_A_OK
  if !s.rdB r [] then .next s
  else
    let s := (s.wr r [] 0).raise 2 (b2n portB)
    .next (if s.rdB R.pwr_A_OK [] || s.rdB R.pwr_B_OK [] || s.reduced then s else holdupStart s)

/-- RING_SUPPLY_GOOD (R569, R573): an input is good again; it ends a hold-up. -/
def execRingSupplyGood (portB : Bool) (s : State) : Host.Outcome State Fault Refusal :=
  let r := if portB then R.pwr_B_OK else R.pwr_A_OK
  if s.rdB r [] then .next s
  else
    let s := (s.wr r [] 1).raise 2 (b2n portB)
    if s.reduced then
      let s := ((s.wr R.pwr_HOLDUP [] 0).wr R.pwr_HU_DONE [] 0).raise 2 3
      .next (reelReturn (billReturn (s.rsF (fun r => { r with huAt := none, huW0 := false, huW1 := false }))))
    else .next s

/-- HU_DONE once both commits are complete (R572); HU_US counts 10 µs. -/
def huDone (s : State) : State :=
  if s.rst.huW0 && s.rst.huW1 && !s.rdB R.pwr_HU_DONE [] then
    let us := (s.now - s.rst.huAt.getD s.now) / 2000
    ((s.wr R.pwr_HU_DONE [] 1).wr R.pwr_HU_US [] (min us 65535)).raise 2 4
  else s

/-- HU_W0: Gondola's redundancy state is committed (R487, R572). -/
def huW0 (s : State) : State :=
  if s.reduced then
    huDone ((s.teF (fun t => { t with lostState := t.atLoss })).rsF (fun r => { r with huW0 := true }))
  else s

/-- HU_W1: Bremus's record is committed (R572). -/
def huW1 (s : State) : State := if s.reduced then huDone (s.rsF (fun r => { r with huW1 := true })) else s

/-- HU_W0 (R572, R600). -/
def execHuW0 (w : World) (s : State) : Host.Outcome State Fault Refusal := .next (s.onlyBy 0 w 2 huW0)

/-- HU_W1 (R572, R600). -/
def execHuW1 (w : World) (s : State) : Host.Outcome State Fault Refusal := .next (s.onlyBy 1 w 2 huW1)

/-! ## Sources (R575, R582, R583) -/

/-- Permitted levels of a source (R575). -/
def permittedLevels (n : Nat) : List Nat :=
  match n with
  | 3 => [0, 1] | 4 => [1, 2] | 5 => [1, 3] | 8 => [0, 1, 2] | 9 => [0, 1] | 11 => [0, 1, 2] | _ => [1]

/-- The nearest permitted level to a fuse value (R575; the lower of two as near, log entry 34). -/
def nearest (l : List Nat) (v : Nat) : Nat :=
  let d := fun (x : Nat) => if x ≤ v then v - x else x - v
  l.foldl (fun b x => if d x < d b then x else b) (l.headD 1)

/-- The level of a source: its fuse value, or what software asked for (R575). -/
def levelOf (s : State) (n : Nat) : Nat :=
  if n = 8 then s.rst.swLevel else nearest (permittedLevels n) (bits s.rst.fuseMap (2 * n) 2)

/-- HOLDUP_EXHAUSTED (R572). -/
def execHoldupExhausted (s : State) : Host.Outcome State Fault Refusal :=
  .next (if s.reduced then requestReset 2 s else s)

/-- BROWN_OUT (R575). -/
def execBrownOut (s : State) : Host.Outcome State Fault Refusal := .next (requestReset 1 s)

/-- EXT_RST (R575): EXT_RST_N has been low for 10 µs. -/
def execExtRst (s : State) : Host.Outcome State Fault Refusal := .next (requestReset 11 s)

/-- DEBUG_RESET (R562, R575): ignored while DEBUG_EN = 0. -/
def execDebugReset (s : State) : Host.Outcome State Fault Refusal :=
  .next (if s.rdB R.key_DEBUG_EN [] then requestReset 9 s else s)

/-- 10 ms have passed since SD_PEND was set, and the reset has not been requested (R394). -/
def shutdownDue (s : State) : Bool :=
  s.rdB R.thrm_SD_PEND [] && !s.thrm.sdReq && decide (s.thrm.sdAt + 2000000 ≤ s.now)

/-- THERMAL_SHUTDOWN (R394): 10 ms after SD_PEND. -/
def execThermalShutdown (s : State) : Host.Outcome State Fault Refusal :=
  .next (if shutdownDue s then requestReset 7 (s.thF (fun t => { t with sdReq := true })) else s)

/-- SHUTDOWN_RESET_RELEASE (R394): every TD sensor reads 10 °C below its limit, and the shutdown is over. -/
def execShutdownResetRelease (td : List (Option Int)) (s : State) : Host.Outcome State Fault Refusal :=
  let cool := (List.range 4).all (fun k => match td.getD k none with | some v => decide (v ≤ sdLimit s k - 160) | none => false)
  .next (if s.thrm.sdHold && cool then
      (s.wr R.thrm_SD_PEND [] 0).thF (fun t => { t with sdHold := false, sdReq := false })
    else s)

/-- The safety island asks for a reset after HALT (R453, R589). -/
def islandReset (s : State) : State := requestReset 6 (tethRelease (islandHalt s))

/-- ISLAND_LOCKSTEP_MISMATCH (R453). -/
def execIslandLockstepMismatch (s : State) : Host.Outcome State Fault Refusal :=
  .next (if s.inReset 18 then s else islandReset s)

/-- Timeout of a watchdog in ms: Gondola 0, Bremus 1, Envelope 2; 0 disables the latter two (R582). -/
def wdgMs (s : State) (k : Fin 3) : Nat :=
  match k with
  | 0 => max 10 (s.rd R.rst_G_WDG_MS [])
  | 1 => s.rd R.rst_B_WDG_MS []
  | 2 => s.rd R.rst_E_WDG_MS []

/-- A watchdog restarts from its timeout (R582). -/
def wdgReload (k : Fin 3) (s : State) : State := s.rsF (fun r => { r with wdg := vupd r.wdg k (fun _ => wdgMs s k) })

/-- KICK: by its own world alone; by any other it is a violation (R582). -/
def wdgKick (k : Fin 3) (own w : World) (s : State) : State :=
  if s.canWrite w 1 && w == own then wdgReload k s else s.violate w

/-- G_KICK, B_KICK, E_KICK (R582). -/
def execGKick (w : World) (s : State) : Host.Outcome State Fault Refusal := .next (wdgKick 0 0 w s)
def execBKick (w : World) (s : State) : Host.Outcome State Fault Refusal := .next (wdgKick 1 1 w s)
def execEKick (w : World) (s : State) : Host.Outcome State Fault Refusal := .next (wdgKick 2 2 w s)

/-- The watchdogs count whole milliseconds; the last `n` clocks may have ended one (R582). -/
def wdgCount (n : Nat) (s : State) : State :=
  if (s.now - n) / 200000 = s.now / 200000 then s
  else s.rsF (fun r => { r with wdg := Vector.ofFn (fun k => if wdgMs s k = 0 then r.wdg[k] else r.wdg[k] - 1) })

/-- WATCHDOG_EXPIRY (R582): a watchdog has reached zero. -/
def execWatchdogExpiry (k : Fin 3) (s : State) : Host.Outcome State Fault Refusal :=
  if wdgMs s k = 0 ∨ s.rst.wdg[k] ≠ 0 then .next s
  else .next (wdgReload k (requestReset (match k with | 0 => 3 | 1 => 5 | 2 => 4) s))

/-- SW_GO (R583): SW_LEVEL is taken, or refused. -/
def swGo (s : State) : State :=
  let v := s.rd R.rst_SW_LEVEL []
  let least := nearest (permittedLevels 8) (bits s.rst.fuseMap 16 2)
  if v = 3 ∨ v < least then s.setErr 1 0x0102 else requestReset 8 (s.rsF (fun r => { r with swLevel := v }))

/-- SW_GO (R583): W0 alone. -/
def execSwGo (w : World) (s : State) : Host.Outcome State Fault Refusal := .next (s.onlyBy 0 w 1 swGo)

/-! ## Block resets (R584-R587) -/

/-- Fields kept by the reset of a block at a level, with their indexes (R76, R295, R331, R339, R414, R487, R576). -/
def keptRows (lvl b : Nat) : List (Row × List Nat) :=
  let each := fun (rs : List Row) (n : Nat) => (List.range n).flatMap (fun i => rs.map (fun r => (r, [i])))
  match b with
  | 4 => if lvl ≤ 1 then [] else [R.wall_SETBACK, R.wall_SLEWING, R.wall_AUTH, R.wall_VALID].map (fun r => (r, []))
  | 6 => if lvl ≤ 1 then [(R.key_DBG_ARMED, [])] else
      [R.key_LC, R.key_DEBUG_EN, R.key_DBG_ARMED, R.key_TEST_ROOT, R.key_LC_FUSE].map (fun r => (r, []))
  | 13 => if lvl ≤ 1 then [] else
      each [R.dsp_MAC_LO, R.dsp_LISTED, R.dsp_COUP, R.dsp_MAC_HI, R.dsp_PORT_MASK, R.dsp_DSTATE, R.dsp_FAILRUN, R.dsp_EVT_SEQ,
        R.dsp_RATE_DN, R.dsp_RATE_UP, R.dsp_PB_RETX, R.dsp_FRM_FAIL] 32
  | 14 => [(R.mtr_MSW, []), (R.mtr_SEAL, [])] ++
      (if lvl = 0 then [] else each [R.mt_E_POS, R.mt_E_NEG, R.mt_E_NET] 36)
  | 15 => (R.bill_SLOT_PEND, []) :: (if lvl = 0 then [] else
      each [R.leg_REG_POS, R.leg_REG_NEG, R.leg_REG_NET] 36 ++
      (List.range 36).flatMap (fun m => (List.range 16).flatMap (fun t => [(R.leg_TREG_POS, [m, t]), (R.leg_TREG_NEG, [m, t])])))
  | 16 => [(R.thrm_SD_PEND, [])]
  | 17 => [R.lsw_VRAIL, R.lsw_TCASE, R.lsw_RAIL_LOSS, R.lsw_CASE_TRIP, R.lsw_LIMP_EN_IN, R.lsw_RAIL_LOW].map (fun r => (r, [])) ++
      each [R.lch_OUT, R.lch_TRIP_I, R.lch_TRIP_DT, R.lch_TRIP_CASE, R.lch_INRUSH, R.lch_LIMIT, R.lch_I_MEAS, R.lch_DT] 32
  | 18 => [(R.safe_SID_SW, [])]
  | 20 => if lvl = 0 then [] else [(R.teth_TAKEOVERS, [])]
  | _ => []

/-! ## Class S fields that become active without a commit (R38; log entry 9) -/

/-- The shadow of a byte range differs from the active values. -/
def shadowDiffers (s : State) (a b : Nat) : Bool :=
  (s.regs.act.filter (fun e => decide (8 * a ≤ e.1) && decide (e.1 < 8 * b))) !=
    (s.regs.shd.filter (fun e => decide (8 * a ≤ e.1) && decide (e.1 < 8 * b)))

/-- What follows when class S fields of a unit take new active values, `old` being the state before: a stage's BANK (R137),
the inputs' kinds (R384), the channels of the cooling loops (R390), the ends of demand intervals (R346). -/
def afterShadow (u : CommitUnit) (old s : State) : State :=
  match u with
  | .area i => bankSwap i s
  | .page p =>
    if blockOf p.val = some 16 then coolShow (if p.val = 321 ∨ p.val = 322 then tinKinds s else s)
    else if p.val = 304 then
      (if s.rd R.bill_DEM_MIN [] = old.rd R.bill_DEM_MIN [] ∧ s.rd R.bill_DEM_ALIGN [] = old.rd R.bill_DEM_ALIGN [] then s
       else demandChanged s)
    else s

/-- The shadow of a meter page becomes active at once, under the rules of a commit: segment limits that are not ascending
and a full sealed log let it revert (R311, R373); a change of a sealed field is logged (R329). -/
def meterNow (p : Nat) (s : State) : State :=
  let a := p * 0x1000
  if !shadowDiffers s a (a + 0x1000) then s
  else
    let m := if 257 ≤ p ∧ p < 293 then p - 257 else 0xFF
    if decide (m ≠ 0xFF) && segOrderBad s m then { s with regs := s.regs.revert a (a + 0x1000) }.setErr p 0x0101
    else if logFull s then { s with regs := s.regs.revert a (a + 0x1000) }.setErr 304 0x0103
    else metLog 0x0002 m (p - 256) (s.rd R.hdr_COMMIT_SEQ [p]) { s with regs := s.regs.commit a (a + 0x1000) }

/-- EN of the unit of page `p` cleared: its shadow is active at once, with what follows from the values (R38). -/
def unitNow (p : Nat) (s : State) : State :=
  match blockOf p with
  | some 9 => foldS (List.finRange 128) (fun s i => bankSwap i s) (shadowNow p s)
  | some 14 => shadowNow p (meterNow p s)
  | some 15 => afterShadow (.page 304) s (shadowNow p s)
  | some 16 => afterShadow (.page 321) s (shadowNow p s)
  | some 21 => afterShadow (.page 360) s (shadowNow p s)
  | _ => shadowNow p s

/-- Spar stops: the shadow of every page is active at once and every pending commit has nothing left to do (R38). -/
def allNow (s : State) : State :=
  let s := foldS (List.range 37) (fun s k => meterNow (256 + k) s) s
  let t := s.arms.foldl (fun s a => unitSetPend a.unit false s) s
  let t := { t with arms := [], regs := t.regs.commit 0 (388 * 0x1000) }
  let t := foldS (List.finRange 128) (fun s i => bankSwap i s) t
  afterShadow (.page 304) s (afterShadow (.page 321) s (afterShadow (.page 360) s t))

/-- Pending commits of pages from `p` below `q` are discarded (R37). -/
def dropArms (p q : Nat) (s : State) : State :=
  let inside := fun (a : Arm) => decide (p ≤ unitPage a.unit) && decide (unitPage a.unit < q)
  { s with arms := s.arms.filter (fun a => !inside a) }

/-- Every field of pages from `p` below `q` at its reset value (R587), but for some; at levels 2 and 3 a pending commit
that this discards is reported (R37). -/
def clearPages (lvl p q : Nat) (keep : List (Row × List Nat)) (s : State) : State :=
  let old := s
  let pend := (s.arms.map (fun a => unitPage a.unit)).filter (fun x => decide (p ≤ x) && decide (x < q))
  let s := dropArms p q { s with regs := s.regs.clear (p * 0x1000) (q * 0x1000) }
  let s := keep.foldl (fun s e => s.wr e.1 e.2 (old.rd e.1 e.2)) s
  if lvl ≤ 1 then s else foldS pend (fun s x => s.setErr x 0x0005) s

/-- The header of page `p` at its reset value, the rest of the page standing; a pending commit is discarded with its shadow
and reported (R37, R550, R587). -/
def clearHeader (p : Nat) (s : State) : State :=
  let pend := s.rdB R.hdr_COMMIT_PEND [p]
  let s := dropArms p (p + 1) { s with regs := (s.regs.revert (p * 0x1000) ((p + 1) * 0x1000)).clear (p * 0x1000) (p * 0x1000 + 0x100) }
  if pend then s.setErr p 0x0005 else s

/-- Options of a block's registers as the option loader gave them (R593). -/
def optRegs (b : Nat) (s : State) : State :=
  let o := fun n => s.rst.opt.getD n 0
  match b with
  | 4 => ((s.wr R.spar_NOMINAL [] (o 0)).wr R.spar_PHASES [] (o 1)).wr R.spar_VNOM [] (o 2)
  | 17 => foldS (List.range 32) (fun s n =>
      ((s.wr R.lch_HOLD [n] (o (4 + n))).wr R.lch_LIMP_DEF [n] (o (36 + n))).wr R.lch_LIMP_SEL [n] (o (68 + n))) s
  | 20 => s.wr R.teth_PAIR_EN [] (o 3)
  | _ => s

/-- A meter's state that a reset keeps: its remainders, but at level 0 (R331). -/
def keepMtr (lvl : Nat) (x : MtrS) : MtrS :=
  if lvl = 0 then MtrS.reset else { MtrS.reset with posR := x.posR, negR := x.negR, netR := x.netR }

/-- A pulse output keeps its counter C (R331). -/
def keepPulse (lvl : Nat) (x : PulS) : PulS := if lvl = 0 then ⟨0, 0, 0⟩ else ⟨x.c, 0, 0⟩

/-- Billing: the tariff accumulators but at level 0, and what MRAM holds: shadow slots, records, logs (R339, R576). -/
def keepBill (lvl : Nat) (x : BillS) : BillS :=
  { BillS.reset with
    tpos := if lvl = 0 then [] else x.tpos
    tneg := if lvl = 0 then [] else x.tneg
    opens := x.opens, openMono := x.openMono, openTariff := x.openTariff, slots := x.slots, recs := x.recs, ocmf := x.ocmf
    logRing := x.logRing, logSeal := x.logSeal, logCrc := x.logCrc, saved := x.saved, saved0 := x.saved0, saved1 := x.saved1, kept := x.kept }

/-- A burn that a reset cuts short (R560): which of its bits are burned by then is a free value (log entry 1). -/
def burnStop (s : State) : State :=
  match s.key.burn with
  | some g => s.took.keyF (fun q => { q with burn := none, fuse := q.fuse ||| (lcPattern g &&& s.free 16) })
  | none => s

/-- The internal state of a block at a reset of a level (R587 and the block's own chapter). -/
def blockState (lvl b : Nat) (s : State) : State :=
  match b with
  | 4 =>
    let z := State.reset.spar
    { s with spar := if lvl ≤ 1 then { z with serial := s.spar.serial } else
        { z with serial := s.spar.serial, wall := s.spar.wall, slewRem := s.spar.slewRem, step := s.spar.step, wallHi := s.spar.wallHi } }
  | 5 => { s with host := { State.reset.host with rdata := s.host.rdata } }
  | 6 => if lvl ≤ 1 then burnStop { s with key := { State.reset.key with fuse := s.key.fuse, burn := s.key.burn } }
      else s.keyF (fun q => { q with jobs := [], burn := none })
  | 7 => { s with reel := State.reset.reel }
  | 8 => { s with lines := State.reset.lines, windowClosed := true, windowSent := true }
  | 9 => { s with stages := State.reset.stages, ports := State.reset.ports, brn := State.reset.brn }
  | 10 => { s with brd := State.reset.brd }
  | 11 => { s with sess := State.reset.sess }
  | 13 => splcReset (decide (lvl ≤ 1)) s
  | 14 => { s with
      mtrs := s.mtrs.map (keepMtr lvl), chans := State.reset.chans, mclkTook := State.reset.mclkTook, fineLeft := 0
      phases := State.reset.phases.map (fun p => { p with since := s.now })
      pulses := s.pulses.map (keepPulse lvl), addDue := false, teth := { s.teth with latchOn := [] } }
  | 15 => { s with bill := keepBill lvl s.bill }
  | 16 => { s with thrm := { ThrmS.reset with sdAt := s.thrm.sdAt, sdReq := s.thrm.sdReq, sdHold := s.thrm.sdHold } }
  | 17 => lswEnterReset (if lvl = 3 then 1 else lvl) s
  | 18 => { s with safe := { SafeS.reset with conn := s.safe.conn, prod := s.safe.prod } }
  | 19 => s.sfF (fun x => { x with conn := SafeS.reset.conn, prod := SafeS.reset.prod, xsent := [] })
  | 20 => { s with teth := { TethS.reset with
      known := if lvl = 0 then 0 else s.teth.known
      lostState := if lvl = 0 then 0 else s.teth.lostState
      prio := if lvl ≤ 1 then bitB (s.rd R.mtr_MSW []) 15 else s.teth.prio
      latch := if lvl ≤ 1 then none else s.teth.latch
      latchOn := if lvl ≤ 1 then [] else s.teth.latchOn } }
  | 21 => { s with blst := s.blst.map (fun g => { RingS.reset with mons := g.mons, code := g.code }) }
  | 22 => { s with ring := State.reset.ring }
  | 23 => { (s.rsF (fun r => { r with run1 := false })) with
      sram1 := if lvl = 3 then s.sram1.filter (fun e => e.1 < ringSize) else [] }
  | b => if h : 24 ≤ b ∧ b < 28 then { s with can := s.can.set (b - 24) CanS.reset } else s

/-- A block is put into reset: registers, internal state, and its release asked for (R584, R587). -/
def resetBlock (lvl : Nat) (b : Fin 28) (s : State) : State :=
  let s := s.rsF (fun r => { r with
    inReset := r.inReset.set b true, relPend := r.relPend.set b true
    brst := r.brst.filter (fun e => blockOf e.1 ≠ some b.val) })
  let p := firstPage b.val
  let s := if b.val = 20 ∧ 1 < lvl ∧ s.active = true then ceaseActive tsOff s else s
  let s := if b.val = 12 then foldS (List.finRange 32) (fun s p => vlReset p s) s else s
  let s := if pageCount b.val = 0 then s
    else if b.val = 6 ∧ 1 < lvl then clearPages lvl 18 20 [] (clearHeader 17 (clearPages lvl 16 17 (keptRows lvl 6) s))
    else clearPages lvl p (p + pageCount b.val) (keptRows lvl b.val) s
  let s := blockState lvl b.val (if lvl ≤ 1 then s else optRegs b.val s)
  let s := if b.val = 4 ∧ 1 < lvl then allNow s else s
  if b.val = 6 ∨ b.val = 22 then s.wr R.hdr_EN [p] 1 else s

/-- A level 3 reset of one page that is its own unit: a port, a link, a meter page (R31, R249, R331). Its clock is
stable, so that its release follows at once (log entry 35). A port's session goes to UNAVAIL, and its link with it (R258). -/
def resetPage (p : Nat) (s : State) : State :=
  match blockOf p with
  | some 11 =>
    clearPages 3 p (p + 1) [] (if h : p - 160 < 32 then portDisable ⟨p - 160, h⟩ s else s)
  | some 12 =>
    clearPages 3 p (p + 1) [] (if h : p - 192 < 32 then vlReset ⟨p - 192, h⟩ s else s)
  | some 14 =>
    if p = 256 then
      let s := clearPages 3 p (p + 1) [(R.mtr_MSW, []), (R.mtr_SEAL, [])] s
      { s with pulses := s.pulses.map (keepPulse 3) }
    else
      let m := p - 257
      let s := clearPages 3 p (p + 1) [(R.mt_E_POS, [m]), (R.mt_E_NEG, [m]), (R.mt_E_NET, [m])] s
      let s := s.teF (fun t => { t with latchOn := t.latchOn.filter (· ≠ m) })
      if h : m < 36 then { s with mtrs := vupd s.mtrs ⟨m, h⟩ (keepMtr 3) } else s
  | _ => s

/-- A level 3 reset of the unit of a page. -/
def resetUnit (p : Nat) (s : State) : State :=
  let s := s.rsF (fun r => { r with brst := r.brst.filter (fun e => e.1 ≠ p) })
  match blockOf p with
  | some 11 => resetPage p s
  | some 12 => resetPage p s
  | some 14 => resetPage p s
  | some b => if h : b < 28 then resetBlock 3 ⟨b, h⟩ s else s
  | none => s

/-- No ATTACHED line reports a switching mode in force (R161). -/
def brnQuiet (s : State) : Bool :=
  (List.finRange 128).all (fun i => s.rd R.line_LSTATE [i.val] ≠ lsAttached || !modeSwitches (modeForce s i))

/-- STAT.IDLE of the unit of a page (R29, R161, R249, R331, R396, R414, R423, R487, R505, R520, R538; the blocks whose
chapter says nothing: log entry 36). -/
def idleOf (s : State) (p : Nat) : Bool :=
  match blockOf p with
  | some 0 => true | some 1 => true | some 2 => true | some 3 => true
  | some 4 => s.rd R.spar_LOCK [] == lockOff
  | some 5 => s.host.reqs.isEmpty
  | some 6 => s.key.jobs.isEmpty
  | some 7 => (List.finRange 64).all (fun c => !chBusy s c)
  | some 9 => brnQuiet s
  | some 11 => if h : p - 160 < 32 then portIdle s ⟨p - 160, h⟩ else true
  | some 12 => if h : p - 192 < 32 then linkOf s ⟨p - 192, h⟩ == lkDown else true
  | some 18 => !s.enOf p && s.rd R.safe_SF_STATE [] != sfHalt
  | some 20 => tstate s == tsOff || tstate s == tsJoin
  | some _ => !s.enOf p
  | none => true

/-- The holds of R578 in force: REL_HOLD, NV_HOLD, ACC_HOLD, HU_HOLD by bit. -/
def holds (s : State) : Nat :=
  let rel := s.sparRuns && (match s.teth.relTx with | some t => decide (s.spar.serial ≤ t) | none => false)
  let nv := match s.rst.flOp with | some (1, _) => true | _ => false
  let acc := (match s.rst.accWrite with | some t => decide (s.now < t + 12000) | none => false)
  let hu := s.reduced && !s.rdB R.pwr_HU_DONE [] &&
    (match s.rst.huAt with | some t => decide (s.now < t + 2000000) | none => false)
  b2n rel + 2 * b2n nv + 4 * b2n acc + 8 * b2n hu

/-- HELD shows the holds that an accepted reset waits for (R578). -/
def showHeld (s : State) : State := s.wr R.rst_HELD [] (if s.rst.acc.isSome || s.rst.accB then holds s else 0)

/-- When the BRST of a unit that still waits was written (R586). -/
def brstAt (s : State) (p : Nat) : Option Nat := (s.rst.brst.find? (fun e => e.1 == p)).map (·.2)

/-- The reset of a unit waits from now on, if it does not wait already. -/
def brstWait (p : Nat) (s : State) : State :=
  if (brstAt s p).isSome then s else s.rsF (fun r => { r with brst := r.brst ++ [(p, s.now)] })

/-- BRST of a unit (R578, R585, R586): in service refused, or taken as soon as no hold is in force; else once it is idle.
KEY takes none in service (R550); SYS, RST, PWR and CLK take none (log entry 35). -/
def brst (p : Nat) (s : State) : State :=
  if p ≠ enPage p ∨ p < 4 then s
  else if s.rd R.rst_MODE [] = 0 then
    if !idleOf s p || p == 16 then (s.setErr 1 0x0100).raise 1 2
    else if holds s = 0 then resetUnit p s
    else brstWait p s
  else brstWait p (s.wr R.hdr_IDLE_REQ [p] 1)

/-- BRST (R585, R586). -/
def execBrst (w : World) (p : Page) (s : State) : Host.Outcome State Fault Refusal := .next (s.asWriter w p.val (brst p.val))

/-- BRST_IDLE_REACHED (R586): the unit reads idle. -/
def execBrstIdleReached (p : Page) (s : State) : Host.Outcome State Fault Refusal :=
  .next (if (brstAt s p.val).isSome && idleOf s p.val && holds s == 0 then resetUnit p.val s else s)

/-- IDLE_TMO µs have passed since the BRST was written (R586); 0 acts as 1 (R599). -/
def idleLate (s : State) (p : Nat) : Bool := heldFor s (brstAt s p) (200 * max 1 (s.rd R.rst_IDLE_TMO []))

/-- SAFE and TETH take a level 3 reset only with STAT.IDLE = 1 (R423, R487). -/
def idleOnly (p : Nat) : Bool := blockOf p == some 18 || blockOf p == some 20

/-- IDLE_TIMEOUT (R586): IDLE_TMO has passed and the unit does not read idle; the reset is taken and reported, but for the
units that take it only when they are idle. -/
def execIdleTimeout (p : Page) (s : State) : Host.Outcome State Fault Refusal :=
  .next (if idleLate s p.val && !idleOf s p.val && !idleOnly p.val && holds s == 0 then
      let s := (resetUnit p.val s).setErr p.val 0x0004
      (s.wrBit R.rst_IDLE_TO [] ((blockOf p.val).getD 0) true).raise 1 1
    else s)

/-- IDLE_TO_CLEAR (R599). -/
def idleToClear (v : Nat) (s : State) : State := s.wr R.rst_IDLE_TO [] (s.rd R.rst_IDLE_TO [] &&& (v ^^^ 0xFFFFFFFF))

/-- IDLE_TO_CLEAR (R599). -/
def execIdleToClear (w : World) (v : Word) (s : State) : Host.Outcome State Fault Refusal :=
  .next (s.asWriter w 1 (idleToClear v.toNat))

/-- The PLL that clocks a block (R588; blocks it does not name in log entry 35); none for those on the monitor oscillator. -/
def pllOf (b : Nat) : Option Nat :=
  match b with
  | 0 => none | 1 => none | 2 => none | 3 => none
  | 4 => some 1
  | 8 => some 2 | 20 => some 2 | 22 => some 2
  | 5 => some 5 | 12 => some 5 | 13 => some 5 | 16 => some 5 | 17 => some 5 | 21 => some 5
  | 24 => some 5 | 25 => some 5 | 26 => some 5 | 27 => some 5
  | _ => some 0

/-- What a block does when it leaves reset: BRN finds no valid bank (R138); Spar and TETH with EN = 1 start. -/
def blockStarts (b : Nat) (s : State) : State :=
  match b with
  | 4 => if s.enOf 4 then sparStart s else s
  | 9 => foldS (List.finRange 128) (fun s i => noBank i s) s
  | 20 => if s.enOf 352 then tethStart s else s
  | 21 => if s.enOf 360 then blstStart s else showCode s
  | _ => s

/-- BLOCK_RELEASE (R584): the block's clock has been stable for 256 of its cycles. In RECOVERY the Bremus cores stay in
reset (R593); nothing is released while options load or a thermal shutdown lasts (R394, R595). -/
def execBlockRelease (b : Fin 28) (s : State) : Host.Outcome State Fault Refusal :=
  if !s.rst.inReset[b] || !s.rst.relPend[b] || s.rst.loading || s.thrm.sdHold || (b.val == 23 && s.rd R.rst_MODE [] == 3) then
    .next s
  else
    let s := s.rsF (fun r => { r with inReset := r.inReset.set b false, relPend := r.relPend.set b false })
    let s := s.wrBit R.clk_CLK_OK [] b.val true
    let s := match pllOf b.val with | some k => s.wrBit R.clk_PLL_LOCK [] k true | none => s
    .next (blockStarts b.val s)

/-- CLK_FAIL (R584): CLK_OK has not come within 2 ms of the release request. -/
def execClkFail (b : Fin 28) (s : State) : Host.Outcome State Fault Refusal :=
  if !s.rst.inReset[b] || !s.rst.relPend[b] || s.rst.loading then .next s
  else
    let s := s.rsF (fun r => { r with relPend := r.relPend.set b false })
    let s := ((s.wrBit R.clk_CLK_OK [] b.val false).wrBit R.rst_CLK_FAIL [] b.val true).raise 1 0
    .next (if pageCount b.val = 0 then s else s.setErr (firstPage b.val) 0x0003)

/-- RETRY_GO (R584): W0 retries the release of RETRY_BLK. -/
def retryGo (s : State) : State :=
  let b := s.rd R.rst_RETRY_BLK []
  if h : b < 28 then
    if s.rst.inReset[b] && bitB (s.rd R.rst_CLK_FAIL []) b then
      (s.wrBit R.rst_CLK_FAIL [] b false).rsF (fun r => { r with relPend := r.relPend.set b true })
    else s
  else s

/-- RETRY_GO (R584, R599). -/
def execRetryGo (w : World) (s : State) : Host.Outcome State Fault Refusal := .next (s.onlyBy 0 w 1 retryGo)

/-! ## Accepting and applying a reset (R575-R579) -/

/-- Sources raised, with their levels. -/
def raised (s : State) : List (Nat × Nat) :=
  ((List.range 12).filter (fun n => bitB s.rst.req n)).map (fun n => (n, levelOf s n))

/-- RESET_ACCEPT (R575, R577, R579): the lowest-numbered level is taken; a source that comes while the option load of a
reset of the same or a lower-numbered level runs is merged into that reset, and at level 0 or 1 restarts the load (R592). -/
def resetAccept (s : State) : State :=
  match raised s with
  | [] => s
  | e :: l =>
    let lv := l.foldl (fun a x => min a x.2) e.2
    let req := s.rst.req
    let s := s.rsF (fun r => { r with req := 0 })
    let s := if s.rst.loading && decide (lv ≤ 1) then s.satInc R.sys_OPT_RESTARTS [] else s
    if s.rst.loading && decide (s.rd R.rst_LAST_LEVEL [] ≤ lv) then s.wr R.rst_CAUSE [] (s.rd R.rst_CAUSE [] ||| req)
    else
      let b3 := (e :: l).any (fun x => x.2 == 3)
      let s := s.rsF (fun r => { r with
        accSrc := r.accSrc ||| req, accB := r.accB || b3
        acc := if lv = 3 then r.acc else some (match r.acc with | some a => min a lv | none => lv) })
      showHeld (if lv ≤ 1 then tethRelease (safeOutputs s) else s)

/-- RESET_ACCEPT. -/
def execResetAccept (s : State) : Host.Outcome State Fault Refusal := .next (resetAccept s)

/-- A flash erase in progress is aborted and its sector listed (R590); sectors are 8 KiB (log entry 33). -/
def abortFlash (s : State) : State :=
  (match s.rst.flOp with
    | some (2, a, _) => s.rsF (fun r => { r with erase := if r.erase.contains (a / 8192) then r.erase else r.erase ++ [a / 8192] })
    | _ => s).rsF (fun r => { r with flOp := none })

/-- Fields of SYS, RST, PWR and CLK kept by a reset of the logic: what the reset controller, the supplies and the clock
monitors hold (R575, R581, R588). -/
def keptSys (lvl : Nat) : List (Row × List Nat) :=
  (([R.sys_RST_MAP, R.sys_SERIAL, R.rst_CYC_MARK, R.rst_CAUSE, R.rst_LAST_LEVEL, R.rst_RST_L2] ++
    (if lvl = 0 then [] else [R.rst_RST_L1]) ++
    [R.pwr_VIN_A, R.pwr_VIN_B, R.pwr_IIN_A, R.pwr_IIN_B, R.pwr_VCAP, R.pwr_HU_DONE, R.pwr_HOLDUP, R.pwr_CLASS_OK, R.pwr_B_OK,
     R.pwr_A_OK, R.pwr_HU_COUNT, R.pwr_HU_US, R.pwr_PIN, R.clk_REF_OK, R.clk_PLL_LOCK, R.clk_CLK_OK, R.clk_LOCK_LOSS]).map
    (fun r => (r, [])))

/-- SYS, RST, PWR and CLK with EN = 1 (R595); their clock, the monitor oscillator, is up (R588). -/
def sysPages (keep : List (Row × List Nat)) (s : State) : State :=
  let s := foldS (List.range 4) (fun s p => s.wr R.hdr_EN [p] 1) (clearPages 0 0 4 keep s)
  s.wr R.clk_CLK_OK [] (s.rd R.clk_CLK_OK [] ||| 15)

/-- A reset of the whole logic, level 0 or 1 (R576): every block into reset, memories cleared, options to be loaded. -/
def resetLogic (lvl : Nat) (keep : List (Row × List Nat)) (s : State) : State :=
  let s := abortFlash s
  let s := foldS ((List.finRange 28).filter (fun b => 4 ≤ b.val)) (fun s b => resetBlock lvl b s) s
  let s := sysPages keep { s with sram0 := [], sram1 := [], dram := [] }
  let s := s.rsF (fun r => { r with
    brst := [], acc := none, accSrc := 0, accB := false, swLevel := 1, run0 := false, run1 := false, run2 := false
    wdg := #v[1000, 1000, 0], loading := true, mono0 := s.now, accWrite := none })
  { s with arms := [] }

/-- A level 2 reset (R576): links, SPLC, CAN, the Envelope cores, Reel channels and keys of Envelope (R538, R550, R558). -/
def resetLevel2 (s : State) : State :=
  let s := foldS ([12, 13, 24, 25, 26, 27] : List (Fin 28)) (fun s b => resetBlock 2 b s) s
  let s := reelLevel2 s
  let s := foldS (List.range 256) (fun s k =>
    let e := s.rd R.slot_ENGINE [k]
    let w := s.rd R.slot_WORLD [k]
    if e = 1 ∨ (e = 0 ∧ bitB w 2 = true ∧ w % 4 = 0) then
      let s := zeroise k s
      ([R.slot_TYPE, R.slot_LCMASK, R.slot_WORLD, R.slot_DBG_OK, R.slot_LOCK, R.slot_USE, R.slot_ENGINE, R.slot_UNIT,
        R.slot_VALID, R.slot_KEYID] : List Row).foldl (fun s r => s.wr r [k] 0) s
    else s) s
  let s := showInflight (s.keyF (fun q => { q with jobs := q.jobs.filter (fun j => j.world ≠ 2) }))
  wdgReload 2 (s.rsF (fun r => { r with run2 := false }))

/-- What an applied reset records (R575, R577, R599). -/
def recordReset (lvl src : Nat) (s : State) : State :=
  let s := (s.wr R.rst_LAST_LEVEL [] lvl).wr R.rst_CAUSE [] src
  match lvl with
  | 0 => s
  | 1 => s.satInc R.rst_RST_L1 []
  | 2 => s.satInc R.rst_RST_L2 []
  | _ => s

/-- RESET_APPLY (R576, R578): a brown-out or an exhausted hold-up is never held. After a thermal shutdown the reset is held
until the module has cooled (R394). A load that it restarts stays counted (R592). -/
def resetApply (s : State) : State :=
  let src := s.rst.accSrc
  if (s.rst.acc.isNone && !s.rst.accB) || (holds s ≠ 0 && !bitB src 1 && !bitB src 2) then showHeld s
  else
    match s.rst.acc with
    | some 2 =>
      let s := if s.rst.accB then resetBlock 3 23 s else s
      let s := resetLevel2 (s.rsF (fun r => { r with acc := none, accSrc := 0, accB := false }))
      showHeld (recordReset 2 src s)
    | some l =>
      let s := s.thF (fun t => { t with sdHold := t.sdHold || bitB src 7 })
      recordReset l src (resetLogic l (keptSys l ++ (if s.rst.loading then [(R.sys_OPT_RESTARTS, [])] else [])) s)
    | none =>
      let s := wdgReload 1 (resetBlock 3 23 (s.rsF (fun r => { r with accSrc := 0, accB := false })))
      showHeld (recordReset 3 src s)

/-- RESET_APPLY. -/
def execResetApply (s : State) : Host.Outcome State Fault Refusal := .next (resetApply s)

/-- POWER_ON_RESET (R595): at least one ring supply is good, the rails and the reference stand. -/
def execPowerOnReset (aOk bOk : Bool) (s : State) : Host.Outcome State Fault Refusal :=
  if !aOk && !bOk then .next s
  else
    let s := resetLogic 1 [(R.sys_RST_MAP, []), (R.sys_SERIAL, []), (R.rst_CYC_MARK, [])] s
    let s := ((s.wrB R.pwr_A_OK [] aOk).wrB R.pwr_B_OK [] bOk).wr R.clk_REF_OK [] 1
    .next (s.rsF (fun r => { r with req := 0, huAt := none, huW0 := false, huW1 := false }))

/-! ## Clocks (R588, R589) -/

/-- REF_FAIL (R589). -/
def execRefFail (s : State) : Host.Outcome State Fault Refusal :=
  .next (islandReset ((s.wr R.clk_REF_OK [] 0).raise 3 1))

/-- PLL_LOST (R589): RT and SPAR as a failed reference; of another, its blocks are held in reset until lock returns. -/
def execPllLost (k : Fin 6) (s : State) : Host.Outcome State Fault Refusal :=
  let s := ((s.wrBit R.clk_PLL_LOCK [] k.val false).satInc R.clk_LOCK_LOSS []).raise 3 0
  if k.val ≤ 1 then .next (islandReset s)
  else
    let s := foldS ((List.finRange 28).filter (fun b => pllOf b.val = some k.val)) (fun s b =>
      (resetBlock 3 b s).wrBit R.clk_CLK_OK [] b.val false) s
    .next (if k = 3 then s.rsF (fun r => { r with run2 := false }) else s)

/-! ## Flash and options (R590-R594, R598) -/

/-- A flash operation of W0 starts (R598); a reserved command and one while FL_BUSY = 1 do nothing. -/
def flashGo (cmd : Nat) (s : State) : State :=
  if s.rst.flOp.isSome || cmd = 0 || 3 ≤ cmd then s
  else (s.rsF (fun r => { r with flOp := some (cmd, s.rd R.sys_FL_ADDR [], s.rd R.sys_FL_DATA []) })).wr R.sys_FL_BUSY [] 1

/-- FLASH_PROGRAM, FLASH_ERASE (R598): W0 alone. -/
def execFlashProgram (w : World) (s : State) : Host.Outcome State Fault Refusal := .next (s.onlyBy 0 w 0 (flashGo 1))
def execFlashErase (w : World) (s : State) : Host.Outcome State Fault Refusal := .next (s.onlyBy 0 w 0 (flashGo 2))

/-- A sector erased: its bytes read as flash that was never written (log entry 17). -/
def eraseSector (n : Nat) (m : Memory) : Memory := m.filter (fun e => e.1 / 8192 ≠ n)

/-- FLASH_DONE (R598). -/
def execFlashDone (s : State) : Host.Outcome State Fault Refusal :=
  match s.rst.flOp with
  | none => .next s
  | some (c, a, v) =>
    let m := if c = 1 then memWrite s.flash (a / 4 * 4) (leBytes 4 v) else eraseSector (a / 8192) s.flash
    .next (showHeld ((({ s with flash := m }).rsF (fun r => { r with flOp := none })).wr R.sys_FL_BUSY [] 0))

/-- A copy of the options (R591): its SEQ and body where MAGIC, LEN and CRC check. -/
def optCopy (m : Memory) (base : Nat) : Option (Nat × List Byte) :=
  let w := fun (o : Nat) => leNat (memBytes m (base + o) 4)
  let len := w 8
  if w 0 = 0x4B4E4F50 ∧ len ≤ 8176 ∧ w (12 + len) = crc32 (memBytes m base (12 + len)) then
    some (w 4, memBytes m (base + 12) len)
  else none

/-- The copy in use: 0 A, 1 B; its SEQ and body (R591). -/
def optChoice (a b : Option (Nat × List Byte)) : Option (Nat × Nat × List Byte) :=
  match a, b with
  | some x, some y => if 0 < cycDiff y.1 x.1 then some (1, y.1, y.2) else some (0, x.1, x.2)
  | some x, none => some (0, x.1, x.2)
  | none, some y => some (1, y.1, y.2)
  | none, none => none

/-- The option registers from a body, or the safe defaults (R593). -/
def optLoad (b : Option (List Byte)) (s : State) : State :=
  let f := fun (n : Nat) => match b with | some x => Config.optField x n | none => 0
  let s := s.rsF (fun r => { r with
    opt := (List.range 100).map f
    vmac := match b with | some _ => f 100 | none => Config.localMac r.fuseSerial 0
    splcMac := match b with | some _ => f 101 | none => Config.localMac r.fuseSerial 1
    bootBank := f 102 % 2 })
  optRegs 20 (keepOptions (optRegs 17 (optRegs 4 s)))

/-- Life cycle, DEBUG_EN and K000 after a reset of level 0 or 1 (R549, R559, R561, R562). -/
def keyStart (s : State) : State :=
  let lc := lcState s.key.fuse
  let dbg := lc == 0 || lc == 3 || s.rdB R.key_DBG_ARMED []
  let test := dbg || lc == 0 || lc == 3
  let s := ((s.wr R.key_LC [] lc).wr R.key_LC_FUSE [] s.key.fuse).wrB R.key_DEBUG_EN [] dbg
  let s := (s.wrB R.key_TEST_ROOT [] test).wr R.key_DBG_ARMED [] 0
  let s := ((((s.wr R.slot_TYPE [0] 2).wr R.slot_USE [0] 32).wr R.slot_WORLD [0] 1).wr R.slot_LCMASK [0] 15).wr R.slot_DBG_OK [0] 1
  putSlot 0 (if test then Config.testRoot else Config.deviceRoot) (s.wr R.slot_LOCK [0] 1)

/-- OPTION_LOAD (R590-R593): listed sectors are erased, fuses and options are read; PLL_APP and PLL_DRAM, which clock no
block of the release order, lock (R595, log entry 35). -/
def optionLoad (s : State) : State :=
  let n := s.rst.erase.length
  let s := { s with flash := s.rst.erase.foldl (fun m k => eraseSector k m) s.flash }
  let s := (s.rsF (fun r => { r with erase := [], loading := false })).wr R.sys_ERASE_PEND [] n
  let s := s.wr R.clk_PLL_LOCK [] (s.rd R.clk_PLL_LOCK [] ||| 24)
  let s := ((s.wr R.sys_RST_MAP [] s.rst.fuseMap).wr R.sys_SERIAL [] s.rst.fuseSerial).wr R.clk_REF_OK [] 1
  let a := optCopy s.flash 0
  let b := optCopy s.flash 0x2000
  let s := keyStart (s.wr R.sys_OPT_DONE [] 1)
  match optChoice a b with
  | some (k, seq, body) =>
    let s := ((s.wr R.sys_OPT_COPY [] k).wr R.sys_OPT_SEQ [] seq).wrB R.sys_OPT_ONE [] (a.isNone || b.isNone)
    optLoad (some body) s
  | none => optLoad none ((s.wr R.sys_OPT_FAIL [] 1).wr R.rst_MODE [] 3)

/-- OPTION_LOAD (R592). -/
def execOptionLoad (s : State) : Host.Outcome State Fault Refusal :=
  .next (if s.rst.loading && !s.thrm.sdHold then optionLoad s else s)

/-! ## Starting the cores (R596) -/

/-- BOOT_VERIFY (R596): the boot bank, else the other, else BOOT_FAIL. -/
def bootVerify (s : State) : State :=
  let ok := fun (k : Nat) => Config.imageOk s.rst.fuseFw k s.flash
  let b := s.rst.bootBank
  if ok b then s.rsF (fun r => { r with run0 := true })
  else if ok (1 - b) then (s.rsF (fun r => { r with run0 := true })).wr R.sys_BANK_FALL [] 1
  else s.wr R.sys_BOOT_FAIL [] 1

/-- BOOT_VERIFY (R596). -/
def execBootVerify (s : State) : Host.Outcome State Fault Refusal :=
  .next (if s.rdB R.sys_OPT_DONE [] && !s.rst.run0 && !s.rst.loading then bootVerify s else s)

/-- RUN_W1 and RUN_W2 start the Bremus and the Envelope cores; in RECOVERY they are ignored (R593, R596). -/
def runW1 (s : State) : State :=
  if s.rd R.rst_MODE [] = 3 ∨ s.inReset 23 = true then s else wdgReload 1 (s.rsF (fun r => { r with run1 := true }))
def runW2 (s : State) : State :=
  if s.rd R.rst_MODE [] = 3 then s else wdgReload 2 (s.rsF (fun r => { r with run2 := true }))

/-- RUN_W1, RUN_W2: W0 alone (R599). -/
def execRunW1 (w : World) (s : State) : Host.Outcome State Fault Refusal := .next (s.onlyBy 0 w 1 runW1)
def execRunW2 (w : World) (s : State) : Host.Outcome State Fault Refusal := .next (s.onlyBy 0 w 1 runW2)

/-- MODE written (R593, R602): refused in RECOVERY, and to 3. -/
def modeWrite (v : Nat) (s : State) : State :=
  if s.rd R.rst_MODE [] = 3 ∨ v = 3 then s.setErr 1 0x0101 else s.wr R.rst_MODE [] v

/-- MODE_WRITE: W0 alone (R599). -/
def execModeWrite (w : World) (v : Fin 4) (s : State) : Host.Outcome State Fault Refusal :=
  .next (s.onlyBy 0 w 1 (modeWrite v.val))

/-- What the reset controller and the supplies do at a control period start. -/
def rstPeriod (q : PeriodIn) (s : State) : State :=
  let v := fun k => q.pwr.getD k 0
  let s := ((s.wr R.pwr_VIN_A [] (v 0)).wr R.pwr_VIN_B [] (v 1)).wr R.pwr_IIN_A [] (v 2)
  let s := ((s.wr R.pwr_IIN_B [] (v 3)).wr R.pwr_VCAP [] (v 4)).wr R.pwr_PIN [] (v 5)
  let s := s.wrB R.pwr_CLASS_OK [] (v 6 != 0)
  showHeld (wdgCount s.spar.clocks s)

/-- Nothing waits: wall time, MONO, the watchdogs and the holds run on where Spar gives no periods (R76, R347, R578,
R582). -/
def idle (s : State) : State := if s.sparRuns then s else showHeld (wdgCount 1 (showMono (sparIdle s)))

end Sys2Proof.Machine
end

