-- ==== Sys2Proof/Machine/Commit.lean ====
section
/-! DEFINITION. The page header and commits: what every block shares (02_register_pages_and_host_access.md, R29-R46). -/

namespace Sys2Proof.Machine

open Sys2Proof

/-! ## Interrupt and error bits -/

/-- Bits of IRQ_RAW that a page has (the IRQ table of each chapter); the others are reserved. -/
def irqMask (p : Nat) : Nat :=
  match p with
  | 1 => 0x7 | 2 => 0x1F | 3 => 0x3 | 4 => 0x1FF | 16 => 0x7 | 64 => 0x3 | 128 => 0xFF | 224 => 0xFF | 256 => 0x7
  | 304 => 0xFF | 320 => 0xFF | 328 => 0x7F | 336 => 0x1FF | 344 => 0xF | 352 => 0xFF | 360 => 0xFFFF
  | 368 => 0xFF | 372 => 0xFF | 376 => 0xFF | 380 => 0xFF
  | _ =>
    if 25 ≤ p ∧ p < 29 then 0xFFFFFFFF
    else if 32 ≤ p ∧ p < 64 then 0xFFFF
    else if 65 ≤ p ∧ p < 97 then 0x7777
    else if 101 ≤ p ∧ p < 117 then 0x0F0F
    else if 160 ≤ p ∧ p < 192 then 0xFF
    else if 192 ≤ p ∧ p < 224 then 0xFFF
    else if 257 ≤ p ∧ p < 293 then 0x3F
    else 0

/-- IRQ_CLR (R29). -/
def irqClr (p v : Nat) (s : State) : State :=
  let r := s.rd R.hdr_IRQ_RAW [p]
  s.wr R.hdr_IRQ_RAW [p] (r ^^^ (r &&& v))

/-- IRQ_SET, for test (R29); reserved bits take nothing (R10). -/
def irqSet (p v : Nat) (s : State) : State := s.wr R.hdr_IRQ_RAW [p] (s.rd R.hdr_IRQ_RAW [p] ||| (v &&& irqMask p))

/-- A page's interrupt is asserted, and the internal worlds it is delivered to, by bit (R32). -/
def irqLines (s : State) (p : Nat) : Nat :=
  if s.rd R.hdr_IRQ_RAW [p] &&& s.rd R.hdr_IRQ_EN [p] = 0 then 0 else s.ownW p &&& 7

/-- IRQ_CLR written. -/
def execIrqClr (w : World) (p : Page) (v : Word) (s : State) : Host.Outcome State Fault Refusal :=
  .next (s.asWriter w p.val (irqClr p.val v.toNat))

/-- IRQ_SET written. -/
def execIrqSet (w : World) (p : Page) (v : Word) (s : State) : Host.Outcome State Fault Refusal :=
  .next (s.asWriter w p.val (irqSet p.val v.toNat))

/-- A write of 1 to STAT.ERR (R29). -/
def errClear (p : Nat) (s : State) : State :=
  ((s.wr R.hdr_ERR [p] 0).wr R.hdr_CODE [p] 0).wr R.hdr_COUNT [p] 0

/-- ERR_CLEAR. -/
def execErrClear (w : World) (p : Page) (s : State) : Host.Outcome State Fault Refusal :=
  .next (s.asWriter w p.val (errClear p.val))

/-! ## Grants -/

/-- An OWNER register takes a value, but for the bits the hardware holds fixed (R41, R45). -/
def ownerPut (p v : Nat) (s : State) : State :=
  let s := s.wr R.hdr_OWN_WRITE [p] (ownWriteEnc p (bits v 0 10))
  if blockOf p = some 5 then s else s.wr R.hdr_OWN_READ [p] (bits v 16 10)

/-- OWNER written: by W0 alone, by any other world a violation (R41). -/
def ownerWrite (w : World) (p v : Nat) (s : State) : State :=
  if w = 0 && !s.dead p then ownerPut p v s else s.violate w

/-- OWNER_WRITE (R41). -/
def execOwnerWrite (w : World) (p : Page) (v : Word) (s : State) : Host.Outcome State Fault Refusal :=
  .next (ownerWrite w p.val v.toNat s)

/-- VIOL_CLR (R45): the counters of the worlds whose bits are 1. -/
def violClr (v : Nat) (s : State) : State :=
  foldS (List.range 10) (fun s w => if bitB v w then s.wr R.host_VIOL [w] 0 else s) s

/-- VIOL_CLR. -/
def execViolClr (w : World) (v : Word) (s : State) : Host.Outcome State Fault Refusal :=
  .next (s.asWriter w 8 (violClr v.toNat))

/-! ## Sessions of the network worlds (R46) -/

/-- INFLIGHT of W3-W8 as it stands. -/
def showReqs (s : State) : State :=
  foldS (List.range 6) (fun s k =>
    s.wr R.host_INFLIGHT [k] ((s.host.reqs.filter (fun q => q.world == k + 3)).length)) s

/-- SESS_EN set from 0 to 1: the last nonce is cleared, requests in flight are abandoned, and the module's own
datagrams number from 1 (R46, R48). -/
def sessEnable (k : Fin 6) (s : State) : State :=
  if s.rdB R.sess_SESS_EN [k.val] then s
  else
    let s := ((s.wr R.sess_SESS_EN [k.val] 1).wr R.sess_SESS_NONCE_LO [k.val] 0).wr R.sess_SESS_NONCE_HI [k.val] 0
    showReqs { s with host := { s.host with
      reqs := s.host.reqs.filter (fun q => q.world != k.val + 3)
      nonceOut := s.host.nonceOut.set k 1 } }

/-- SESS_ENABLE. -/
def execSessEnable (w : World) (k : Fin 6) (s : State) : Host.Outcome State Fault Refusal :=
  .next (s.asWriter w 9 (sessEnable k))

/-! ## Commits (R35-R38, R162) -/

/-- COMMIT of a page; in a page of stage areas it acts on no field (R31). -/
def commitPage (p : Page) (s : State) : State := if isAreaPage p.val then s else armCommit (.page p) s

/-- CANCEL of a page. -/
def cancelPage (p : Page) (s : State) : State := if isAreaPage p.val then s else cancelCommit (.page p) s

/-- COMMIT (R35). -/
def execCommit (w : World) (p : Page) (s : State) : Host.Outcome State Fault Refusal :=
  .next (s.asWriter w p.val (commitPage p))

/-- CANCEL (R37). -/
def execCancel (w : World) (p : Page) (s : State) : Host.Outcome State Fault Refusal :=
  .next (s.asWriter w p.val (cancelPage p))

/-- A_COMMIT (R162). -/
def execACommit (w : World) (i : Stage) (s : State) : Host.Outcome State Fault Refusal :=
  .next (s.asWriter w (stagePage i) (armCommit (.area i)))

/-- A_CANCEL (R162). -/
def execACancel (w : World) (i : Stage) (s : State) : Host.Outcome State Fault Refusal :=
  .next (s.asWriter w (stagePage i) (cancelCommit (.area i)))

/-- A commit of an MTR page reaches its boundary: refused as a cancel where segment limits are not ascending (R311) or
where the sealed log is full (R373); a change of a sealed field is logged (R329). Every class S field there is sealed. -/
def commitMeter (p : Page) (s : State) : State :=
  let changed := shadowDiffers s (p.val * 0x1000) (p.val * 0x1000 + 0x1000)
  if decide (257 ≤ p.val) && decide (p.val < 293) && segOrderBad s (p.val - 257) then discardCommit (.page p) 0x0101 s
  else if changed && logFull s then (cancelCommit (.page p) s).setErr 304 0x0103
  else
    let s := applyCommit (.page p) s
    if changed then
      metLog 0x0002 (if 257 ≤ p.val ∧ p.val < 293 then p.val - 257 else 0xFF) (p.val - 256) (s.rd R.hdr_COMMIT_SEQ [p.val]) s
    else s

/-- The boundary of a unit's commit (R34). -/
def commitDue (u : CommitUnit) (s : State) : State :=
  match u with
  | .page p =>
    if blockOf p.val = some 14 then commitMeter p s else afterShadow u s (applyCommit u s)
  | .area _ => afterShadow u s (applyCommit u s)

/-- COMMIT_APPLY (R34): at the selected boundary. -/
def execCommitApply (u : CommitUnit) (s : State) : Host.Outcome State Fault Refusal :=
  .next (if s.arms.any (fun a => decide (a.unit = u) && a.due s) then commitDue u s else s)

end Sys2Proof.Machine
end

