-- ==== Sys2Proof/Machine/Wall.lean ====
section
/-! DEFINITION. Wall time as it is set (03_spar_mains_time.md, R77, R78), with what billing does then (R357-R359). -/

namespace Sys2Proof.Machine

open Sys2Proof

/-- What billing does with a step of wall time by `diff` units of 5 ps to `new` ms, unless it is in reset. -/
def billStepped (diff : Int) (new : Nat) (auth : Bool) (s : State) : State :=
  if s.inReset 15 then s else billApply diff new auth s

/-- What billing does with a slew. -/
def billSlewed (auth : Bool) (s : State) : State := if s.inReset 15 then s else billSlew auth s

/-- Wall time steps now. -/
def wallStepNow (ms : Nat) (auth : Bool) (s : State) : State :=
  billStepped ((ms : Int) * 200000000 - s.spar.wall) ms auth (wallStepTo ms auth s)

/-- APPLY: a slew begins, a step waits for the next control period start, or, without periods, is made at once (R77). -/
def wallSet (s : State) : State :=
  let auth := s.rdB R.wset_AUTH []
  let diff : Int := (s.rd R.spar_WALL_SET [] : Int) * 200000000 - s.spar.wall
  if s.rdB R.wset_SLEW [] && decide (diff.natAbs ≤ 1000 * 200000000) then billSlewed auth (wallApply s)
  else if s.sparRuns then wallApply s
  else wallStepNow (s.rd R.spar_WALL_SET []) auth s

/-- WALL_APPLY: W0 alone (R77). -/
def execWallApply (w : World) (s : State) : Host.Outcome State Fault Refusal := .next (s.onlyBy 0 w 4 wallSet)

/-- WALL_STEP: the first control period start since APPLY (R77). -/
def execWallStep (s : State) : Host.Outcome State Fault Refusal :=
  match s.spar.step with
  | some x => .next (if decide (x.at_ < s.spar.serial) || !s.sparRuns then wallStepNow x.value x.auth s else s)
  | none => .next s

end Sys2Proof.Machine
end

