-- ==== Sys2Proof/Machine/Bus.lean ====
section
/-! DEFINITION. Reads and writes of register words by a world (R9-R11, R29-R45, R53, R56, R623): what a word shows, and
what a write of it does under the class of each of its fields. -/

namespace Sys2Proof.Machine

open Sys2Proof

/-- The state a command's meaning answers; the state itself where it answers none. -/
def did (f : State → Host.Outcome State Fault Refusal) (s : State) : State :=
  match f s with
  | .next t => t
  | _ => s

/-- `f` where a bit is written 1 (R10, class W1S and W1C). -/
def onBit (v i : Nat) (f : State → State) (s : State) : State := if bitB v i then f s else s

/-! ## Reading -/

/-- Rows of the block-specific registers of a page. -/
def pageRows (p : Nat) : List Row :=
  match blockOf p with
  | some 0 => R.rows_sys | some 1 => R.rows_rst | some 2 => R.rows_pwr | some 3 => R.rows_clk | some 4 => R.rows_spar
  | some 5 => R.rows_host | some 6 => R.rows_key | some 7 => R.rows_reel | some 8 => R.rows_line | some 9 => R.rows_brn
  | some 10 => R.rows_brd | some 11 => R.rows_port | some 12 => R.rows_vlnk | some 13 => R.rows_splc
  | some 14 => R.rows_mtr | some 15 => R.rows_bill | some 16 => R.rows_thrm | some 17 => R.rows_lsw
  | some 18 => R.rows_safe | some 19 => R.rows_xch | some 20 => R.rows_teth | some 21 => R.rows_blst
  | some 22 => [] | some _ => R.rows_can | none => []

/-- STAT of a page (R29). -/
def statWord (s : State) (p : Nat) : Nat :=
  let b := (blockOf p).getD 28
  b2n (s.runs p) + 2 * b2n (idleOf s p) + 4 * b2n (s.inReset b) + 8 * b2n (bitB (s.rd R.clk_CLK_OK []) b) +
    16 * s.rd R.hdr_COMMIT_PEND [p] + 32 * s.rd R.hdr_ERR [p]

/-- A word of the page header (R29). -/
def hdrWord (s : State) (p o : Nat) : Nat :=
  match o with
  | 0x000 => blockCode p * 65536 + 256 + Config.minor % 256
  | 0x004 => Config.cap p % 2 ^ 32
  | 0x008 => s.rd R.hdr_EN [enPage p] + 2 * s.rd R.hdr_IDLE_REQ [enPage p]
  | 0x00C => statWord s p
  | 0x010 => s.rd R.hdr_IRQ_RAW [p]
  | 0x014 => s.rd R.hdr_IRQ_EN [p]
  | 0x020 => s.ownR p * 65536 + s.ownW p
  | 0x024 => s.rd R.hdr_COUNT [p] * 65536 + s.rd R.hdr_CODE [p]
  | 0x028 => s.rd R.hdr_EVENT [p] * 256 + s.rd R.hdr_BOUND [p]
  | 0x02C => s.rd R.hdr_COMMIT_SEQ [p]
  | _ => 0

/-- Bit `i` of a word for each index that holds. -/
def mapWord (n : Nat) (f : Nat → Bool) : Nat := (List.range n).foldl (fun v i => if f i then v + 2 ^ i else v) 0

/-- Fields that a port meter does not have: the grid-only fields and channels 2-5 (R335, R336). -/
def portMeterHole (p o : Nat) : Bool :=
  decide (257 ≤ p) && decide (p < 289) && (o == 0x10C || o == 0x110 || decide (0x140 ≤ o ∧ o < 0x15C) || decide (0x600 ≤ o))

/-- Word `k` of the read window of BILL page 14 (R378). -/
def billWindow (s : State) (k : Nat) : Nat :=
  let b := s.bill
  if k = 0 then b.rwTag % 256 + 256 * (b.rwKind % 256) + 65536 * b.rwData.length
  else if k = 1 then b.rwIndex
  else if 4 ≤ k then leNat ((b.rwData.drop (4 * (k - 4))).take 4) else 0

/-- A response entry's two words (R378). -/
def respWord (s : State) (k : Nat) : Nat :=
  let e := s.bill.resp.toList.getD (k / 2) ⟨0, 0, 0, 0⟩
  if k % 2 = 0 then e.tag % 256 + 256 * (e.typ % 256) + 65536 * (e.status % 256) else e.data

/-- A word of the packed readings and maps of THRM page 3 (R400). -/
def thrmView (s : State) (o : Nat) : Nat :=
  let m := fun (r : Row) (k : Nat) => mapWord 32 (fun j => decide (32 * k + j < 144) && s.rdB r [32 * k + j])
  if 0x100 ≤ o ∧ o < 0x220 then
    s.rd R.tin_TEMP [(o - 0x100) / 2] + 65536 * s.rd R.tin_TEMP [(o - 0x100) / 2 + 1]
  else if 0x300 ≤ o ∧ o < 0x314 then m R.tin_VALID ((o - 0x300) / 4)
  else if 0x320 ≤ o ∧ o < 0x334 then m R.tin_WARN_F ((o - 0x320) / 4)
  else if 0x340 ≤ o ∧ o < 0x354 then m R.tin_TRIP_F ((o - 0x340) / 4)
  else if 0x360 ≤ o ∧ o < 0x374 then m R.tin_FAST ((o - 0x360) / 4)
  else if 0x380 ≤ o ∧ o < 0x394 then m R.tin_SUSPECT ((o - 0x380) / 4)
  else 0

/-- What a word shows of state that is no field of its own: maps, windows, and values read from elsewhere. -/
def viewWord (s : State) (p o : Nat) : Nat :=
  match p with
  | 2 => if o = 0x10C then b2n s.rst.huW0 + 2 * b2n s.rst.huW1 else 0
  | 3 => if o = 0x100 then 64 else 0
  | 24 =>
    if o = 0x100 ∨ o = 0x104 then mapWord 32 (fun i => (reelLine s (8 * (o - 0x100) + i)).isSome)
    else if o = 0x108 ∨ o = 0x10C then
      (List.finRange 64).foldl (fun v c => if c.val / 32 = (o - 0x108) / 4 ∧ chBusy s c = true then v + 2 ^ (c.val % 32) else v) 0
    else 0
  | 64 =>
    if o = 0x104 then (List.range 16).foldl (fun v b => v + 4 ^ b * bankState s b) 0
    else if o = 0x108 then mapWord 16 (bankLocked s)
    else if o = 0x10C then b2n s.active
    else 0
  | 127 =>
    if 0x100 ≤ o ∧ o < 0x900 then trunc 32 (sget 0 s.brn.spool (s.rd R.spl_WIN [] * 512 + (o - 0x100) / 4)) else 0
  | 138 => if 0x100 ≤ o ∧ o < 0x900 then sget 0 s.brd.loft (512 * s.rd R.lft_WIN [] + (o - 0x100) / 4) else 0
  | 225 => if 0x100 ≤ o ∧ o < 0x500 ∧ o % 0x20 = 0x10 then 65536 * min 65535 (tmAge s ⟨(o - 0x100) / 0x20 % 32, by omega⟩) else 0
  | 226 => if 0x800 ≤ o then splcWinRead s ((o - 0x800) / 4) else 0
  | 227 => if 0x100 ≤ o ∧ o < 0x300 then tmWinRead s ((o - 0x100) / 4) else 0
  | 314 => if 0x100 ≤ o ∧ o < 0xAA0 then calWord o (leNat (memBytes s.bill.cal0 o 4)) else 0
  | 315 => if 0x100 ≤ o ∧ o < 0xAA0 then calWord o (leNat (memBytes s.bill.cal1 o 4)) else 0
  | 318 =>
    if 0x100 ≤ o ∧ o < 0x300 then respWord s ((o - 0x100) / 4)
    else if o = 0x300 then s.bill.respNext % 64
    else if 0x800 ≤ o then billWindow s ((o - 0x800) / 4)
    else 0
  | 323 => thrmView s o
  | 328 =>
    if o = 0x10C then mapWord 32 (fun n => s.rdB R.lch_OUT [n])
    else if o = 0x110 then mapWord 32 (fun n => s.rdB R.lch_TRIP_I [n] || s.rdB R.lch_TRIP_DT [n])
    else if o = 0x114 then mapWord 32 (fun n => s.rdB R.lch_LIMIT [n])
    else 0
  | 352 => if o = 0x104 then 1024 * b2n s.reduced else 0
  | _ =>
    if 192 ≤ p ∧ p < 224 then (if o = 0x108 ∧ s.rd R.port_KIND [p - 192] = 1 then 2 ^ 22 else 0)
    else if 97 ≤ p ∧ p < 101 then
      (if 0x100 ≤ o ∧ o < 0xD00 then bankW s (4 * (p - 97) + (o - 0x100) / 0x300) ((o - 0x100) % 0x300) else 0)
    else if h : 368 ≤ p ∧ p < 384 ∧ (p - 368) % 4 = 0 then
      let c : Fin 4 := ⟨(p - 368) / 4, by omega⟩
      if o = 0x114 then 256 * rxPend s c + (rxObjs s c).length
      else if 0x120 ≤ o ∧ o < 0x130 then bits (txPend s c) (8 * (o - 0x120)) 32
      else 0
    else 0

/-- PLAN of a stack whose BATT_EN is 0, which reads zero (R200). -/
def planHidden (s : State) (p o : Nat) : Bool :=
  (decide (p = 128 ∧ o = 0x250) && !s.rdB R.brd_BATT_EN_A []) || (decide (p = 128 ∧ o = 0x270) && !s.rdB R.brd_BATT_EN_B [])

/-- A word as a read shows it: class S fields from the shadow (R34), reserved bits 0 (R10). -/
def wordAt (s : State) (p o : Nat) : Nat :=
  if o < 0x100 then hdrWord s p o
  else if planHidden s p o then 0
  else if portMeterHole p o then 0
  else wordOf s.regs.getShadow (pageRows p) (p * 0x1000 + o) ||| viewWord s p o

/-- May a world read a word: R42, and W1 the entries E000-E031 without a grant (R80). -/
def readOk (s : State) (w : World) (p o : Nat) : Bool :=
  s.canRead w p || (p == 4 && w == 1 && decide (0x400 ≤ o ∧ o < 0x580) && !s.dead 4)

/-- A read of one granted word, with what reading does: CYCLE and WALL latch for their world (R90), the window of a
streaming link consumes (R269). -/
def readWord (w : World) (p o : Nat) (s : State) : Nat × State :=
  if p = 4 ∧ o = 0x124 then
    (s.spar.cycle, s.sparF (fun x => { x with latch := x.latch.set w (angleOf x.acc, x.period) }))
  else if p = 4 ∧ o = 0x128 then ((s.spar.latch[w]).1 * 65536 + (s.spar.latch[w]).2, s)
  else if p = 4 ∧ o = 0x140 then
    (wallMs s % 2 ^ 32, s.sparF (fun x => { x with wallHi := x.wallHi.set w (wallMs s / 2 ^ 32) }))
  else if p = 4 ∧ o = 0x144 then (s.spar.wallHi[w], s)
  else if h : 192 ≤ p ∧ p < 224 ∧ 0x800 ≤ o then winRead ⟨p - 192, by omega⟩ ((o - 0x800) / 4) s
  else (wordAt s p o, s)

/-- Words read one after the other. -/
def readWords (w : World) (p : Nat) : List Nat → State → List Nat × State
  | [], s => ([], s)
  | o :: t, s =>
    let r := readWord w p o s
    let q := readWords w p t r.2
    (r.1 :: q.1, q.2)

/-- A read of `n` words of a page, checked as a whole against the grant; without it zeros and a violation (R43). -/
def busRead (w : World) (a n : Nat) (s : State) : List Nat × State :=
  let p := a / 4096
  let os := (List.range n).map (fun k => a % 4096 + 4 * k)
  if os.all (readOk s w p) then readWords w p os s else (List.replicate n 0, s.violate w)

/-- A read by a core of `size` bytes at any address: a narrow or misaligned one returns the whole word it falls in (R56). -/
def coreRead (w : World) (a : Nat) (s : State) : Nat × State :=
  let r := busRead w (a / 4 * 4) 1 s
  (r.1.headD 0, r.2)

/-! ## What a write changes -/

/-- A field as a word written at `a` leaves it: `b` is the byte address of the instance, `old` its value. -/
def spliced (r : Row) (a b old v : Nat) : Nat :=
  let full := old <<< r.lo
  let full' :=
    if b ≤ a then
      let n := 8 * (a - b)
      full % 2 ^ n + (v % 2 ^ 32) * 2 ^ n + (full / 2 ^ (n + 32)) * 2 ^ (n + 32)
    else
      let n := 8 * (b - a)
      v / 2 ^ n % 2 ^ (32 - n) + (full / 2 ^ (32 - n)) * 2 ^ (32 - n)
  (full' >>> r.lo) % 2 ^ r.w

/-- A field instance has bits in the word at `a`. -/
def inWord (r : Row) (a b : Nat) : Bool := decide (8 * b + r.lo < 8 * a + 32) && decide (8 * a < 8 * b + r.lo + r.w)

/-- The field instances that a word written at `a` covers, with the values the write gives them. -/
def covered (s : State) (rows : List Row) (a v : Nat) : List (Row × List Nat × Nat) :=
  rows.flatMap (fun r =>
    if a + 4 ≤ r.base then []
    else (partBases r a).filterMap (fun b =>
      if inWord r a b then (r.inst b).map (fun ix => (r, ix, spliced r a b (s.regs.getShadow r ix) v)) else none))

/-- The field at a place of the tables. -/
def isRow (r q : Row) : Bool := r.base == q.base && r.lo == q.lo

/-- Fields whose values with bit 31 set are taken as zero (ERRCODE 0x0104 of BRD). -/
def brdRanged : List Row :=
  [R.bcp_IMP_MAX, R.bcp_EXP_MAX, R.bcp_MARGIN, R.bcp_DEM_CAP, R.bcp_DEM_FLOOR, R.bsk_CHG_WISH, R.bsk_SHAVE_MAX, R.bpt_MIN_GUAR,
   R.bpt_PCAP_CHG, R.bpt_PCAP_DIS, R.bpt_PRAMP, R.bpt_GROW, R.bpt_ICONT, R.bst_STG_PMAX]

/-- A BRD input outside its range. -/
def brdBad (e : Row × List Nat × Nat) : Bool := brdRanged.any (isRow e.1) && decide (2 ^ 31 ≤ e.2.2)

/-- A field of BLST and the range it takes its value in (R506). -/
def ringTaken (e : Row × List Nat × Nat) : Nat :=
  if isRow e.1 R.ring_EXPECT then min 64 e.2.2
  else if isRow e.1 R.ring_CONV_PER then max 56 (min 600 e.2.2)
  else if isRow e.1 R.ring_MON_TMO then max 100 (min 5000 e.2.2)
  else e.2.2

/-- CFG_RANGE (R508): a field that takes the write is taken to its range. -/
def ringRange (s : State) (e : Row × List Nat × Nat) : Bool := ringTaken e != e.2.2 && !(e.1.cls == .F && s.enOf 360)

/-- The value a field takes of what is written: BRD inputs of the range (R224), IMAX at most 3,000,000 (R165), IRQ_EN
without reserved bits (R10), BLST fields in their ranges (R506). -/
def taken (e : Row × List Nat × Nat) : Row × List Nat × Nat :=
  if brdBad e then (e.1, e.2.1, 0)
  else if isRow e.1 R.prt_IMAX then (e.1, e.2.1, min 3000000 e.2.2)
  else if isRow e.1 R.hdr_IRQ_EN then (e.1, e.2.1, e.2.2 &&& irqMask (e.2.1.headD 0))
  else (e.1, e.2.1, ringTaken e)

/-- Sealed fields of MTR: every class S and F field but LOAD_POS, LOAD_NEG and LOAD_NET (R329). -/
def isSealed (p : Nat) (e : Row × List Nat × Nat) : Bool :=
  blockOf p == some 14 && (e.1.cls == .S || e.1.cls == .F) &&
    !([R.mt_LOAD_POS, R.mt_LOAD_NEG, R.mt_LOAD_NET].any (isRow e.1))

/-- Sealed fields take no write while SEAL = 1 or while the sealed log is full (R329, R373). -/
def sealHolds (s : State) : Bool := s.rdB R.mtr_SEAL [] || logFull s

/-- A field would change its shadow. -/
def changesS (s : State) (e : Row × List Nat × Nat) : Bool :=
  e.1.cls == .S && (e.2.2 % 2 ^ e.1.w != s.regs.getShadow e.1 e.2.1)

/-- The commit unit whose shadow a word lies in (R31, R162). -/
def unitOf (p o : Nat) : Option CommitUnit :=
  if isAreaPage p then
    if h : 4 * (p - 65) + o / 1024 < 128 then some (.area ⟨4 * (p - 65) + o / 1024, h⟩) else none
  else if h : p < 388 then some (.page ⟨p, h⟩) else none

/-- The commit unit of a word has a pending commit. -/
def pendAt (s : State) (p o : Nat) : Bool := match unitOf p o with | some u => unitPend u s | none => false

/-- The fields a write of a word reaches: header fields with a rule of their own are handled by `ctrlWrite` and its
companions; a port meter's missing fields take nothing. -/
def wordFields (s : State) (p o v : Nat) : List (Row × List Nat × Nat) :=
  let l := if o < 0x100 then
      (if o = 0x014 ∨ o = 0x028 then covered s R.rows_hdr (p * 0x1000 + o) v else [])
    else if portMeterHole p o then []
    else covered s (pageRows p) (p * 0x1000 + o) (if p = 329 ∧ 0x100 ≤ o ∧ (o - 0x100) % 32 = 4 then limitsTaken v else v)
  (l.map taken).filter (fun e => !(isSealed p e && sealHolds s))

/-- SHADOW_BUSY: a write of the word would change a class S field while its commit is pending (R36). -/
def busyAt (s : State) (p o v : Nat) : Bool := pendAt s p o && (wordFields s p o v).any (changesS s)

/-! ## Words that take no write now -/

/-- Reel channel and word of an offset in pages 25-28. -/
def reelEntry (p o : Nat) : Option (Nat × Nat) :=
  if 25 ≤ p ∧ p < 29 ∧ 0x100 ≤ o ∧ o < 0x500 then some (16 * (p - 25) + (o - 0x100) / 64, (o - 0x100) % 64) else none

/-- CAN controller, object and word of an offset in pages 1-3 of a controller. -/
def canEntry (p o : Nat) : Option (Nat × Nat × Nat) :=
  if 368 ≤ p ∧ p < 384 ∧ (p - 368) % 4 ≠ 0 ∧ 0x100 ≤ o then
    let k := 48 * ((p - 368) % 4 - 1) + (o - 0x100) / 80
    if k < 128 ∧ (o - 0x100) / 80 < 48 then some ((p - 368) / 4, k, (o - 0x100) % 80) else none
  else none

/-- A CAN object word is held while the object is PENDING or ACTIVE (R511). -/
def canHeld (s : State) (p o : Nat) : Bool :=
  match canEntry p o with
  | some (c, k, j) =>
    let st := s.rd R.obj_STATE [c, k]
    (j == 0 || j == 4 || decide (8 ≤ j)) && (st == coPending || st == coActive)
  | none => false

/-- A Reel channel runs or waits. -/
def reelHeld (s : State) (p o : Nat) : Bool :=
  match reelEntry p o with
  | some (c, j) => decide (j < 12) && (s.rd R.rch_STATE [c] == rsRun || s.rd R.rch_STATE [c] == rsWait)
  | none => false

/-- A ring of the job queue is on: its settings are held (R566). -/
def ringHeld (s : State) (p o : Nat) : Bool :=
  p == 18 && decide (0x200 ≤ o ∧ o < 0x260) && s.rdB R.jr_JEN [(o - 0x200) / 32]

/-- Spool is ARMED or TRIGGERED: its settings are held (R158). -/
def spoolHeld (s : State) (p o : Nat) : Bool :=
  p == 64 && (o == 0x200 || o == 0x204 || o == 0x208 || decide (0x240 ≤ o ∧ o < 0x280)) &&
    (spoolState s == spArmed || spoolState s == spTriggered)

/-- An event entry is armed: its words +0 and +4 are held (R84). -/
def eventHeld (s : State) (p o : Nat) : Bool :=
  p == 4 && decide (0x400 ≤ o) && (o - 0x400) % 12 != 8 && s.rdB R.evt_ARM [(o - 0x400) / 12]

/-- Some class L field would change. -/
def changesL (s : State) (l : List (Row × List Nat × Nat)) : Bool :=
  l.any (fun e => e.1.cls == .L && e.2.2 % 2 ^ e.1.w != s.rd e.1 e.2.1)

/-- The error of a write to a held word: any write of a word that holds nothing else, a write that changes a held field
of a word that also has action bits. -/
def heldErr (s : State) (p o : Nat) (l : List (Row × List Nat × Nat)) : Option Nat :=
  if eventHeld s p o then some 0x0103
  else if spoolHeld s p o then (if o = 0x200 ∧ changesL s l = false then none else some 0x0105)
  else if reelHeld s p o then
    (if (o - 0x100) % 64 = 0 ∧ changesL s l = false then none else some 0x0101)
  else if canHeld s p o then (if (o - 0x100) % 80 = 4 ∧ changesL s l = false then none else some 0x0101)
  else if ringHeld s p o then
    (if (o - 0x200) % 32 = 8 ∧ changesL s (l.filter (fun e => !isRow e.1 R.jr_JEN)) = false then none else some 0x0102)
  else none

/-- The page a held word's error is recorded in. -/
def heldPage (p : Nat) : Nat :=
  if 368 ≤ p ∧ p < 384 then p - (p - 368) % 4 else if p = 18 then 16 else p

/-- A field that only W0 may write, whatever OWNER grants (R71, R77, R484, R525, R598, R599). -/
def onlyW0 (p : Nat) (r : Row) : Bool :=
  p == 0 || p == 1 || isRow r R.spar_WALL_SET || isRow r R.wset_AUTH || isRow r R.wset_SLEW || isRow r R.teth_PAIR_EN ||
    isRow r R.rch_WORLD

/-- A field that takes no write now and records no error of its own: another world's, a held word's, an open session's
(R46), an attached dispenser's (R298), the LIM that Bridle writes (R165); fields that a function below writes. -/
def fieldHeld (w : World) (p o : Nat) (s : State) (e : Row × List Nat × Nat) : Bool :=
  let r := e.1
  (decide (0x100 ≤ o) && onlyW0 p r && w != 0)
  || eventHeld s p o || (p == 4 && decide (0x400 ≤ o) && (o - 0x400) % 12 == 8)
  || spoolHeld s p o || reelHeld s p o
  || (canHeld s p o && !isRow r R.obj_DIR) || (ringHeld s p o && !isRow r R.jr_JEN)
  || isRow r R.sess_SESS_EN || isRow r R.spar_FOLLOW || isRow r R.line_LEN || isRow r R.rst_MODE
  || ((isRow r R.sess_SESS_ADDR || isRow r R.sess_SESS_KEY || isRow r R.sess_SESS_SPORT) && s.rdB R.sess_SESS_EN [e.2.1.headD 0])
  || ((isRow r R.dsp_MAC_LO || isRow r R.dsp_LISTED || isRow r R.dsp_COUP || isRow r R.dsp_MAC_HI) &&
      (s.rd R.dsp_DSTATE [e.2.1.headD 0] == dAttached || s.rd R.dsp_DSTATE [e.2.1.headD 0] == dRobo))
  || (isRow r R.prt_LIM && e.2.1.getD 1 0 == 4)
  || (decide (0x100 ≤ o) && (p == 17 || (p == 18 && decide (o < 0x200))))

/-! ## Fields by class -/

/-- One field takes its value under its class (R34, R38, R623); `F` fields that would change under EN = 1 stay. -/
def putField (p : Nat) (e : Row × List Nat × Nat) (s : State) : State :=
  match e.1.cls with
  | .L => s.wr e.1 e.2.1 e.2.2
  | .RO => s
  | .F => if s.enOf p then s else s.wr e.1 e.2.1 e.2.2
  | .S =>
    if s.enOf p && s.sparRuns then { s with regs := s.regs.putShadow e.1 e.2.1 e.2.2 } else s.wr e.1 e.2.1 e.2.2

/-- FROZEN_WRITE: a class F field would change while EN = 1 (R623). -/
def frozen (s : State) (p : Nat) (e : Row × List Nat × Nat) : Bool :=
  e.1.cls == .F && s.enOf p && e.2.2 % 2 ^ e.1.w != s.rd e.1 e.2.1

/-- A CAN object whose DIR changes is IDLE with no cancel held: DIR set to 1 enters IDLE (R511), and an object that does
not transmit reads STATE 0 (R522). -/
def canSet (old : State) (p o : Nat) (s : State) : State :=
  match canEntry p o with
  | some (c, k, 4) =>
    if old.rd R.obj_DIR [c, k] ≠ s.rd R.obj_DIR [c, k] then (s.wr R.obj_STATE [c, k] coIdle).wr R.obj_CPEND [c, k] 0 else s
  | _ => s

/-- A watchdog whose timeout of 0 takes another value begins from it (R582). -/
def wdgSet (old : State) (p o : Nat) (s : State) : State :=
  match p, o with
  | 1, 0x11C => if old.rd R.rst_B_WDG_MS [] = 0 then wdgReload 1 s else s
  | 1, 0x120 => if old.rd R.rst_E_WDG_MS [] = 0 then wdgReload 2 s else s
  | _, _ => s

/-- The fields of a word take their values, with the errors that the write records. -/
def putWord (w : World) (p o v : Nat) (s : State) : State :=
  let all := if o < 0x100 then [] else if portMeterHole p o then [] else covered s (pageRows p) (p * 0x1000 + o) v
  let l := wordFields s p o v
  let direct := !(s.enOf p && s.sparRuns)
  let take := l.filter (fun e => !fieldHeld w p o s e)
  let err := heldErr s p o l
  let t := take.foldl (fun s e => putField p e s) s
  let t := match err with | some c => t.setErr (heldPage p) c | none => t
  let t := if take.any (frozen s p) then t.setErr p 0x0002 else t
  let t := if all.any brdBad then t.setErr p 0x0104 else t
  let t := if all.any (ringRange s) then t.setErr p 0x0101 else t
  let t := wdgSet s p o (canSet s p o t)
  let t := if 0x100 ≤ o ∧ (blockOf p = some 16 ∨ blockOf p = some 11) then coolShow t else t
  let t := if all.any (isSealed p) then
      (if s.rdB R.mtr_SEAL [] then t.setErr p 0x0100 else if logFull s then t.setErr 304 0x0103 else t) else t
  if direct && l.any (changesS s) then
    match unitOf p o with
    | some u => afterShadow u s t
    | none => t
  else t

/-! ## The page header -/

/-- EN written on the page of its unit (R29, R31): what each block does when it is enabled or disabled. -/
def enWrite (w : World) (p : Nat) (on : Bool) (s : State) : State :=
  if s.rdB R.hdr_EN [p] = on then
    (if h : 368 ≤ p ∧ p < 384 ∧ on = true then s.cnF ⟨(p - 368) / 4, by omega⟩ (fun n => { n with off := false }) else s)
  else
    let put := fun (s : State) => s.wrB R.hdr_EN [p] on
    let t := match blockOf p with
      | some 4 => if on then sparEnable s else allNow (sparStop (put s))
      | some 11 => if h : p - 160 < 32 then (if on then put s else portDisable ⟨p - 160, h⟩ (put s)) else s
      | some 12 => if h : p - 192 < 32 then (if on then vlEnable ⟨p - 192, h⟩ s else vlDisable ⟨p - 192, h⟩ s) else s
      | some 13 => if on then put s else splcOff (put s)
      | some 16 => if on then coolShow (put s) else thrmOff (put s)
      | some 17 => if on then lswEnable s else put s
      | some 18 => if on then safeEnable s else safeDisable s
      | some 20 => if on then tethEnable s else tethDisable s
      | some 21 => if on then blstStart (put s) else blstStop (put s)
      | some b =>
        if h : 24 ≤ b ∧ b < 28 then
          (if on then canEnable ⟨b - 24, by omega⟩ s else did (execCanDisable w ⟨b - 24, by omega⟩) s)
        else put s
      | none => s
    if !on && !t.rdB R.hdr_EN [p] then unitNow p t else t

/-- CTRL written: EN and IDLE_REQ first, then BRST, then CANCEL, which wins over COMMIT (R31, R37, R38). -/
def ctrlWrite (w : World) (p : Page) (v : Nat) (s : State) : State :=
  let s := if p.val = enPage p.val then (enWrite w p.val (bitB v 0) s).wrB R.hdr_IDLE_REQ [p.val] (bitB v 1) else s
  let s := onBit v 2 (brst p.val) s
  if bitB v 4 then cancelPage p s else onBit v 3 (commitPage p) s

/-! ## Actions: class W1S and W1C bits, and words with a function of their own -/

/-- What a written 1 does in the pages of the blocks without channels. -/
def actGlobal (w : World) (p o v : Nat) (s : State) : State :=
  match p, o with
  | 0, 0x120 => if w = 0 then flashGo (v % 4) s else s
  | 1, 0x100 =>
    if w = 0 then onBit v 0 runW1 (onBit v 1 runW2 (modeWrite (bits v 30 2) s)) else s
  | 1, 0x10C => idleToClear v s
  | 1, 0x114 => if w = 0 then onBit v 0 swGo s else s
  | 1, 0x118 => onBit v 0 (did (execGKick w)) s
  | 1, 0x11C => onBit v 0 (did (execBKick w)) s
  | 1, 0x120 => onBit v 0 (did (execEKick w)) s
  | 1, 0x12C => if w = 0 then onBit v 31 retryGo s else s
  | 2, 0x10C => if w = 0 then onBit v 0 huW0 s else if w = 1 then onBit v 1 huW1 s else s
  | 4, 0x100 => if w = 0 then (if bitB v 9 then followSet s else followClear s) else s
  | 4, 0x150 => if w = 0 then onBit v 0 wallSet s else s
  | 4, 0x154 => onBit v 3 (fun s => s.wr R.wall_SETBACK [] 0) s
  | 8, 0x168 => violClr v s
  | 16, 0x10C => onBit v 0 (did (execDbgArm w)) (onBit v 1 (did (execLcGo w)) s)
  | 16, 0x110 => onBit v 8 clrGo s
  | 18, 0x208 => ringRestart 0 s
  | 18, 0x228 => ringRestart 1 s
  | 18, 0x248 => ringRestart 2 s
  | 64, 0x100 => bankCheck v s
  | 64, 0x118 => onBit v 0 loadClr s
  | 64, 0x200 => onBit v 2 spoolStop (onBit v 1 spoolTrigger (onBit v 0 spoolArm s))
  | 226, 0x108 => onBit v 0 (did (execSplcTxGo w)) (onBit v 1 (did (execSplcRxPop w)) s)
  | 320, 0x108 => ptripClear v s
  | 328, 0x104 => onBit v 3 (did (execRailLossClear w)) s
  | 328, 0x108 => onBit v 0 (did (execSync w)) (onBit v 1 (did (execCaseClr w)) s)
  | 344, 0x108 => onBit v 0 (did (execXchCntClr w)) s
  | 352, 0x100 => if w = 0 then onBit v 2 tethTake (onBit v 3 tethRelease s) else s
  | 352, 0x104 => onBit v 11 (did (execDemotedClear w)) s
  | 352, 0x130 => onBit v 0 (did (execTethCntClr w)) s
  | 337, 0x100 => safeOutputs s
  | _, _ => s

/-- Stage lines and stage areas (R121, R162, R164). -/
def actStage (w : World) (p o v : Nat) (s : State) : State :=
  if h : 32 ≤ p ∧ p < 64 ∧ o < 4096 then
    let i : Stage := ⟨4 * (p - 32) + o / 1024, by omega⟩
    match o % 1024 with
    | 0x100 => onBit v 2 (did (execLineAttach w i)) (onBit v 3 (lineFaultClr i) (lineLen i (bitB v 0) s))
    | 0x154 => onBit v 0 (lineCntClr i) s
    | _ => s
  else if h : 65 ≤ p ∧ p < 97 ∧ o < 4096 then
    let i : Stage := ⟨4 * (p - 65) + o / 1024, by omega⟩
    match o % 1024 with
    | 0x100 => if bitB v 8 then did (execFailSet w i) s else onBit v 7 (did (execFailClr w i)) s
    | 0x154 => onBit v 0 (did (execSatClr w i)) s
    | 0x16C => onBit v 0 (hoAbortClear i) s
    | 0x3F0 => if bitB v 4 then cancelCommit (.area i) s else onBit v 3 (armCommit (.area i)) s
    | _ => s
  else s

/-- Ports and vehicle links (R252, R275). -/
def actPort (w : World) (p o v : Nat) (s : State) : State :=
  if h : 160 ≤ p ∧ p < 192 then
    let q : Port := ⟨p - 160, by omega⟩
    match o with
    | 0x110 =>
      let s := foldS ((List.range 13).filter (fun n => bitB v n)) (fun s n => postEvent q n s) s
      onBit v 14 (did (execBillDisc w q)) (onBit v 13 (did (execHb w q)) s)
    | 0x118 => did (execEvtDropClear w q (BitVec.ofNat 32 v)) s
    | 0x168 => onBit v 0 (did (execContWeldClear w q)) s
    | _ => s
  else if h : 192 ≤ p ∧ p < 224 then
    let q : Port := ⟨p - 192, by omega⟩
    match o with
    | 0x118 =>
      let s := onBit v 0 (did (execAbortLink w q)) (onBit v 1 (did (execKeyTxOn w q)) (onBit v 2 (did (execKeyRxOn w q)) s))
      onBit v 5 (did (execVlnkTxGo w q)) (onBit v 4 (did (execVlnkRxPop w q)) (onBit v 3 (did (execRxResume w q)) s))
    | 0x130 => onBit v 0 (did (execVlnkCntClr w q)) s
    | _ => if 0x800 ≤ o then winWrite q ((o - 0x800) / 4) v s else s
  else s

/-- Dispensers, meters, load switches, rings (R298, R334, R335, R418, R506). -/
def actSite (w : World) (p o v : Nat) (s : State) : State :=
  if h : p = 225 ∧ 0x100 ≤ o ∧ o < 0x500 then
    let d : Fin 32 := ⟨(o - 0x100) / 32, by omega⟩
    if (o - 0x100) % 32 = 0x18 then onBit v 1 (did (execTmNow w d)) (onBit v 0 (did (execKick w d)) s) else s
  else if h : p = 256 ∧ 0x260 ≤ o ∧ o < 0x280 then
    did (execMeterFlagClear w true ⟨(o - 0x260) / 4, by omega⟩ (BitVec.ofNat 32 v)) s
  else if h : 257 ≤ p ∧ p < 293 then
    let m : Meter := ⟨p - 257, by omega⟩
    if o = 0x114 then did (execMeterFlagClear w false m (BitVec.ofNat 32 v)) s
    else if o = 0x1D8 then onBit v 0 (meterLoad m) s
    else s
  else if h : p = 329 ∧ 0x100 ≤ o ∧ o < 0x500 then
    let n : Fin 32 := ⟨(o - 0x100) / 32, by omega⟩
    let j := (o - 0x100) % 32
    if j = 0x1C then onBit v 0 (did (execClr w n)) (onBit v 1 (did (execPeakClr w n)) s)
    else if j = 0x04 then (if limitsBad v then s.setErr 328 0x0101 else s)
    else if j = 0x00 then
      let s := if bitB v 3 && (dischPort s n.val).isSome then s.setErr 328 0x0100 else s
      if s.enOf 329 then s else keepWrite n s
    else s
  else if h : p = 360 ∧ 0x100 ≤ o ∧ o < 0x200 then
    let r : Fin 2 := ⟨(o - 0x100) / 128, by omega⟩
    if (o - 0x100) % 128 = 4 then
      onBit v 2 (did (execBlstEnumerate w r)) (onBit v 3 (did (execOwNow w r)) (onBit v 4 (did (execTripClr w r)) s))
    else s
  else s

/-- CAN controllers and Reel channels (R521, R522, R540). -/
def actEngine (w : World) (p o v : Nat) (s : State) : State :=
  if h : 368 ≤ p ∧ p < 384 then
    let c : Fin 4 := ⟨(p - 368) / 4, by omega⟩
    if (p - 368) % 4 = 0 then
      if o = 0x118 then onBit v 0 (did (execBoRec w c)) s
      else if o = 0x11C then onBit v 0 (did (execCanCntClr w c)) s
      else s
    else match canEntry p o with
      | some (_, k, 4) =>
        if hk : k < 128 then
          let s := onBit v 4 (did (execNewdatClear w c ⟨k, hk⟩)) s
          onBit v 6 (did (execTxreq w c ⟨k, hk⟩)) (onBit v 5 (did (execCanCancel w c ⟨k, hk⟩)) s)
        else s
      | _ => s
  else match reelEntry p o with
    | some (c, j) =>
      if hc : c < 64 then
        if j = 0 then
          let s := onBit v 3 (did (execReelFlag w ⟨c, hc⟩)) s
          onBit v 1 (did (execReelStart w ⟨c, hc⟩ false)) (onBit v 2 (did (execReelStop w ⟨c, hc⟩)) s)
        else if j = 0x30 then onBit v 0 (did (execReelCntClr w ⟨c, hc⟩)) s
        else s
      else s
    | none => s

/-- Word 1 of a Loft entry as the table holds it: the reserved bits of byte 6 read zero (R10, R206). -/
def loftWord1 (v : Nat) : Nat := bits v 0 16 + 2 ^ 18 * bits v 18 14

/-- Words whose write is a function of its own: event entries, sessions, key slots, regions, bank words, the Loft and
message windows, calendars. -/
def actWindow (w : World) (p o v : Nat) (s : State) : State :=
  if p = 4 ∧ 0x400 ≤ o ∧ (o - 0x400) % 12 = 8 then entryWrite8 ((o - 0x400) / 12) v s
  else if p = 4 ∧ 0x180 ≤ o ∧ o < 0x1C0 then
    did (execEvtFiredClear w (decide (0x1A0 ≤ o)) ⟨(o - 0x180) / 4 % 8, by omega⟩ (BitVec.ofNat 32 v)) s
  else if h : p = 9 ∧ 0x100 ≤ o ∧ o < 0x1C0 then
    (if (o - 0x100) % 32 = 0x10 then
      (if bitB v 31 then sessEnable ⟨(o - 0x100) / 32, by omega⟩ s else s.wr R.sess_SESS_EN [(o - 0x100) / 32] 0) else s)
  else if p = 17 ∧ 0x100 ≤ o ∧ o < 0x900 then slotWrite ((o - 0x100) / 8) (decide ((o - 0x100) % 8 = 4)) v s
  else if p = 18 ∧ 0x100 ≤ o ∧ o < 0x200 then regionWrite ((o - 0x100) / 16) ((o - 0x100) / 4 % 4) v s
  else if h : 97 ≤ p ∧ p < 101 ∧ 0x100 ≤ o ∧ o < 0xD00 then
    bankWrite ⟨4 * (p - 97) + (o - 0x100) / 0x300, by omega⟩ ((o - 0x100) % 0x300 / 4) v s
  else if p = 138 ∧ 0x100 ≤ o ∧ o < 0x900 then
    let k := 512 * s.rd R.lft_WIN [] + (o - 0x100) / 4
    s.brdF (fun b => { b with loft := sput 0 b.loft k (if k % 4 = 1 then loftWord1 v else v % 2 ^ 32) })
  else if p = 138 ∧ o = 0x900 then (if bitB v 8 then s else s.brdF (fun b => { b with holdCycles := 0 }))
  else if p = 226 ∧ 0x800 ≤ o then splcWinWrite ((o - 0x800) / 4) v s
  else if p = 227 ∧ 0x100 ≤ o ∧ o < 0x300 then
    (if s.enOf 224 then
      (if s.rdB R.splc_MASK [] && decide (o < 0x174) && tmWinRead s ((o - 0x100) / 4) != v % 2 ^ 32 then s.setErr 227 0x0002 else s)
    else tmWinWrite ((o - 0x100) / 4) v s)
  else if p = 314 ∧ 0x100 ≤ o ∧ o < 0xAA0 then
    armBoundary (calCheck (s.billF (fun b => { b with cal0 := memWrite b.cal0 o (leBytes 4 (calWord o v)) })))
  else if p = 315 ∧ 0x100 ≤ o ∧ o < 0xAA0 then
    armBoundary (s.billF (fun b => { b with cal1 := memWrite b.cal1 o (leBytes 4 (calWord o v)) }))
  else s

/-- The word takes effect on a page: header, fields, actions. -/
def writeWord (w : World) (p : Page) (o v : Nat) (s : State) : State :=
  match o with
  | 0x008 => ctrlWrite w p v s
  | 0x00C => onBit v 5 (errClear p.val) s
  | 0x018 => irqClr p.val v s
  | 0x01C => irqSet p.val v s
  | 0x020 => ownerPut p.val v s
  | _ =>
    let s := putWord w p.val o v s
    actWindow w p.val o v (actEngine w p.val o v (actSite w p.val o v (actPort w p.val o v (actStage w p.val o v
      (actGlobal w p.val o v s)))))

/-! ## Writes of one or more words -/

/-- May a world write a word: R42; OWNER is W0's alone (R41), event entries follow R80. -/
def writeOk (s : State) (w : World) (p o : Nat) : Bool :=
  if o = 0x020 then w == 0 && !s.dead p
  else if p = 4 ∧ 0x400 ≤ o then mayWriteEntry s w ((o - 0x400) / 12)
  else s.canWrite w p

/-- A write of words from address `a` of one page, judged as a whole: without the grant a violation (R43), refused with
SHADOW_BUSY where one word would change a class S field of a pending commit (R36). Answers whether it was refused so. -/
def busWrite (w : World) (a : Nat) (vs : List Nat) (s : State) : Bool × State :=
  let p := a / 4096
  let ws := (List.range vs.length).map (fun k => (a % 4096 + 4 * k, vs.getD k 0))
  if h : p < 388 then
    if ws.all (fun x => writeOk s w p x.1) then
      if ws.any (fun x => busyAt s p x.1 x.2) then (true, s.setErr p 0x0001)
      else (false, ws.foldl (fun s x => writeWord w ⟨p, h⟩ x.1 x.2 s) s)
    else (false, s.violate w)
  else (false, s.violate w)

/-! ## Memory (R543, R544) -/

/-- Where private SRAM stands in the address space of the cores: Gondola's (DESIGN CHOICE, log entry 37), Bremus's with
the billing request ring at its base (R544). -/
def sram0Base : Nat := 0x50000000
def sram1Base : Nat := 0x60000000

/-- A world may write a byte of Bremus SRAM: W1 all of it, W0 and W2 the ring under BREQ_WR (R544). -/
def sram1Writes (s : State) (w : World) (k : Nat) : Bool :=
  decide (k < sramSize 1) && (w == 1 || (decide (k < ringSize) &&
    ((w == 0 && s.rdB R.keyr_BREQ_WR_W0 []) || (w == 2 && s.rdB R.keyr_BREQ_WR_W2 []))))

/-- One byte of memory written by a world; none where the world has no access. -/
def memByteWrite (w : World) (a : Nat) (b : Byte) (s : State) : Option State :=
  if inDram a then
    (if dramOk s w.val (a - 0x100000000) true then some { s with dram := memPut s.dram (a - 0x100000000) b } else none)
  else if sram0Base ≤ a ∧ a < sram0Base + sramSize 0 then
    (if w = 0 then some { s with sram0 := memPut s.sram0 (a - sram0Base) b } else none)
  else if sram1Base ≤ a ∧ a < sram1Base + sramSize 1 then
    (if sram1Writes s w (a - sram1Base) then some { s with sram1 := memPut s.sram1 (a - sram1Base) b } else none)
  else none

/-- Bytes of memory written by a world; each byte outside the grant is ignored, and the access counts once (R11). -/
def memStore (w : World) (a : Nat) (l : List Byte) (s : State) : State :=
  let r := l.foldl (fun (x : Nat × Bool × State) b =>
    match memByteWrite w x.1 b x.2.2 with
    | some t => (x.1 + 1, x.2.1, t)
    | none => (x.1 + 1, true, x.2.2)) (a, false, s)
  if r.2.1 then r.2.2.violate w else r.2.2

/-- REGISTER_WRITE: a world writes `size` bytes at an address of its core (R42). A register takes whole words at aligned
addresses alone (R56). -/
def execRegisterWrite (w : World) (addr size : Nat) (v : Word) (s : State) : Host.Outcome State Fault Refusal :=
  if inPages addr then
    .next (if size = 4 ∧ addr % 4 = 0 then (busWrite w (addr - 0x40000000) [v.toNat] s).2 else s)
  else .next (memStore w addr (leBytes (min size 4) v.toNat) s)

end Sys2Proof.Machine
end

