-- ==== Sys2Proof/Machine/Downlink.lean ====
section
/-! DEFINITION. The close of the uplink window and the module's own downlink window (04_stage_line.md, R103-R120; R178,
R451, R452, R468, R477, R478). -/

namespace Sys2Proof.Machine

open Sys2Proof

/-! ## The close of the uplink window (R103) -/

/-- The measurements of a period with a snapshot are kept (R86). -/
def snapLine (i : Stage) (s : State) : State :=
  foldS (List.range 4) (fun s j => s.wr R.line_SNAP_Y [i.val, j] (s.rd R.line_Y [i.val, j])) s

/-- A disabled line whose UP_OK already shows that no uplink came (R121). -/
def closesQuiet (s : State) (i : Stage) : Bool := lstate s i == lsDisabled && !s.rdB R.line_UP_OK [i.val]

/-- Lines judge their uplinks, then Burner computes the next commands and Spool records (R103, R126, R156, R161, R181). -/
def uplinkClose (s : State) : State :=
  let s := foldS (List.finRange 128) (fun s i => if closesQuiet s i then s else closeLine i s) { s with windowClosed := true }
  let s := if s.spar.lastSnap = some s.spar.serial then foldS (List.finRange 128) (fun s i => snapLine i s) s else s
  if s.runs 64 then
    spoolRecord (stageLaws (foldS (List.finRange 128) (fun s i => hoUplink i s) s))
  else s

/-- UPLINK_WINDOW_CLOSE (R103). -/
def execUplinkWindowClose (s : State) : Host.Outcome State Fault Refusal :=
  .next (if s.windowClosed || !s.runs 32 then s else uplinkClose s)

/-! ## What is heard in the partner's window (R115, R121, R154, R462) -/

/-- REF_A or REF_B as Burner's Q2.29 (R98). -/
def refQ (r : Nat) : Int := sext 24 r * 2 ^ 8

/-- Whether the BURNER test compares a command with SEQ `q`: with the command computed for the next period or for this
one (R468). -/
def ownCmd (s : State) (i : Stage) (q : Nat) : Option (Int × Int) :=
  if q = nextSeq s then some (s.rdI R.stg_U_A [i.val], s.rdI R.stg_U_B [i.val])
  else if (q + 1) % 256 = nextSeq s then some (s.stg i).uLast
  else none

/-- A good COMMAND frame of the partner on line `i`. -/
def hearFrame (i : Stage) (f : DownFrame) (s : State) : State :=
  let s := know f.claim s
  let s := s.teF (fun t => { t with
    quiet := if lstate s i = lsAttached then 0 else t.quiet
    heardAny := true
    rxAny := if t.rxAny.contains i.val then t.rxAny else i.val :: t.rxAny })
  if s.active then s
  else
    let u := (refQ f.refA, refQ f.refB)
    let s := match ownCmd s i f.seq with
      | some own => if tstate s = tsStandby ∧ lawRuns s i = true then burnerTest i.val own u s else s
      | none => s
    (s.lineF i (fun l => { l with heardNow := true })).stgF i (fun g => { g with
      heardNext := u, sent := (f.seq, u) :: g.sent.filter (fun c => c.1 != f.seq) })

/-- Highest claim of a list of frames on a line. -/
def claimIn (heard : List (Stage × DownFrame)) (i : Stage) : Nat :=
  heard.foldl (fun m x => if x.1 = i then max m x.2.claim else m) 0

/-- PARTNER_HEARD and CLAIM_HEARD of a line (R121). -/
def showHeard (heard : List (Stage × DownFrame)) (i : Stage) (s : State) : State :=
  let s := s.lineF i (fun l => { l with heard := (claimIn heard i :: l.heard).take 8 })
  (s.wrB R.line_PARTNER_HEARD [i.val] (heard.any (fun x => x.1 == i))).wr R.line_CLAIM_HEARD [i.val]
    ((s.line i).heard.foldl max 0)

/-- A disabled line on which no claim was heard in the last 8 periods (R121). -/
def hearsQuiet (s : State) (i : Stage) : Bool :=
  lstate s i == lsDisabled && (s.line i).heard.all (· == 0) && !s.rdB R.line_PARTNER_HEARD [i.val]

/-- Everything heard since the last own window; only COMMAND frames on enabled lines count. -/
def hearAll (heard : List (Stage × DownFrame)) (s : State) : State :=
  let l := heard.filter (fun x => x.2.typ == 1 && lstate s x.1 != lsDisabled)
  let s := foldS l (fun s x => hearFrame x.1 x.2 s) s
  foldS (List.finRange 128) (fun s i => if hearsQuiet s i then s else showHeard l i s) s

/-- Claims of the good COMMAND frames of a window. -/
def claimsOf (heard : List (Stage × DownFrame)) (s : State) : List Nat :=
  (heard.filter (fun x => x.2.typ == 1 && lstate s x.1 != lsDisabled)).map (fun x => x.2.claim)

/-- The partner's window of this or of the previous period carries a claim newer than the module's own (R478). -/
def mustDemote (l : List Nat) (s : State) : Bool :=
  s.active && s.rdB R.teth_PAIR_EN [] && l.any (fun c => c != 0 && newer c (s.rd R.teth_CLAIM []))

/-- The claims of the partner's last window are kept for the next period's (R478). -/
def keepClaims (l : List Nat) (s : State) : State := s.teF (fun t => { t with lastHeard := l })

/-- DEMOTE (R478): nothing is sent, ACTIVE clears, a reset is requested. -/
def demote (s : State) : State :=
  let s := ceaseActive tsStandby s
  requestReset 10 ((((s.wr R.teth_DEMOTED [] 1).satInc R.teth_DEMOTIONS []).setErr 352 0x0104).raise 352 1)

/-! ## Timing fields (R96, R118) -/

/-- START_DELAY in 8 ns units: from the end of EOF at the driver to its next period start, with D taken off where it is
known. -/
def startDelay (s : State) (d : Nat) : Nat := ((if s.slotY then 1320 else 3760) - d + 4) / 8

/-- Increment of the period after the next boundary, of index `k`: at a tick the one fixed for it (R59, R621). -/
def nextInc (s : State) (k : Nat) : Nat :=
  if k % 8 = 0 then (match s.spar.next with | some x => incOf x.freq | none => s.spar.inc) else s.spar.inc

/-- The true length of the next control period, 5 ns clocks (R58, R59). -/
def nextClocks (s : State) : Nat :=
  let k := s.spar.period % 800 + 1
  let acc := (s.spar.acc + clocksTo s k * s.spar.inc) % 2 ^ 48
  divCeil (boundary (k % 800 + 1) - acc) (nextInc s k)

/-- PERIOD_LEN: the length of the next period in 8 ns units, to the nearest (R96). -/
def periodLen (s : State) : Nat := divRound (5 * nextClocks s) 8

/-! ## Safety fields (R108-R110, R431, R434, R452, R453) -/

/-- The port a ROUTE names for a stage. -/
def routePort (i : Stage) (r : Nat) : Option Port :=
  if h : r < 4 then some ⟨4 * (i.val / 16) + r, by omega⟩ else none

/-- Ports of a stage line: of its route in force and of its target. -/
def linePorts (s : State) (i : Stage) (target : Nat) : List Port :=
  (routePort i (routeForce s i)).toList ++ (routePort i target).toList

/-- Power is removed from the port, or its contactor's shared drive is stuck (R434, R452). -/
def portDark (s : State) (p : Port) : Bool :=
  (ripState s p == 2 && (s.ripOf p).tR.isSome) || s.rdB R.sout_SH_STUCK [p.val]

/-- SS_SRC that the ports of a line ask for, 0 none. -/
def lineSs (s : State) (l : List Port) : Nat := l.foldl (fun a p => if a = 0 then portSs s p else a) 0

/-- The SAFETY byte (R96). -/
def safetyByte (gp : Bool) (ss : Nat) : Nat := 4 * (ss % 4) + 2 * b2n (ss != 0) + b2n gp

/-- GP of a COMMAND frame (R110), with R434, R452 and R453. -/
def gpOut (s : State) (i : Stage) (route : Nat) : Bool :=
  s.rdB R.line_GP_FW [i.val] && (match routePort i route with | some p => permitted s p | none => false) &&
    !s.rdB R.stg_FAILED [i.val] && smode s i != mFault && !(linePorts s i route).any (portDark s) &&
    s.rd R.safe_SF_STATE [] != sfHalt

/-! ## Frames sent -/

/-- A frame goes out on a line. -/
def putFrame (i : Stage) (f : DownFrame) (s : State) : State := s.lineF i (fun l => { l with out := some f })

/-- A frame with its safety byte and times. -/
def frameOf (typ claim mode route safety refA refB d len : Nat) (clr : Bool) (s : State) : DownFrame :=
  { typ := typ, claim := claim, seq := nextSeq s, mode := mode, route := route, safety := safety, safetyN := 255 - safety
    refA := refA, refB := refB, startDelay := startDelay s d, periodLen := len, faultClr := clr }

/-- A COMMAND frame: MODE, ROUTE, GP and the commands `u` (R100, R101, R110, R121, R127, R477). -/
def sendCommand (i : Stage) (mode route : Nat) (gp : Bool) (u : Int × Int) (len : Nat) (s : State) : State :=
  let off := s.teth.offLines.contains i.val
  let mode := if off then mOff else mode
  let f := frameOf 1 (s.rd R.teth_CLAIM []) mode route (safetyByte gp (lineSs s (linePorts s i route))) (refOf u.1) (refOf u.2)
    (lineD s i) len (off || (s.line i).faultClr) s
  let s := (putFrame i f s).lineF i (fun l => { l with faultClr := false })
  let s := (s.wr R.stg_ROUTE_SENT [i.val] route).wr R.stg_MODE_SENT [i.val] mode
  let s := s.teF (fun t => { t with offLines := t.offLines.filter (· ≠ i.val) })
  s.stgF i (fun g => { g with ready := false, sent := (f.seq, u) :: g.sent.filter (fun c => c.1 != f.seq) })

/-- A PROBE or an ATTACH frame (R96, R118): no gate permit. -/
def sendProbe (i : Stage) (len : Nat) (s : State) : State :=
  (putFrame i (frameOf 2 (s.rd R.teth_CLAIM []) 0 4 0 0 0 0 len false s) s).lineF i (fun l => { l with probe := false, probed := true })
def sendAttach (i : Stage) (len : Nat) (s : State) : State :=
  (putFrame i (frameOf 3 (s.rd R.teth_CLAIM []) 0 4 0 i.val 0 (lineD s i) len false s) s).lineF i (fun l => { l with
    attachPend := false, attachTmr := some 0 })

/-- What an active module sends on a line (R104, R115, R119, R120, R131, R161). -/
def sendActive (i : Stage) (len : Nat) (s : State) : State :=
  let ls := lstate s i
  let l := s.line i
  if ls = lsSearch then (if l.probe then sendProbe i len s else s)
  else if (ls = lsFound ∨ ls = lsLost) ∧ l.attachPend = true then sendAttach i len s
  else if !s.runs 64 then s
  else if ls = lsLost then sendCommand i mOff 4 false (0, 0) len s
  else if ls = lsAttached ∧ (s.stg i).ready = true then
    let r := routeOut s i
    sendCommand i (modeOut s i) r (gpOut s i r) (s.rdI R.stg_U_A [i.val], s.rdI R.stg_U_B [i.val]) len s
  else s

/-- What a module that is not active sends on a line (R104, R110, R451, R452): SAFE frames for a port that its island
stops; nothing else. -/
def sendStandby (i : Stage) (len : Nat) (s : State) : State :=
  let ps := (linePorts s i (routeOut s i)).filter (fun p => portDark s p || (ripState s p == 1 && portSs s p != 0))
  if ps.isEmpty || lstate s i = lsDisabled then s
  else
    putFrame i (frameOf 4 0 0 4 (safetyByte (!ps.any (portDark s)) (max 1 (lineSs s ps))) 0 0 (lineD s i) len false s) s

/-- LINE_TX (R468): each burst due is sent; `echo` lists the lines on which it was heard back. -/
def lineTxTest (echo : List Stage) (s : State) : State :=
  if s.teth.txDue.isEmpty then s
  else
    let s := s.teF (fun t => { t with
      txBad := t.txBad.filter (fun i => !t.txDue.contains i) ++ t.txDue.filter (fun i => !echo.any (fun e => e.val == i))
      txDue := [] })
    selfTest 1 (!s.teth.txBad.isEmpty) s

/-- No line carries a frame in this window. -/
def sendNone (s : State) : State :=
  foldS (List.finRange 128) (fun s i => if (s.line i).out.isNone then s else s.lineF i (fun l => { l with out := none })) s

/-- Every line in the module's own window; none carries a frame in RECOVERY (R593). -/
def sendAll (echo : List Stage) (s : State) : State :=
  let s := sendNone s
  if s.rd R.rst_MODE [] = 3 then s
  else
    let len := periodLen s
    if s.active then foldS (List.finRange 128) (fun s i => sendActive i len s) s
    else lineTxTest echo (foldS (List.finRange 128) (fun s i => sendStandby i len s) s)

/-- DOWNLINK_WINDOW (R104): `heard` holds the good COMMAND frames of the partner's window of this period, by line, `echo` the
lines on which a test burst comes back. Slot X's window comes before the partner's and slot Y's after it (R103), so slot X
speaks first and hears then. An active module that has seen a newer claim is silent and demotes (R478). -/
def execDownlinkWindow (heard : List (Stage × DownFrame)) (echo : List Stage) (s : State) : Host.Outcome State Fault Refusal :=
  if s.windowSent || !s.windowClosed || !s.runs 32 then .next s
  else
    let s := { s with windowSent := true }
    let now := claimsOf heard s
    let speak := fun (l : List Nat) (s : State) => if mustDemote l s then demote (sendNone s) else sendAll echo s
    .next (keepClaims now (
      if s.slotY then speak (now ++ s.teth.lastHeard) (hearAll heard s)
      else hearAll heard (speak s.teth.lastHeard s)))

end Sys2Proof.Machine
end

