-- ==== Sys2Proof/Machine/Driver.lean ====
section
/-! DEFINITION. The stage driver at the far end of a line: which frames it obeys, how it holds, ramps and trips, its
selectors and its faults (04_stage_line.md, R105-R118). -/

namespace Sys2Proof.Machine

open Sys2Proof

/-- A change of one driver. -/
def State.drvF (s : State) (i : Stage) (f : DrvS → DrvS) : State := { s with drivers := vupd s.drivers i f }

/-- One driver. -/
def State.drv (s : State) (i : Stage) : DrvS := s.drivers[i]

/-- The governing claim (R106). -/
def DrvS.governing (d : DrvS) : Nat := d.hist.foldl max 0

/-- Whether the driver gates: gate permit, a switching mode, no fault (R101, R108, R114). -/
def DrvS.mayGate (d : DrvS) : Bool := d.attached && d.gp && modeSwitches d.mode && !d.faulted

/-- A faulty downlink frame is discarded and CRCERR advances (R112). -/
def DrvS.badFrame (d : DrvS) : DrvS := { d with crcErr := (d.crcErr + 1) % 256 }

/-- GP = 0: gate permit is withdrawn and gating stops at once (R108). -/
def DrvS.withdraw (d : DrvS) : DrvS := { d with gp := false, gpNext := some false, gating := false }

/-- SS = 1: a ceiling at the current's present magnitude, for 8 periods without SS (R108). -/
def DrvS.ceiling (d : DrvS) (iNow : Nat) : DrvS :=
  { d with ssLeft := 8, ssSeen := true, ssLimit := if d.ssLeft = 0 then iNow else min d.ssLimit iNow }

/-- The safety fields of a frame with good CRC (R108, R109). -/
def DrvS.safety (d : DrvS) (f : DownFrame) (iNow : Nat) : DrvS :=
  if f.safety + f.safetyN = 255 ∧ f.safety &&& f.safetyN = 0 then
    let d := if f.safety % 2 = 0 then d.withdraw else d
    if f.safety / 2 % 2 = 1 then d.ceiling iNow else d
  else { (d.withdraw.ceiling iNow) with mismatch := true }

/-- SAFETY_N is the complement of SAFETY (R109). -/
def safetyOk (f : DownFrame) : Bool := decide (f.safety + f.safetyN = 255 ∧ f.safety &&& f.safetyN = 0)

/-- PERIOD_LEN in range is taken, else the previous one is kept (R112). -/
def DrvS.lenOf (d : DrvS) (f : DownFrame) : Nat :=
  if 2321 ≤ f.periodLen ∧ f.periodLen ≤ 3544 then f.periodLen else d.periodLen

/-- PERIOD_LEN of a frame that is no COMMAND (R112). -/
def DrvS.takeLen (d : DrvS) (f : DownFrame) : DrvS := { d with periodLen := d.lenOf f }

/-- Stage an obeyed COMMAND for the next period start; a reserved ROUTE keeps the route in force (R105, R108, R112). -/
def DrvS.obey (d : DrvS) (f : DownFrame) : DrvS :=
  let bad := decide (4 < f.route)
  { d with
    staged := some ⟨f.mode, if bad then d.route else f.route, f.seq, f.refA, f.refB, f.faultClr, d.lenOf f⟩
    badField := d.badField || bad
    gpNext := if f.safety % 2 = 1 then some true else some false }

/-- Nothing that came earlier in this period is obeyed or counts for the expected SEQ (R106, R107, R111). -/
def DrvS.unstage (d : DrvS) : DrvS := { d with staged := none, oosNow := none, adopted := none }

/-- A COMMAND frame of the governing claim, heard once in its period: obeyed, or kept for the expected SEQ (R106, R109,
R111, R112). -/
def DrvS.judge (d : DrvS) (f : DownFrame) : DrvS :=
  if !safetyOk f || decide (8 < f.mode) then d
  else if f.seq = d.expSeq then d.obey f
  else
    match d.oosPrev with
    | some q => if f.seq = (q + 1) % 256 then { (d.obey f) with adopted := some f.seq } else { d with oosNow := some f.seq }
    | none => { d with oosNow := some f.seq }

/-- A COMMAND frame with good CRC in time (R106, R107, R111, R112). One that is not obeyed gives its safety fields alone
(R106, R112), so PERIOD_LEN comes with an obeyed one (DESIGN
CHOICE, log entry 188). -/
def DrvS.command (d : DrvS) (f : DownFrame) (iNow : Nat) : DrvS :=
  let d := d.safety f iNow
  if f.claim = 0 then d
  else
    let seen := d.claims
    let d := { d with claims := f.claim :: seen, hist := max f.claim (d.hist.headD 0) :: d.hist.drop 1 }
    if f.claim ∈ seen then { (if f.claim = d.governing then d.unstage else d) with tie := true }
    else if f.claim < d.governing then d
    else d.unstage.judge f

/-- A frame's EOF at the driver in time: by 920 ns before the next start always, after 400 ns never, between them as
the driver chooses (R105): a free value. -/
def inTime (s : State) (eof : Nat) : Bool :=
  if 920 ≤ eof then true else if eof < 400 then false else s.free 1 == 1

/-- A frame with good CRC in time for an attached driver's stage number: a COMMAND, a SAFE frame, or of a reserved TYPE, whose
safety fields act (R108, R112). -/
def DrvS.stageFrame (d : DrvS) (f : DownFrame) (iNow : Nat) : DrvS :=
  if f.typ = 1 then d.command f iNow
  else if f.typ = 4 then (d.safety f iNow).takeLen f
  else if f.typ = 2 ∨ f.typ = 3 then d
  else d.safety f iNow

/-- A frame under the driver's own CRC prefix, its EOF `eof` ns before the driver's next period start, while the output
current's magnitude is `iNow` (R99, R105, R112). -/
def drvOwn (i : Stage) (body : List Byte) (coding : Bool) (eof iNow : Nat) (s : State) : State :=
  let d := s.drv i
  if !coding || body.length != 22 then s.drvF i DrvS.badFrame
  else if !d.attached then s
  else if !downGood body d.stage then s.drvF i DrvS.badFrame
  else if inTime s eof then s.took.drvF i (fun d => d.stageFrame (downDecode body) iNow)
  else s.took

/-- DRV_COMMAND_FRAME: a COMMAND frame reaches the driver of stage `i` (R105-R112). -/
def execDrvCommandFrame (i : Stage) (body : List Byte) (coding : Bool) (eof iNow : Nat) (s : State) :
    Host.Outcome State Fault Refusal :=
  .next (drvOwn i body coding eof iNow s)

/-- DRV_SAFE_FRAME: a SAFE frame's safety fields act (R108, R109, R112). -/
def execDrvSafeFrame (i : Stage) (body : List Byte) (coding : Bool) (eof iNow : Nat) (s : State) :
    Host.Outcome State Fault Refusal :=
  .next (drvOwn i body coding eof iNow s)

/-- The driver is unattached: it stops gating and opens its selectors (R118). -/
def DrvS.detach (d : DrvS) : DrvS :=
  { d with
    attached := false, stage := 0, gp := false, gpNext := none, gating := false, staged := none, claims := []
    mode := if d.faulted then 8 else 0, want := 4, missed := 0, limit := none, oosPrev := none, oosNow := none, adopted := none }

/-- A good PROBE leaves the driver unattached, its IDENT due (R118); its safety fields act as those of every frame (R108). -/
def DrvS.probe (d : DrvS) (f : DownFrame) (iNow : Nat) : DrvS :=
  { (((d.safety f iNow).detach).takeLen f) with identDue := true }

/-- An ATTACH: its safety fields act (R108); an unattached driver takes its stage number and expected SEQ (R111, R118), also
where SAFETY_N does not match, since R109 bars commands alone. One that reaches an attached driver is not meant for its state
(R112, R118) and leaves its number and expected SEQ (DESIGN CHOICE, log entry 187). -/
def DrvS.attach (d : DrvS) (f : DownFrame) (stage iNow : Nat) : DrvS :=
  let e := d.safety f iNow
  if d.attached then e else { (e.takeLen f) with attached := true, stage := stage, expSeq := f.seq }

/-- A frame for every driver, PROBE or ATTACH: it acts where it is good and its EOF comes in time (R99, R105, R112). -/
def drvCommon (i : Stage) (typ : Nat) (body : List Byte) (rx : LineRx) (f : DrvS → DrvS) (s : State) : State :=
  if !rx.coding || !downGood body 0xFFFF then s.drvF i DrvS.badFrame
  else if fld body 0 1 ≠ typ then s
  else if inTime s rx.eof then s.took.drvF i f
  else s.took

/-- DRV_PROBE: a good PROBE is answered with IDENT in the next period (R118). -/
def execDrvProbe (i : Stage) (body : List Byte) (rx : LineRx) (s : State) : Host.Outcome State Fault Refusal :=
  .next (drvCommon i 2 body rx (fun d => d.probe (downDecode body) rx.iNow) s)

/-- DRV_ATTACH: an ATTACH frame reaches the driver (R111, R118). -/
def execDrvAttach (i : Stage) (body : List Byte) (rx : LineRx) (s : State) : Host.Outcome State Fault Refusal :=
  .next (drvCommon i 3 body rx (fun d => d.attach (downDecode body) (fld body 7 2) rx.iNow) s)

/-- |Y0| at most 1 % of FS0 (R116). -/
def smallY0 (y0 : Int) : Bool := decide (y0.natAbs * 100 ≤ 8388608)

/-- A route wanted: the selectors move only with gating stopped for a whole period and a small current; else the
route in force is kept and ROUTE_REFUSED set (R116). -/
def DrvS.wantRoute (d : DrvS) (r : Nat) (y0 : Int) : DrvS :=
  if r = d.route ∨ d.selTo.isSome then d
  else if 1 ≤ d.stopped ∧ smallY0 y0 = true then { d with selTo := some r }
  else { d with refused := true }

/-- FAULT_CLR = 1 with MODE OFF obeyed: ends the stop after silence, and a fault whose cause has gone (R113, R114). -/
def DrvS.faultClear (d : DrvS) (c : DrvCmd) : DrvS :=
  if c.faultClr ∧ c.mode = 0 then
    { d with silence := false, opening := false, opened := false, faulted := if d.causes = 0 then false else d.faulted }
  else d

/-- MODE after a command: a faulted driver reports FAULT, a driver whose selectors opened after silence stays OFF
(R113, R114). -/
def DrvS.modeAfter (d : DrvS) (m : Nat) : Nat := if d.faulted then 8 else if d.opened then 0 else m

/-- Apply a staged command at a period start: hold or ramp ends (R113). -/
def DrvS.applyCmd (d : DrvS) (c : DrvCmd) : DrvS :=
  let d := d.faultClear c
  let d := { d with
    missed := 0, limit := none, opening := false, mode := d.modeAfter c.mode, refA := c.refA, refB := c.refB
    seqEcho := c.seq, want := c.route, periodLen := c.len }
  match d.gpNext with | some b => { d with gp := b } | none => d

/-- A period start that follows a missed period: hold, ramp, and the stop at the 37th (R113). -/
def DrvS.missedStart (d : DrvS) (y0 : Int) : DrvS :=
  let n := d.missed + 1
  let d := { d with missed := n, miss := (d.miss + 1) % 256 }
  let d := match d.gpNext with | some false => { d with gp := false } | _ => d
  if n ≤ 4 then d
  else
    let d := if n = 5 then { d with rampFrom := y0.natAbs } else d
    if n ≤ 36 then { d with limit := some (d.rampFrom * (36 - n) / 32) }
    else
      let shut := d.opened || (d.route == 4 && d.selTo.isNone)
      { d with
        silence := true, mode := if d.faulted then 8 else 0, limit := some 0, want := 4, opened := shut, opening := !shut }

/-- The flags of a period as STATUS reports them in the next: bits 15, 10, 9, 8 (R102; log entry 12). -/
def DrvS.flags (d : DrvS) : Nat :=
  32768 * b2n d.tie + 1024 * b2n d.mismatch + 512 * b2n d.badField + 256 * b2n d.refused

/-- A driver's period start: whole periods without gating are counted, the staged command is applied or the period counts
as missed, the selectors follow the route in command, the window of claims moves on, the expected SEQ advances and the
safe-stop ceiling runs down (R103, R106, R108, R111, R113, R116). -/
def DrvS.periodStart (d : DrvS) (y0 : Int) (hwlim : Bool) : DrvS :=
  let d := { d with stopped := if d.gateAtStart then 0 else d.stopped + 1 }
  let d := if !d.attached then d
    else match d.staged with
      | some c => d.applyCmd c
      | none => d.missedStart y0
  let d := d.wantRoute d.want y0
  let d := { d with
    flagsLast := d.flags, tie := false, mismatch := false, badField := false, refused := false, hwlim := hwlim
    staged := none, gpNext := none, claims := [], hist := 0 :: d.hist.take 7, expSeq := (d.adopted.getD d.expSeq + 1) % 256
    adopted := none, oosPrev := d.oosNow, oosNow := none
    ssLeft := if d.ssSeen then d.ssLeft else d.ssLeft - 1, ssSeen := false
    identNow := d.identDue, identDue := false }
  { d with gating := d.mayGate, gateAtStart := d.mayGate }

/-- DRIVER_FAULT: a cause (0 OV, 1 OT, 2 DESAT, 3 AUXLOW) appears, and the driver stops gating and latches FAULT, or
goes (R114, R117). -/
def execDriverFault (i : Stage) (cause : Fin 4) (on : Bool) (s : State) : Host.Outcome State Fault Refusal :=
  .next (s.drvF i (fun d =>
    if on then { d with causes := setBit d.causes cause.val true, faulted := true, mode := 8, gating := false }
    else { d with causes := setBit d.causes cause.val false }))

/-- SELECTOR_MOVE_DONE: the contacts are confirmed on the new route and SEL_MOVING clears, or a selector failed to
open (R102, R116). Selectors that opened after silence keep the driver in OFF (R113). -/
def execSelectorMoveDone (i : Stage) (weld : Bool) (s : State) : Host.Outcome State Fault Refusal :=
  .next (s.drvF i (fun d =>
    match d.selTo with
    | some r =>
      if weld then { d with selWeld := true, selTo := none }
      else { d with
        route := r, selTo := none, selWeld := false, opened := d.opened || (d.opening && r == 4)
        opening := d.opening && r != 4 }
    | none => d))

/-- DRIVER_RESET: the driver's own reset (R118). -/
def execDriverReset (i : Stage) (s : State) : Host.Outcome State Fault Refusal :=
  .next (s.drvF i (fun _ => DrvS.reset))

/-- STATUS as the driver reports it (R102). -/
def DrvS.status (d : DrvS) : Nat :=
  d.crcErr * 2 ^ 24 + d.miss * 2 ^ 16 + d.flagsLast + 16384 * b2n d.silence +
    8192 * b2n (decide (5 ≤ d.missed) && decide (d.missed ≤ 36)) + 4096 * b2n (decide (1 ≤ d.missed) && decide (d.missed ≤ 4)) +
    2048 * b2n (decide (d.ssLeft ≠ 0)) + 128 * b2n d.selTo.isSome + 64 * b2n d.selWeld + 32 * (d.causes / 8 % 2) +
    16 * (d.causes / 4 % 2) + 8 * (d.causes / 2 % 2) + 4 * (d.causes % 2) + 2 * b2n d.hwlim

/-- Byte 4 of a MEAS frame: MODE, ROUTE and GP in force (R97). -/
def DrvS.inforce (d : DrvS) : Nat := d.mode * 16 + d.route * 2 + b2n d.gp

/-- The MEAS body a driver sends with its samples (R97, R99). -/
def DrvS.meas (d : DrvS) (y : List Nat) (auxSel auxVal : Nat) : List Byte :=
  let b := leBytes 1 9 ++ leBytes 2 d.governing ++ leBytes 1 d.seqEcho ++ leBytes 1 d.inforce ++
    leBytes 3 (y.getD 0 0) ++ leBytes 3 (y.getD 1 0) ++ leBytes 3 (y.getD 2 0) ++ leBytes 3 (y.getD 3 0) ++
    leBytes 4 d.status ++ leBytes 1 auxSel ++ leBytes 2 auxVal
  b ++ leBytes 4 (frameCrc d.stage b)

/-- The IDENT body a driver sends (R97, R99, R118). -/
def identBody (i : Nat) : List Byte :=
  let b := leBytes 1 10 ++ (Config.identBody i).take 23
  b ++ leBytes 4 (frameCrc 0xFFFF b)

/-- The uplink of a period: MEAS while attached, IDENT after a PROBE, else nothing (R117, R118). -/
def DrvS.uplink (d : DrvS) (i : Nat) (m : DriverMeas) : Option (List Byte) :=
  if d.attached then some (d.meas m.y m.auxSel m.auxVal) else if d.identNow then some (identBody i) else none

/-- DRIVER_PERIOD_START: the driver of stage `i` starts a period with what it measures, and sends its uplink (R97, R103, R113, R117). -/
def execDriverPeriodStart (i : Stage) (m : DriverMeas) (hwlim : Bool) (s : State) :
    Host.Outcome State Fault Refusal :=
  .next (s.drvF i (fun d =>
    let d := d.periodStart (sext 24 (m.y.getD 0 noSample)) hwlim
    { d with out := d.uplink i.val m }))

end Sys2Proof.Machine
end

