-- ==== Sys2Proof/Machine/Host.lean ====
section
/-! DEFINITION. Host access (02_register_pages_and_host_access.md, R47-R55): datagrams of W3-W8, their requests, PCIe. -/

namespace Sys2Proof.Machine

open Sys2Proof

/-! ## Datagrams -/

/-- The 16-byte header of a datagram (R47). -/
def dgHeader (version world count nonce reserved : Nat) : List Byte :=
  leBytes 2 version ++ leBytes 1 world ++ leBytes 1 count ++ leBytes 8 nonce ++ leBytes 4 reserved

/-- The GCM initialisation vector: NONCE, then 0 from the host and 1 from the module (R47). -/
def dgIv (nonce dir : Nat) : List Byte := leBytes 8 nonce ++ leBytes 4 dir

/-- Requests of the plaintext of a datagram, `n` of them at most; what is cut off is no request (R49, log entry 38). -/
def parseReqs (world : Nat) : Nat → List Byte → List HostReq
  | 0, _ => []
  | n + 1, l =>
    if l.length < 8 then []
    else
      let f := fun (k c : Nat) => leNat ((l.drop k).take c)
      let len := 4 * (f 3 1 + 1)
      let body := if f 2 1 = 2 then len else 0
      if l.length < 8 + body then []
      else
        { world := world, tag := f 0 1, gen := f 1 1, op := f 2 1, len := f 3 1, addr := f 4 4,
          data := (List.range (body / 4)).map (fun k => BitVec.ofNat 32 (f (8 + 4 * k) 4)) } ::
          parseReqs world n (l.drop (8 + body))

/-- The bytes of a response (R49). -/
def respBytes (r : HostResp) : List Byte :=
  leBytes 1 r.tag ++ leBytes 1 r.gen ++ leBytes 1 r.status ++ leBytes 1 r.len ++ leBytes 4 r.cycle ++
    leBytes 2 r.period ++ leBytes 2 0 ++ r.data.flatMap (fun w => leBytes 4 w.toNat)

/-- Ring port and priority of a session's response datagrams: priority 5 or below (R24; log entry 181). -/
def respPort (k : Fin 6) : Fin 2 := if Config.respOnB k.val then 1 else 0
def respPrio (k : Fin 6) : Nat := min 5 (Config.respPrio k.val)

/-- A response datagram of session `k` is sealed, sent and handed to a ring port; none while its key slot is not usable (R46-R48, R546). -/
def sendDatagram (k : Fin 6) (l : List HostResp) (s : State) : State :=
  let w := k.val + 3
  let slot := s.rd R.sess_SESS_KEY [k.val]
  if l.isEmpty || !s.rdB R.sess_SESS_EN [k.val] || !sessionSlot s w slot then s
  else
    let nonce := s.host.nonceOut[k]
    let hdr := dgHeader 1 w l.length nonce 0
    let sealed := Config.gcmSeal (slotMat s slot) (dgIv nonce 1) hdr (l.flatMap respBytes)
    let s := { s with host := { s.host with
      nonceOut := s.host.nonceOut.set k ((nonce + 1) % 2 ^ 64)
      out := s.host.out ++ [⟨w, nonce, l, hdr ++ sealed⟩] } }
    ringPut (respPort k) ⟨respPrio k, none, 0x86DD, hdr ++ sealed, none⟩ s

/-- Nothing has been sent yet by this command. -/
def clearOut (s : State) : State := { s with host := { s.host with out := [] } }

/-- Responses gathered into datagrams of at most 64 responses and 1,452 bytes (R47, R51). -/
def sendResps (k : Fin 6) : List HostResp → List HostResp → State → State
  | acc, [], s => sendDatagram k acc s
  | acc, r :: t, s =>
    if acc.length < 64 ∧ 32 + ((acc ++ [r]).flatMap respBytes).length ≤ 1452 then sendResps k (acc ++ [r]) t s
    else sendResps k [r] t (sendDatagram k acc s)

/-- A response at this moment (R49). -/
def respNow (s : State) (q : HostReq) (status : Nat) (data : List Word) : HostResp :=
  ⟨q.world, q.tag, q.gen, status, q.len, s.spar.cycle, s.spar.period, data⟩

/-- The response kept for a world and tag (R50). -/
def keptResp (s : State) (w tag : Nat) : Option HostResp :=
  s.host.kept.find? (fun r => r.world == w && r.tag == tag)

/-- A request of an accepted datagram (R50): in flight already, executed already, or new; with the response to send at
once. A request of an undefined OP is answered and not executed (R49); one longer than 256 bytes is no request. -/
def hostTake (x : List HostResp × State) (q : HostReq) : List HostResp × State :=
  let s := x.2
  if 63 < q.len then x
  else if s.host.reqs.any (fun r => r.world == q.world && r.tag == q.tag) then x
  else
    match keptResp s q.world q.tag with
    | some r =>
      if r.gen = q.gen then (x.1 ++ [r], s)
      else if q.op = 1 ∨ q.op = 2 ∨ q.op = 3 then (x.1, { s with host := { s.host with reqs := s.host.reqs ++ [q] } })
      else (x.1 ++ [respNow s q 4 []], s)
    | none =>
      if q.op = 1 ∨ q.op = 2 ∨ q.op = 3 then (x.1, { s with host := { s.host with reqs := s.host.reqs ++ [q] } })
      else (x.1 ++ [respNow s q 4 []], s)

/-- The last nonce accepted of a session (R48). -/
def sessNonce (s : State) (k : Nat) : Nat := s.rd R.sess_SESS_NONCE_HI [k] * 2 ^ 32 + s.rd R.sess_SESS_NONCE_LO [k]

/-- The plaintext of a datagram, where R48 accepts it. -/
def openDg (s : State) (k : Nat) (dg : HostDatagram) : Option (List Byte) :=
  let slot := s.rd R.sess_SESS_KEY [k]
  let sport := s.rd R.sess_SESS_SPORT [k]
  if s.rdB R.sess_SESS_EN [k] && s.rd R.sess_SESS_ADDR [k] == dg.src && (sport == 0 || sport == dg.sport) &&
      sessionSlot s (k + 3) slot && decide (sessNonce s k < dg.nonce) then
    Config.gcmOpen (slotMat s slot) (dgIv dg.nonce 0) (dgHeader dg.version dg.world dg.count dg.nonce dg.reserved)
      dg.cipher dg.tag
  else none

/-- A datagram laid out as R47 states. -/
def dgFormed (s : State) (dg : HostDatagram) : Bool :=
  dg.dport == s.rd R.host_UDP_PORT [] && dg.version == 1 && decide (3 ≤ dg.world) && decide (dg.world ≤ 8) &&
    decide (1 ≤ dg.count) && decide (dg.count ≤ 64) && dg.reserved == 0 && decide (dg.cipher.length + 32 ≤ 1452)

/-- HOST_DATAGRAM (R48): dropped and counted, or its requests taken in the order it gives them (R50, R54). -/
def execHostDatagram (dg : HostDatagram) (s : State) : Host.Outcome State Fault Refusal :=
  if s.runs 8 && dgFormed s dg then
    let k : Fin 6 := ⟨(dg.world - 3) % 6, by omega⟩
    match openDg s k.val dg with
    | none => .next (s.satInc R.sess_SESS_DROP [k.val])
    | some plain =>
      let s := (s.wr R.sess_SESS_NONCE_LO [k.val] dg.nonce).wr R.sess_SESS_NONCE_HI [k.val] (dg.nonce / 2 ^ 32)
      let x := (parseReqs dg.world dg.count plain).foldl hostTake (([] : List HostResp), s)
      .next (showReqs (sendResps k [] x.1 (clearOut x.2)))
  else .next s

/-! ## Requests -/

/-- The page a request goes to. -/
def reqPage (q : HostReq) : Nat := q.addr / 4096

/-- `q` waits for a request accepted before it (R53-R55): a fence of its world holds it, an earlier request of its world to
its page does, and so does one of another world to its page unless that one waits for a fence. What counts as arrival is
the model's choice (DESIGN CHOICE, log entry 182): a request of W3-W8 arrives with the acceptance of its datagram, and PCIe
accesses and those of the internal worlds execute as they come. -/
def reqWaits (l : List HostReq) (q : HostReq) : Bool :=
  let before := l.takeWhile (fun r => !(r.world == q.world && r.tag == q.tag))
  if q.op = 3 then before.any (fun r => r.world == q.world)
  else
    before.any (fun r => r.world == q.world && (r.op == 3 || reqPage r == reqPage q)) ||
      before.any (fun r => r.world != q.world && r.op != 3 && reqPage r == reqPage q &&
        !(before.takeWhile (fun x => x != r)).any (fun x => x.world == r.world && x.op == 3))

/-- A request ends: it leaves the queue, and its response is kept where it was executed (R50) and sent (R51). -/
def finishReq (k : Fin 6) (q : HostReq) (status : Nat) (data : List Word) (s : State) : State :=
  let r := respNow s q status data
  let kept := if status = 0 ∨ status = 1 then
      r :: s.host.kept.filter (fun x => !(x.world == q.world && x.tag == q.tag))
    else s.host.kept
  showReqs (sendDatagram k [r] { s with host := { s.host with
    reqs := s.host.reqs.filter (fun x => !(x.world == q.world && x.tag == q.tag)), kept := kept, out := [] } })

/-- The request of a session and tag that may execute now. -/
def readyReq (s : State) (k tag op : Nat) : Option HostReq :=
  if s.runs 8 then
    match s.host.reqs.find? (fun q => q.world == k + 3 && q.tag == tag) with
    | some q => if q.op = op ∧ !reqWaits s.host.reqs q = true then some q else none
    | none => none
  else none

/-- ALIGN or PAGE_CROSS of a request, 0 for neither (R49). -/
def reqStatus (q : HostReq) : Nat :=
  if q.addr % 4 ≠ 0 then 2 else if 4096 < q.addr % 4096 + 4 * (q.len + 1) then 3 else 0

/-- An address as an offset into the register window; one outside it is covered by no page (R40). -/
def hostOff (a : Nat) : Nat := if 0x40000000 ≤ a then a - 0x40000000 else 0x40000000 + a % 4096

/-- HOST_READ (R49). -/
def execHostRead (k : Fin 6) (tag : Nat) (s : State) : Host.Outcome State Fault Refusal :=
  match readyReq s k.val tag 1 with
  | none => .next s
  | some q =>
    if reqStatus q ≠ 0 then .next (finishReq k q (reqStatus q) [] s)
    else
      let r := busRead ⟨k.val + 3, by omega⟩ (hostOff q.addr) (q.len + 1) s
      let ws := r.1.map (BitVec.ofNat 32)
      .next (finishReq k q 0 ws { r.2 with host := { r.2.host with rdata := r.2.host.rdata.set (k.val + 3) ws } })

/-- HOST_WRITE (R49). -/
def execHostWrite (k : Fin 6) (tag : Nat) (s : State) : Host.Outcome State Fault Refusal :=
  match readyReq s k.val tag 2 with
  | none => .next s
  | some q =>
    if reqStatus q ≠ 0 then .next (finishReq k q (reqStatus q) [] s)
    else
      let r := busWrite ⟨k.val + 3, by omega⟩ (hostOff q.addr) (q.data.map BitVec.toNat) s
      .next (finishReq k q (b2n r.1) [] r.2)

/-- HOST_FENCE (R55). -/
def execHostFence (k : Fin 6) (tag : Nat) (s : State) : Host.Outcome State Fault Refusal :=
  match readyReq s k.val tag 3 with
  | none => .next s
  | some q => .next (finishReq k q 0 [] s)

/-! ## PCIe -/

/-- The limits of a PCIe access (R52). -/
def pcieFits (addr len : Nat) : Bool :=
  decide (4 ≤ len) && decide (len ≤ 256) && len % 4 == 0 && addr % 4 == 0 && decide (addr % 4096 + len ≤ 4096)

/-- PCIe requests are accepted as W9 (R52, PCIE_W9_EN). -/
def pcieOn (s : State) : Bool := s.runs 8 && s.rdB R.host_PCIE_W9_EN []

/-- The endpoint answers: HOST is out of reset, hold-up does not last (R571), the offset is in BAR0. -/
def pcieUp (s : State) (addr : Nat) : Bool := !s.inReset 5 && !s.reduced && decide (addr < 0x200000)

/-- What a PCIe read returned. -/
def pcieAnswer (abort : Bool) (l : List Nat) (s : State) : State :=
  { s with host := { s.host with rdata := s.host.rdata.set 9 (l.map (BitVec.ofNat 32)), pcieAbort := abort } }

/-- PCIE_READ (R52): served, a Completer Abort, or a violation of W9. -/
def execPcieRead (addr len : Nat) (s : State) : Host.Outcome State Fault Refusal :=
  if pcieUp s addr then
    if !pcieOn s then .next (pcieAnswer false (List.replicate (len / 4) 0) (s.violate 9))
    else if pcieFits addr len then
      let r := busRead 9 addr (len / 4) s
      .next (pcieAnswer false r.1 r.2)
    else .next (pcieAnswer true [] s)
  else .next s

/-- PCIE_WRITE (R52): done as W9, or discarded and counted. -/
def execPcieWrite (addr : Nat) (data : List Word) (len : Nat) (s : State) : Host.Outcome State Fault Refusal :=
  if pcieUp s addr then
    if pcieOn s && pcieFits addr len then
      .next (busWrite 9 addr ((List.range (len / 4)).map (fun k => (data.getD k 0).toNat)) s).2
    else .next (s.violate 9)
  else .next s

end Sys2Proof.Machine
end

