-- ==== Sys2Proof/Machine/Reel.lean ====
section
/-! DEFINITION. Reel channels: MOVE, its pieces and beats, and SIGNAL (19_reel_dma.md, R527-R534). -/

namespace Sys2Proof.Machine

open Sys2Proof

/-! ## Accesses -/

/-- World of a channel's accesses; none where WORLD names no world. -/
def chW (s : State) (c : Fin 64) : Option World := if h : chWorld s c < 10 then some ⟨chWorld s c, h⟩ else none

/-- One 32-bit read of a register page as the channel's world (R525). -/
def reelPageRead (c : Fin 64) (a : Nat) (s : State) : List Byte × State :=
  match chW s c with
  | some w =>
    let r := busRead w (a - 0x40000000) 1 s
    (leBytes 4 (r.1.headD 0), r.2)
  | none => (leBytes 4 0, s)

/-- A read of DRAM bytes as the channel's world, one violation where a byte is outside its grant (R43, R525). -/
def reelDramRead (c : Fin 64) (a n : Nat) (s : State) : List Byte × State :=
  ((List.range n).map (fun i => reelByte s (chWorld s c) (a + i)), chDramCount c a n false s)

/-- Bytes written at an address as the channel's world; outside the grant they are ignored (R11, R525). -/
def reelWrite (c : Fin 64) (a : Nat) (l : List Byte) (s : State) : State :=
  match chW s c with
  | some w => if inPages a then (busWrite w (a - 0x40000000) [leNat l] s).2 else memStore w a l s
  | none => s

/-! ## The engine (R533) -/

/-- A piece or burst of the channel is under way. -/
def chPiece (s : State) (c : Fin 64) : Option PieceS :=
  match (s.reel[c]).move with
  | some m => m.piece
  | none => none

/-- The accesses of the channel's piece reach DRAM, at its source or at its destination. -/
def pieceDram (p : PieceS) : Bool := inDram p.src || inDram p.dst

/-- The channel wants beats: a piece is under way, and it does not wait for DRAM in hold-up (R571). -/
def chReady (s : State) (c : Fin 64) : Bool :=
  match chPiece s c with
  | some p => chBusy s c && !(s.reduced && pieceDram p)
  | none => false

/-- A burst or piece of the channel has begun to move. -/
def chMoving (s : State) (c : Fin 64) : Bool :=
  match chPiece s c with
  | some p => !p.buf.isEmpty
  | none => false

/-- Two channels of equal PRIO. -/
def samePrio (s : State) (c d : Fin 64) : Bool := s.rd R.rch_PRIO [c.val] == s.rd R.rch_PRIO [d.val]

/-- Steps from the channel of `c`'s PRIO that held the engine last to `d`, in ascending number and wrapping round. -/
def turnOf (s : State) (c d : Fin 64) : Nat :=
  match (List.finRange 64).find? (fun x => samePrio s c x && (s.reel[x]).held) with
  | some x => (d.val + 63 - x.val) % 64
  | none => d.val

/-- The channel may take beats: of the others that want some, those of its PRIO wait for the end of its burst or piece
and come after it in turn, and every other has a lower PRIO. -/
def engineFree (s : State) (c : Fin 64) : Bool :=
  (List.finRange 64).all (fun d => d == c || !chReady s d || decide (s.rd R.rch_PRIO [d.val] < s.rd R.rch_PRIO [c.val])
    || (samePrio s c d && !chMoving s d && (chMoving s c || decide (turnOf s c c < turnOf s c d))))

/-- The channel takes the engine; a channel that loses it in the middle of a burst counts a pre-emption. -/
def takeEngine (c : Fin 64) (s : State) : State :=
  let h := s.rd R.reel_ACT_CH []
  if s.rdB R.reel_ACT_VALID [] && h == c.val then s
  else
    let s := if s.rdB R.reel_ACT_VALID [] && decide (s.rd R.rch_PRIO [h] < s.rd R.rch_PRIO [c.val]) then s.satInc R.rch_PREEMPT [h] else s
    let v := s.reel
    let s := { s with reel := Vector.ofFn (fun d => { v[d] with held := d == c || (v[d].held && !samePrio s c d) }) }
    (s.wr R.reel_ACT_VALID [] 1).wr R.reel_ACT_CH [] c.val

/-! ## Pieces -/

/-- SA and DA, 40 bits. -/
def chSa (s : State) (c : Fin 64) : Nat := s.rd R.rch_SA_HI [c.val] * 2 ^ 32 + s.rd R.rch_SA [c.val]
def chDa (s : State) (c : Fin 64) : Nat := s.rd R.rch_DA_HI [c.val] * 2 ^ 32 + s.rd R.rch_DA [c.val]

/-- SA and DA written. -/
def putSa (c : Fin 64) (a : Nat) (s : State) : State :=
  (s.wr R.rch_SA_HI [c.val] (a / 2 ^ 32 % 256)).wr R.rch_SA [c.val] (a % 2 ^ 32)
def putDa (c : Fin 64) (a : Nat) (s : State) : State :=
  (s.wr R.rch_DA_HI [c.val] (a / 2 ^ 32 % 256)).wr R.rch_DA [c.val] (a % 2 ^ 32)

/-- The MOVE changed. -/
def mvSet (c : Fin 64) (m : MoveS) (s : State) : State := s.chF c (fun h => { h with move := some m })

/-- A piece of `len` bytes of the burst begins (R530); `offered` and `fin` are what the line offers. -/
def pieceGo (c : Fin 64) (m : MoveS) (len offered : Nat) (fin : Bool) (s : State) : State :=
  let s := if len < m.bleft then s.satInc R.rch_SPLITS [c.val] else s
  mvSet c { m with
    left := m.left - len, bleft := m.bleft - len
    piece := some ⟨m.bsrc + m.boff, m.bdst + m.boff, len, offered, fin, [], 0⟩ } (s.wr R.rch_STATE [c.val] rsRun)

/-- The next burst of a MOVE (R527): with REQ it waits for its line in WAIT, otherwise it begins at once. -/
def burstGo (c : Fin 64) (m : MoveS) (s : State) : State :=
  let m := { m with bleft := min m.burst m.left, boff := 0, piece := none }
  if m.req then mvSet c m (s.wr R.rch_STATE [c.val] rsWait)
  else
    let l := reelLine s m.line
    let fin := m.eom && (match l with | some (_, e) => e | none => false)
    pieceGo c m m.bleft (match l with | some (n, true) => n | _ => m.bleft) fin s

/-- A MOVE ends: LAST_LEN, SA and DA (R527, R531), and on to the next instruction (R529). `off`: bytes of the last burst
counted. -/
def moveEnd (c : Fin 64) (m : MoveS) (off : Nat) (ecc : Bool) (s : State) : State :=
  let s := s.wr R.rch_LAST_LEN [c.val] m.moved
  let s := putDa c (if m.dinc then m.bdst + off else m.bdst) (putSa c (if m.sinc then m.bsrc + off else m.bsrc) s)
  chNext c ecc (s.chF c (fun h => { h with move := none }))

/-- A piece is written out (R529, R530, R531). -/
def pieceEnd (c : Fin 64) (m : MoveS) (p : PieceS) (ecc : Bool) (s : State) : State :=
  let s := chLeave c s
  if p.fin && m.eom then
    let n := min p.offered p.len
    moveEnd c { m with moved := m.moved + n } (m.boff + n) ecc s
  else
    let m := { m with moved := m.moved + p.len, boff := m.boff + p.len, piece := none }
    if 0 < m.bleft then mvSet c m (s.wr R.rch_STATE [c.val] rsWait)
    else if m.left = 0 then moveEnd c m m.boff ecc s
    else
      let m := { m with
        bsrc := if m.sinc then m.bsrc + m.boff else m.bsrc
        bdst := if m.dinc then m.bdst + m.boff else m.bdst }
      burstGo c m (putDa c m.bdst (putSa c m.bsrc s))

/-- Bytes of the beat at an address (R534). -/
def beatLen (p : PieceS) (a left : Nat) : Nat :=
  if inPages p.src || inPages p.dst then 4 else if a % 16 = 0 ∧ 16 ≤ left then 16 else 4

/-- One beat of the channel's piece: a read while the buffer fills, then a write (R534). The answer says whether the
error of `ecc` is still to come. -/
def chBeat (c : Fin 64) (ecc : Bool) (s : State) : Bool × State :=
  match (s.reel[c]).move with
  | none => (ecc, s)
  | some m =>
    match m.piece with
    | none => (ecc, s)
    | some p =>
      let s := (takeEngine c s).inc R.reel_BEATS []
      if p.buf.length < p.len && !(s.reel[c]).stopping then
        let a := p.src + p.buf.length
        if inPages a then
          let r := reelPageRead c a s
          (ecc, mvSet c { m with piece := some { p with buf := p.buf ++ r.1 } } r.2)
        else if inDram a then
          (if ecc then (false, chErr c 4 s)
          else
            let r := reelDramRead c a (beatLen p a (p.len - p.buf.length)) s
            (ecc, mvSet c { m with piece := some { p with buf := p.buf ++ r.1 } } r.2))
        else (ecc, chErr c 3 s)
      else
        let a := p.dst + p.put
        if inPages a || inDram a then
          let n := beatLen p a (p.buf.length - p.put)
          let s := reelWrite c a ((p.buf.drop p.put).take n) s
          let s := s.wr R.rch_BYTES [c.val] (s.rd R.rch_BYTES [c.val] + n)
          let q := { p with put := p.put + n }
          if (s.reel[c]).move.isNone then (ecc, s)
          else
          let s := mvSet c { m with piece := some q } s
          if q.put < q.buf.length then (ecc, s)
          else if (s.reel[c]).stopping then (ecc, chEnd c rsStopped s)
          else
            let s := pieceEnd c m q ecc s
            (ecc && (s.reel[c]).move.isSome, s)
        else (ecc, chErr c 3 s)

/-- Up to `n` beats of one channel. They end where the channel has no piece under way, or waits for DRAM. -/
def chBeats (c : Fin 64) : Nat → Bool → State → State
  | 0, _, s => s
  | n + 1, ecc, s =>
    if chReady s c then
      let r := chBeat c ecc s
      chBeats c n r.1 r.2
    else s

/-- The engine gives a channel up to `n` beats, where R533 lets it. -/
def runBeats (c : Fin 64) (n : Nat) (ecc : Bool) (s : State) : State :=
  if s.runs 24 && engineFree s c then chBeats c n ecc s else s

/-- The MOVE at CUR_PC begins (R527). -/
def moveGo (c : Fin 64) (s : State) : State :=
  let w0 := chInstr s c 0
  let w3 := chInstr s c 3
  let s := if bitB w0 27 then putSa c (bits w3 0 8 * 2 ^ 32 + chInstr s c 1) s else s
  let s := if bitB w0 26 then putDa c (bits w3 8 8 * 2 ^ 32 + chInstr s c 2) s else s
  burstGo c {
    req := bitB w0 23, eom := bitB w0 22, sinc := bitB w0 25, dinc := bitB w0 24, line := bits w3 16 6
    burst := 4 * (bits w0 16 6 + 1), left := 4 * (bits w0 0 16 + 1), bleft := 0, bsrc := chSa s c, bdst := chDa s c, boff := 0
    moved := 0, piece := none } s

/-- MOVE (R527): it begins, or goes on, with up to `beats` beats now. -/
def execMove (c : Fin 64) (beats : Nat) (ecc : Bool) (s : State) : Host.Outcome State Fault Refusal :=
  .next (runBeats c beats ecc (if chAt s c 1 then moveGo c s else s))

/-- A channel waits for a line before a burst or a piece of it. -/
def waitsLine (s : State) (c : Fin 64) (l : Nat) : Bool :=
  match (s.reel[c]).move with
  | some m => m.req && m.piece.isNone && m.line == l && chState s c == rsWait
  | none => false

/-- MOVE_PIECE (R530): the burst that waits takes its piece, of several channels the lowest (R532), and moves; a piece
under way goes on. -/
def execMovePiece (c : Fin 64) (beats : Nat) (ecc : Bool) (s : State) : Host.Outcome State Fault Refusal :=
  match (s.reel[c]).move with
  | none => .next s
  | some m =>
    if m.piece.isSome then .next (runBeats c beats ecc s)
    else
      match reelLine s m.line with
      | none => .next s
      | some (n, e) =>
        if 0 < n ∧ waitsLine s c m.line = true ∧ s.runs 24 = true ∧ engineFree s c = true ∧
            (List.finRange 64).all (fun d => c ≤ d || !waitsLine s d m.line) = true then
          let s := if m.line = 36 then s.brdF (fun b => { b with req := false }) else s
          .next (runBeats c beats ecc (pieceGo c m (4 * divCeil (min m.bleft n) 4) n e s))
        else .next s

/-! ## SIGNAL (R528) -/

/-- SIGNAL: WR, then KICK, IRQ and HALT, or the next instruction unless WR stopped the channel itself. -/
def execSignal (c : Fin 64) (ecc : Bool) (s : State) : Host.Outcome State Fault Refusal :=
  let w0 := chInstr s c 0
  let a := bits (chInstr s c 3) 0 8 * 2 ^ 32 + chInstr s c 1
  if !chAt s c 4 || (bitB w0 25 && inDram a && s.reduced) then .next s
  else if bitB w0 25 && !inPages a && !inDram a then .next (chErr c 3 s)
  else
    let val := chInstr s c 2
    let s := if bitB w0 25 then reelWrite c a (leBytes 4 val) s else s
    let s := if bitB w0 24 then chFlag ⟨bits w0 0 6, by simp [bits]; omega⟩ s else s
    let s := if bitB w0 27 then s.raise (chPage c) (c.val % 16) else s
    .next (if bitB w0 26 then chEnd c rsDone s else if chBusy s c then chNext c ecc s else s)

end Sys2Proof.Machine
end

