-- ==== Sys2Proof/Machine/Time.lean ====
section
/-! DEFINITION. What happens at control period starts, port loop ticks, angle 0x0000 and Spar events
(03_spar_mains_time.md, R13, R19, R20, R58, R81-R89). At one boundary CONTROL_PERIOD_START comes first, then what fires and
commits at it, then CYCLE_START and PORT_LOOP_TICK where the boundary is one (log entry 39). -/

namespace Sys2Proof.Machine

open Sys2Proof

/-! ## CONTROL_PERIOD_START -/

/-- The accumulator goes on to the next boundary (R58): after period 799 it wraps, and the cycle number advances, or takes
that of the partner's time frame where TSTATE still allows it (R74, R75); a frame that is not taken lapses. -/
def sparAdvance (s : State) : State :=
  let k := s.spar.period % 800 + 1
  let n := clocksTo s k
  let s := passClocks n s
  let wrap := decide (k = 800)
  let took := wrap && s.spar.alignFrame.isSome && mayAlign s
  let next := match s.spar.alignFrame with
    | some c => if took then c else (s.spar.cycle + 1) % 2 ^ 32
    | none => (s.spar.cycle + 1) % 2 ^ 32
  let s := s.sparF (fun p => { p with
    acc := (p.acc + n * p.inc) % 2 ^ 48
    period := k % 800
    cycle := if wrap then next else p.cycle
    serial := p.serial + 1
    tickDue := decide (k % 8 = 0)
    cycleDue := p.cycleDue || wrap
    alignFrame := if wrap then none else p.alignFrame
    firedNow := [] })
  if took then aligned s else s

/-- The boundary of this command: the one Spar stands at after its start or an alignment, otherwise the next. -/
def sparBoundary (fine : List FineTick) (s : State) : State :=
  if s.spar.periodDue then
    (passClocks ((fine.getLast?.map tickStop).getD 0) s).sparF (fun p => { p with periodDue := false, firedNow := [] })
  else sparAdvance s

/-- Meters at a period start: the last period is measured, then at a cycle start the step ends, and at the start of
period 2 its addition is due (R306, R318, R321). -/
def meterStart (fine : List FineTick) (s : State) : State :=
  let s := metersPeriod fine s
  if s.spar.period = 0 then closeSteps ((s.spar.cycle + 2 ^ 32 - 1) % 2 ^ 32) s
  else if s.spar.period = 2 then { s with addDue := true }
  else s

/-- Every per-period action, in the order in which one feeds the next. -/
def periodActions (q : PeriodIn) (s : State) : State :=
  let s := ringPass s.spar.clocks { s with windowClosed := false, windowSent := false }
  let s := if s.spar.period % 8 = 7 then sparSample q.ref s else s
  let s := if s.inReset 8 then s else foldS (List.finRange 128) (fun s i => if lineIdle s i then s else linePeriod i s) s
  let s := meterStart q.fine s
  let s := if s.spar.period % 4 = 0 ∧ thrmRuns s = true then s.thF (fun t => { t with slotDue := true }) else s
  let s := rstPeriod q (safePeriod q (railGone q (lswPeriod q (railSample q.vrail s))))
  let s := coolShow (sessionPeriod (tethPeriod s))
  let s := if s.runs 64 then burnerPeriod (s.brnF (fun b => { b with done := false })) else s
  reelPeriod (jobAccept (billPeriod s))

/-- CONTROL_PERIOD_START (R58). -/
def execControlPeriodStart (q : PeriodIn) (s : State) : Host.Outcome State Fault Refusal :=
  .next (if s.sparRuns then periodActions q (sparBoundary q.fine s) else s)

/-! ## PORT_LOOP_TICK (R19) -/

/-- The module sensors, and RELEASE where they set SD_PEND (R391, R394, R474). -/
def tickTemps (td : List (Option Int)) (s : State) : State :=
  if s.inReset 16 then s
  else
    let was := s.rdB R.thrm_SD_PEND []
    let s := moduleTemps td s
    if s.rdB R.thrm_SD_PEND [] && !was then tethRelease s else s

/-- PORT_LOOP_TICK (R19): Spar's loop filter, module sensors, port loops, Bridle's inputs of period 792, with the Loft entries
`ecc` that fail their ECC check at the next latch (R210). -/
def execPortLoopTick (ecc : List (Fin 4096)) (td : List (Option Int)) (s : State) : Host.Outcome State Fault Refusal :=
  if s.sparRuns && s.spar.tickDue then
    let s := tickTemps td (sparTick s)
    let s := if s.runs 64 then burnerTick s else s
    .next (if s.runs 128 then brdTick ecc s else s)
  else .next s

/-! ## CYCLE_START -/

/-- The payload of a time frame, little-endian (R89). -/
def timeFrameBytes (f : TimeFrame) : List Byte :=
  leBytes 2 f.version ++ leBytes 1 f.slot ++ leBytes 1 f.lock ++ leBytes 4 f.cycle ++ leBytes 8 f.wall ++ leBytes 4 f.freq ++
    leBytes 2 f.claim ++ leBytes 2 f.flags

/-- A time frame at a ring port: priority 6, group address 03-4B-4E-00-53-50, EtherType 0x88B5 (R24, R89). -/
def timeFrameRing (f : TimeFrame) : RingFrame := ⟨6, some 0x034B4E005350, 0x88B5, ethPad (timeFrameBytes f), none⟩

/-- The time frame of this angle 0x0000 (R89, R463). -/
def timeFrame (s : State) : TimeFrame :=
  { version := 1, slot := b2n s.slotY, lock := lockOf s, cycle := s.spar.cycle, wall := s.rd R.spar_WALL_AT0 []
    freq := s.spar.freq / 1000000, claim := if s.active then s.rd R.teth_CLAIM [] else 0
    flags := s.rd R.wall_VALID [] + 2 * s.rd R.wall_AUTH [] + 4 * s.rd R.spar_FOLLOW [] }

/-- TIME_FRAME_TX: one time frame on each ring port (R89). -/
def timeFrameTx (s : State) : State :=
  let f := timeFrame s
  if s.rdB R.spar_TF_EN [] then
    ringPut 0 (timeFrameRing f) (ringPut 1 (timeFrameRing f) (s.sparF (fun p => { p with frameOut := some f })))
  else s.sparF (fun p => { p with frameOut := none })

/-- The actions of a cycle start (R20, R79, R89, R187, R307, R365, R389, R469, R471, R581). -/
def cycleActions (s : State) : State :=
  let s := s.sparF (fun p => { p with cycleDue := false })
  let s := timeFrameTx (cycMark (s.wr R.spar_WALL_AT0 [] (wallMs s)))
  let s := coolLoops (billCycle (metersCycle s))
  tethLatch (brdCycle (stackNow s) (tethCycle s))

/-- CYCLE_START (R58). -/
def execCycleStart (s : State) : Host.Outcome State Fault Refusal :=
  .next (if s.sparRuns && s.spar.cycleDue && !s.spar.periodDue then cycleActions s else s)

/-! ## EVENT_FIRE (R81-R88) -/

/-- A snapshot of the meters and, of the stages, of this period's measurements, once in a period (R86, R88). -/
def snapshot (s : State) : State :=
  if s.spar.lastSnap = some s.spar.serial then s
  else snapMeters (s.sparF (fun p => { p with lastSnap := some p.serial }))

/-- An event fires in this period or has done so. -/
def firesNow (s : State) (n : Nat) : Bool := s.spar.firedNow.contains n || (evtDue s n && isStrobe s n)

/-- The boundary strobe, once in a period (R87, R88, R351). -/
def strobe (s : State) : State :=
  if s.spar.lastStrobe = some s.spar.serial then s
  else
    let e0 := firesNow s 0
    let e1 := firesNow s 1
    let seq := (s.rd R.spar_STROBE_SEQ [] + 1) % 256
    let s := ((s.wr R.spar_STROBE_CYCLE [] s.spar.cycle).wr R.spar_STROBE_PERIOD [] s.spar.period).wr R.spar_STROBE_SEQ [] seq
    let s := (s.raise 4 4).sparF (fun p => { p with lastStrobe := some p.serial })
    if s.inReset 15 then s else billStrobe seq e0 e1 s

/-- A strobe that falls too close behind the last one waits for the fourth period after it (R88). -/
def strobeDefer (n : Nat) (s : State) : State :=
  (markLate n s).sparF (fun p => { p with
    deferred := n :: p.deferred.filter (· ≠ n)
    notBefore := sput 0 p.notBefore n ((p.lastStrobe.getD 0) + 4) })

/-- An event fires with everything it does (R81-R88, R159, R366, R511, R528). -/
def eventFire (n : Nat) (s : State) : State :=
  let snap := isSnap s n
  let str := isStrobe s n
  let s := evtFireSelf n s
  let s := if snap then snapshot s else s
  let s := if str then strobe s else s
  let s := if n = 2 ∧ s.inReset 15 = false then billSnap s else s
  let s := if s.runs 64 then spoolKind 4 n s else s
  reelEvent n (canEvent n s)

/-- EVENT_FIRE (R81). -/
def execEventFire (n : Fin 256) (s : State) : Host.Outcome State Fault Refusal :=
  .next (
    if !s.sparRuns || s.spar.periodDue || !evtDue s n.val then s
    else if isStrobe s n.val && strobeTooSoon s then strobeDefer n.val s
    else eventFire n.val s)

end Sys2Proof.Machine
end

