-- ==== Sys2Proof/Machine/Dispatch.lean ====
section
/-! DEFINITION. The dispatch: one arm for each command. -/

namespace Sys2Proof.Machine

open Sys2Proof

/-- The effect of a command on everything but the queue. -/
def exec (i : Instr) (s : State) : Host.Outcome State Fault Refusal :=
  match i with
  | .registerWrite w addr size v => Sys2Proof.Machine.execRegisterWrite w addr size v s
  | .commit w p => Sys2Proof.Machine.execCommit w p s
  | .cancel w p => Sys2Proof.Machine.execCancel w p s
  | .commitApply u => Sys2Proof.Machine.execCommitApply u s
  | .aCommit w st => Sys2Proof.Machine.execACommit w st s
  | .aCancel w st => Sys2Proof.Machine.execACancel w st s
  | .brst w p => Sys2Proof.Machine.execBrst w p s
  | .irqClr w p v => Sys2Proof.Machine.execIrqClr w p v s
  | .irqSet w p v => Sys2Proof.Machine.execIrqSet w p v s
  | .errClear w p => Sys2Proof.Machine.execErrClear w p s
  | .ownerWrite w p v => Sys2Proof.Machine.execOwnerWrite w p v s
  | .violClr w v => Sys2Proof.Machine.execViolClr w v s
  | .sessEnable w k => Sys2Proof.Machine.execSessEnable w k s
  | .hostDatagram dg => Sys2Proof.Machine.execHostDatagram dg s
  | .hostRead k tag => Sys2Proof.Machine.execHostRead k tag s
  | .hostWrite k tag => Sys2Proof.Machine.execHostWrite k tag s
  | .hostFence k tag => Sys2Proof.Machine.execHostFence k tag s
  | .pcieRead addr len => Sys2Proof.Machine.execPcieRead addr len s
  | .pcieWrite addr data len => Sys2Proof.Machine.execPcieWrite addr data len s
  | .controlPeriodStart q => Sys2Proof.Machine.execControlPeriodStart q s
  | .portLoopTick ecc td => Sys2Proof.Machine.execPortLoopTick ecc td s
  | .cycleStart => Sys2Proof.Machine.execCycleStart s
  | .referenceCycle l1 l2 l3 => Sys2Proof.Machine.execReferenceCycle l1 l2 l3 s
  | .sparEnable w => Sys2Proof.Machine.execSparEnable w s
  | .followSet w => Sys2Proof.Machine.execFollowSet w s
  | .followClear w => Sys2Proof.Machine.execFollowClear w s
  | .align period angle => Sys2Proof.Machine.execAlign period angle s
  | .sparTimeFrameRx f => Sys2Proof.Machine.execSparTimeFrameRx f s
  | .wallApply w => Sys2Proof.Machine.execWallApply w s
  | .wallStep => Sys2Proof.Machine.execWallStep s
  | .wallSlewEnd => Sys2Proof.Machine.execWallSlewEnd s
  | .eventEntryWrite w n v => Sys2Proof.Machine.execEventEntryWrite w n v s
  | .eventFire n => Sys2Proof.Machine.execEventFire n s
  | .evtFiredClear w late st v => Sys2Proof.Machine.execEvtFiredClear w late st v s
  | .setbackClear w => Sys2Proof.Machine.execSetbackClear w s
  | .uplinkMeas st body coding sof => Sys2Proof.Machine.execUplinkMeas st body coding sof s
  | .uplinkIdent st body coding sof => Sys2Proof.Machine.execUplinkIdent st body coding sof s
  | .uplinkWindowClose => Sys2Proof.Machine.execUplinkWindowClose s
  | .lineLost st => Sys2Proof.Machine.execLineLost st s
  | .downlinkWindow heard echo => Sys2Proof.Machine.execDownlinkWindow heard echo s
  | .lineAttach w st => Sys2Proof.Machine.execLineAttach w st s
  | .attachTimeout st => Sys2Proof.Machine.execAttachTimeout st s
  | .lineLenWrite w st b => Sys2Proof.Machine.execLineLenWrite w st b s
  | .lineFaultClr w st => Sys2Proof.Machine.execLineFaultClr w st s
  | .lineCntClr w st => Sys2Proof.Machine.execLineCntClr w st s
  | .drvCommandFrame st body coding eof iNow => Sys2Proof.Machine.execDrvCommandFrame st body coding eof iNow s
  | .drvSafeFrame st body coding eof iNow => Sys2Proof.Machine.execDrvSafeFrame st body coding eof iNow s
  | .drvProbe st body rx => Sys2Proof.Machine.execDrvProbe st body rx s
  | .drvAttach st body rx => Sys2Proof.Machine.execDrvAttach st body rx s
  | .driverPeriodStart st m hwlim => Sys2Proof.Machine.execDriverPeriodStart st m hwlim s
  | .driverFault st cause on => Sys2Proof.Machine.execDriverFault st cause on s
  | .selectorMoveDone st weld => Sys2Proof.Machine.execSelectorMoveDone st weld s
  | .stageFailed st => Sys2Proof.Machine.execStageFailed st s
  | .bankWrite w b k v => Sys2Proof.Machine.execBankWrite w b k v s
  | .bankCheck w v => Sys2Proof.Machine.execBankCheck w v s
  | .bankDone b => Sys2Proof.Machine.execBankDone b s
  | .failSet w st => Sys2Proof.Machine.execFailSet w st s
  | .failClr w st => Sys2Proof.Machine.execFailClr w st s
  | .satClr w st => Sys2Proof.Machine.execSatClr w st s
  | .loadClr w => Sys2Proof.Machine.execLoadClr w s
  | .spoolArm w => Sys2Proof.Machine.execSpoolArm w s
  | .spoolStop w => Sys2Proof.Machine.execSpoolStop w s
  | .swtrig w => Sys2Proof.Machine.execSwtrig w s
  | .spoolDone => Sys2Proof.Machine.execSpoolDone s
  | .shortSoftstart p => Sys2Proof.Machine.execShortSoftstart p s
  | .burstEntry p => Sys2Proof.Machine.execBurstEntry p s
  | .burstRotate p => Sys2Proof.Machine.execBurstRotate p s
  | .faultRouteOpen st => Sys2Proof.Machine.execFaultRouteOpen st s
  | .handoverAbort st => Sys2Proof.Machine.execHandoverAbort st s
  | .hoAbortClear w st => Sys2Proof.Machine.execHoAbortClear w st s
  | .solveDone => Sys2Proof.Machine.execSolveDone s
  | .planLate => Sys2Proof.Machine.execPlanLate s
  | .loftHoldTimeout => Sys2Proof.Machine.execLoftHoldTimeout s
  | .pilotConfirm p hi lo ce id pp agree => Sys2Proof.Machine.execPilotConfirm p hi lo ce id pp agree s
  | .linkUp w p => Sys2Proof.Machine.execLinkUp w p s
  | .authOk w p => Sys2Proof.Machine.execAuthOk w p s
  | .authFail w p => Sys2Proof.Machine.execAuthFail w p s
  | .isoGo w p => Sys2Proof.Machine.execIsoGo w p s
  | .preGo w p => Sys2Proof.Machine.execPreGo w p s
  | .startSession w p => Sys2Proof.Machine.execStartSession w p s
  | .stopSession w p => Sys2Proof.Machine.execStopSession w p s
  | .pause w p => Sys2Proof.Machine.execPause w p s
  | .resume w p => Sys2Proof.Machine.execResume w p s
  | .weldDone w p => Sys2Proof.Machine.execWeldDone w p s
  | .newSess w p => Sys2Proof.Machine.execNewSess w p s
  | .oos w p => Sys2Proof.Machine.execOos w p s
  | .inService w p => Sys2Proof.Machine.execInService w p s
  | .hb w p => Sys2Proof.Machine.execHb w p s
  | .billDisc w p => Sys2Proof.Machine.execBillDisc w p s
  | .hbLost p => Sys2Proof.Machine.execHbLost p s
  | .linkTmo p => Sys2Proof.Machine.execLinkTmo p s
  | .authTmo p => Sys2Proof.Machine.execAuthTmo p s
  | .readyTmo p => Sys2Proof.Machine.execReadyTmo p s
  | .isoTmo p => Sys2Proof.Machine.execIsoTmo p s
  | .preTmo p => Sys2Proof.Machine.execPreTmo p s
  | .rampTmo p => Sys2Proof.Machine.execRampTmo p s
  | .pauseTmo p => Sys2Proof.Machine.execPauseTmo p s
  | .weldTmo p => Sys2Proof.Machine.execWeldTmo p s
  | .contTmo p => Sys2Proof.Machine.execContTmo p s
  | .dischTmo p => Sys2Proof.Machine.execDischTmo p s
  | .contactorFeedback p closed => Sys2Proof.Machine.execContactorFeedback p closed s
  | .isoSettleDone p => Sys2Proof.Machine.execIsoSettleDone p s
  | .isoMeasureDone p ohm => Sys2Proof.Machine.execIsoMeasureDone p ohm s
  | .isoMonResult p ohm vMean => Sys2Proof.Machine.execIsoMonResult p ohm vMean s
  | .dischargeDone p => Sys2Proof.Machine.execDischargeDone p s
  | .stopped p => Sys2Proof.Machine.execStopped p s
  | .contWeldClear w p => Sys2Proof.Machine.execContWeldClear w p s
  | .evtDropClear w p v => Sys2Proof.Machine.execEvtDropClear w p v s
  | .vlnkEnable w p => Sys2Proof.Machine.execVlnkEnable w p s
  | .dadDone p collision => Sys2Proof.Machine.execDadDone p collision s
  | .neighbourSolicitation p => Sys2Proof.Machine.execNeighbourSolicitation p s
  | .echoRequest p data => Sys2Proof.Machine.execEchoRequest p data s
  | .cmSlacParamReq p mac run => Sys2Proof.Machine.execCmSlacParamReq p mac run s
  | .cmStartAttenCharInd p run n => Sys2Proof.Machine.execCmStartAttenCharInd p run n s
  | .cmMnbcSoundInd p run att => Sys2Proof.Machine.execCmMnbcSoundInd p run att s
  | .soundingEnd p => Sys2Proof.Machine.execSoundingEnd p s
  | .cmValidateReq p run => Sys2Proof.Machine.execCmValidateReq p run s
  | .cmSlacMatchReq p run => Sys2Proof.Machine.execCmSlacMatchReq p run s
  | .cmAmpMapReq p => Sys2Proof.Machine.execCmAmpMapReq p s
  | .slacMatched p => Sys2Proof.Machine.execSlacMatched p s
  | .slacTimeout p => Sys2Proof.Machine.execSlacTimeout p s
  | .sdpRequest p ip mac reqTls => Sys2Proof.Machine.execSdpRequest p ip mac reqTls s
  | .tcpSyn p ip isn => Sys2Proof.Machine.execTcpSyn p ip isn s
  | .tcpSegment p ip seq ack data rst fin => Sys2Proof.Machine.execTcpSegment p ip seq ack data rst fin s
  | .tlsRecord p => Sys2Proof.Machine.execTlsRecord p s
  | .tcpRetxTimeout p => Sys2Proof.Machine.execTcpRetxTimeout p s
  | .vlnkTxGo w p => Sys2Proof.Machine.execVlnkTxGo w p s
  | .vlnkRxPop w p => Sys2Proof.Machine.execVlnkRxPop w p s
  | .rxResume w p => Sys2Proof.Machine.execRxResume w p s
  | .keyRxOn w p => Sys2Proof.Machine.execKeyRxOn w p s
  | .keyTxOn w p => Sys2Proof.Machine.execKeyTxOn w p s
  | .abortLink w p => Sys2Proof.Machine.execAbortLink w p s
  | .vlnkWindowRead w p k => Sys2Proof.Machine.execVlnkWindowRead w p k s
  | .vlnkCntClr w p => Sys2Proof.Machine.execVlnkCntClr w p s
  | .beacon c rail => Sys2Proof.Machine.execBeacon c rail s
  | .windsockDone c down snr => Sys2Proof.Machine.execWindsockDone c down snr s
  | .tmAgeExpiry d => Sys2Proof.Machine.execTmAgeExpiry d s
  | .assocRequest c rq => Sys2Proof.Machine.execAssocRequest c rq s
  | .leaveInd d => Sys2Proof.Machine.execLeaveInd d s
  | .leaveTimeout d => Sys2Proof.Machine.execLeaveTimeout d s
  | .kick w d => Sys2Proof.Machine.execKick w d s
  | .tmNow w d => Sys2Proof.Machine.execTmNow w d s
  | .splcRxMessage d typ seq body => Sys2Proof.Machine.execSplcRxMessage d typ seq body s
  | .frameExchangeDone d acked total bad resent blanked queued => Sys2Proof.Machine.execFrameExchangeDone d acked total bad resent blanked queued s
  | .splcTxGo w => Sys2Proof.Machine.execSplcTxGo w s
  | .splcRxPop w => Sys2Proof.Machine.execSplcRxPop w s
  | .dispenserBeaconLoss d => Sys2Proof.Machine.execDispenserBeaconLoss d s
  | .meterAddition => Sys2Proof.Machine.execMeterAddition s
  | .pulseEmit n => Sys2Proof.Machine.execPulseEmit n s
  | .zeroCrossing c ph at_ x => Sys2Proof.Machine.execZeroCrossing c ph at_ x s
  | .zcLost c ph => Sys2Proof.Machine.execZcLost c ph s
  | .modf b bad => Sys2Proof.Machine.execModf b bad s
  | .mclkTaken g => Sys2Proof.Machine.execMclkTaken g s
  | .meterLoad w m => Sys2Proof.Machine.execMeterLoad w m s
  | .sealChange on => Sys2Proof.Machine.execSealChange on s
  | .meterFlagClear w pulse m v => Sys2Proof.Machine.execMeterFlagClear w pulse m v s
  | .boundarySequence => Sys2Proof.Machine.execBoundarySequence s
  | .bootComplete => Sys2Proof.Machine.execBootComplete s
  | .sessionOpen prepay lowAt ident => Sys2Proof.Machine.execSessionOpen prepay lowAt ident s
  | .sessionClose => Sys2Proof.Machine.execSessionClose s
  | .credit token amount sig => Sys2Proof.Machine.execCredit token amount sig s
  | .calPart ofs data => Sys2Proof.Machine.execCalPart ofs data s
  | .calCommit sig => Sys2Proof.Machine.execCalCommit sig s
  | .billRead kind index ofs => Sys2Proof.Machine.execBillRead kind index ofs s
  | .discFail p => Sys2Proof.Machine.execDiscFail p s
  | .displayFrame => Sys2Proof.Machine.execDisplayFrame s
  | .displayItemAdvance => Sys2Proof.Machine.execDisplayItemAdvance s
  | .conversionSlot raw => Sys2Proof.Machine.execConversionSlot raw s
  | .ptripClear w v => Sys2Proof.Machine.execPtripClear w v s
  | .throttleStep => Sys2Proof.Machine.execThrottleStep s
  | .thermalShutdown => Sys2Proof.Machine.execThermalShutdown s
  | .sync w => Sys2Proof.Machine.execSync w s
  | .blankingEnd n => Sys2Proof.Machine.execBlankingEnd n s
  | .tripI n => Sys2Proof.Machine.execTripI n s
  | .tripDt n dt => Sys2Proof.Machine.execTripDt n dt s
  | .caseTrip tcase => Sys2Proof.Machine.execCaseTrip tcase s
  | .channelRetry n => Sys2Proof.Machine.execChannelRetry n s
  | .retryCountReset n => Sys2Proof.Machine.execRetryCountReset n s
  | .openLoad n => Sys2Proof.Machine.execOpenLoad n s
  | .clr w n => Sys2Proof.Machine.execClr w n s
  | .caseClr w => Sys2Proof.Machine.execCaseClr w s
  | .peakClr w n => Sys2Proof.Machine.execPeakClr w n s
  | .railLossClear w => Sys2Proof.Machine.execRailLossClear w s
  | .limpEnChange on pins => Sys2Proof.Machine.execLimpEnChange on pins s
  | .limpTripClear n => Sys2Proof.Machine.execLimpTripClear n s
  | .keeperHoldExpiry n => Sys2Proof.Machine.execKeeperHoldExpiry n s
  | .lswEnable w => Sys2Proof.Machine.execLswEnable w s
  | .fieldRailSag v => Sys2Proof.Machine.execFieldRailSag v s
  | .fieldRailLoss v => Sys2Proof.Machine.execFieldRailLoss v s
  | .fieldRailReturn v => Sys2Proof.Machine.execFieldRailReturn v s
  | .safeEnable w => Sys2Proof.Machine.execSafeEnable w s
  | .safeCheckDone hs ls => Sys2Proof.Machine.execSafeCheckDone hs ls s
  | .safeDisable w => Sys2Proof.Machine.execSafeDisable w s
  | .inputSample a b => Sys2Proof.Machine.execInputSample a b s
  | .discrepancyTimeout n => Sys2Proof.Machine.execDiscrepancyTimeout n s
  | .ripPanelStopStart p => Sys2Proof.Machine.execRipPanelStopStart p s
  | .rampDeadline p => Sys2Proof.Machine.execRampDeadline p s
  | .removalComplete p => Sys2Proof.Machine.execRemovalComplete p s
  | .darkPulseTest n fell => Sys2Proof.Machine.execDarkPulseTest n fell s
  | .openCoil n => Sys2Proof.Machine.execOpenCoil n s
  | .xatchFrameRx ringB src payload => Sys2Proof.Machine.execXatchFrameRx ringB src payload s
  | .xatchWatchdogExpiry n => Sys2Proof.Machine.execXatchWatchdogExpiry n s
  | .xatchSend m => Sys2Proof.Machine.execXatchSend m s
  | .xchCntClr w => Sys2Proof.Machine.execXchCntClr w s
  | .safetyWordRx x crcOk => Sys2Proof.Machine.execSafetyWordRx x crcOk s
  | .safetyWordLost => Sys2Proof.Machine.execSafetyWordLost s
  | .standbyOutputTimeout => Sys2Proof.Machine.execStandbyOutputTimeout s
  | .sharedStuck p => Sys2Proof.Machine.execSharedStuck p s
  | .islandLockstepMismatch => Sys2Proof.Machine.execIslandLockstepMismatch s
  | .tetherWordRx x chunk => Sys2Proof.Machine.execTetherWordRx x chunk s
  | .laneFault => Sys2Proof.Machine.execLaneFault s
  | .tetherDown => Sys2Proof.Machine.execTetherDown s
  | .healthReportRx body => Sys2Proof.Machine.execHealthReportRx body s
  | .hlthLost => Sys2Proof.Machine.execHlthLost s
  | .fallbackFrameRx chunk => Sys2Proof.Machine.execFallbackFrameRx chunk s
  | .takeClaim => Sys2Proof.Machine.execTakeClaim s
  | .releaseClaim w => Sys2Proof.Machine.execReleaseClaim w s
  | .take w => Sys2Proof.Machine.execTake w s
  | .tethEnable w => Sys2Proof.Machine.execTethEnable w s
  | .joinWaitExpiry => Sys2Proof.Machine.execJoinWaitExpiry s
  | .demotedClear w => Sys2Proof.Machine.execDemotedClear w s
  | .tethCntClr w => Sys2Proof.Machine.execTethCntClr w s
  | .blstEnumerate w r => Sys2Proof.Machine.execBlstEnumerate w r s
  | .enumReturn r ret next => Sys2Proof.Machine.execEnumReturn r ret next s
  | .ringBreak r fromB ret reached => Sys2Proof.Machine.execRingBreak r fromB ret reached s
  | .measurementSlot r => Sys2Proof.Machine.execMeasurementSlot r s
  | .slotReadingsDone r blocks moves => Sys2Proof.Machine.execSlotReadingsDone r blocks moves s
  | .faultCode r on => Sys2Proof.Machine.execFaultCode r on s
  | .tripClr w r => Sys2Proof.Machine.execTripClr w r s
  | .owNow w r => Sys2Proof.Machine.execOwNow w r s
  | .monReset r m fromB f => Sys2Proof.Machine.execMonReset r m fromB f s
  | .monEnum r m fromB f => Sys2Proof.Machine.execMonEnum r m fromB f s
  | .monConfig r m fromB f => Sys2Proof.Machine.execMonConfig r m fromB f s
  | .monHush r m fromB f => Sys2Proof.Machine.execMonHush r m fromB f s
  | .monConvert r m fromB f cells msum temp => Sys2Proof.Machine.execMonConvert r m fromB f cells msum temp s
  | .monRead r m fromB f => Sys2Proof.Machine.execMonRead r m fromB f s
  | .monBalance r m fromB f => Sys2Proof.Machine.execMonBalance r m fromB f s
  | .cellComparatorTrip r m ov uv intern => Sys2Proof.Machine.execCellComparatorTrip r m ov uv intern s
  | .monitorTimeout r m => Sys2Proof.Machine.execMonitorTimeout r m s
  | .hopBreak r m toB => Sys2Proof.Machine.execHopBreak r m toB s
  | .hopRestore r m toB => Sys2Proof.Machine.execHopRestore r m toB s
  | .txreq w c o => Sys2Proof.Machine.execTxreq w c o s
  | .canCancel w c o => Sys2Proof.Machine.execCanCancel w c o s
  | .boRec w c => Sys2Proof.Machine.execBoRec w c s
  | .newdatClear w c o => Sys2Proof.Machine.execNewdatClear w c o s
  | .canCntClr w c => Sys2Proof.Machine.execCanCntClr w c s
  | .arbitrationStart c => Sys2Proof.Machine.execArbitrationStart c s
  | .canTxSuccess c => Sys2Proof.Machine.execCanTxSuccess c s
  | .arbitrationLost c => Sys2Proof.Machine.execArbitrationLost c s
  | .canError c e eights => Sys2Proof.Machine.execCanError c e eights s
  | .canFrameRx c f => Sys2Proof.Machine.execCanFrameRx c f s
  | .busOffRecoveryDone c => Sys2Proof.Machine.execBusOffRecoveryDone c s
  | .canDisable w c => Sys2Proof.Machine.execCanDisable w c s
  | .reelStart w c ecc => Sys2Proof.Machine.execReelStart w c ecc s
  | .reelStop w c => Sys2Proof.Machine.execReelStop w c s
  | .reelFlag w c => Sys2Proof.Machine.execReelFlag w c s
  | .reelCntClr w c => Sys2Proof.Machine.execReelCntClr w c s
  | .move c beats ecc => Sys2Proof.Machine.execMove c beats ecc s
  | .movePiece c beats ecc => Sys2Proof.Machine.execMovePiece c beats ecc s
  | .loop c ecc => Sys2Proof.Machine.execLoop c ecc s
  | .wait c => Sys2Proof.Machine.execWait c s
  | .waitEnd c ecc => Sys2Proof.Machine.execWaitEnd c ecc s
  | .signal c ecc => Sys2Proof.Machine.execSignal c ecc s
  | .slotAttributeWrite w k second v => Sys2Proof.Machine.execSlotAttributeWrite w k second v s
  | .clrGo w => Sys2Proof.Machine.execClrGo w s
  | .regionWrite w r k v => Sys2Proof.Machine.execRegionWrite w r k v s
  | .hash w st => Sys2Proof.Machine.execHash w st s
  | .hmac w st => Sys2Proof.Machine.execHmac w st s
  | .gcmEnc w st => Sys2Proof.Machine.execGcmEnc w st s
  | .gcmDec w st => Sys2Proof.Machine.execGcmDec w st s
  | .sign w st => Sys2Proof.Machine.execSign w st s
  | .verify w st => Sys2Proof.Machine.execVerify w st s
  | .keygen w st => Sys2Proof.Machine.execKeygen w st s
  | .ecdh w st => Sys2Proof.Machine.execEcdh w st s
  | .kdf w st => Sys2Proof.Machine.execKdf w st s
  | .importKey w st => Sys2Proof.Machine.execImportKey w st s
  | .wrap w st => Sys2Proof.Machine.execWrap w st s
  | .unwrap w st => Sys2Proof.Machine.execUnwrap w st s
  | .random w st => Sys2Proof.Machine.execRandom w st s
  | .pubread w st => Sys2Proof.Machine.execPubread w st s
  | .jobComplete w st => Sys2Proof.Machine.execJobComplete w st s
  | .rngFail => Sys2Proof.Machine.execRngFail s
  | .lcGo w => Sys2Proof.Machine.execLcGo w s
  | .lcDone => Sys2Proof.Machine.execLcDone s
  | .dbgArm w => Sys2Proof.Machine.execDbgArm w s
  | .ringSupplyLoss portB => Sys2Proof.Machine.execRingSupplyLoss portB s
  | .ringSupplyGood portB => Sys2Proof.Machine.execRingSupplyGood portB s
  | .huW0 w => Sys2Proof.Machine.execHuW0 w s
  | .huW1 w => Sys2Proof.Machine.execHuW1 w s
  | .holdupExhausted => Sys2Proof.Machine.execHoldupExhausted s
  | .powerOnReset aOk bOk => Sys2Proof.Machine.execPowerOnReset aOk bOk s
  | .brownOut => Sys2Proof.Machine.execBrownOut s
  | .watchdogExpiry k => Sys2Proof.Machine.execWatchdogExpiry k s
  | .gKick w => Sys2Proof.Machine.execGKick w s
  | .bKick w => Sys2Proof.Machine.execBKick w s
  | .eKick w => Sys2Proof.Machine.execEKick w s
  | .swGo w => Sys2Proof.Machine.execSwGo w s
  | .extRst => Sys2Proof.Machine.execExtRst s
  | .debugReset => Sys2Proof.Machine.execDebugReset s
  | .resetAccept => Sys2Proof.Machine.execResetAccept s
  | .resetApply => Sys2Proof.Machine.execResetApply s
  | .optionLoad => Sys2Proof.Machine.execOptionLoad s
  | .bootVerify => Sys2Proof.Machine.execBootVerify s
  | .blockRelease b => Sys2Proof.Machine.execBlockRelease b s
  | .clkFail b => Sys2Proof.Machine.execClkFail b s
  | .retryGo w => Sys2Proof.Machine.execRetryGo w s
  | .brstIdleReached p => Sys2Proof.Machine.execBrstIdleReached p s
  | .idleTimeout p => Sys2Proof.Machine.execIdleTimeout p s
  | .idleToClear w v => Sys2Proof.Machine.execIdleToClear w v s
  | .refFail => Sys2Proof.Machine.execRefFail s
  | .pllLost k => Sys2Proof.Machine.execPllLost k s
  | .runW1 w => Sys2Proof.Machine.execRunW1 w s
  | .runW2 w => Sys2Proof.Machine.execRunW2 w s
  | .modeWrite w v => Sys2Proof.Machine.execModeWrite w v s
  | .flashProgram w => Sys2Proof.Machine.execFlashProgram w s
  | .flashErase w => Sys2Proof.Machine.execFlashErase w s
  | .flashDone => Sys2Proof.Machine.execFlashDone s
  | .tetherReturn two => Sys2Proof.Machine.execTetherReturn two s
  | .driverReset st => Sys2Proof.Machine.execDriverReset st s
  | .canBusIdle c => Sys2Proof.Machine.execCanBusIdle c s
  | .shutdownResetRelease td => Sys2Proof.Machine.execShutdownResetRelease td s
  | .caseTripSelfClear tcase => Sys2Proof.Machine.execCaseTripSelfClear tcase s
  | .uncorrectableEccError => Sys2Proof.Machine.execUncorrectableEccError s

end Sys2Proof.Machine
end

