-- ==== Sys2Proof/Safety.lean ====
section
/-! DEFINITION. The terms the statements use: a command that completes, what a command leaves alone, and the canonical
form that every step keeps. -/

namespace Sys2Proof.Machine

open Sys2Proof

/-- The command completes at `s` with a next state of which `P` holds. -/
def Gives (c : Instr) (s : State) (P : State → Prop) : Prop := ∃ t, exec c s = .next t ∧ P t

/-- Every register field but those at the listed keys reads as before, in its active and in its shadow copy. -/
def RegsBut (s t : State) (ks : List Nat) : Prop :=
  ∀ (r : Row) (ix : List Nat), r.key ix ∉ ks →
    t.rd r ix = s.rd r ix ∧ t.regs.getShadow r ix = s.regs.getShadow r ix

/-- Nothing but the register fields at the listed keys changes. -/
def OnlyRegs (s t : State) (ks : List Nat) : Prop := RegsBut s t ks ∧ { t with regs := s.regs } = s

/-- Every register field outside the byte addresses from `a` below `b` reads as before. -/
def RegsIn (s t : State) (a b : Nat) : Prop :=
  ∀ (r : Row) (ix : List Nat), r.key ix < 8 * a ∨ 8 * b ≤ r.key ix →
    t.rd r ix = s.rd r ix ∧ t.regs.getShadow r ix = s.regs.getShadow r ix

/-- The canonical form of the state: equal register files and equal memories are equal data. The BILL registers that the
last record saved (R379) are a register file too. -/
def State.canon (s : State) : Bool :=
  s.regs.wf && s.bill.saved.wf && Memory.wf s.dram && Memory.wf s.sram0 && Memory.wf s.sram1 && Memory.wf s.flash

/-- The world that writes and the page it writes, for a command that is a write under the grant of OWNER (R42); none for
the others, and for OWNER itself and the entries E000-E031, which have rules of their own (R41, R80). -/
def writerOf : Instr → Option (World × Nat)
  | .commit w p => some (w, p.val)
  | .cancel w p => some (w, p.val)
  | .aCommit w i => some (w, 65 + i.val / 4)
  | .aCancel w i => some (w, 65 + i.val / 4)
  | .brst w p => some (w, p.val)
  | .irqClr w p _ => some (w, p.val)
  | .irqSet w p _ => some (w, p.val)
  | .errClear w p => some (w, p.val)
  | .violClr w _ => some (w, 8)
  | .sessEnable w _ => some (w, 9)
  | .sparEnable w => some (w, 4)
  | .followSet w => some (w, 4)
  | .followClear w => some (w, 4)
  | .wallApply w => some (w, 4)
  | .eventEntryWrite w n _ => if 32 ≤ n.val then some (w, 4) else none
  | .evtFiredClear w _ _ _ => some (w, 4)
  | .setbackClear w => some (w, 4)
  | .lineAttach w i => some (w, 32 + i.val / 4)
  | .lineLenWrite w i _ => some (w, 32 + i.val / 4)
  | .lineFaultClr w i => some (w, 32 + i.val / 4)
  | .lineCntClr w i => some (w, 32 + i.val / 4)
  | .bankWrite w b _ _ => some (w, 97 + b.val / 4)
  | .bankCheck w _ => some (w, 64)
  | .failSet w i => some (w, 65 + i.val / 4)
  | .failClr w i => some (w, 65 + i.val / 4)
  | .satClr w i => some (w, 65 + i.val / 4)
  | .loadClr w => some (w, 64)
  | .spoolArm w => some (w, 64)
  | .spoolStop w => some (w, 64)
  | .swtrig w => some (w, 64)
  | .hoAbortClear w i => some (w, 65 + i.val / 4)
  | .linkUp w p => some (w, 160 + p.val)
  | .authOk w p => some (w, 160 + p.val)
  | .authFail w p => some (w, 160 + p.val)
  | .isoGo w p => some (w, 160 + p.val)
  | .preGo w p => some (w, 160 + p.val)
  | .startSession w p => some (w, 160 + p.val)
  | .stopSession w p => some (w, 160 + p.val)
  | .pause w p => some (w, 160 + p.val)
  | .resume w p => some (w, 160 + p.val)
  | .weldDone w p => some (w, 160 + p.val)
  | .newSess w p => some (w, 160 + p.val)
  | .oos w p => some (w, 160 + p.val)
  | .inService w p => some (w, 160 + p.val)
  | .hb w p => some (w, 160 + p.val)
  | .billDisc w p => some (w, 160 + p.val)
  | .contWeldClear w p => some (w, 160 + p.val)
  | .evtDropClear w p _ => some (w, 160 + p.val)
  | .vlnkEnable w p => some (w, 192 + p.val)
  | .vlnkTxGo w p => some (w, 192 + p.val)
  | .vlnkRxPop w p => some (w, 192 + p.val)
  | .rxResume w p => some (w, 192 + p.val)
  | .keyRxOn w p => some (w, 192 + p.val)
  | .keyTxOn w p => some (w, 192 + p.val)
  | .abortLink w p => some (w, 192 + p.val)
  | .vlnkCntClr w p => some (w, 192 + p.val)
  | .kick w _ => some (w, 225)
  | .tmNow w _ => some (w, 225)
  | .splcTxGo w => some (w, 226)
  | .splcRxPop w => some (w, 226)
  | .meterLoad w m => some (w, 257 + m.val)
  | .meterFlagClear w pulse m _ => some (w, if pulse then 256 else 257 + m.val)
  | .ptripClear w _ => some (w, 320)
  | .sync w => some (w, 328)
  | .clr w _ => some (w, 329)
  | .caseClr w => some (w, 328)
  | .peakClr w _ => some (w, 329)
  | .railLossClear w => some (w, 328)
  | .lswEnable w => some (w, 328)
  | .safeEnable w => some (w, 336)
  | .safeDisable w => some (w, 336)
  | .xchCntClr w => some (w, 344)
  | .releaseClaim w => some (w, 352)
  | .take w => some (w, 352)
  | .tethEnable w => some (w, 352)
  | .demotedClear w => some (w, 352)
  | .tethCntClr w => some (w, 352)
  | .blstEnumerate w _ => some (w, 360)
  | .tripClr w _ => some (w, 360)
  | .owNow w _ => some (w, 360)
  | .txreq w c o => some (w, 369 + 4 * c.val + o.val / 48)
  | .canCancel w c o => some (w, 369 + 4 * c.val + o.val / 48)
  | .newdatClear w c o => some (w, 369 + 4 * c.val + o.val / 48)
  | .boRec w c => some (w, 368 + 4 * c.val)
  | .canCntClr w c => some (w, 368 + 4 * c.val)
  | .canDisable w c => some (w, 368 + 4 * c.val)
  | .reelStart w c _ => some (w, 25 + c.val / 16)
  | .reelStop w c => some (w, 25 + c.val / 16)
  | .reelFlag w c => some (w, 25 + c.val / 16)
  | .reelCntClr w c => some (w, 25 + c.val / 16)
  | .slotAttributeWrite w _ _ _ => some (w, 17)
  | .clrGo w => some (w, 16)
  | .regionWrite w _ _ _ => some (w, 18)
  | .lcGo w => some (w, 16)
  | .dbgArm w => some (w, 16)
  | .huW0 w => some (w, 2)
  | .huW1 w => some (w, 2)
  | .gKick w => some (w, 1)
  | .bKick w => some (w, 1)
  | .eKick w => some (w, 1)
  | .swGo w => some (w, 1)
  | .retryGo w => some (w, 1)
  | .idleToClear w _ => some (w, 1)
  | .runW1 w => some (w, 1)
  | .runW2 w => some (w, 1)
  | .modeWrite w _ => some (w, 1)
  | .flashProgram w => some (w, 0)
  | .flashErase w => some (w, 0)
  | _ => none

/-- The last request in the ring stands at REQ_TAIL with this TYPE, and it may be taken (R365). -/
abbrev LastRequest (s : State) (typ : Nat) : Prop :=
  reqReady s = true ∧ reqByte s 0 = typ ∧ reqHead s = (s.rd R.bill_REQ_TAIL [] + 1) % 64

/-- The request at REQ_TAIL has been answered with a STATUS (R365, R378). -/
def Answered (s t : State) (status : Nat) : Prop :=
  (t.bill.resp[Fin.ofNat 64 s.bill.respNext]).tag = reqByte s 1 ∧
  (t.bill.resp[Fin.ofNat 64 s.bill.respNext]).status = status ∧ t.bill.respNext = (s.bill.respNext + 1) % 64 ∧
  t.rd R.bill_REQ_TAIL [] = (s.rd R.bill_REQ_TAIL [] + 1) % 64 ∧ t.bill.reqLeft = s.bill.reqLeft - 1 ∧
  bitB (t.rd R.hdr_IRQ_RAW [304]) 2 = true ∧ t.freeCtr = s.freeCtr + 1

/-- A monitor of a Ballast ring. -/
def monOf (s : State) (r : Fin 2) (m : Fin 64) : MonS := (s.blst[r]).mons[m]

/-- One monitor becomes `n`; no other monitor changes, and nothing of what BLST itself keeps of the rings. -/
def MonBecomes (s t : State) (r : Fin 2) (m : Fin 64) (n : MonS) : Prop :=
  monOf t r m = n ∧ (∀ r' m', r' ≠ r ∨ m' ≠ m → monOf t r' m' = monOf s r' m') ∧
  ∀ r' : Fin 2, { t.blst[r'] with mons := (s.blst[r']).mons } = s.blst[r']

/-- The job at a descriptor index may run: it is of that OP, no fence holds it, its reserved fields are zero and its
algorithm is known (R556, R557). -/
abbrev JobReady (s : State) (w : Fin 3) (i op : Nat) (j : Job) : Prop :=
  jobAt s w.val i = some j ∧ j.op = op ∧ mayStart s j = true ∧ j.resv = false ∧ j.alg ≤ 1

/-- A world of the engine may write a byte of its own memory (R543, R544, R555). -/
def mayPut (s : State) (w a : Nat) : Bool := worldOk s w a true

/-- Every byte that a job may read or write lies within the grant of its world (R555). -/
def JobGranted (s : State) (j : Job) (n : Nat) : Prop :=
  (∀ k, k < j.srcLen → worldOk s j.world (j.src + k) false = true) ∧
  (∀ k, k < j.auxLen → worldOk s j.world (j.aux + k) false = true) ∧
  (∀ k, k < j.dstLen → worldOk s j.world (j.dst + k) false = true) ∧
  (∀ k, k < n → worldOk s j.world (j.dst + k) true = true)

/-- Nothing but what a link sends changes: it sends nothing. -/
abbrev LinkQuiet (p : Port) (s t : State) : Prop := t = s.vlF p (fun v => { v with out := [] })

/-- A job has run with an outcome: it waits to complete, its output stands at DST as far as its world may write there, and
no other byte of memory and no other part of the state has changed but the count of free values and, where a byte lies
outside the grant of its world, VIOL of that world (R11, R555, R557). -/
def JobRan (s t : State) (j : Job) (o : JobOut) (dst : List Byte) : Prop :=
  t.key = { s.key with jobs := s.key.jobs.map (fun k => if k = j then { k with out := some o } else k) } ∧
  (∀ k, k < dst.length → mayPut s j.world (j.dst + k) = true → worldGet t j.world (j.dst + k) = dst.getD k 0) ∧
  (∀ a, a < j.dst ∨ j.dst + dst.length ≤ a →
    memGet t.dram a = memGet s.dram a ∧ memGet t.sram0 a = memGet s.sram0 a ∧ memGet t.sram1 a = memGet s.sram1 a) ∧
  RegsBut s t [R.host_VIOL.key [j.world]] ∧ (JobGranted s j dst.length → t.regs = s.regs) ∧
  { t with regs := s.regs, key := s.key, dram := s.dram, sram0 := s.sram0, sram1 := s.sram1, freeCtr := s.freeCtr } = s

end Sys2Proof.Machine
end

