-- ==== Sys2Proof/Certificates/Slice0/Obligations.lean ====
section
/-! DEFINITION. The statements for the provers: what the commands of the block do. -/

open Sys2Proof Sys2Proof.Machine

/-- O1 (tier 1). For every command and state, a step with that command at the front of the queue is the command acting
on the state with the rest of the queue; with an empty queue the block idles: while Spar runs nothing changes, while
it does not, wall time, MONO, the module's own time, the watchdogs and the frames on the ring ports pass by one 5 ns
clock of the reference, and HELD shows the holds then in force for a reset that waits (the model's choice, log entry
10). -/
def Obligations.StepRunsTheFrontCommand : Prop :=
  (∀ (c : Instr) (rest : List Instr) (s : State), s.pending = c :: rest → step s = exec c { s with pending := rest }) ∧
  (∀ s : State, s.pending = [] → step s = .next (if s.sparRuns then s else showHeld (wdgCount 1 (showMono (ringPass 1 (passWall 1 s))))))

/-- O2 (tier 1). At reset the register file and every memory are in canonical form, no command waits, no commit is armed
and no world has a violation (R29, R576). -/
def Obligations.ResetIsCanonical : Prop :=
  State.reset.canon = true ∧ State.reset.pending = [] ∧ State.reset.arms = [] ∧
  ∀ w : World, State.reset.rd R.host_VIOL [w.val] = 0

/-- O3 (tier 3). From every state whose register file, saved BILL registers and memories are in canonical form, every
command leaves them so: equal contents stay equal data, whatever the command does. -/
def Obligations.EveryStepKeepsTheCanonicalForm : Prop :=
  ∀ s t : State, s.canon = true → step s = .next t → t.canon = true

/-- O4 (tier 2). For every command by which a world writes a page under the grant of OWNER, and every state in which
that world has no write access to the page, the command changes nothing but the world's violation counter, which
advances by one and saturates. -/
def Obligations.UngrantedCommandsOnlyCount : Prop :=
  ∀ (c : Instr) (w : World) (p : Nat) (s : State), writerOf c = some (w, p) → s.canWrite w p = false →
    Gives c s (fun t => t.rd R.host_VIOL [w.val] = min (s.rd R.host_VIOL [w.val] + 1) (2 ^ 32 - 1) ∧
      OnlyRegs s t [R.host_VIOL.key [w.val]])

/-- O5 (tier 2). Under the grant, IRQ_CLR clears exactly the bits written 1, IRQ_SET sets those the page has (R10 keeps
the reserved ones), ERR_CLEAR clears ERR and the whole of ERRCODE, and nothing else changes (R29). -/
def Obligations.HeaderEventAndErrorWrites : Prop :=
  (∀ (w : World) (p : Page) (v : Word) (s : State), s.canWrite w p.val = true →
    Gives (.irqClr w p v) s (fun t =>
      (∀ n, (t.rd R.hdr_IRQ_RAW [p.val]).testBit n = ((s.rd R.hdr_IRQ_RAW [p.val]).testBit n && !v.toNat.testBit n)) ∧
      OnlyRegs s t [R.hdr_IRQ_RAW.key [p.val]])) ∧
  (∀ (w : World) (p : Page) (v : Word) (s : State), s.canWrite w p.val = true →
    Gives (.irqSet w p v) s (fun t =>
      (∀ n, (t.rd R.hdr_IRQ_RAW [p.val]).testBit n =
        ((s.rd R.hdr_IRQ_RAW [p.val]).testBit n || (v.toNat.testBit n && (irqMask p.val).testBit n))) ∧
      OnlyRegs s t [R.hdr_IRQ_RAW.key [p.val]])) ∧
  (∀ (w : World) (p : Page) (s : State), s.canWrite w p.val = true →
    Gives (.errClear w p) s (fun t =>
      t.rd R.hdr_ERR [p.val] = 0 ∧ t.rd R.hdr_CODE [p.val] = 0 ∧ t.rd R.hdr_COUNT [p.val] = 0 ∧
      OnlyRegs s t [R.hdr_ERR.key [p.val], R.hdr_CODE.key [p.val], R.hdr_COUNT.key [p.val]]))

/-- O6 (tier 2). A write of OWNER by a world other than W0 is a violation that changes nothing but its counter. In every
state W0 reads every page and writes every page but those of MTR and BILL, whose WRITE has bit 1 alone, and HOST and
KEY pages grant write access to W0 alone. -/
def Obligations.OwnerIsWrittenByGondolaAlone : Prop :=
  (∀ (w : World) (p : Page) (v : Word) (s : State), w ≠ 0 →
    Gives (.ownerWrite w p v) s (fun t => t.rd R.host_VIOL [w.val] = min (s.rd R.host_VIOL [w.val] + 1) (2 ^ 32 - 1) ∧
      OnlyRegs s t [R.host_VIOL.key [w.val]])) ∧
  (∀ (s : State) (p : Page), (s.ownR p.val).testBit 0 = true) ∧
  (∀ (s : State) (p : Page), blockOf p.val ≠ some 14 → blockOf p.val ≠ some 15 → (s.ownW p.val).testBit 0 = true) ∧
  (∀ (s : State) (p : Page) (n : Nat), blockOf p.val = some 14 ∨ blockOf p.val = some 15 → n ≠ 1 →
    (s.ownW p.val).testBit n = false) ∧
  (∀ (s : State) (p : Page) (n : Nat), blockOf p.val = some 5 ∨ blockOf p.val = some 6 → n ≠ 0 →
    (s.ownW p.val).testBit n = false)

/-- O7 (tier 1). In every state the grants in force on a HOST page are read and write for W0 and nobody else, so no
other world has access to the page of the violation counters. -/
def Obligations.HostPagesBelongToGondola : Prop :=
  ∀ (s : State) (p : Page), blockOf p.val = some 5 →
    s.ownR p.val = 1 ∧ s.ownW p.val = 1 ∧ ∀ w : World, w ≠ 0 → s.canRead w p.val = false ∧ s.canWrite w p.val = false

/-- O8 (tier 2). A COMMIT of a page or stage area is accepted while none is pending, EN is 1 and Spar runs: it becomes
pending, and COMMIT_AT is taken as it stands. At its boundary every class S field of the page or area takes its
shadow value, COMMIT_SEQ advances and COMMIT_PEND clears; a committed BANK comes into use where the bank is VALID
and has the dimensions of the one in use, and is refused with 0x0103 where it is not VALID. A commit of a meter page
reverts with 0x0101 where segment limits in use do not ascend, and with 0x0103 of page 304 where it would change a
field while the sealed log is full. CANCEL gives every shadow value its active value back and records
COMMIT_CANCELLED. With EN = 0, with Spar stopped, while one is pending, or through the header of a page of stage
areas a COMMIT does nothing, as does a CANCEL with none pending and a boundary that has not come. OWNER_WRITE gives
W0's value to the free bits; the header fields of other pages stay (R31, R34-R38, R137, R162, R311, R373). -/
def Obligations.CommitsArmApplyAndCancel : Prop :=
  (∀ (w : World) (p : Page) (s : State), s.canWrite w p.val = true → isAreaPage p.val = false →
    s.rd R.hdr_COMMIT_PEND [p.val] = 0 → s.enOf p.val = true → s.sparRuns = true →
    Gives (.commit w p) s (fun t => t.rd R.hdr_COMMIT_PEND [p.val] = 1 ∧
      t.arms = s.arms ++ [⟨.page p, s.rd R.hdr_BOUND [p.val], s.rd R.hdr_EVENT [p.val], s.spar.serial, false⟩] ∧
      RegsBut s t [R.hdr_COMMIT_PEND.key [p.val]] ∧ { t with regs := s.regs, arms := s.arms } = s)) ∧
  (∀ (w : World) (i : Stage) (s : State), s.canWrite w (65 + i.val / 4) = true →
    s.rd R.stgA_A_PEND [i.val] = 0 → s.enOf (65 + i.val / 4) = true → s.sparRuns = true →
    Gives (.aCommit w i) s (fun t => t.rd R.stgA_A_PEND [i.val] = 1 ∧
      t.arms = s.arms ++ [⟨.area i, s.rd R.stgA_A_BOUND [i.val], s.rd R.stgA_A_EVENT [i.val], s.spar.serial, false⟩] ∧
      RegsBut s t [R.stgA_A_PEND.key [i.val]] ∧ { t with regs := s.regs, arms := s.arms } = s)) ∧
  (∀ (p : Page) (s : State), s.arms.any (fun a => decide (a.unit = .page p) && a.due s) = true →
    blockOf p.val ≠ some 14 →
    Gives (.commitApply (.page p)) s (fun t =>
      (∀ (r : Row) (ix : List Nat), r.cls = .S → 8 * (p.val * 0x1000) ≤ r.key ix → r.key ix < 8 * (p.val * 0x1000 + 0x1000) →
        t.rd r ix = s.regs.getShadow r ix) ∧
      t.rd R.hdr_COMMIT_SEQ [p.val] = (s.rd R.hdr_COMMIT_SEQ [p.val] + 1) % 2 ^ 32 ∧ t.rd R.hdr_COMMIT_PEND [p.val] = 0 ∧
      t.arms = s.arms.filter (fun a => a.unit ≠ .page p) ∧
      (p.val ≠ 304 → p.val ≠ 321 → p.val ≠ 322 → { t with regs := s.regs, arms := s.arms } = s) ∧
      (p.val = 304 → { t with regs := s.regs, arms := s.arms, bill := s.bill, spar := s.spar } = s) ∧
      (p.val = 321 ∨ p.val = 322 → { t with regs := s.regs, arms := s.arms, thrm := s.thrm } = s))) ∧
  (∀ (p : Page) (s : State), s.arms.any (fun a => decide (a.unit = .page p) && a.due s) = true →
    blockOf p.val = some 14 → s.rd R.hdr_COMMIT_PEND [p.val] = 1 →
    Gives (.commitApply (.page p)) s (fun t =>
      let bad := decide (257 ≤ p.val) && decide (p.val < 293) && segOrderBad s (p.val - 257)
      let full := shadowDiffers s (p.val * 0x1000) (p.val * 0x1000 + 0x1000) && logFull s
      (bad = true → t.rd R.hdr_CODE [p.val] = 0x0101) ∧
      (bad = false → full = true → t.rd R.hdr_CODE [p.val] = 5 ∧ t.rd R.hdr_CODE [304] = 0x0103) ∧
      (bad = true ∨ full = true → ∀ (r : Row) (ix : List Nat), r.cls = .S → 8 * (p.val * 0x1000) ≤ r.key ix →
        r.key ix < 8 * (p.val * 0x1000 + 0x1000) → t.regs.getShadow r ix = s.rd r ix ∧ t.rd r ix = s.rd r ix) ∧
      (bad = false → full = false → t.rd R.hdr_COMMIT_SEQ [p.val] = (s.rd R.hdr_COMMIT_SEQ [p.val] + 1) % 2 ^ 32 ∧
        ∀ (r : Row) (ix : List Nat), r.cls = .S → 8 * (p.val * 0x1000) ≤ r.key ix →
          r.key ix < 8 * (p.val * 0x1000 + 0x1000) → t.rd r ix = s.regs.getShadow r ix) ∧
      t.rd R.hdr_COMMIT_PEND [p.val] = 0 ∧ t.arms = s.arms.filter (fun a => a.unit ≠ .page p) ∧
      { t with regs := s.regs, arms := s.arms, bill := s.bill } = s)) ∧
  (∀ (i : Stage) (s : State), s.arms.any (fun a => decide (a.unit = .area i) && a.due s) = true →
    Gives (.commitApply (.area i)) s (fun t =>
      let b := s.regs.getShadow R.stg_BANK [i.val]
      let same := decide (bankNX s b = bankNX s (bankOf s i)) && decide (bankNU s b = bankNU s (bankOf s i))
      (∀ (r : Row) (ix : List Nat), r.cls = .S → 8 * (0x41000 + 0x400 * i.val) ≤ r.key ix →
        r.key ix < 8 * (0x41400 + 0x400 * i.val) → t.rd r ix = s.regs.getShadow r ix) ∧
      t.rd R.stgA_A_COMMIT_SEQ [i.val] = (s.rd R.stgA_A_COMMIT_SEQ [i.val] + 1) % 2 ^ 32 ∧ t.rd R.stgA_A_PEND [i.val] = 0 ∧
      t.arms = s.arms.filter (fun a => a.unit ≠ .area i) ∧
      (b = bankOf s i → bankOf t i = b) ∧
      (b ≠ bankOf s i → bankState s b ≠ 1 → bankOf t i = bankOf s i ∧ t.rd R.hdr_CODE [65 + i.val / 4] = 0x0103) ∧
      (b ≠ bankOf s i → bankState s b = 1 → same = true → bankOf t i = b) ∧
      { t with regs := s.regs, arms := s.arms, stages := s.stages } = s)) ∧
  (∀ (u : CommitUnit) (s : State), s.arms.any (fun a => decide (a.unit = u) && a.due s) = false →
    Gives (.commitApply u) s (fun t => t = s)) ∧
  (∀ (w : World) (p : Page) (s : State), s.canWrite w p.val = true →
    (isAreaPage p.val = true ∨ s.rd R.hdr_COMMIT_PEND [p.val] = 1 ∨ s.enOf p.val = false ∨ s.sparRuns = false →
      Gives (.commit w p) s (fun t => t = s)) ∧
    (isAreaPage p.val = true ∨ s.rd R.hdr_COMMIT_PEND [p.val] = 0 → Gives (.cancel w p) s (fun t => t = s))) ∧
  (∀ (w : World) (i : Stage) (s : State), s.canWrite w (65 + i.val / 4) = true →
    (s.rd R.stgA_A_PEND [i.val] = 1 ∨ s.enOf (65 + i.val / 4) = false ∨ s.sparRuns = false →
      Gives (.aCommit w i) s (fun t => t = s)) ∧
    (s.rd R.stgA_A_PEND [i.val] = 0 → Gives (.aCancel w i) s (fun t => t = s))) ∧
  (∀ (w : World) (p : Page) (s : State), s.canWrite w p.val = true → isAreaPage p.val = false →
    s.rd R.hdr_COMMIT_PEND [p.val] = 1 →
    Gives (.cancel w p) s (fun t =>
      (∀ (r : Row) (ix : List Nat), r.cls = .S → 8 * (p.val * 0x1000) ≤ r.key ix → r.key ix < 8 * (p.val * 0x1000 + 0x1000) →
        t.regs.getShadow r ix = s.rd r ix ∧ t.rd r ix = s.rd r ix) ∧
      t.rd R.hdr_CODE [p.val] = 5 ∧ t.rd R.hdr_ERR [p.val] = 1 ∧ t.rd R.hdr_COMMIT_PEND [p.val] = 0 ∧
      { t with regs := s.regs, arms := s.arms } = s)) ∧
  (∀ (w : World) (i : Stage) (s : State), s.canWrite w (65 + i.val / 4) = true → s.rd R.stgA_A_PEND [i.val] = 1 →
    Gives (.aCancel w i) s (fun t =>
      (∀ (r : Row) (ix : List Nat), r.cls = .S → 8 * (0x41000 + 0x400 * i.val) ≤ r.key ix →
        r.key ix < 8 * (0x41400 + 0x400 * i.val) → t.regs.getShadow r ix = s.rd r ix ∧ t.rd r ix = s.rd r ix) ∧
      t.rd R.hdr_CODE [65 + i.val / 4] = 5 ∧ t.rd R.stgA_A_PEND [i.val] = 0 ∧
      { t with regs := s.regs, arms := s.arms } = s)) ∧
  (∀ (p : Page) (v : Word) (s : State), s.dead p.val = false →
    Gives (.ownerWrite 0 p v) s (fun t =>
      (∀ n, blockOf p.val ≠ some 5 → n < 10 → n ≠ 0 → (t.ownR p.val).testBit n = v.toNat.testBit (16 + n)) ∧
      (∀ n, blockOf p.val ≠ some 5 → blockOf p.val ≠ some 6 → blockOf p.val ≠ some 14 → blockOf p.val ≠ some 15 → n < 10 →
        n ≠ 0 → (t.ownW p.val).testBit n = v.toNat.testBit n) ∧
      (blockOf p.val = some 14 ∨ blockOf p.val = some 15 → (t.ownW p.val).testBit 1 = v.toNat.testBit 1) ∧
      OnlyRegs s t [R.hdr_OWN_WRITE.key [p.val], R.hdr_OWN_READ.key [p.val]]))

/-- O9 (tier 2). VIOL_CLR clears exactly the counters whose bits are written 1. Setting SESS_EN clears the last accepted
nonce and abandons the requests of that world in flight without responses, leaving those of every other world (R45,
R46, R48). -/
def Obligations.SessionAndCounterWrites : Prop :=
  (∀ (w : World) (v : Word) (s : State), s.canWrite w 8 = true →
    Gives (.violClr w v) s (fun t =>
      (∀ u : World, t.rd R.host_VIOL [u.val] = if v.toNat.testBit u.val then 0 else s.rd R.host_VIOL [u.val]) ∧
      OnlyRegs s t ((List.range 10).map (fun u => R.host_VIOL.key [u])))) ∧
  (∀ (w : World) (k : Fin 6) (s : State), s.canWrite w 9 = true → s.rd R.sess_SESS_EN [k.val] = 0 →
    Gives (.sessEnable w k) s (fun t =>
      t.rd R.sess_SESS_EN [k.val] = 1 ∧ t.rd R.sess_SESS_NONCE_LO [k.val] = 0 ∧ t.rd R.sess_SESS_NONCE_HI [k.val] = 0 ∧
      (∀ q : HostReq, q ∈ t.host.reqs ↔ q ∈ s.host.reqs ∧ q.world ≠ k.val + 3) ∧ t.host.nonceOut[k] = 1 ∧
      t.host.out = s.host.out ∧ t.host.kept = s.host.kept ∧ t.dram = s.dram ∧ t.sram0 = s.sram0 ∧ t.sram1 = s.sram1))

/-- O10 (tier 2). An authentic datagram with a greater nonce is accepted: its nonce becomes the last accepted one. A
request that may execute leaves the queue, and its response with the cycle and period of execution is kept for its
tag: a read with the words the bus gives, a write with the refusal the bus gives, a fence with OK. A PCIe read
within the limits returns the words the bus gives world W9, a write does what the bus does with it (R48-R55). -/
def Obligations.HostRequestsExecute : Prop :=
  (∀ (dg : HostDatagram) (plain : List Byte) (s : State), s.runs 8 = true → dgFormed s dg = true →
    openDg s (dg.world - 3) dg = some plain →
    Gives (.hostDatagram dg) s (fun t =>
      t.rd R.sess_SESS_NONCE_LO [dg.world - 3] = dg.nonce % 2 ^ 32 ∧
      t.rd R.sess_SESS_NONCE_HI [dg.world - 3] = dg.nonce / 2 ^ 32 % 2 ^ 32 ∧
      (∀ q ∈ s.host.reqs, q ∈ t.host.reqs) ∧ t.host.kept = s.host.kept ∧ t.dram = s.dram)) ∧
  (∀ (k : Fin 6) (tag : Nat) (q : HostReq) (s : State), readyReq s k.val tag 1 = some q → reqStatus q = 0 →
    Gives (.hostRead k tag) s (fun t =>
      (∀ x ∈ t.host.reqs, ¬(x.world = q.world ∧ x.tag = q.tag)) ∧
      t.host.kept.head? = some ⟨q.world, q.tag, q.gen, 0, q.len, s.spar.cycle, s.spar.period,
        (busRead ⟨k.val + 3, by omega⟩ (hostOff q.addr) (q.len + 1) s).1.map (BitVec.ofNat 32)⟩ ∧ t.dram = s.dram)) ∧
  (∀ (k : Fin 6) (tag : Nat) (q : HostReq) (s : State), readyReq s k.val tag 2 = some q → reqStatus q = 0 →
    Gives (.hostWrite k tag) s (fun t =>
      (∀ x ∈ t.host.reqs, ¬(x.world = q.world ∧ x.tag = q.tag)) ∧
      ∃ r ∈ t.host.kept, r.world = q.world ∧ r.tag = q.tag ∧ r.gen = q.gen ∧ r.len = q.len ∧ r.data = [] ∧
        r.status = if (busWrite ⟨k.val + 3, by omega⟩ (hostOff q.addr) (q.data.map BitVec.toNat) s).1 then 1 else 0)) ∧
  (∀ (k : Fin 6) (tag : Nat) (q : HostReq) (s : State), readyReq s k.val tag 3 = some q →
    Gives (.hostFence k tag) s (fun t =>
      (∀ x ∈ t.host.reqs, ¬(x.world = q.world ∧ x.tag = q.tag)) ∧
      t.host.kept.head? = some ⟨q.world, q.tag, q.gen, 0, q.len, s.spar.cycle, s.spar.period, []⟩ ∧ t.dram = s.dram)) ∧
  (∀ (addr len : Nat) (s : State), pcieUp s addr = true → pcieOn s = true → pcieFits addr len = true →
    Gives (.pcieRead addr len) s (fun t => t.host.pcieAbort = false ∧
      t.host.rdata[9] = (busRead 9 addr (len / 4) s).1.map (BitVec.ofNat 32) ∧ t.dram = s.dram)) ∧
  (∀ (addr len : Nat) (data : List Word) (s : State), pcieUp s addr = true → pcieOn s = true → pcieFits addr len = true →
    Gives (.pcieWrite addr data len) s (fun t =>
      t = (busWrite 9 addr ((List.range (len / 4)).map (fun k => (data.getD k 0).toNat)) s).2))

/-- O11 (tier 2). A write of one aligned word of a page under the grant completes: where it would change a class S field
of a pending commit it records SHADOW_BUSY and changes no other field, otherwise the next state is the word's effect
at its offset. IRQ_EN takes the bits the page has, and no other field changes; the low word of WALL_SET takes the
value, and its high word and every other field stay. A write to a page that is narrower or not aligned changes
nothing; one without the grant counts once in VIOL of its world and changes nothing else. A write of up to 4 bytes
of memory stores them little-endian in DRAM inside the grant, by W0 in its SRAM and by W1 in its SRAM, and every
other byte stays; a DRAM access whose every byte is outside the grant counts once and stores nothing (R9, R11, R29,
R36, R42, R43, R56, R90, R543, R544). -/
def Obligations.RegisterAndMemoryWrites : Prop :=
  (∀ (w : World) (p : Page) (v : Word) (s : State), s.canWrite w p.val = true →
    Gives (.registerWrite w (0x40000000 + 0x1000 * p.val + 0x14) 4 v) s (fun t =>
      (∀ n, n < 32 → (t.rd R.hdr_IRQ_EN [p.val]).testBit n = (v.toNat.testBit n && (irqMask p.val).testBit n)) ∧
      OnlyRegs s t [R.hdr_IRQ_EN.key [p.val]])) ∧
  (∀ (w : World) (v : Word) (s : State), s.canWrite w 4 = true →
    Gives (.registerWrite w 0x40004148 4 v) s (fun t =>
      t.rd R.spar_WALL_SET [] = s.rd R.spar_WALL_SET [] / 2 ^ 32 * 2 ^ 32 + v.toNat ∧
      OnlyRegs s t [R.spar_WALL_SET.key []])) ∧
  (∀ (w : World) (p : Page) (o : Nat) (v : Word) (s : State), o < 4096 → o % 4 = 0 → writeOk s w p.val o = true →
    (busyAt s p.val o v.toNat = true →
      Gives (.registerWrite w (0x40000000 + 0x1000 * p.val + o) 4 v) s (fun t => t.rd R.hdr_CODE [p.val] = 0x0001 ∧
        OnlyRegs s t [R.hdr_CODE.key [p.val], R.hdr_COUNT.key [p.val], R.hdr_ERR.key [p.val]])) ∧
    (busyAt s p.val o v.toNat = false →
      Gives (.registerWrite w (0x40000000 + 0x1000 * p.val + o) 4 v) s (fun t => t = writeWord w p o v.toNat s))) ∧
  (∀ (w : World) (a size : Nat) (v : Word) (s : State), inPages a = true → size ≠ 4 ∨ a % 4 ≠ 0 →
    Gives (.registerWrite w a size v) s (fun t => t = s)) ∧
  (∀ (w : World) (p : Page) (o : Nat) (v : Word) (s : State), o < 4096 → o % 4 = 0 → writeOk s w p.val o = false →
    Gives (.registerWrite w (0x40000000 + 0x1000 * p.val + o) 4 v) s (fun t =>
      t.rd R.host_VIOL [w.val] = min (s.rd R.host_VIOL [w.val] + 1) (2 ^ 32 - 1) ∧ OnlyRegs s t [R.host_VIOL.key [w.val]])) ∧
  (∀ (w : World) (a size : Nat) (v : Word) (s : State), size ≤ 4 →
    (∀ k, k < size → inDram (0x100000000 + a + k) = true ∧ dramOk s w.val (a + k) true = true) →
    Gives (.registerWrite w (0x100000000 + a) size v) s (fun t =>
      (∀ k, k < size → memGet t.dram (a + k) = v.extractLsb' (8 * k) 8) ∧
      (∀ b, b < a ∨ a + size ≤ b → memGet t.dram b = memGet s.dram b) ∧ { t with dram := s.dram } = s)) ∧
  (∀ (w : World) (a size : Nat) (v : Word) (s : State), 1 ≤ size → size ≤ 4 →
    (∀ k, k < size → inDram (0x100000000 + a + k) = true ∧ dramOk s w.val (a + k) true = false) →
    Gives (.registerWrite w (0x100000000 + a) size v) s (fun t =>
      t.rd R.host_VIOL [w.val] = min (s.rd R.host_VIOL [w.val] + 1) (2 ^ 32 - 1) ∧ OnlyRegs s t [R.host_VIOL.key [w.val]])) ∧
  (∀ (a size : Nat) (v : Word) (s : State), size ≤ 4 → a + size ≤ sramSize 0 →
    Gives (.registerWrite 0 (sram0Base + a) size v) s (fun t =>
      (∀ k, k < size → memGet t.sram0 (a + k) = v.extractLsb' (8 * k) 8) ∧
      (∀ b, b < a ∨ a + size ≤ b → memGet t.sram0 b = memGet s.sram0 b) ∧ { t with sram0 := s.sram0 } = s)) ∧
  (∀ (a size : Nat) (v : Word) (s : State), size ≤ 4 → a + size ≤ sramSize 1 →
    Gives (.registerWrite 1 (sram1Base + a) size v) s (fun t =>
      (∀ k, k < size → memGet t.sram1 (a + k) = v.extractLsb' (8 * k) 8) ∧
      (∀ b, b < a ∨ a + size ≤ b → memGet t.sram1 b = memGet s.sram1 b) ∧ { t with sram1 := s.sram1 } = s))

/-- O12 (tier 2). While Spar runs and no alignment waits, CONTROL_PERIOD_START moves time by the clocks to the next
boundary and the period index by one, and the cycle number advances when the accumulator wraps after period 799
(R58, R60); the boundary at which Spar stands after a start or an alignment changes neither. A due PORT_LOOP_TICK
brings into effect what the sample of the period before fixed: the accumulator frequency within the bounds of R68,
the phase error, SLEWING, and, where partner time arrives over the Tether, the skew; with no sample it changes none
of them (R59, R71, R621). A due CYCLE_START forms a time frame with TF_EN = 1 and none without it (R89). With Spar
stopped, or where no tick or cycle start is due, they change nothing. -/
def Obligations.PeriodsTicksAndCyclesFollow : Prop :=
  (∀ (q : PeriodIn) (s : State), s.sparRuns = true → s.spar.periodDue = false → s.spar.alignFrame = none → s.spar.period < 800 →
    Gives (.controlPeriodStart q) s (fun t =>
      t.spar.period = (s.spar.period + 1) % 800 ∧
      t.spar.cycle = (if s.spar.period = 799 then (s.spar.cycle + 1) % 2 ^ 32 else s.spar.cycle) ∧
      t.spar.serial = s.spar.serial + 1 ∧ t.now = s.now + clocksTo s (s.spar.period + 1) ∧
      t.dram = s.dram ∧ t.flash = s.flash)) ∧
  (∀ (q : PeriodIn) (s : State), s.sparRuns = true → s.spar.periodDue = true →
    Gives (.controlPeriodStart q) s (fun t => t.spar.periodDue = false ∧ t.spar.period = s.spar.period ∧
      t.spar.cycle = s.spar.cycle ∧ t.spar.acc = s.spar.acc ∧ t.dram = s.dram ∧ t.flash = s.flash)) ∧
  (∀ (ecc : List (Fin 4096)) (td : List (Option Int)) (s : State), s.sparRuns = true → s.spar.tickDue = true →
    Gives (.portLoopTick ecc td) s (fun t =>
      t.spar.tickDue = false ∧ t.spar.next = none ∧
      (∀ x, s.spar.next = some x → t.spar.freq = boundFreq x.freq ∧ t.rdI R.spar_PHASE_ERR [] = sext 16 (trunc 16 x.phi) ∧
        t.rd R.spar_SLEWING [] = b2n x.slewing ∧
        (followsTether s = true → t.rd R.spar_PARTNER_SKEW [] = trunc 16 x.skew)) ∧
      (s.spar.next = none → t.spar.freq = s.spar.freq ∧ t.rd R.spar_PHASE_ERR [] = s.rd R.spar_PHASE_ERR [] ∧
        t.rd R.spar_SLEWING [] = s.rd R.spar_SLEWING [] ∧ t.rd R.spar_LOCK [] = s.rd R.spar_LOCK []) ∧
      t.spar.period = s.spar.period ∧ t.spar.cycle = s.spar.cycle ∧ t.now = s.now ∧ t.dram = s.dram ∧ t.flash = s.flash)) ∧
  (∀ (s : State), s.sparRuns = true → s.spar.cycleDue = true → s.spar.periodDue = false →
    Gives (.cycleStart) s (fun t =>
      t.spar.cycleDue = false ∧ t.spar.period = s.spar.period ∧ t.spar.cycle = s.spar.cycle ∧ t.now = s.now ∧
      (s.rd R.spar_TF_EN [] = 0 → t.spar.frameOut = none) ∧
      (s.rd R.spar_TF_EN [] = 1 → ∃ f, t.spar.frameOut = some f ∧ f.version = 1 ∧ f.cycle = s.spar.cycle ∧
        f.lock = s.rd R.spar_LOCK [] ∧ f.slot = b2n s.slotY ∧ f.wall = wallMs s % 2 ^ 64) ∧ t.flash = s.flash)) ∧
  (∀ (q : PeriodIn) (s : State), s.sparRuns = false → Gives (.controlPeriodStart q) s (fun t => t = s)) ∧
  (∀ (ecc : List (Fin 4096)) (td : List (Option Int)) (s : State), s.sparRuns = false ∨ s.spar.tickDue = false →
    Gives (.portLoopTick ecc td) s (fun t => t = s)) ∧
  (∀ (s : State), s.sparRuns = false ∨ s.spar.cycleDue = false ∨ s.spar.periodDue = true →
    Gives (.cycleStart) s (fun t => t = s))

/-- O13 (tier 2). SPAR_ENABLE under the grant with EN = 0 sets EN and, with SPAR out of reset, starts Spar in FREE at
CYCLE_LOAD and angle 0x0000 at the nominal frequency; in reset it sets EN alone; with EN = 1 it changes nothing.
While Spar runs, a reference cycle (the one of L1, or the positive sequence, as PHASES selects) is reported in VAMP
and ROCOF and judged by the seek criteria. A bad one while FOLLOW = 1 with the Tether down enters HOLDOVER at the
frequency last taken from the partner. Otherwise FREE and HOLDOVER go to QUALIFY on a good one and stay on a bad
one; QUALIFY counts a good one, enters LOCKED at QUAL_CYCLES of them and stays below, and on a bad one goes back to
HOLDOVER at its held frequency or to FREE, by where it came from; LOCKED stays. FREQ reads the measured frequency in
every state but HOLDOVER. With Spar stopped the command changes nothing (R57, R61, R62, R75, R90). -/
def Obligations.LockStatesFollowTheReference : Prop :=
  (∀ (w : World) (s : State), s.canWrite w 4 = true → s.rd R.hdr_EN [4] = 0 → s.inReset 4 = false →
    Gives (.sparEnable w) s (fun t =>
      t.rd R.hdr_EN [4] = 1 ∧ t.rd R.spar_LOCK [] = 1 ∧ t.spar.cycle = s.rd R.spar_CYCLE_LOAD [] ∧ t.spar.period = 0 ∧
      t.spar.acc = 0 ∧ t.spar.freq = (if s.rd R.spar_NOMINAL [] = 0 then 50 else 60) * 10 ^ 12 ∧
      { t with regs := s.regs, spar := s.spar } = s)) ∧
  (∀ (w : World) (s : State), s.canWrite w 4 = true → s.rd R.hdr_EN [4] = 0 → s.inReset 4 = true →
    Gives (.sparEnable w) s (fun t => t.rd R.hdr_EN [4] = 1 ∧ OnlyRegs s t [R.hdr_EN.key [4]])) ∧
  (∀ (w : World) (s : State), s.canWrite w 4 = true → s.rd R.hdr_EN [4] = 1 → Gives (.sparEnable w) s (fun t => t = s)) ∧
  (∀ (l1 l2 l3 : RefCycle) (s : State), s.sparRuns = true →
    let r := refCycle s l1 l2 l3
    let ok := seekOk s r.amp r.freq r.rocof
    let lost := !ok && followsOwn s
    Gives (.referenceCycle l1 l2 l3) s (fun t =>
      t.rd R.spar_VAMP [] = r.amp % 2 ^ 32 ∧ t.rd R.spar_ROCOF [] = trunc 32 r.rocof ∧
      t.spar.refGood = ok ∧ t.spar.refFreq = r.freq ∧
      (lost = true → s.rd R.spar_LOCK [] ≠ 4 → t.rd R.spar_LOCK [] = 4 ∧ t.spar.hold = lastPartner s ∧
        t.rd R.spar_FREQ [] = lastPartner s % 2 ^ 32) ∧
      (lost = false → s.rd R.spar_LOCK [] = 1 → t.rd R.spar_LOCK [] = (if ok then 2 else 1) ∧ (ok = true → t.spar.qualFrom = 1)) ∧
      (s.rd R.spar_LOCK [] = 4 → t.rd R.spar_LOCK [] = (if ok then 2 else 4) ∧ (ok = true → t.spar.qualFrom = 4)) ∧
      (s.rd R.spar_LOCK [] = 2 → ok = true → t.spar.qualCount = s.spar.qualCount + 1 ∧
        t.rd R.spar_LOCK [] = if max 2 (s.rd R.spar_QUAL_CYCLES []) ≤ s.spar.qualCount + 1 then 3 else 2) ∧
      (s.rd R.spar_LOCK [] = 2 → ok = false → lost = false →
        (s.spar.qualFrom = 4 → t.rd R.spar_LOCK [] = 4 ∧ t.spar.hold = s.spar.hold) ∧
        (s.spar.qualFrom ≠ 4 → t.rd R.spar_LOCK [] = 1)) ∧
      (lost = false → s.rd R.spar_LOCK [] = 3 → t.rd R.spar_LOCK [] = 3) ∧
      (t.rd R.spar_LOCK [] ≠ 4 → t.rd R.spar_FREQ [] = r.freq % 2 ^ 32) ∧
      t.spar.period = s.spar.period ∧ t.spar.cycle = s.spar.cycle ∧ t.spar.acc = s.spar.acc ∧
      RegsBut s t ([R.spar_LOCK.key [], R.spar_FREQ.key [], R.spar_VAMP.key [], R.spar_ROCOF.key [], R.hdr_IRQ_RAW.key [4]] ++
        (List.range 2).map (fun k => R.bsk_PLAN.key [k]) ++
        (List.range 32).flatMap (fun p => [R.bpt_ALLOC.key [p], R.prt_LIM.key [p, 4]])) ∧
      { t with regs := s.regs, spar := s.spar } = s)) ∧
  (∀ (l1 l2 l3 : RefCycle) (s : State), s.sparRuns = false → Gives (.referenceCycle l1 l2 l3) s (fun t => t = s))

/-- O14 (tier 2). W0 setting FOLLOW makes an alignment due with ALIGNED 0. Clearing it takes no step of time; Spar stays
LOCKED where C0 is locked and good, and enters HOLDOVER at the partner's frequency where C0 fails the criteria. The
due alignment takes the partner's cycle, period and angle and raises IRQ_RAW.ALIGN. With the Tether down a partner
time frame of another cycle number records CYCLE_MISMATCH, and a due alignment in JOIN or STANDBY takes the frame's
cycle number plus one; every time frame received gives the module the partner's address (R71-R75, R467). -/
def Obligations.FollowingAndAlignment : Prop :=
  (∀ s : State, s.canWrite 0 4 = true → s.rd R.spar_FOLLOW [] = 0 →
    Gives (.followSet 0) s (fun t =>
      t.rd R.spar_FOLLOW [] = 1 ∧ t.rd R.spar_ALIGNED [] = 0 ∧ t.rd R.spar_FOLLOW_SRC [] = s.rd R.teth_TDOWN [] ∧
      t.spar.alignDue = true ∧
      RegsBut s t [R.spar_FOLLOW.key [], R.spar_ALIGNED.key [], R.spar_FOLLOW_SRC.key []] ∧
      { t with regs := s.regs, spar := s.spar } = s)) ∧
  (∀ s : State, s.canWrite 0 4 = true → s.rd R.spar_FOLLOW [] = 1 →
    Gives (.followClear 0) s (fun t =>
      t.rd R.spar_FOLLOW [] = 0 ∧ t.rd R.spar_FOLLOW_SRC [] = 0 ∧
      t.spar.period = s.spar.period ∧ t.spar.cycle = s.spar.cycle ∧ t.spar.acc = s.spar.acc ∧
      (s.rd R.spar_LOCK [] = 3 → s.spar.refGood = true → t.rd R.spar_LOCK [] = 3) ∧
      (s.rd R.spar_LOCK [] ≠ 0 → s.spar.refGood = false →
        t.rd R.spar_LOCK [] = 4 ∧ t.rd R.spar_FREQ [] = lastPartner s % 2 ^ 32) ∧
      { t with regs := s.regs, spar := s.spar } = s)) ∧
  (∀ (period angle c : Nat) (s : State), s.sparRuns = true → followsTether s = true → s.spar.alignDue = true →
    s.rd R.teth_TSTATE [] = 1 ∨ s.rd R.teth_TSTATE [] = 2 → s.spar.alignCycle = some c → s.spar.cycle ≠ c →
    Gives (.align period angle) s (fun t =>
      t.spar.cycle = c ∧ t.spar.period = period % 800 ∧ t.spar.acc = angle % 2 ^ 48 ∧ t.spar.alignDue = false ∧
      t.rd R.spar_ALIGNED [] = 1 ∧ (t.rd R.hdr_IRQ_RAW [4]).testBit 8 = true ∧
      { t with regs := s.regs, spar := s.spar } = s)) ∧
  (∀ (src : Nat) (f : TimeFrame) (s : State), s.sparRuns = true → s.rd R.spar_FOLLOW [] = 1 → s.rd R.teth_TDOWN [] = 1 →
    Gives (.sparTimeFrameRx ⟨src, f⟩) s (fun t =>
      (s.spar.alignDue = true → s.rd R.teth_TSTATE [] = 1 ∨ s.rd R.teth_TSTATE [] = 2 →
        t.spar.alignFrame = some ((f.cycle + 1) % 2 ^ 32)) ∧
      (f.cycle = s.spar.cycle → t.regs = s.regs) ∧
      (f.cycle ≠ s.spar.cycle → t.rd R.hdr_CODE [4] = 0x0104 ∧ (t.rd R.hdr_IRQ_RAW [4]).testBit 7 = true) ∧
      (s.spar.alignDue = false → t.spar = s.spar) ∧
      t.teth = { s.teth with mac := some src, heardAny := true } ∧ { t with regs := s.regs, spar := s.spar, teth := s.teth } = s))

/-- O15 (tier 2). APPLY by W0 within 1,000 ms of wall time with SLEW = 1 begins a slew by the difference, and WALL_STAT
reads VALID, SLEWING and the AUTH given. With SLEW = 0, or beyond 1,000 ms, it waits for the next control period
start while Spar runs, changing nothing else yet, and steps at once while Spar does not run. A step, at APPLY or at
WALL_STEP once a control period has started since APPLY, gives wall time its value, sets VALID, AUTH as given and
SLEWING 0, and ends a slew; where it goes back it sets SETBACK, SETBACK_FROM and SETBACK_CYCLE. A WALL_STEP before
that, or with no step waiting, changes nothing. WALL_SLEW_END clears SLEWING once the difference is gone and changes
nothing before. SETBACK is cleared by writing 1. APPLY by another world under the grant changes nothing (R77, R78,
R90). -/
def Obligations.WallTimeIsSet : Prop :=
  (∀ s : State, s.canWrite 0 4 = true → s.rd R.wset_SLEW [] = 1 →
    (((s.rd R.spar_WALL_SET [] : Int) * 200000000 - s.spar.wall).natAbs ≤ 1000 * 200000000) →
    Gives (.wallApply 0) s (fun t =>
      t.spar.slewRem = (s.rd R.spar_WALL_SET [] : Int) * 200000000 - s.spar.wall ∧ t.spar.wall = s.spar.wall ∧
      t.spar.step = none ∧ t.rd R.wall_SLEWING [] = 1 ∧ t.rd R.wall_VALID [] = 1 ∧
      t.rd R.wall_AUTH [] = s.rd R.wset_AUTH [] ∧ t.now = s.now)) ∧
  (∀ s : State, s.canWrite 0 4 = true → s.sparRuns = true →
    s.rd R.wset_SLEW [] = 0 ∨ 1000 * 200000000 < ((s.rd R.spar_WALL_SET [] : Int) * 200000000 - s.spar.wall).natAbs →
    Gives (.wallApply 0) s (fun t =>
      t.spar.step = some ⟨s.rd R.spar_WALL_SET [], s.rdB R.wset_AUTH [], s.spar.serial⟩ ∧ t.spar.wall = s.spar.wall ∧
      t.regs = s.regs ∧ { t with spar := s.spar } = s)) ∧
  (∀ s : State, s.canWrite 0 4 = true → s.sparRuns = false →
    s.rd R.wset_SLEW [] = 0 ∨ 1000 * 200000000 < ((s.rd R.spar_WALL_SET [] : Int) * 200000000 - s.spar.wall).natAbs →
    Gives (.wallApply 0) s (fun t =>
      t.spar.wall = s.rd R.spar_WALL_SET [] * 200000000 ∧ t.spar.step = none ∧ t.spar.slewRem = 0 ∧
      t.rd R.wall_VALID [] = 1 ∧ t.rd R.wall_AUTH [] = s.rd R.wset_AUTH [] ∧ t.rd R.wall_SLEWING [] = 0 ∧
      (s.rd R.spar_WALL_SET [] * 200000000 < s.spar.wall → t.rd R.wall_SETBACK [] = 1 ∧
        t.rd R.spar_SETBACK_FROM [] = wallMs s % 2 ^ 64 ∧ t.rd R.spar_SETBACK_CYCLE [] = s.spar.cycle % 2 ^ 32))) ∧
  (∀ (w : World) (s : State), w ≠ 0 → s.canWrite w 4 = true → Gives (.wallApply w) s (fun t => t = s)) ∧
  (∀ (s : State) (v k : Nat) (a : Bool), s.spar.step = some ⟨v, a, k⟩ → k < s.spar.serial ∨ s.sparRuns = false →
    Gives .wallStep s (fun t =>
      t.spar.wall = v * 200000000 ∧ t.spar.step = none ∧ t.spar.slewRem = 0 ∧
      t.rd R.wall_VALID [] = 1 ∧ t.rd R.wall_AUTH [] = b2n a ∧ t.rd R.wall_SLEWING [] = 0 ∧
      (v * 200000000 < s.spar.wall → t.rd R.wall_SETBACK [] = 1 ∧
        t.rd R.spar_SETBACK_FROM [] = wallMs s % 2 ^ 64 ∧ t.rd R.spar_SETBACK_CYCLE [] = s.spar.cycle % 2 ^ 32) ∧
      t.spar.cycle = s.spar.cycle ∧ t.spar.period = s.spar.period ∧ t.now = s.now)) ∧
  (∀ (s : State), (∀ x, s.spar.step = some x → s.spar.serial ≤ x.at_ ∧ s.sparRuns = true) →
    Gives .wallStep s (fun t => t = s)) ∧
  (∀ s : State, s.rd R.wall_SLEWING [] = 1 → s.spar.slewRem = 0 →
    Gives .wallSlewEnd s (fun t => t.rd R.wall_SLEWING [] = 0 ∧ OnlyRegs s t [R.wall_SLEWING.key []])) ∧
  (∀ s : State, s.rd R.wall_SLEWING [] = 0 ∨ s.spar.slewRem ≠ 0 → Gives .wallSlewEnd s (fun t => t = s)) ∧
  (∀ (w : World) (s : State), s.canWrite w 4 = true →
    Gives (.setbackClear w) s (fun t => t.rd R.wall_SETBACK [] = 0 ∧ OnlyRegs s t [R.wall_SETBACK.key []]))

/-- O16 (tier 2). A disarmed entry takes ARM, MODE, KIND and IRQ of word +8, and so does an armed one where the write
disarms it; an armed entry written with ARM = 1 keeps them and records EVT_ARMED. A due event fires: it is among
those of this period; one of KIND 0 other than E002 sets its FIRED bit and advances COUNT. A strobe that falls
within three periods after the last one is deferred: it does not fire, its LATE bit is set, and it may fire from the
fourth period on. An event that is not due changes nothing. A written 1 clears bits of EVT_FIRED or EVT_LATE
(R80-R85, R88, R90). -/
def Obligations.EventEntriesAndTheirFiring : Prop :=
  (∀ (w : World) (n : Fin 256) (v : Word) (s : State), mayWriteEntry s w n.val = true →
    s.rd R.evt_ARM [n.val] = 0 ∨ v.getLsbD 31 = false →
    Gives (.eventEntryWrite w n v) s (fun t =>
      t.rd R.evt_ARM [n.val] = b2n (v.getLsbD 31) ∧ t.rd R.evt_MODE [n.val] = b2n (v.getLsbD 30) ∧
      t.rd R.evt_KIND [n.val] = v.toNat / 2 ^ 28 % 4 ∧ t.rd R.evt_IRQ [n.val] = b2n (v.getLsbD 27) ∧
      RegsBut s t [R.evt_ARM.key [n.val], R.evt_MODE.key [n.val], R.evt_KIND.key [n.val], R.evt_IRQ.key [n.val]] ∧
      { t with regs := s.regs, spar := s.spar } = s)) ∧
  (∀ (w : World) (n : Fin 256) (v : Word) (s : State), mayWriteEntry s w n.val = true → s.rd R.evt_ARM [n.val] = 1 →
    v.getLsbD 31 = true →
    Gives (.eventEntryWrite w n v) s (fun t => t.rd R.hdr_CODE [4] = 0x0103 ∧
      OnlyRegs s t [R.hdr_CODE.key [4], R.hdr_COUNT.key [4], R.hdr_ERR.key [4]])) ∧
  (∀ (n : Fin 256) (s : State), s.sparRuns = true → s.spar.periodDue = false → evtDue s n.val = true →
    ¬(isStrobe s n.val = true ∧ strobeTooSoon s = true) →
    Gives (.eventFire n) s (fun t => n.val ∈ t.spar.firedNow ∧
      t.spar.period = s.spar.period ∧ t.spar.cycle = s.spar.cycle ∧ t.now = s.now)) ∧
  (∀ (n : Fin 256) (s : State), s.sparRuns = true → s.spar.periodDue = false → evtDue s n.val = true →
    s.rd R.evt_KIND [n.val] = 0 → n.val ≠ 2 →
    Gives (.eventFire n) s (fun t => (t.rd R.spar_EVT_FIRED [n.val / 32]).testBit (n.val % 32) = true ∧
      t.rd R.evt_COUNT [n.val] = (s.rd R.evt_COUNT [n.val] + 1) % 256)) ∧
  (∀ (n : Fin 256) (k : Nat) (s : State), s.sparRuns = true → s.spar.periodDue = false → evtDue s n.val = true →
    isStrobe s n.val = true → s.spar.lastStrobe = some k → k < s.spar.serial → s.spar.serial ≤ k + 3 →
    Gives (.eventFire n) s (fun t => (t.rd R.spar_EVT_LATE [n.val / 32]).testBit (n.val % 32) = true ∧
      n.val ∈ t.spar.deferred ∧ sget 0 t.spar.notBefore n.val = k + 4 ∧ t.spar.firedNow = s.spar.firedNow ∧
      OnlyRegs { s with spar := t.spar } t [R.spar_EVT_LATE.key [n.val / 32], R.hdr_IRQ_RAW.key [4]])) ∧
  (∀ (n : Fin 256) (s : State), s.sparRuns = false ∨ s.spar.periodDue = true ∨ evtDue s n.val = false →
    Gives (.eventFire n) s (fun t => t = s)) ∧
  (∀ (w : World) (i : Fin 8) (v : Word) (s : State), s.canWrite w 4 = true →
    Gives (.evtFiredClear w false i v) s (fun t =>
      (∀ n, n < 32 → (t.rd R.spar_EVT_FIRED [i.val]).testBit n = ((s.rd R.spar_EVT_FIRED [i.val]).testBit n && !v.toNat.testBit n)) ∧
      OnlyRegs s t [R.spar_EVT_FIRED.key [i.val]]) ∧
    Gives (.evtFiredClear w true i v) s (fun t =>
      (∀ n, n < 32 → (t.rd R.spar_EVT_LATE [i.val]).testBit n = ((s.rd R.spar_EVT_LATE [i.val]).testBit n && !v.toNat.testBit n)) ∧
      OnlyRegs s t [R.spar_EVT_LATE.key [i.val]]))

/-- O17 (tier 2). A good MEAS frame in its window gives an enabled line RTT (from its arrival, at most 1,023 ns: the
model's choice, log entry 189), echoes, MODE in force, STATUS, AUX and each valid sample; it attaches a SEARCH,
FOUND or LOST line of a module that is not active, and a FOUND or LOST one of an active module within 8 periods of
its ATTACH. A MEAS with a coding error only counts in UP_CRC; outside the window or on a disabled line it changes
nothing. A good IDENT on a probed line in SEARCH makes it FOUND with RTT and its fields; another PROTO records
0x0102, an RTT over 800 ns 0x0101, and neither makes it FOUND; one this module did not ask for changes nothing (log
entries 190, 191). The window's close reports a missing uplink of an attached line. The third missing one loses it,
fewer change nothing. An ATTACH not answered in 8 periods returns the line to SEARCH. LEN enables and disables,
ATTACH waits for the next window in FOUND and LOST and records 0x0100 elsewhere, FAULT_CLR goes with the next
COMMAND frame, CNT_CLR clears both counters (R97-R99, R103, R115, R118-R121). -/
def Obligations.UplinksAndLineStates : Prop :=
  (∀ (i : Stage) (body : List Byte) (sof : Nat) (s : State), s.runs 32 = true → s.rd R.line_LSTATE [i.val] ≠ 0 →
    s.windowClosed = false → upGoodCrc body i.val = true → fld body 0 1 = 9 →
    Gives (.uplinkMeas i body true sof) s (fun t =>
      t.rd R.line_RTT [i.val] = min 1023 (2 * (sof - 1120)) ∧
      t.rd R.line_CLAIM_ECHO [i.val] = fld body 1 2 % 2 ^ 16 ∧ t.rd R.line_SEQ_ECHO [i.val] = fld body 3 1 % 2 ^ 8 ∧
      t.rd R.line_INFORCE [i.val] = fld body 4 1 % 2 ^ 8 ∧ t.rd R.line_STATUS [i.val] = fld body 17 4 % 2 ^ 32 ∧
      t.rd R.line_AUX_SEL [i.val] = fld body 21 1 % 2 ^ 8 ∧ t.rd R.line_AUX_VAL [i.val] = fld body 22 2 % 2 ^ 16 ∧
      (∀ j : Fin 4, fld body (5 + 3 * j.val) 3 ≠ 0x800000 →
        t.rdI R.line_Y [i.val, j.val] = sext 24 (fld body (5 + 3 * j.val) 3)) ∧
      (∀ j : Fin 4, fld body (5 + 3 * j.val) 3 = 0x800000 →
        t.rd R.line_Y [i.val, j.val] = s.rd R.line_Y [i.val, j.val]) ∧
      (s.active = false → s.rd R.line_LSTATE [i.val] = 1 ∨ s.rd R.line_LSTATE [i.val] = 2 ∨ s.rd R.line_LSTATE [i.val] = 4 →
        t.rd R.line_LSTATE [i.val] = 3) ∧
      (∀ n, s.active = true → s.rd R.line_LSTATE [i.val] = 2 ∨ s.rd R.line_LSTATE [i.val] = 4 →
        (s.line i).attachTmr = some n → t.rd R.line_LSTATE [i.val] = if n ≤ 8 then 3 else s.rd R.line_LSTATE [i.val]) ∧
      (t.line i).upGood = true ∧ (∀ j : Stage, j ≠ i → t.line j = s.line j) ∧
      { t with regs := s.regs, lines := s.lines } = s)) ∧
  (∀ (i : Stage) (body : List Byte) (sof : Nat) (s : State), s.runs 32 = true → s.rd R.line_LSTATE [i.val] ≠ 0 →
    s.windowClosed = false →
    Gives (.uplinkMeas i body false sof) s (fun t =>
      t.rd R.line_UP_CRC [i.val] = min (s.rd R.line_UP_CRC [i.val] + 1) (2 ^ 16 - 1) ∧
      OnlyRegs s t [R.line_UP_CRC.key [i.val]])) ∧
  (∀ (i : Stage) (body : List Byte) (c : Bool) (sof : Nat) (s : State), s.rd R.line_LSTATE [i.val] = 0 ∨ s.windowClosed = true →
    Gives (.uplinkMeas i body c sof) s (fun t => t = s)) ∧
  (∀ (i : Stage) (body : List Byte) (sof : Nat) (s : State), s.runs 32 = true → s.rd R.line_LSTATE [i.val] = 1 →
    (s.line i).probed = true → upGoodCrc body 0xFFFF = true → fld body 0 1 = 10 →
    Gives (.uplinkIdent i body true sof) s (fun t =>
      (fld body 9 1 = 1 → sof - 1120 ≤ 800 →
        t.rd R.line_LSTATE [i.val] = 2 ∧ t.rd R.line_VENDOR [i.val] = fld body 1 2 % 2 ^ 16 ∧
        t.rd R.line_MODEL [i.val] = fld body 3 2 % 2 ^ 16 ∧ t.rd R.line_SERIAL [i.val] = fld body 5 4 % 2 ^ 32 ∧
        t.rd R.line_RTT [i.val] = sof - 1120 ∧ bitB (t.rd R.hdr_IRQ_RAW [32 + i.val / 4]) (4 * (i.val % 4)) = true) ∧
      (fld body 9 1 ≠ 1 → t.rd R.line_LSTATE [i.val] = 1 ∧ t.rd R.hdr_CODE [32 + i.val / 4] = 0x0102) ∧
      (fld body 9 1 = 1 → 800 < sof - 1120 → t.rd R.line_LSTATE [i.val] = 1 ∧ t.rd R.hdr_CODE [32 + i.val / 4] = 0x0101) ∧
      (t.line i).probed = false ∧ (∀ j : Stage, j ≠ i → t.line j = s.line j) ∧
      { t with regs := s.regs, lines := s.lines } = s)) ∧
  (∀ (i : Stage) (body : List Byte) (c : Bool) (sof : Nat) (s : State), (s.line i).probed = false ∨ s.rd R.line_LSTATE [i.val] ≠ 1 →
    Gives (.uplinkIdent i body c sof) s (fun t => t = s)) ∧
  (∀ s : State, s.windowClosed = false → s.runs 32 = true →
    Gives .uplinkWindowClose s (fun t => t.windowClosed = true ∧
      ∀ i : Stage, (s.line i).upGood = false → s.rd R.line_LSTATE [i.val] = 3 →
        (t.line i).misses = (s.line i).misses + 1 ∧ (t.line i).yOk = 0)) ∧
  (∀ s : State, s.windowClosed = true → Gives .uplinkWindowClose s (fun t => t = s)) ∧
  (∀ (i : Stage) (s : State), s.rd R.line_LSTATE [i.val] = 3 → 3 ≤ (s.line i).misses →
    Gives (.lineLost i) s (fun t => t.rd R.line_LSTATE [i.val] = 4 ∧
      (t.rd R.hdr_IRQ_RAW [32 + i.val / 4]).testBit (4 * (i.val % 4) + 1) = true ∧
      OnlyRegs s t [R.line_LSTATE.key [i.val], R.hdr_IRQ_RAW.key [32 + i.val / 4]])) ∧
  (∀ (i : Stage) (s : State), s.rd R.line_LSTATE [i.val] ≠ 3 ∨ (s.line i).misses < 3 →
    Gives (.lineLost i) s (fun t => t = s)) ∧
  (∀ (i : Stage) (n : Nat) (s : State), (s.line i).attachTmr = some n → 8 < n ∨ (n = 8 ∧ s.windowClosed = true) →
    s.rd R.line_LSTATE [i.val] = 2 ∨ s.rd R.line_LSTATE [i.val] = 4 →
    Gives (.attachTimeout i) s (fun t => t.rd R.line_LSTATE [i.val] = 1 ∧ t.rd R.hdr_CODE [32 + i.val / 4] = 0x0103 ∧
      (t.line i).attachTmr = none ∧ (∀ j : Stage, j ≠ i → t.line j = s.line j) ∧
      { t with regs := s.regs, lines := s.lines } = s)) ∧
  (∀ (w : World) (i : Stage) (s : State), s.canWrite w (32 + i.val / 4) = true →
    Gives (.lineLenWrite w i true) s (fun t => t.rd R.line_LEN [i.val] = 1 ∧
      (s.rd R.line_LSTATE [i.val] = 0 → t.rd R.line_LSTATE [i.val] = 1) ∧
      (s.rd R.line_LSTATE [i.val] ≠ 0 → t.rd R.line_LSTATE [i.val] = s.rd R.line_LSTATE [i.val]) ∧
      OnlyRegs s t [R.line_LEN.key [i.val], R.line_LSTATE.key [i.val]]) ∧
    Gives (.lineLenWrite w i false) s (fun t => t.rd R.line_LEN [i.val] = 0 ∧ t.rd R.line_LSTATE [i.val] = 0 ∧
      t.rd R.line_PARTNER_HEARD [i.val] = 0 ∧ (∀ j : Stage, j ≠ i → t.line j = s.line j) ∧
      RegsBut s t [R.line_LEN.key [i.val], R.line_LSTATE.key [i.val], R.line_PARTNER_HEARD.key [i.val]] ∧
      { t with regs := s.regs, lines := s.lines } = s)) ∧
  (∀ (w : World) (i : Stage) (s : State), s.canWrite w (32 + i.val / 4) = true →
    (s.rd R.line_LSTATE [i.val] = 2 ∨ s.rd R.line_LSTATE [i.val] = 4 →
      Gives (.lineAttach w i) s (fun t => (t.line i).attachPend = true ∧ t.regs = s.regs ∧ { t with lines := s.lines } = s)) ∧
    (s.rd R.line_LSTATE [i.val] ≠ 2 → s.rd R.line_LSTATE [i.val] ≠ 4 →
      Gives (.lineAttach w i) s (fun t => t.rd R.hdr_CODE [32 + i.val / 4] = 0x0100 ∧
        OnlyRegs s t [R.hdr_CODE.key [32 + i.val / 4], R.hdr_COUNT.key [32 + i.val / 4], R.hdr_ERR.key [32 + i.val / 4]]))) ∧
  (∀ (w : World) (i : Stage) (s : State), s.canWrite w (32 + i.val / 4) = true →
    Gives (.lineFaultClr w i) s (fun t => (t.line i).faultClr = true ∧ t.regs = s.regs ∧ { t with lines := s.lines } = s) ∧
    Gives (.lineCntClr w i) s (fun t => t.rd R.line_UP_MISS [i.val] = 0 ∧ t.rd R.line_UP_CRC [i.val] = 0 ∧
      OnlyRegs s t [R.line_UP_MISS.key [i.val], R.line_UP_CRC.key [i.val]]))

/-- O18 (tier 2). In its window, once the uplink window has closed, an active module outside RECOVERY that has heard no
newer claim sends on each attached line whose command is ready a COMMAND frame with its claim, the SEQ of the next
period, the length of the next period, the references of its stage and the safety byte with its complement. One that
has heard a newer claim sends nothing, ceases to be active and is DEMOTED. A module in RECOVERY that is not active
sends nothing on any line. A second window of the same period changes nothing (R96, R98, R104, R109, R478, R593). -/
def Obligations.DownlinkWindowSpeaksByClaim : Prop :=
  (∀ (heard : List (Stage × DownFrame)) (echo : List Stage) (s : State), s.windowSent = false → s.windowClosed = true →
    s.runs 32 = true → s.active = true → s.rd R.rst_MODE [] ≠ 3 → s.runs 64 = true → mustDemote s.teth.lastHeard s = false →
    mustDemote (claimsOf heard s) s = false →
    Gives (.downlinkWindow heard echo) s (fun t => t.windowSent = true ∧
      ∀ i : Stage, s.rd R.line_LSTATE [i.val] = 3 → (s.stg i).ready = true →
        ∃ f, (t.line i).out = some f ∧ f.typ = 1 ∧ f.claim = s.rd R.teth_CLAIM [] ∧ f.seq = nextSeq s ∧
          f.periodLen = periodLen s ∧ f.refA = refOf (s.rdI R.stg_U_A [i.val]) ∧ f.refB = refOf (s.rdI R.stg_U_B [i.val]) ∧
          f.safety + f.safetyN = 255)) ∧
  (∀ (heard : List (Stage × DownFrame)) (echo : List Stage) (s : State), s.windowSent = false → s.windowClosed = true →
    s.runs 32 = true → mustDemote s.teth.lastHeard s = true →
    Gives (.downlinkWindow heard echo) s (fun t => t.windowSent = true ∧ (∀ i : Stage, (t.line i).out = none) ∧
      t.rd R.teth_ACTIVE [] = 0 ∧ t.rd R.teth_DEMOTED [] = 1 ∧ t.rd R.hdr_CODE [352] = 0x0104 ∧
      bitB (t.rd R.hdr_IRQ_RAW [352]) 1 = true)) ∧
  (∀ (heard : List (Stage × DownFrame)) (echo : List Stage) (s : State), s.windowSent = false → s.windowClosed = true →
    s.runs 32 = true → s.active = false → s.rd R.rst_MODE [] = 3 →
    Gives (.downlinkWindow heard echo) s (fun t => t.windowSent = true ∧ ∀ i : Stage, (t.line i).out = none)) ∧
  (∀ (heard : List (Stage × DownFrame)) (echo : List Stage) (s : State), s.windowSent = true ∨ s.windowClosed = false →
    Gives (.downlinkWindow heard echo) s (fun t => t = s))

/-- O19 (tier 2). A driver drops a faulty frame and counts it in CRCERR. For an attached driver, a COMMAND frame in time
with the complement of SAFETY in SAFETY_N, a claim not yet heard in the period and not below the governing one, a
defined MODE and the expected SEQ is staged for the next period start with its references and its PERIOD_LEN, a
reserved ROUTE keeping the route in force; its claim governs. One with a lower claim stages nothing; a second one of
the governing claim in the period unstages the first and shows a tie; one that ends less than 400 ns before the next
start does nothing. GP = 0 stops gating at once, a faulty SAFETY_N does so too and sets a ceiling for 8 periods, in
a SAFE frame as in a COMMAND; a SAFE frame with GP = 1 and SS = 0 changes at most PERIOD_LEN. A PROBE leaves the
driver unattached, not gating, with IDENT due and its selectors asked to open. An ATTACH gives an unattached driver
its stage number and SEQ and leaves an attached one its own (R99, R105-R112, R118). -/
def Obligations.DriverObeysTheGoverningClaim : Prop :=
  (∀ (i : Stage) (body : List Byte) (eof iNow : Nat) (s : State), (s.drv i).attached = true → downGood body (s.drv i).stage = false →
    Gives (.drvCommandFrame i body true eof iNow) s (fun t =>
      t.drv i = { s.drv i with crcErr := ((s.drv i).crcErr + 1) % 256 } ∧ t.regs = s.regs ∧
      (∀ j : Stage, j ≠ i → t.drv j = s.drv j) ∧ { t with drivers := s.drivers } = s)) ∧
  (∀ (i : Stage) (body : List Byte) (eof iNow : Nat) (s : State), (s.drv i).attached = true →
    downGood body (s.drv i).stage = true → fld body 0 1 = 1 → 920 ≤ eof → safetyOk (downDecode body) = true →
    (downDecode body).claim ≠ 0 → (downDecode body).claim ∉ (s.drv i).claims →
    (s.drv i).governing ≤ (downDecode body).claim → (downDecode body).mode ≤ 8 → (downDecode body).seq = (s.drv i).expSeq →
    Gives (.drvCommandFrame i body true eof iNow) s (fun t =>
      (t.drv i).staged = some ⟨(downDecode body).mode,
        if 4 < (downDecode body).route then (s.drv i).route else (downDecode body).route, (downDecode body).seq,
        (downDecode body).refA, (downDecode body).refB, (downDecode body).faultClr, (s.drv i).lenOf (downDecode body)⟩ ∧
      (t.drv i).governing = (downDecode body).claim ∧ (t.drv i).mode = (s.drv i).mode ∧
      (t.drv i).refA = (s.drv i).refA ∧ (t.drv i).refB = (s.drv i).refB ∧
      ((downDecode body).safety % 2 = 0 → (t.drv i).gating = false) ∧
      (∀ j : Stage, j ≠ i → t.drv j = s.drv j) ∧ { t with drivers := s.drivers, freeCtr := s.freeCtr } = s)) ∧
  (∀ (i : Stage) (body : List Byte) (eof iNow : Nat) (s : State), (s.drv i).attached = true →
    downGood body (s.drv i).stage = true → fld body 0 1 = 1 → 920 ≤ eof → (downDecode body).claim ∉ (s.drv i).claims →
    (downDecode body).claim < (s.drv i).governing →
    Gives (.drvCommandFrame i body true eof iNow) s (fun t => (t.drv i).staged = (s.drv i).staged ∧
      (t.drv i).periodLen = (s.drv i).periodLen ∧
      (t.drv i).mode = (s.drv i).mode ∧ (t.drv i).refA = (s.drv i).refA ∧ (t.drv i).refB = (s.drv i).refB)) ∧
  (∀ (i : Stage) (body : List Byte) (eof iNow : Nat) (s : State), (s.drv i).attached = true →
    downGood body (s.drv i).stage = true → fld body 0 1 = 1 → 920 ≤ eof → (downDecode body).claim ≠ 0 →
    (downDecode body).claim ∈ (s.drv i).claims → (s.drv i).governing = (downDecode body).claim →
    (s.drv i).hist.headD 0 = (downDecode body).claim →
    Gives (.drvCommandFrame i body true eof iNow) s (fun t => (t.drv i).staged = none ∧ (t.drv i).tie = true)) ∧
  (∀ (i : Stage) (body : List Byte) (eof iNow : Nat) (s : State), (s.drv i).attached = true →
    downGood body (s.drv i).stage = true → eof < 400 →
    Gives (.drvCommandFrame i body true eof iNow) s (fun t => t.drv i = s.drv i ∧
      { t with drivers := s.drivers, freeCtr := s.freeCtr } = s)) ∧
  (∀ (i : Stage) (body : List Byte) (eof iNow : Nat) (s : State), (s.drv i).attached = true →
    downGood body (s.drv i).stage = true → fld body 0 1 = 4 → 920 ≤ eof →
    Gives (.drvSafeFrame i body true eof iNow) s (fun t =>
      (safetyOk (downDecode body) = false →
        (t.drv i).gp = false ∧ (t.drv i).gating = false ∧ (t.drv i).ssLeft = 8 ∧ (t.drv i).mismatch = true) ∧
      (safetyOk (downDecode body) = true → (downDecode body).safety % 2 = 0 → (t.drv i).gp = false ∧ (t.drv i).gating = false) ∧
      (safetyOk (downDecode body) = true → (downDecode body).safety % 4 = 1 →
        t.drv i = { s.drv i with periodLen := (s.drv i).lenOf (downDecode body) }) ∧
      (t.drv i).staged = (s.drv i).staged ∧ (∀ j : Stage, j ≠ i → t.drv j = s.drv j) ∧
      { t with drivers := s.drivers, freeCtr := s.freeCtr } = s)) ∧
  (∀ (i : Stage) (body : List Byte) (eof iNow : Nat) (s : State), downGood body 0xFFFF = true → fld body 0 1 = 2 → 920 ≤ eof →
    Gives (.drvProbe i body ⟨true, eof, iNow⟩) s (fun t => (t.drv i).attached = false ∧ (t.drv i).identDue = true ∧
      (t.drv i).gating = false ∧ (t.drv i).want = 4 ∧ (t.drv i).route = (s.drv i).route ∧
      { t with drivers := s.drivers, freeCtr := s.freeCtr } = s)) ∧
  (∀ (i : Stage) (body : List Byte) (eof iNow : Nat) (s : State), downGood body 0xFFFF = true → fld body 0 1 = 3 → 920 ≤ eof →
    Gives (.drvAttach i body ⟨true, eof, iNow⟩) s (fun t => (t.drv i).attached = true ∧
      ((s.drv i).attached = false → (t.drv i).stage = fld body 7 2 ∧ (t.drv i).expSeq = fld body 3 1) ∧
      ((s.drv i).attached = true → (t.drv i).stage = (s.drv i).stage ∧ (t.drv i).expSeq = (s.drv i).expSeq) ∧
      { t with drivers := s.drivers, freeCtr := s.freeCtr } = s)) ∧
  (∀ (i : Stage) (body : List Byte) (eof iNow : Nat) (s : State), downGood body 0xFFFF = false →
    Gives (.drvProbe i body ⟨true, eof, iNow⟩) s (fun t => t.drv i = { s.drv i with crcErr := ((s.drv i).crcErr + 1) % 256 } ∧
      { t with drivers := s.drivers } = s) ∧
    Gives (.drvAttach i body ⟨true, eof, iNow⟩) s (fun t => t.drv i = { s.drv i with crcErr := ((s.drv i).crcErr + 1) % 256 } ∧
      { t with drivers := s.drivers } = s))

/-- O20 (tier 2). At a period start a staged command of an attached driver without fault or opened selectors takes its
MODE, references and PERIOD_LEN, and nothing is staged any more. A missed one is counted and the references stand;
from the fifth to the 36th in a row the output is limited to a ramp from |Y0| at the fifth, and with the 37th the
driver stops after silence. An attached driver sends a MEAS frame of its state with the samples, an unattached one
with IDENT due in the period before its IDENT. A fault stops gating and latches FAULT; a cause that goes leaves it
latched. Selectors that arrive put their route in force, or show SEL_WELD; with none moving nothing changes. A reset
leaves the driver as after reset, and no command touches another driver (R97, R102, R103, R112-R114, R116-R118). -/
def Obligations.DriverHoldsRampsAndTrips : Prop :=
  (∀ (i : Stage) (m : DriverMeas) (hw : Bool) (c : DrvCmd) (s : State), (s.drv i).attached = true →
    (s.drv i).staged = some c → (s.drv i).faulted = false → (s.drv i).opened = false →
    Gives (.driverPeriodStart i m hw) s (fun t =>
      (t.drv i).mode = c.mode ∧ (t.drv i).refA = c.refA ∧ (t.drv i).refB = c.refB ∧ (t.drv i).seqEcho = c.seq ∧
      (t.drv i).periodLen = c.len ∧ (t.drv i).missed = 0 ∧ (t.drv i).staged = none ∧ (t.drv i).limit = none ∧
      (∀ j : Stage, j ≠ i → t.drv j = s.drv j) ∧ { t with drivers := s.drivers } = s)) ∧
  (∀ (i : Stage) (m : DriverMeas) (hw : Bool) (s : State), (s.drv i).attached = true → (s.drv i).staged = none →
    Gives (.driverPeriodStart i m hw) s (fun t =>
      (t.drv i).missed = (s.drv i).missed + 1 ∧ (t.drv i).miss = ((s.drv i).miss + 1) % 256 ∧
      (t.drv i).refA = (s.drv i).refA ∧ (t.drv i).refB = (s.drv i).refB ∧
      ((s.drv i).missed + 1 = 5 → (t.drv i).rampFrom = (sext 24 (m.y.getD 0 noSample)).natAbs) ∧
      (5 ≤ (s.drv i).missed + 1 → (s.drv i).missed + 1 ≤ 36 →
        (t.drv i).limit = some ((t.drv i).rampFrom * (35 - (s.drv i).missed) / 32)) ∧
      (36 < (s.drv i).missed + 1 → (t.drv i).silence = true ∧ (t.drv i).gating = false) ∧
      (∀ j : Stage, j ≠ i → t.drv j = s.drv j) ∧ { t with drivers := s.drivers } = s)) ∧
  (∀ (i : Stage) (m : DriverMeas) (hw : Bool) (s : State),
    Gives (.driverPeriodStart i m hw) s (fun t =>
      ((s.drv i).attached = true → (t.drv i).out = some ((t.drv i).meas m.y m.auxSel m.auxVal)) ∧
      ((s.drv i).attached = false → (s.drv i).identDue = true → (t.drv i).out = some (identBody i.val)) ∧
      ((s.drv i).attached = false → (s.drv i).identDue = false → (t.drv i).out = none))) ∧
  (∀ (i : Stage) (c : Fin 4) (s : State),
    Gives (.driverFault i c true) s (fun t => (t.drv i).faulted = true ∧ (t.drv i).gating = false ∧ (t.drv i).mode = 8 ∧
      (t.drv i).causes.testBit c.val = true ∧ (∀ j : Stage, j ≠ i → t.drv j = s.drv j) ∧ { t with drivers := s.drivers } = s) ∧
    Gives (.driverFault i c false) s (fun t => (t.drv i).faulted = (s.drv i).faulted ∧
      (t.drv i).causes.testBit c.val = false ∧ (∀ j : Stage, j ≠ i → t.drv j = s.drv j) ∧ { t with drivers := s.drivers } = s)) ∧
  (∀ (i : Stage) (r : Nat) (s : State), (s.drv i).selTo = some r →
    Gives (.selectorMoveDone i false) s (fun t => (t.drv i).route = r ∧ (t.drv i).selTo = none ∧ (t.drv i).selWeld = false ∧
      (∀ j : Stage, j ≠ i → t.drv j = s.drv j) ∧ { t with drivers := s.drivers } = s) ∧
    Gives (.selectorMoveDone i true) s (fun t => (t.drv i).route = (s.drv i).route ∧ (t.drv i).selWeld = true ∧
      (t.drv i).selTo = none ∧ (∀ j : Stage, j ≠ i → t.drv j = s.drv j) ∧ { t with drivers := s.drivers } = s)) ∧
  (∀ (i : Stage) (weld : Bool) (s : State), (s.drv i).selTo = none →
    Gives (.selectorMoveDone i weld) s (fun t => t = s)) ∧
  (∀ (i : Stage) (s : State),
    Gives (.driverReset i) s (fun t => t.drv i = DrvS.reset ∧ (∀ j : Stage, j ≠ i → t.drv j = s.drv j) ∧
      { t with drivers := s.drivers } = s))

/-- O21 (tier 2). A word written to a bank that is not locked is stored, but for its reserved bits, and empties the
bank; on a locked bank it is refused with 0x0102. BANK_CHECK starts the load check of the banks that are not locked,
and its end leaves each VALID or INVALID by the check, INVALID with 0x0100 and its interrupt; on a bank that is not
being checked the end changes nothing. A stage not yet failed with a measurement flagged in three periods, or
FAIL_SET, is marked failed with its cause, cycle and period; without such a measurement, or failed already, nothing
changes. FAIL_CLR, with OFF in force and a VALID bank, clears it and sets the prediction to zero, and changes
nothing otherwise. SAT_CLR and LOAD_CLR clear their counters (R10, R133, R135, R136, R152, R153, R163, R164). -/
def Obligations.BanksLoadAndStagesFail : Prop :=
  (∀ (w : World) (b : Fin 16) (k : Fin 192) (v : Word) (s : State), s.canWrite w (97 + b.val / 4) = true → bankLocked s b.val = false →
    Gives (.bankWrite w b k v) s (fun t => bankW t b.val (4 * k.val) = v.toNat &&& bankMask k.val ∧ bankState t b.val = 0 ∧
      (∀ (c : Fin 16) (j : Fin 192), ¬(c = b ∧ j = k) → bankW t c.val (4 * j.val) = bankW s c.val (4 * j.val)) ∧
      t.regs = s.regs ∧ { t with brn := s.brn } = s)) ∧
  (∀ (w : World) (v : Word) (s : State), s.canWrite w 64 = true →
    Gives (.bankCheck w v) s (fun t =>
      (∀ b : Fin 16, bankState t b.val = if v.toNat.testBit b.val && !bankLocked s b.val then 3 else bankState s b.val) ∧
      t.regs = s.regs ∧ { t with brn := s.brn } = s)) ∧
  (∀ (b : Fin 16) (s : State), bankState s b.val = 3 →
    Gives (.bankDone b) s (fun t => bankState t b.val = (if bankLoads s b.val then 1 else 2) ∧
      (t.rd R.hdr_IRQ_RAW [64]).testBit 0 = true ∧
      (bankLoads s b.val = false → t.rd R.hdr_CODE [97 + b.val / 4] = 0x0100 ∧ (t.rd R.hdr_IRQ_RAW [64]).testBit 1 = true) ∧
      { t with regs := s.regs, brn := s.brn } = s)) ∧
  (∀ (i : Stage) (s : State), resFull s i = true → s.rd R.stg_FAILED [i.val] = 0 →
    Gives (.stageFailed i) s (fun t => t.rd R.stg_FAILED [i.val] = 1 ∧ t.rd R.stg_CAUSE [i.val] = failCause s i ∧
      t.rd R.stg_FAIL_CYCLE [i.val] = s.spar.cycle % 2 ^ 32 ∧ t.rd R.stg_FAIL_PERIOD [i.val] = s.spar.period % 2 ^ 10 ∧
      { t with regs := s.regs, brn := s.brn } = s)) ∧
  (∀ (w : World) (i : Stage) (s : State), s.canWrite w (65 + i.val / 4) = true →
    Gives (.failSet w i) s (fun t => t.rd R.stg_FAILED [i.val] = 1 ∧ t.rd R.stg_CAUSE [i.val] = 4 ∧
      t.rd R.stg_FAIL_CYCLE [i.val] = s.spar.cycle % 2 ^ 32 ∧ t.rd R.stg_FAIL_PERIOD [i.val] = s.spar.period % 2 ^ 10 ∧
      (t.rd R.hdr_IRQ_RAW [65 + i.val / 4]).testBit (4 * (i.val % 4)) = true ∧
      { t with regs := s.regs, brn := s.brn } = s)) ∧
  (∀ (w : World) (i : Stage) (s : State), s.canWrite w (65 + i.val / 4) = true → modeForce s i = 0 → bankOk s i = true →
    Gives (.failClr w i) s (fun t => t.rd R.stg_FAILED [i.val] = 0 ∧ t.rd R.stg_CAUSE [i.val] = 0 ∧
      (∀ k, k < 8 → t.rd R.stg_XHAT [i.val, k] = 0) ∧ (t.stg i).resCnt = Vector.replicate 4 0 ∧
      (∀ j : Stage, j ≠ i → t.stg j = s.stg j) ∧ { t with regs := s.regs, stages := s.stages } = s)) ∧
  (∀ (w : World) (i : Stage) (s : State), s.canWrite w (65 + i.val / 4) = true →
    Gives (.satClr w i) s (fun t => t.rd R.stg_SAT_CNT [i.val] = 0 ∧ OnlyRegs s t [R.stg_SAT_CNT.key [i.val]])) ∧
  (∀ (w : World) (s : State), s.canWrite w 64 = true →
    Gives (.loadClr w) s (fun t => t.rd R.brn_MAX_NS [] = 0 ∧ t.rd R.brn_OVERRUN [] = 0 ∧
      OnlyRegs s t [R.brn_MAX_NS.key [], R.brn_OVERRUN.key []])) ∧
  (∀ (w : World) (b : Fin 16) (k : Fin 192) (v : Word) (s : State), s.canWrite w (97 + b.val / 4) = true → bankLocked s b.val = true →
    Gives (.bankWrite w b k v) s (fun t => t.rd R.hdr_CODE [97 + b.val / 4] = 0x0102 ∧
      OnlyRegs s t [R.hdr_CODE.key [97 + b.val / 4], R.hdr_COUNT.key [97 + b.val / 4], R.hdr_ERR.key [97 + b.val / 4]])) ∧
  (∀ (b : Fin 16) (s : State), bankState s b.val ≠ 3 → Gives (.bankDone b) s (fun t => t = s)) ∧
  (∀ (i : Stage) (s : State), resFull s i = false ∨ s.rd R.stg_FAILED [i.val] ≠ 0 → Gives (.stageFailed i) s (fun t => t = s)) ∧
  (∀ (w : World) (i : Stage) (s : State), s.canWrite w (65 + i.val / 4) = true → modeForce s i ≠ 0 ∨ bankOk s i = false →
    Gives (.failClr w i) s (fun t => t = s))

/-- O22 (tier 2). ARM from IDLE or DONE arms with the rings at their start, and changes nothing when armed or triggered.
SWTRIG on an armed Spool triggers it, latches the cycle, the period and each probe's write position (the slot below
it once the period's computation is done: the model's choice, log entry 195) and leaves each probe (8 - PRE) x 8,192
samples; in any other state it changes nothing. STOP makes it IDLE from any state and leaves the trace. A triggered
Spool whose enabled probes have all recorded their samples is DONE; SPOOL_DONE changes nothing before that and in
the other states (R158, R159). -/
def Obligations.SpoolArmsTriggersAndStops : Prop :=
  (∀ (w : World) (s : State), s.canWrite w 64 = true → s.rd R.spl_STATE [] = 0 ∨ s.rd R.spl_STATE [] = 3 →
    Gives (.spoolArm w) s (fun t => t.rd R.spl_STATE [] = 1 ∧ t.brn.pos = Vector.replicate 16 0 ∧ t.brn.spool = s.brn.spool ∧
      RegsBut s t [R.spl_STATE.key []] ∧ { t with regs := s.regs, brn := s.brn } = s)) ∧
  (∀ (w : World) (s : State), s.canWrite w 64 = true → s.rd R.spl_STATE [] = 1 →
    Gives (.swtrig w) s (fun t => t.rd R.spl_STATE [] = 2 ∧ t.rd R.brn_TRIG_CYCLE [] = s.spar.cycle % 2 ^ 32 ∧
      t.rd R.brn_TRIG_PERIOD [] = s.spar.period % 2 ^ R.brn_TRIG_PERIOD.w ∧
      (∀ n : Fin 16, t.rd R.brn_TRIG_INDEX [n.val] = (s.brn.pos[n] + (if s.brn.done then 65535 else 0)) % 65536) ∧
      t.brn.left = Vector.replicate 16 ((8 - s.rd R.spl_PRE []) * 8192) ∧ t.brn.spool = s.brn.spool ∧
      { t with regs := s.regs, brn := s.brn } = s)) ∧
  (∀ (w : World) (s : State), s.canWrite w 64 = true →
    Gives (.spoolStop w) s (fun t => t.rd R.spl_STATE [] = 0 ∧ OnlyRegs s t [R.spl_STATE.key []])) ∧
  (∀ s : State, s.rd R.spl_STATE [] = 2 → (∀ n : Fin 16, s.rd R.prb_EN [n.val] = 0 ∨ s.brn.left[n] = 0) →
    Gives .spoolDone s (fun t => t.rd R.spl_STATE [] = 3 ∧ OnlyRegs s t [R.spl_STATE.key []])) ∧
  (∀ (w : World) (s : State), s.canWrite w 64 = true → s.rd R.spl_STATE [] = 1 ∨ s.rd R.spl_STATE [] = 2 →
    Gives (.spoolArm w) s (fun t => t = s)) ∧
  (∀ (w : World) (s : State), s.canWrite w 64 = true → s.rd R.spl_STATE [] ≠ 1 → Gives (.swtrig w) s (fun t => t = s)) ∧
  (∀ (n : Fin 16) (s : State), s.rd R.spl_STATE [] ≠ 2 ∨ (s.rd R.prb_EN [n.val] ≠ 0 ∧ s.brn.left[n] ≠ 0) →
    Gives .spoolDone s (fun t => t = s))

/-- O23 (tier 2). A soft start that runs out of time makes the port SHORT with SHORT_SS and a zero reference, and its
stages OFF. Burst operation begins after eight low ticks where not all stages would BLAST, and its starting point
rotates after ROT_TICKS ticks, with NBLAST the number of BLAST stages. A failed stage of small current, eight
periods in FAULT, opens its route. A handover out of time is aborted: OFF, route 4, not available, until HO_ABORT is
cleared with route 4 and OFF in force. Each of the six changes nothing where its condition does not hold (R167,
R171, R172, R174, R178, R182). -/
def Obligations.RegulationBurstAndHandoverEvents : Prop :=
  (∀ (p : Port) (s : State), s.rd R.prt_PSTATE [p.val] = 1 → (s.prt p).ssTime ≤ (s.prt p).ssCount → (s.prt p).ssOver = false →
    Gives (.shortSoftstart p) s (fun t => t.rd R.prt_PSTATE [p.val] = 5 ∧ t.rd R.prt_SHORT_SS [p.val] = 1 ∧
      t.rd R.prt_IREF [p.val] = 0 ∧
      (∀ i : Stage, portOf s i = some p → i.val / 16 = p.val / 4 → smode s i ≠ 8 → smode t i = 0) ∧
      { t with regs := s.regs, stages := s.stages, ports := s.ports, brn := s.brn } = s)) ∧
  (∀ (p : Port) (s : State), 8 ≤ (s.prt p).burstLow → s.rd R.prt_BURST [p.val] = 0 →
    burstNb s p (burstStages s p).length < (burstStages s p).length →
    Gives (.burstEntry p) s (fun t => t.rd R.prt_BURST [p.val] = 1 ∧
      t.rd R.prt_NBLAST [p.val] = burstNb s p (burstStages s p).length ∧ (t.prt p).burstLow = 0 ∧ (t.prt p).rotCnt = 0 ∧
      { t with regs := s.regs, stages := s.stages, ports := s.ports } = s)) ∧
  (∀ (p : Port) (s : State), s.rd R.prt_BURST [p.val] = 1 → s.rd R.prt_ROT_TICKS [p.val] ≠ 0 →
    s.rd R.prt_ROT_TICKS [p.val] ≤ (s.prt p).rotCnt →
    Gives (.burstRotate p) s (fun t => (t.prt p).rotCnt = 0 ∧ t.rd R.prt_BURST [p.val] = 1 ∧
      t.rd R.prt_NBLAST [p.val] = burstNb s p (burstStages s p).length ∧
      { t with regs := s.regs, stages := s.stages, ports := s.ports } = s)) ∧
  (∀ (i : Stage) (s : State), smode s i = 8 → 8 ≤ (s.stg i).faultAge → smallCurrent s i = true → s.rd R.stg_HO_ABORT [i.val] = 0 →
    Gives (.faultRouteOpen i) s (fun t => (t.stg i).faultOpen = true ∧ routeOut t i = 4 ∧ t.regs = s.regs ∧
      (∀ j : Stage, j ≠ i → t.stg j = s.stg j) ∧ { t with stages := s.stages } = s)) ∧
  (∀ (i : Stage) (s : State), hoExpired s i = true →
    Gives (.handoverAbort i) s (fun t => smode t i = 0 ∧ t.rd R.stg_HOSTATE [i.val] = 5 ∧ t.rd R.stg_HO_ABORT [i.val] = 1 ∧
      t.rd R.stg_AVAIL [i.val] = 0 ∧ routeOut t i = 4 ∧ (∀ j : Stage, j ≠ i → t.stg j = s.stg j) ∧
      { t with regs := s.regs, stages := s.stages } = s)) ∧
  (∀ (w : World) (i : Stage) (s : State), s.canWrite w (65 + i.val / 4) = true → routeForce s i = 4 → modeForce s i = 0 →
    s.rd R.stg_HO_ABORT [i.val] = 1 →
    Gives (.hoAbortClear w i) s (fun t => t.rd R.stg_HO_ABORT [i.val] = 0 ∧ t.rd R.stg_HOSTATE [i.val] = 0 ∧
      OnlyRegs s t [R.stg_HO_ABORT.key [i.val], R.stg_HOSTATE.key [i.val]])) ∧
  (∀ (p : Port) (s : State), s.rd R.prt_PSTATE [p.val] ≠ 1 ∨ (s.prt p).ssCount < (s.prt p).ssTime ∨ (s.prt p).ssOver = true →
    Gives (.shortSoftstart p) s (fun t => t = s)) ∧
  (∀ (p : Port) (s : State), (s.prt p).burstLow < 8 ∨ s.rd R.prt_BURST [p.val] ≠ 0 ∨
      (burstStages s p).length ≤ burstNb s p (burstStages s p).length → Gives (.burstEntry p) s (fun t => t = s)) ∧
  (∀ (p : Port) (s : State), s.rd R.prt_BURST [p.val] = 0 ∨ s.rd R.prt_ROT_TICKS [p.val] = 0 ∨
      (s.prt p).rotCnt < s.rd R.prt_ROT_TICKS [p.val] → Gives (.burstRotate p) s (fun t => t = s)) ∧
  (∀ (i : Stage) (s : State), smode s i ≠ 8 ∨ (s.stg i).faultAge < 8 ∨ smallCurrent s i = false →
    Gives (.faultRouteOpen i) s (fun t => t = s)) ∧
  (∀ (i : Stage) (s : State), hoExpired s i = false → Gives (.handoverAbort i) s (fun t => t = s)) ∧
  (∀ (w : World) (i : Stage) (s : State), s.canWrite w (65 + i.val / 4) = true →
    routeForce s i ≠ 4 ∨ modeForce s i ≠ 0 ∨ s.rd R.stg_HO_ABORT [i.val] = 0 → Gives (.hoAbortClear w i) s (fun t => t = s))

/-- O24 (tier 2). With the block running, a solve that ends before period 126 with its checks passed makes the plan
READY with IRQ_RAW.READY, ends the run of discarded plans and reports SOLVE_US; one that fails them discards the
plan with 0x0100 and counts it in FAILRUN; one that ends in period 126 or later is discarded with 0x0101. Without a
solve, or with the block stopped, SOLVE_DONE changes nothing. A plan not complete by period 126 is discarded as
late, with the plan in force untouched; before it, or with no solve under way, PLAN_LATE changes nothing. HOLD of
the Loft table that has stood for 1,000 cycles is cleared with its error; a shorter one, or none, stays (R185, R209,
R215, R216). -/
def Obligations.PlansCompleteOrAreDiscarded : Prop :=
  (∀ (r : BrdSol) (s : State), s.runs 128 = true → s.brd.solving = some r → r.ok = true → s.spar.period < 126 →
    Gives .solveDone s (fun t => t.rd R.brd_READY [] = 1 ∧ t.brd.ready = some r.plan ∧ t.brd.solving = none ∧
      t.rd R.brd_SOLVE_US [] = 1650 ∧ t.rd R.brd_FAILRUN [] = 0 ∧ (t.rd R.hdr_IRQ_RAW [128]).testBit 0 = true ∧
      (∀ p : Port, t.rd R.bpt_ALLOC [p.val] = s.rd R.bpt_ALLOC [p.val]) ∧
      { t with regs := s.regs, brd := s.brd } = s)) ∧
  (∀ (r : BrdSol) (s : State), s.runs 128 = true → s.brd.solving = some r → r.ok = false → s.spar.period < 126 →
    Gives .solveDone s (fun t => t.rd R.hdr_CODE [128] = 0x0100 ∧ t.brd.ready = none ∧ t.brd.solving = none ∧
      t.brd.discarded = true ∧ t.rd R.brd_FAILRUN [] = min (s.rd R.brd_FAILRUN [] + 1) (2 ^ R.brd_FAILRUN.w - 1) ∧
      (∀ p : Port, t.rd R.bpt_ALLOC [p.val] = s.rd R.bpt_ALLOC [p.val]) ∧
      { t with regs := s.regs, brd := s.brd } = s)) ∧
  (∀ s : State, s.brd.solving.isSome = true → 126 ≤ s.spar.period →
    Gives .planLate s (fun t => t.rd R.hdr_CODE [128] = 0x0101 ∧ t.brd.ready = none ∧ t.brd.solving = none ∧
      t.rd R.brd_FAILRUN [] = min (s.rd R.brd_FAILRUN [] + 1) (2 ^ R.brd_FAILRUN.w - 1) ∧
      RegsBut s t [R.hdr_CODE.key [128], R.hdr_COUNT.key [128], R.hdr_ERR.key [128], R.brd_FAILRUN.key []] ∧
      { t with regs := s.regs, brd := s.brd } = s)) ∧
  (∀ s : State, s.rd R.lft_HOLD [] = 1 → 1000 ≤ s.brd.holdCycles →
    Gives .loftHoldTimeout s (fun t => t.rd R.lft_HOLD [] = 0 ∧ t.rd R.hdr_CODE [128] = 0x0103 ∧
      (t.rd R.hdr_IRQ_RAW [128]).testBit 7 = true ∧ t.brd.holdCycles = 0 ∧
      RegsBut s t [R.lft_HOLD.key [], R.hdr_CODE.key [128], R.hdr_COUNT.key [128], R.hdr_ERR.key [128], R.hdr_IRQ_RAW.key [128]] ∧
      { t with regs := s.regs, brd := s.brd } = s)) ∧
  (∀ s : State, s.runs 128 = true → s.brd.solving.isSome = true → 126 ≤ s.spar.period →
    Gives .solveDone s (fun t => t.rd R.hdr_CODE [128] = 0x0101 ∧ t.brd.ready = none ∧ t.brd.solving = none ∧
      t.brd.discarded = true ∧
      RegsBut s t [R.hdr_CODE.key [128], R.hdr_COUNT.key [128], R.hdr_ERR.key [128], R.brd_FAILRUN.key []] ∧
      { t with regs := s.regs, brd := s.brd } = s)) ∧
  (∀ s : State, s.runs 128 = false ∨ s.brd.solving = none → Gives .solveDone s (fun t => t = s)) ∧
  (∀ s : State, s.brd.solving = none ∨ s.spar.period < 126 → Gives .planLate s (fun t => t = s)) ∧
  (∀ s : State, s.rd R.lft_HOLD [] = 0 ∨ s.brd.holdCycles < 1000 → Gives .loftHoldTimeout s (fun t => t = s))

/-- O25 (tier 2). Each of the thirteen events firmware may post, written by a granted world to a port that runs or whose
state discards none, sets its own bit of EVT_PEND and changes nothing else; BILL_DISC does so from W1 alone, with
the interrupt of BILL and, as the first of the session, a log entry and a watch that begins then, and gives another
granted world the error 0x0101; HB restarts the heartbeat timer and is never pending. An event posted to a port that
does not run, in a state that discards it, sets its bit of EVT_DROP and leaves its bit of EVT_PEND clear; one on
which that state acts stays pending. CONT_WELD is cleared only while the readback is open; EVT_DROP bits are cleared
by a write of 1 (R233, R234, R240, R250, R252, R363, R379). -/
def Obligations.FirmwareEventsOfASessionArePosted : Prop :=
  (∀ (w : World) (p : Port) (s : State) (c : Instr) (n : Nat), s.canWrite w (160 + p.val) = true →
    s.runs (160 + p.val) = true ∨ discards (sstate s p) = false →
    (c, n) ∈ [(Instr.linkUp w p, 0), (.authOk w p, 1), (.authFail w p, 2), (.isoGo w p, 3), (.preGo w p, 4), (.startSession w p, 5),
      (.stopSession w p, 6), (.pause w p, 7), (.resume w p, 8), (.weldDone w p, 9), (.newSess w p, 10), (.oos w p, 11),
      (.inService w p, 12)] →
    Gives c s (fun t => t.rd R.port_EVT_PEND [p.val] = setBit (s.rd R.port_EVT_PEND [p.val]) n true ∧
      OnlyRegs s t [R.port_EVT_PEND.key [p.val]])) ∧
  (∀ (w : World) (p : Port) (s : State), s.canWrite w (160 + p.val) = true → w.val = 1 →
    s.runs (160 + p.val) = true ∨ discards (sstate s p) = false →
    Gives (.billDisc w p) s (fun t => t.rd R.port_EVT_PEND [p.val] = setBit (s.rd R.port_EVT_PEND [p.val]) 14 true ∧
      (s.inReset 15 = true → OnlyRegs s t [R.port_EVT_PEND.key [p.val]]) ∧
      (s.inReset 15 = false → bitB (t.rd R.hdr_IRQ_RAW [304]) 4 = true ∧
        ((discWatch s p).isSome = true → RegsBut s t [R.port_EVT_PEND.key [p.val], R.hdr_IRQ_RAW.key [304]] ∧
          { t with regs := s.regs } = s) ∧
        (discWatch s p = none → t.bill.sess[p].disc = some ⟨s.rd R.port_SESS_ID [p.val], monoMs s, false, false, false⟩ ∧
          t.rd R.bill_LOG_SEQ [] = (s.rd R.bill_LOG_SEQ [] + 1) % 2 ^ 32 ∧
          { t with regs := s.regs, bill := s.bill } = s)))) ∧
  (∀ (w : World) (p : Port) (s : State), s.canWrite w (160 + p.val) = true → w.val ≠ 1 →
    Gives (.billDisc w p) s (fun t => t.rd R.hdr_CODE [160 + p.val] = 0x0101 ∧ t.rd R.hdr_ERR [160 + p.val] = 1 ∧
      OnlyRegs s t [R.hdr_CODE.key [160 + p.val], R.hdr_COUNT.key [160 + p.val], R.hdr_ERR.key [160 + p.val]])) ∧
  (∀ (w : World) (p : Port) (s : State) (c : Instr) (n : Nat), s.canWrite w (160 + p.val) = true → s.runs (160 + p.val) = false →
    (c, n) ∈ [(Instr.linkUp w p, 0), (.authOk w p, 1), (.authFail w p, 2), (.isoGo w p, 3), (.preGo w p, 4), (.startSession w p, 5),
      (.stopSession w p, 6), (.pause w p, 7), (.resume w p, 8), (.weldDone w p, 9), (.newSess w p, 10), (.oos w p, 11),
      (.inService w p, 12)] → discards (sstate s p) = true → actsOn s p n = false →
    Gives c s (fun t => bitB (t.rd R.port_EVT_PEND [p.val]) n = false ∧ bitB (t.rd R.port_EVT_DROP [p.val]) n = true ∧
      t.rd R.hdr_CODE [160 + p.val] = 0x0100 ∧ bitB (t.rd R.hdr_IRQ_RAW [160 + p.val]) 6 = true ∧
      { t with regs := s.regs } = s)) ∧
  (∀ (w : World) (p : Port) (s : State), s.canWrite w (160 + p.val) = true →
    Gives (.hb w p) s (fun t => t.se p = { s.se p with hbLost := false, hbAt := s.now, hbMs := s.rd R.port_HB_TMO [p.val] } ∧
      (∀ q : Port, q ≠ p → t.se q = s.se q) ∧ { t with sess := s.sess } = s)) ∧
  (∀ (w : World) (p : Port) (s : State), s.canWrite w (160 + p.val) = true → s.rd R.port_CONT_FB [p.val] = 0 →
    Gives (.contWeldClear w p) s (fun t => t.rd R.port_CONT_WELD [p.val] = 0 ∧ OnlyRegs s t [R.port_CONT_WELD.key [p.val]])) ∧
  (∀ (w : World) (p : Port) (s : State), s.canWrite w (160 + p.val) = true → s.rd R.port_CONT_FB [p.val] = 1 →
    Gives (.contWeldClear w p) s (fun t => t = s)) ∧
  (∀ (w : World) (p : Port) (v : Word) (s : State), s.canWrite w (160 + p.val) = true →
    Gives (.evtDropClear w p v) s (fun t =>
      (∀ i, (t.rd R.port_EVT_DROP [p.val]).testBit i = ((s.rd R.port_EVT_DROP [p.val]).testBit i && !v.toNat.testBit i)) ∧
      OnlyRegs s t [R.port_EVT_DROP.key [p.val]])) ∧
  (∀ (w : World) (p : Port) (s : State) (c : Instr) (n : Nat), s.canWrite w (160 + p.val) = true → s.runs (160 + p.val) = false →
    (c, n) ∈ [(Instr.newSess w p, 10), (.oos w p, 11), (.inService w p, 12)] → discards (sstate s p) = true → actsOn s p n = true →
    Gives c s (fun t => bitB (t.rd R.port_EVT_PEND [p.val]) n = true ∧ { t with regs := s.regs } = s)) ∧
  (∀ (w : World) (p : Port) (s : State), s.canWrite w (160 + p.val) = true → w.val = 1 → s.runs (160 + p.val) = false →
    discards (sstate s p) = true →
    Gives (.billDisc w p) s (fun t => bitB (t.rd R.port_EVT_PEND [p.val]) 14 = false ∧
      bitB (t.rd R.port_EVT_DROP [p.val]) 14 = true ∧ t.rd R.hdr_CODE [160 + p.val] = 0x0100 ∧
      bitB (t.rd R.hdr_IRQ_RAW [160 + p.val]) 6 = true ∧ { t with regs := s.regs, bill := s.bill } = s))

/-- O26 (tier 2). On the active module with the port running: the timeout of a state is noted in that state alone, once
the state or the step has stood for the time its register gave when the timer started (R252); HB_LOST in AUTH to
PAUSED, the HB_TMO of that moment after HB was last written; CONT_TMO is CONT_FAIL with the contactor requested and
CONT_WELD without, in WELDCHECK with its cause, in step 1 completing the step; a discharge step out of time is
noted; the completion of settling, of the discharge and of the stop is noted. An insulation result below ISO_FAULT x
ISO_VTEST is a failure, one below ISO_WARN x ISO_VTEST a pass with warning; the continuous measurement is judged at
its own mean voltage. Before its time has passed, in another state or step, on a module that is not active or with
the port stopped, each of these commands changes nothing. Every opening of the contactor is counted, and those above
CONT_IBRK in LOADBRK, saturating (R237, R240, R242, R243, R245, R246, R250, R251). -/
def Obligations.SessionTimersAndStepsAreNoted : Prop :=
  (∀ (p : Port) (s : State) (c : Instr) (st ms a : Nat), sessRuns s p = true → sstate s p = st →
    (c, st, ms) ∈ [(Instr.linkTmo p, 1, (s.se p).stMs), (.authTmo p, 2, (s.se p).stMs),
        (.readyTmo p, 3, (s.se p).stMs), (.preTmo p, 5, (s.se p).stMs),
        (.rampTmo p, 7, (s.se p).stMs), (.pauseTmo p, 8, (s.se p).stMs)] ∧ a = (s.se p).stAt ∨
      (c, st, ms, a) = (.isoTmo p, 4, (s.se p).stMs, (s.se p).stAt) ∧ sstep s p < 6 ∨
      (c, st, ms, a) = (.weldTmo p, 9, (s.se p).stepMs, (s.se p).stepAt) ∧ sstep s p = 3 →
    a + 200000 * ms ≤ s.now + s.spar.clocks →
    Gives c s (fun t => t.se p = { s.se p with tmo := true } ∧ (∀ q : Port, q ≠ p → t.se q = s.se q) ∧ { t with sess := s.sess } = s)) ∧
  (∀ (p : Port) (s : State), sessRuns s p = true → 2 ≤ sstate s p → sstate s p ≤ 8 →
    (s.se p).hbAt + 200000 * (s.se p).hbMs ≤ s.now + s.spar.clocks →
    Gives (.hbLost p) s (fun t => t.se p = { s.se p with hbLost := true } ∧ (∀ q : Port, q ≠ p → t.se q = s.se q) ∧
      { t with sess := s.sess } = s)) ∧
  (∀ (p : Port) (s : State), sessRuns s p = true → s.rd R.port_CONT_REQ [p.val] = 1 → s.rd R.port_CONT_FB [p.val] = 0 →
    heldFor s (s.se p).contAt (200000 * (s.se p).contMs) = true →
    Gives (.contTmo p) s (fun t => t.se p = { s.se p with contFail := true } ∧ { t with sess := s.sess } = s)) ∧
  (∀ (p : Port) (s : State), sessRuns s p = true → s.rd R.port_CONT_REQ [p.val] = 0 → s.rd R.port_CONT_FB [p.val] = 1 → sstate s p ≠ 9 →
    heldFor s (s.se p).contAt (200000 * (s.se p).contMs) = true →
    Gives (.contTmo p) s (fun t => t.rd R.port_CONT_WELD [p.val] = 1 ∧ OnlyRegs s t [R.port_CONT_WELD.key [p.val]])) ∧
  (∀ (p : Port) (s : State), sessRuns s p = true → 60000 < portVolt s p → sstate s p = 4 → sstep s p = 5 →
    stepHeld s p = true →
    Gives (.dischTmo p) s (fun t => t.se p = { s.se p with dischFail := true } ∧ { t with sess := s.sess } = s)) ∧
  (∀ (p : Port) (s : State), sessRuns s p = true → 60000 < portVolt s p → sstate s p = 9 → sstep s p = 2 →
    stepHeld s p = true →
    Gives (.dischTmo p) s (fun t => t.se p = { s.se p with dischTmo := true } ∧ { t with sess := s.sess } = s)) ∧
  (∀ (p : Port) (s : State), sessRuns s p = true → sstate s p = 4 → sstep s p = 3 →
    stepHeld s p = true →
    Gives (.isoSettleDone p) s (fun t => t.se p = { s.se p with stepDone := true } ∧ { t with sess := s.sess } = s)) ∧
  (∀ (p : Port) (s : State), sessRuns s p = true → portVolt s p ≤ 60000 → (sstate s p = 4 ∧ sstep s p = 5 ∨ sstate s p = 9 ∧
    sstep s p = 2) →
    Gives (.dischargeDone p) s (fun t => t.se p = { s.se p with stepDone := true } ∧ { t with sess := s.sess } = s)) ∧
  (∀ (p : Port) (s : State), sessRuns s p = true → sstate s p = 7 → pstate s p = 0 ∨ permitted s p = false →
    Gives (.stopped p) s (fun t => t.se p = { s.se p with stepDone := true } ∧ { t with sess := s.sess } = s)) ∧
  (∀ (p : Port) (ohm : Nat) (s : State), sessRuns s p = true → sstate s p = 4 → sstep s p = 4 →
    stepHeld s p = true →
    Gives (.isoMeasureDone p ohm) s (fun t =>
      t.rd R.port_ISO_RES [p.val] =
        (if ohm * 1000 < s.rd R.port_ISO_FAULT [p.val] * s.rd R.port_ISO_VTEST [p.val] then 3
        else if ohm * 1000 < s.rd R.port_ISO_WARN [p.val] * s.rd R.port_ISO_VTEST [p.val] then 2 else 1) ∧
      (ohm ≤ 10000000 → t.rd R.port_ISO_R [p.val] = ohm / 1000) ∧
      (t.se p).isoFail = ((s.se p).isoFail || decide (ohm * 1000 < s.rd R.port_ISO_FAULT [p.val] * s.rd R.port_ISO_VTEST [p.val])) ∧
      RegsBut s t [R.port_ISO_RES.key [p.val], R.port_ISO_R.key [p.val]] ∧ { t with regs := s.regs, sess := s.sess } = s)) ∧
  (∀ (p : Port) (ohm v : Nat) (s : State), sessRuns s p = true → s.rd R.port_ISO_MON [p.val] = 1 → 5 ≤ sstate s p → sstate s p ≤ 7 →
    (s.se p).isoAt + 200000 * (s.se p).isoMs ≤ s.now + s.spar.clocks →
    Gives (.isoMonResult p ohm v) s (fun t => (t.se p).isoAt = s.now ∧ (t.se p).isoMs = s.rd R.port_ISO_MEAS [p.val] ∧
      (t.se p).isoFail = ((s.se p).isoFail || decide (ohm * 1000 < s.rd R.port_ISO_FAULT [p.val] * v)) ∧
      (s.rd R.port_ISO_FAULT [p.val] * v ≤ ohm * 1000 → ohm * 1000 < s.rd R.port_ISO_WARN [p.val] * v →
        t.rd R.port_ISO_WARN_F [p.val] = 1 ∧ bitB (t.rd R.hdr_IRQ_RAW [160 + p.val]) 7 = true) ∧
      RegsBut s t [R.port_ISO_R.key [p.val], R.port_ISO_WARN_F.key [p.val], R.hdr_IRQ_RAW.key [160 + p.val]] ∧
      { t with regs := s.regs, sess := s.sess } = s)) ∧
  (∀ (p : Port) (closed : Bool) (s : State),
    Gives (.contactorFeedback p closed) s (fun t => t.rd R.port_CONT_FB [p.val] = b2n closed ∧
      (s.rd R.port_CONT_FB [p.val] = 1 → closed = false →
        t.rd R.port_CONT_OPS [p.val] = (s.rd R.port_CONT_OPS [p.val] + 1) % 2 ^ 32 ∧
        t.rd R.port_LOADBRK [p.val] = if s.rd R.port_CONT_IBRK [p.val] < (s.rdI R.mt_I_FAST [p.val]).natAbs
          then min (s.rd R.port_LOADBRK [p.val] + 1) 65535 else s.rd R.port_LOADBRK [p.val]) ∧
      (t.se p).contAt = (if sessRuns s p = true ∧ b2n closed ≠ s.rd R.port_CONT_REQ [p.val]
        then some ((s.se p).contAt.getD s.now) else none) ∧
      (t.se p).contMs = (if sessRuns s p = true ∧ b2n closed ≠ s.rd R.port_CONT_REQ [p.val] ∧ (s.se p).contAt = none
        then s.rd R.port_CONT_TMO [p.val] else (s.se p).contMs) ∧
      t.se p = { s.se p with contAt := (t.se p).contAt, contMs := (t.se p).contMs } ∧ (∀ q : Port, q ≠ p → t.se q = s.se q) ∧
      (s.rd R.port_CONT_FB [p.val] = 0 ∨ closed = true → OnlyRegs s { t with sess := s.sess } [R.port_CONT_FB.key [p.val]]) ∧
      OnlyRegs s { t with sess := s.sess } [R.port_CONT_FB.key [p.val], R.port_CONT_OPS.key [p.val], R.port_LOADBRK.key [p.val]])) ∧
  (∀ (p : Port) (s : State), sessRuns s p = true → s.rd R.port_CONT_REQ [p.val] = 0 → s.rd R.port_CONT_FB [p.val] = 1 → sstate s p = 9 →
    heldFor s (s.se p).contAt (200000 * (s.se p).contMs) = true →
    Gives (.contTmo p) s (fun t => t.rd R.port_CONT_WELD [p.val] = 1 ∧ t.rd R.port_CAUSE [p.val] = 20 ∧
      (t.se p).bad = true ∧ (t.se p).cause = 20 ∧ (sstep s p = 1 → (t.se p).stepDone = true) ∧
      RegsBut s t [R.port_CONT_WELD.key [p.val], R.port_CAUSE.key [p.val], R.hdr_IRQ_RAW.key [160 + p.val]] ∧
      { t with regs := s.regs, sess := s.sess } = s)) ∧
  (∀ (p : Port) (ohm v : Nat) (s : State) (c : Instr), sessRuns s p = false →
    c ∈ [Instr.linkTmo p, .authTmo p, .readyTmo p, .isoTmo p, .preTmo p, .rampTmo p, .pauseTmo p, .weldTmo p, .hbLost p, .contTmo p,
      .dischTmo p, .isoSettleDone p, .dischargeDone p, .stopped p, .isoMeasureDone p ohm, .isoMonResult p ohm v] →
    Gives c s (fun t => t = s)) ∧
  (∀ (p : Port) (ohm : Nat) (s : State) (c : Instr) (st : Nat), sstate s p ≠ st →
    (c, st) ∈ [(Instr.linkTmo p, 1), (.authTmo p, 2), (.readyTmo p, 3), (.isoTmo p, 4), (.preTmo p, 5), (.rampTmo p, 7),
      (.pauseTmo p, 8), (.weldTmo p, 9), (.isoSettleDone p, 4), (.isoMeasureDone p ohm, 4), (.stopped p, 7)] →
    Gives c s (fun t => t = s)) ∧
  (∀ (p : Port) (ohm : Nat) (s : State) (c : Instr),
    (c, sstep s p) ∈ [(Instr.isoTmo p, 6), (.isoTmo p, 7)] ∨ c = .weldTmo p ∧ sstep s p ≠ 3 ∨ c = .isoSettleDone p ∧ sstep s p ≠ 3 ∨
      c = .isoMeasureDone p ohm ∧ sstep s p ≠ 4 ∨ c = .dischTmo p ∧ portVolt s p ≤ 60000 ∨ c = .dischargeDone p ∧ 60000 < portVolt s p ∨
      (c = .dischTmo p ∨ c = .dischargeDone p) ∧ ¬(sstate s p = 4 ∧ sstep s p = 5) ∧ ¬(sstate s p = 9 ∧ sstep s p = 2) ∨
      c = .stopped p ∧ pstate s p ≠ 0 ∧ permitted s p = true ∨ c = .contTmo p ∧
        s.rdB R.port_CONT_REQ [p.val] = s.rdB R.port_CONT_FB [p.val] →
    Gives c s (fun t => t = s)) ∧
  (∀ (p : Port) (ohm v : Nat) (s : State) (c : Instr) (t0 ms : Nat),
    (c, t0, ms) ∈ [(Instr.linkTmo p, (s.se p).stAt, (s.se p).stMs),
      (.authTmo p, (s.se p).stAt, (s.se p).stMs), (.readyTmo p, (s.se p).stAt, (s.se p).stMs),
      (.isoTmo p, (s.se p).stAt, (s.se p).stMs), (.preTmo p, (s.se p).stAt, (s.se p).stMs),
      (.rampTmo p, (s.se p).stAt, (s.se p).stMs), (.pauseTmo p, (s.se p).stAt, (s.se p).stMs),
      (.weldTmo p, (s.se p).stepAt, (s.se p).stepMs), (.dischTmo p, (s.se p).stepAt, (s.se p).stepMs),
      (.isoSettleDone p, (s.se p).stepAt, (s.se p).stepMs),
      (.isoMeasureDone p ohm, (s.se p).stepAt, (s.se p).stepMs),
      (.isoMonResult p ohm v, (s.se p).isoAt, (s.se p).isoMs), (.hbLost p, (s.se p).hbAt, (s.se p).hbMs)] →
    s.now + s.spar.clocks < t0 + 200000 * ms → Gives c s (fun t => t = s)) ∧
  (∀ (p : Port) (s : State), heldFor s (s.se p).contAt (200000 * (s.se p).contMs) = false →
    Gives (.contTmo p) s (fun t => t = s)) ∧
  (∀ (p : Port) (ohm v : Nat) (s : State) (c : Instr),
    c = .hbLost p ∧ (sstate s p < 2 ∨ 8 < sstate s p) ∨
      c = .isoMonResult p ohm v ∧ (s.rd R.port_ISO_MON [p.val] = 0 ∨ sstate s p < 5 ∨ 7 < sstate s p) →
    Gives c s (fun t => t = s)) ∧
  (∀ (p : Port) (s : State) (st ms : Nat),
    (st, ms) ∈ [(1, 100 * s.rd R.port_LINK_TMO [p.val]), (2, 100 * s.rd R.port_AUTH_TMO [p.val]),
      (3, 100 * s.rd R.port_READY_TMO [p.val]), (4, s.rd R.port_ISO_TMO [p.val]), (5, s.rd R.port_PRE_TMO [p.val]),
      (7, s.rd R.port_RAMP_TMO [p.val]), (8, 1000 * s.rd R.port_PAUSE_TMO [p.val])] →
    ((goState p st s).se p).stAt = s.now ∧ ((goState p st s).se p).stMs = ms) ∧
  (∀ (p : Port) (s : State) (st k ms : Nat), sstate s p = st →
    (st, k, ms) ∈ [(4, 3, s.rd R.port_ISO_SETTLE [p.val]), (4, 4, s.rd R.port_ISO_MEAS [p.val]), (4, 5, s.rd R.port_DISCH_TMO [p.val]),
      (9, 2, s.rd R.port_DISCH_TMO [p.val]), (9, 3, s.rd R.port_WELD_TMO [p.val])] →
    ((toStep p k s).se p).stepAt = s.now ∧ ((toStep p k s).se p).stepMs = ms)

/-- O27 (tier 2). The levels are always reported. With too few agreeing classifications, with the port stopped or of a
KIND above 1, nothing else changes, but that the PP absent in an energised CCS state is taken with the first one
(R247). A confirmed classification of a running CCS port gives PP by PP_KIND and PILOT by the levels of R227, with
the generator at -12 V NONE; that of a megawatt port gives PILOT by the CE thresholds and PP by the ID limits. PLUG
and UNPLUG raise their interrupts when they begin (R227-R231, R247, R252, R253). -/
def Obligations.PilotClassificationsAreConfirmed : Prop :=
  (∀ (p : Port) (hi lo ce id : Int) (pp agree : Nat) (s : State),
    s.runs (160 + p.val) = true → s.rd R.port_KIND [p.val] < 2 → agree < agreeNeed s p (pilotClass s p hi lo ce) →
    ppGone s p pp id agree = false →
    Gives (.pilotConfirm p hi lo ce id pp agree) s (fun t =>
      t.rd R.port_CP_HI [p.val] = trunc 16 hi ∧ t.rd R.port_CP_LO [p.val] = trunc 16 lo ∧ t.rd R.port_PP_R [p.val] = min pp 65535 ∧
      t.rd R.port_CE_LVL [p.val] = trunc 16 ce ∧ t.rd R.port_ID_LVL [p.val] = trunc 16 id ∧
      OnlyRegs s t [R.port_CP_HI.key [p.val], R.port_CP_LO.key [p.val], R.port_PP_R.key [p.val], R.port_CE_LVL.key [p.val],
        R.port_ID_LVL.key [p.val]])) ∧
  (∀ (p : Port) (hi lo ce id : Int) (pp agree : Nat) (s : State),
    s.runs (160 + p.val) = true → s.rd R.port_KIND [p.val] = 0 → cpOut s p ≠ 2 → agreeNeed s p (cpClass (cpOut s p == 1) hi lo) ≤ agree →
    Gives (.pilotConfirm p hi lo ce id pp agree) s (fun t =>
      t.rd R.port_PILOT [p.val] = cpClass (cpOut s p == 1) hi lo ∧ t.rd R.port_PP [p.val] = ppClass (s.rd R.port_PP_KIND [p.val]) pp ∧
      t.rd R.port_VREADY [p.val] = b2n (vready t p) ∧
      (plugIn t p = true → plugIn s p = false → bitB (t.rd R.hdr_IRQ_RAW [160 + p.val]) 1 = true) ∧
      (plugOut t p = true → plugOut s p = false → bitB (t.rd R.hdr_IRQ_RAW [160 + p.val]) 2 = true) ∧
      sstate t p = sstate s p ∧ (∀ q : Port, q ≠ p → t.se q = s.se q) ∧ { t with regs := s.regs, sess := s.sess } = s)) ∧
  (∀ (p : Port) (hi lo ce id : Int) (pp agree : Nat) (s : State), s.runs (160 + p.val) = true → s.rd R.port_KIND [p.val] = 1 → 2 ≤ agree →
    Gives (.pilotConfirm p hi lo ce id pp agree) s (fun t =>
      t.rd R.port_PILOT [p.val] = ceClass (s.rd R.port_CE_TH3_CE_TH0 [p.val]) ce ∧
      t.rd R.port_PP [p.val] = b2n (decide ((s.rd R.port_ID_MIN [p.val] : Int) ≤ id) && decide (id ≤ s.rd R.port_ID_MAX [p.val])) ∧
      t.rd R.port_VREADY [p.val] = b2n (vready t p) ∧
      (plugIn t p = true → plugIn s p = false → bitB (t.rd R.hdr_IRQ_RAW [160 + p.val]) 1 = true) ∧
      (plugOut t p = true → plugOut s p = false → bitB (t.rd R.hdr_IRQ_RAW [160 + p.val]) 2 = true) ∧
      { t with regs := s.regs, sess := s.sess } = s)) ∧
  (∀ (p : Port) (hi lo ce id : Int) (pp agree : Nat) (s : State), s.runs (160 + p.val) = false ∨ 2 ≤ s.rd R.port_KIND [p.val] →
    Gives (.pilotConfirm p hi lo ce id pp agree) s (fun t =>
      t.rd R.port_CP_HI [p.val] = trunc 16 hi ∧ t.rd R.port_CP_LO [p.val] = trunc 16 lo ∧ t.rd R.port_PP_R [p.val] = min pp 65535 ∧
      t.rd R.port_CE_LVL [p.val] = trunc 16 ce ∧ t.rd R.port_ID_LVL [p.val] = trunc 16 id ∧
      OnlyRegs s t [R.port_CP_HI.key [p.val], R.port_CP_LO.key [p.val], R.port_PP_R.key [p.val], R.port_CE_LVL.key [p.val],
        R.port_ID_LVL.key [p.val]])) ∧
  (∀ (p : Port) (hi lo ce id : Int) (pp agree : Nat) (s : State), s.runs (160 + p.val) = true → s.rd R.port_KIND [p.val] = 0 →
    cpOut s p = 2 → agreeNeed s p (cpClass false hi lo) ≤ agree →
    Gives (.pilotConfirm p hi lo ce id pp agree) s (fun t =>
      t.rd R.port_PILOT [p.val] = 6 ∧ t.rd R.port_PP [p.val] = ppClass (s.rd R.port_PP_KIND [p.val]) pp ∧
      { t with regs := s.regs, sess := s.sess } = s)) ∧
  (∀ (p : Port) (hi lo ce id : Int) (pp agree : Nat) (s : State), s.runs (160 + p.val) = true → s.rd R.port_KIND [p.val] = 0 →
    4 ≤ sstate s p → sstate s p ≤ 9 → ppClass (s.rd R.port_PP_KIND [p.val]) pp = 0 → 1 ≤ agree →
    agree < agreeNeed s p (cpClass (cpOut s p == 1) hi lo) →
    Gives (.pilotConfirm p hi lo ce id pp agree) s (fun t =>
      t.rd R.port_PP [p.val] = 0 ∧ t.rd R.port_PILOT [p.val] = s.rd R.port_PILOT [p.val] ∧ plugOut t p = true ∧
      (plugOut s p = false → bitB (t.rd R.hdr_IRQ_RAW [160 + p.val]) 2 = true) ∧ { t with regs := s.regs, sess := s.sess } = s))

/-- O28 (tier 2). The state machine acts on the event of lowest rank: UNPLUG and then PERR in an energised state go
straight to FAULT with causes 17 and 18, an unplugged early or ended session returns to IDLE, a plug in IDLE begins
a session with the next SESS_ID. Each timeout leads where its row says, with its cause, that of RAMPDOWN keeping a
cause of its own or a lower rank number; firmware events lead from PLUGGED to AUTH, READY and so on to energy
transfer; a weld check ends in FAULT for causes from 9 up and in ENDED for the rest (R235-R237, R246, R248). -/
def Obligations.SessionsMoveByTheTableOfStates : Prop :=
  (∀ (p : Port) (s : State), plugOut s p = true → energised (sstate s p) = true →
    sstate (sessAct p s) p = 11 ∧ (sessAct p s).rd R.port_CAUSE [p.val] = 17 ∧ ((sessAct p s).se p).unplugged = true) ∧
  (∀ (p : Port) (s : State), plugOut s p = false → pilotErr s p = true → energised (sstate s p) = true →
    sstate (sessAct p s) p = 11 ∧ (sessAct p s).rd R.port_CAUSE [p.val] = 18 ∧ ((sessAct p s).se p).unplugged = true) ∧
  (∀ (p : Port) (s : State), plugOut s p = true → sstate s p ∈ [1, 2, 3, 10] → sstate (sessAct p s) p = 0) ∧
  (∀ (p : Port) (s : State), sstate s p = 0 → plugIn s p = true →
    sstate (sessAct p s) p = 1 ∧ (sessAct p s).rd R.port_SESS_ID [p.val] = (s.rd R.port_SESS_ID [p.val] + 1) % 2 ^ 32 ∧
    ((sessAct p s).se p).cause = 0) ∧
  (∀ (p : Port) (s : State) (st d c : Nat), sstate s p = st →
    (st, d, c) ∈ [(1, 11, 9), (2, 10, 7), (3, 10, 8), (4, 9, 11), (5, 9, 13), (8, 9, 5)] →
    sstate (sessTmo p s) p = d ∧ (sessTmo p s).rd R.port_CAUSE [p.val] = c ∧ ((sessTmo p s).se p).cause = c) ∧
  (∀ (p : Port) (s : State), sstate s p = 9 → sstate (sessTmo p s) p = 9 ∧ sstep (sessTmo p s) p = 4 ∧
    (sessTmo p s).rd R.port_WELD_LATE [p.val] = 1) ∧
  (∀ (p : Port) (s : State) (st n d : Nat), sstate s p = st → pend s p n = true →
    (st, n, d) ∈ [(1, 0, 2), (2, 1, 3), (8, 8, 5), (0, 11, 12)] ∨
    (st, n, d) = (3, 3, 4) ∧ vready s p = true ∧ portVolt s p ≤ 60000 ∧ permitted s p = true ∨
    (st, n, d) = (4, 4, 5) ∧ sstep s p = 6 ∨ (st, n, d) = (5, 5, 6) ∧ s.rd R.port_PRE_OK [p.val] = 1 ∨
    (st, n, d) = (12, 12, 0) ∧ s.rd R.port_CONT_WELD [p.val] = 0 ∧ s.rd R.port_KIND [p.val] < 2 →
    sstate (sessLow p s) p = d ∧ pend (sessLow p s) p n = false) ∧
  (∀ (p : Port) (s : State), sstate s p = 2 → pend s p 1 = false → pend s p 2 = true →
    sstate (sessLow p s) p = 10 ∧ (sessLow p s).rd R.port_CAUSE [p.val] = 6) ∧
  (∀ (p : Port) (s : State), sstate s p = 7 → sstate (sessTmo p s) p = 9 ∧
    ((sessTmo p s).se p).cause = (if causeRank 14 < causeRank (s.se p).cause then 14 else (s.se p).cause)) ∧
  (∀ (p : Port) (s : State), sstate (weldEnd p s) p = if (s.se p).bad = true ∨ 9 ≤ (s.se p).cause then 11 else 10)

/-- O29 (tier 2). A link that is enabled takes its buffer from the pool or is refused with 0x0104; enabled already,
nothing changes. Duplicate address detection brings the link up, or to DAD_FAIL. A link that is up answers neighbour
solicitations with its address and MAC, and echo requests. SLAC messages of a plugged Green PHY port record the run,
count and add the sounds (another port's run sets XTALK), send the profile, answer validation and the match request,
with a fresh NMK the first time in a match; the modem's station list completes the match and brings a waiting link
up, DAD_FAIL staying; an expired match is counted and starts again; amplitude maps are ignored. Discovery is
answered with the port's address, its TCP port and the chosen security. Where its condition does not hold, each
command sends nothing and changes nothing else (R257-R262, R267). -/
def Obligations.LinksMatchAndAnswer : Prop :=
  (∀ (w : World) (p : Port) (s : State), s.canWrite w (192 + p.val) = true → s.rd R.hdr_EN [192 + p.val] = 0 →
    poolUsed s + vlBuf s p ≤ 1048576 →
    Gives (.vlnkEnable w p) s (fun t => t.rd R.hdr_EN [192 + p.val] = 1 ∧ t.rd R.vl_RX_FREE [p.val] = vlBuf s p - vlUsed (s.vl p) ∧
      { t with regs := s.regs } = s)) ∧
  (∀ (w : World) (p : Port) (s : State), s.canWrite w (192 + p.val) = true → s.rd R.hdr_EN [192 + p.val] = 0 →
    1048576 < poolUsed s + vlBuf s p →
    Gives (.vlnkEnable w p) s (fun t => t.rd R.hdr_EN [192 + p.val] = 0 ∧ t.rd R.hdr_CODE [192 + p.val] = 0x0104 ∧
      { t with regs := s.regs } = s)) ∧
  (∀ (p : Port) (s : State), vlOn s p = true → (s.vl p).dad = true → linkOf s p ≠ 2 →
    Gives (.dadDone p false) s (fun t => linkOf t p = 2 ∧ tcpOf t p = 1 ∧ (t.vl p).dad = false ∧
      bitB (t.rd R.hdr_IRQ_RAW [192 + p.val]) 0 = true ∧ { t with regs := s.regs, links := s.links } = s)) ∧
  (∀ (p : Port) (s : State), vlOn s p = true → (s.vl p).dad = true →
    Gives (.dadDone p true) s (fun t => linkOf t p = 3 ∧ tcpOf t p = 0 ∧ (t.vl p).dad = false ∧
      t.rd R.hdr_CODE [192 + p.val] = 0x0107 ∧ { t with regs := s.regs, links := s.links } = s)) ∧
  (∀ (p : Port) (s : State), vlAnswers s p = true →
    Gives (.neighbourSolicitation p) s (fun t => (t.vl p).out = [.neighbourAdv (vlIp s p) (vlMac s p)] ∧ (∀ q : Port, q ≠ p →
      t.vl q = s.vl q) ∧
      { t with links := s.links } = s)) ∧
  (∀ (p : Port) (d : List Byte) (s : State), vlAnswers s p = true →
    Gives (.echoRequest p d) s (fun t => (t.vl p).out = [.echoReply d] ∧ (∀ q : Port, q ≠ p → t.vl q = s.vl q) ∧
      { t with links := s.links } = s)) ∧
  (∀ (p : Port) (mac : Nat) (run : List Byte) (s : State), slacActs s p = true →
    (slacOf s p ≠ 2 ∧ slacOf s p ≠ 3 ∨ runIs s p run = true) →
    Gives (.cmSlacParamReq p mac run) s (fun t => slacOf t p = 2 ∧ (t.vl p).run = some (run, mac) ∧ (t.vl p).heard = 0 ∧
      (t.vl p).out = [.slacParamCnf run] ∧ RegsBut s t [R.vl_SLAC.key [p.val]] ∧ { t with regs := s.regs, links := s.links } = s)) ∧
  (∀ (p : Port) (run : List Byte) (n : Nat) (s : State), slacActs s p = true → runIs s p run = true → slacOf s p = 2 →
    Gives (.cmStartAttenCharInd p run n) s (fun t => (t.vl p).sounds = n ∧ (t.vl p).heard = 0 ∧
      (t.vl p).atten = List.replicate 58 0 ∧ { t with links := s.links } = s)) ∧
  (∀ (p : Port) (run : List Byte) (att : List Nat) (s : State), slacActs s p = true → runIs s p run = true → slacOf s p = 2 →
    Gives (.cmMnbcSoundInd p run att) s (fun t => (t.vl p).heard = (s.vl p).heard + 1 ∧
      ((s.vl p).atten ≠ [] → (t.vl p).atten =
        List.zipWith (· + ·) (s.vl p).atten ((List.range 58).map (fun i => att.getD i 0))) ∧
      (otherHas s p run = true → t.rd R.vl_XTALK [p.val] = 1 ∧ bitB (t.rd R.hdr_IRQ_RAW [192 + p.val]) 11 = true) ∧
      (otherHas s p run = false → t.regs = s.regs) ∧ { t with regs := s.regs, links := s.links } = s)) ∧
  (∀ (p : Port) (s : State), slacActs s p = true → slacOf s p = 2 →
    Gives (.soundingEnd p) s (fun t => slacOf t p = 3 ∧ (t.vl p).out = [.attenChar (profile (s.vl p))] ∧
      RegsBut s t [R.vl_SLAC.key [p.val]] ∧ { t with regs := s.regs, links := s.links } = s)) ∧
  (∀ (p : Port) (run : List Byte) (s : State), slacActs s p = true → (s.vl p).run = none ∨ runIs s p run = true →
    Gives (.cmValidateReq p run) s (fun t => (t.vl p).out = [.validateCnf] ∧ { t with links := s.links } = s)) ∧
  (∀ (p : Port) (run : List Byte) (s : State), slacActs s p = true → runIs s p run = true →
    (s.vl p).matching = false → slacOf s p ≠ 4 →
    Gives (.cmSlacMatchReq p run) s (fun t => (t.vl p).matching = true ∧ (t.vl p).nmk = randomBytes s 16 ∧
      (t.vl p).nid = Config.nidOf (randomBytes s 16) ∧ (t.vl p).out = [.matchCnf run (Config.nidOf (randomBytes s 16))] ∧
      t.freeCtr = s.freeCtr + 1 ∧ { t with links := s.links, freeCtr := s.freeCtr } = s)) ∧
  (∀ (p : Port) (s : State), Gives (.cmAmpMapReq p) s (fun t => t = s)) ∧
  (∀ (p : Port) (run : List Byte) (mac : Nat) (s : State), vlOn s p = true → (s.vl p).matching = true →
    (s.vl p).run = some (run, mac) →
    Gives (.slacMatched p) s (fun t => slacOf t p = 4 ∧ t.rd R.vl_PEER_MAC [p.val] = mac % 2 ^ 64 ∧ (t.vl p).matching = false ∧
      (linkOf s p ≠ 2 → linkOf s p ≠ 3 → linkOf t p = 2 ∧ tcpOf t p = 1 ∧ (t.vl p).dad = true ∧
        (t.vl p).out = [.dadSolicit (vlIp s p)] ∧ bitB (t.rd R.hdr_IRQ_RAW [192 + p.val]) 0 = true) ∧
      (linkOf s p = 2 ∨ linkOf s p = 3 → linkOf t p = linkOf s p ∧ tcpOf t p = tcpOf s p ∧ (t.vl p).out = []) ∧
      { t with regs := s.regs, links := s.links } = s)) ∧
  (∀ (p : Port) (s : State), vlOn s p = true → slacOf s p = 2 ∨ slacOf s p = 3 →
    Gives (.slacTimeout p) s (fun t => slacOf t p = 1 ∧ (t.vl p).run = none ∧ (t.vl p).matching = false ∧
      t.rd R.vl_SLAC_FAILS [p.val] = min (s.rd R.vl_SLAC_FAILS [p.val] + 1) 65535 ∧
      RegsBut s t [R.vl_SLAC.key [p.val], R.vl_SLAC_FAILS.key [p.val]] ∧ { t with regs := s.regs, links := s.links } = s)) ∧
  (∀ (p : Port) (ip mac : Nat) (req tls : Bool) (s : State), vlAnswers s p = true →
    sdpChoice req (s.rdB R.vl_TLS_OK [p.val]) (s.rdB R.vl_NOTLS_OK [p.val]) = some tls →
    Gives (.sdpRequest p ip mac req) s (fun t => t.rd R.vl_SEC_TLS [p.val] = b2n tls ∧ t.rd R.vl_PEER_IP [p.val] = ip % 2 ^ 128 ∧
      t.rd R.vl_PEER_MAC [p.val] = mac % 2 ^ 64 ∧ t.rd R.vl_SDP_ANS [p.val] = min (s.rd R.vl_SDP_ANS [p.val] + 1) 65535 ∧
      (t.vl p).out = [.sdpResponse (vlIp s p) (s.rd R.vl_TCP_PORT [p.val]) true (if tls then 0x00 else 0x10)] ∧
        bitB (t.rd R.hdr_IRQ_RAW [192 + p.val]) 2 = true ∧
      { t with regs := s.regs, links := s.links } = s)) ∧
  (∀ (req tls notls : Bool) (c : Bool), sdpChoice req tls notls = some c ↔
    (tls || notls) = true ∧ c = (if req then tls else !notls)) ∧
  (∀ (w : World) (p : Port) (s : State), s.canWrite w (192 + p.val) = true → s.rd R.hdr_EN [192 + p.val] = 1 →
    Gives (.vlnkEnable w p) s (fun t => t = s)) ∧
  (∀ (p : Port) (c : Bool) (s : State), vlOn s p = false ∨ (s.vl p).dad = false → Gives (.dadDone p c) s (LinkQuiet p s)) ∧
  (∀ (p : Port) (s : State), vlOn s p = true → (s.vl p).dad = true → linkOf s p = 2 →
    Gives (.dadDone p false) s (fun t => t.vl p = { s.vl p with dad := false, out := [] } ∧ t.regs = s.regs ∧
      (∀ q : Port, q ≠ p → t.vl q = s.vl q) ∧ { t with links := s.links } = s)) ∧
  (∀ (p : Port) (d : List Byte) (ip mac : Nat) (req : Bool) (s : State), vlAnswers s p = false →
    Gives (.neighbourSolicitation p) s (LinkQuiet p s) ∧ Gives (.echoRequest p d) s (LinkQuiet p s) ∧
    Gives (.sdpRequest p ip mac req) s (LinkQuiet p s)) ∧
  (∀ (p : Port) (mac : Nat) (run : List Byte) (s : State),
    slacActs s p = false ∨ ((slacOf s p = 2 ∨ slacOf s p = 3) ∧ runIs s p run = false) →
    Gives (.cmSlacParamReq p mac run) s (LinkQuiet p s)) ∧
  (∀ (p : Port) (run : List Byte) (n : Nat) (s : State), slacActs s p = false ∨ runIs s p run = false ∨ slacOf s p ≠ 2 →
    Gives (.cmStartAttenCharInd p run n) s (fun t => t = s)) ∧
  (∀ (p : Port) (run : List Byte) (att : List Nat) (s : State), slacActs s p = false ∨ slacOf s p ≠ 2 →
    Gives (.cmMnbcSoundInd p run att) s (LinkQuiet p s) ∧ Gives (.soundingEnd p) s (fun t => t = s)) ∧
  (∀ (p : Port) (run : List Byte) (att : List Nat) (s : State), slacActs s p = true → runIs s p run = false → slacOf s p = 2 →
    Gives (.cmMnbcSoundInd p run att) s (fun t => (t.vl p).heard = (s.vl p).heard ∧ (t.vl p).atten = (s.vl p).atten ∧
      (otherHas s p run = true → t.rd R.vl_XTALK [p.val] = 1 ∧ bitB (t.rd R.hdr_IRQ_RAW [192 + p.val]) 11 = true) ∧
      (otherHas s p run = false → t.regs = s.regs) ∧ { t with regs := s.regs, links := s.links } = s)) ∧
  (∀ (p : Port) (run : List Byte) (s : State), slacActs s p = false ∨ ((s.vl p).run.isSome = true ∧ runIs s p run = false) →
    Gives (.cmValidateReq p run) s (fun t => t = s)) ∧
  (∀ (p : Port) (run : List Byte) (s : State), slacActs s p = true → runIs s p run = true →
    (s.vl p).matching = true ∨ slacOf s p = 4 →
    Gives (.cmSlacMatchReq p run) s (fun t => t.vl p = { s.vl p with out := [.matchCnf run (s.vl p).nid] } ∧
      (∀ q : Port, q ≠ p → t.vl q = s.vl q) ∧ { t with links := s.links } = s)) ∧
  (∀ (p : Port) (run : List Byte) (s : State), slacActs s p = false ∨ runIs s p run = false →
    Gives (.cmSlacMatchReq p run) s (LinkQuiet p s)) ∧
  (∀ (p : Port) (s : State), vlOn s p = false ∨ (s.vl p).matching = false → Gives (.slacMatched p) s (fun t => t = s)) ∧
  (∀ (p : Port) (s : State), vlOn s p = false ∨ (slacOf s p ≠ 2 ∧ slacOf s p ≠ 3) →
    Gives (.slacTimeout p) s (fun t => t = s)) ∧
  (∀ (p : Port) (ip mac : Nat) (req : Bool) (s : State),
    sdpChoice req (s.rdB R.vl_TLS_OK [p.val]) (s.rdB R.vl_NOTLS_OK [p.val]) = none →
    Gives (.sdpRequest p ip mac req) s (LinkQuiet p s))

/-- O30 (tier 2). A SYN of the peer opens the connection with the security chosen and the MSS announced, dropping what
an open one left and sending what was queued without one; one of another address is answered with a reset. A reset
ends the connection and keeps complete messages, and so does the end of all work on one that the peer has closed
(log entry 19); a segment without a connection is answered with a reset; one out of order is acknowledged and not
taken; one in order gives a TLS connection its bytes and a plain one its complete message. A record without a key is
presented whole; one that fails its check ends the connection with TLS FAILED; a verified one of a type other than
application data is presented and pauses. The oldest segment is sent again six times, and then the connection is
aborted. TX_GO queues or refuses, and sends at once on an idle connection, cut at the MSS; RX_POP, RX_RESUME, the
keys, ABORT, window reads and the counters do what their rows say. Where its condition does not hold, a command
leaves the link as it is and sends nothing (R263-R272, R275, R276). The initial sequence number is a free value (log
entry 1). -/
def Obligations.ConnectionsCarryMessages : Prop :=
  (∀ (p : Port) (ip isn : Nat) (s : State), vlAnswers s p = true → ip = s.rd R.vl_PEER_IP [p.val] → ip ≠ 0 →
    tcpOf s p = 2 ∨ tcpOf s p = 3 ∨ (s.vl p).tx = [] →
    Gives (.tcpSyn p ip isn) s (fun t => tcpOf t p = 2 ∧ t.rd R.vl_TLS [p.val] = s.rd R.vl_SEC_TLS [p.val] ∧
      (t.vl p).rx = (if tcpOf s p = 2 ∨ tcpOf s p = 3 then [] else (s.vl p).rx) ∧
      (t.vl p).tx = [] ∧ (t.vl p).rxKey = none ∧ (t.vl p).txKey = none ∧ (t.vl p).rcvNxt = (isn + 1) % 2 ^ 32 ∧
      (t.vl p).out = [.synAck (s.free 32) ((isn + 1) % 2 ^ 32) 1440] ∧ bitB (t.rd R.hdr_IRQ_RAW [192 + p.val]) 3 = true ∧
      (tcpOf s p = 2 ∨ tcpOf s p = 3 → bitB (t.rd R.hdr_IRQ_RAW [192 + p.val]) 4 = true) ∧ t.freeCtr = s.freeCtr + 1 ∧
      { t with regs := s.regs, links := s.links, freeCtr := s.freeCtr } = s)) ∧
  (∀ (p : Port) (ip isn : Nat) (s : State), vlAnswers s p = true → ip ≠ s.rd R.vl_PEER_IP [p.val] ∨ ip = 0 →
    Gives (.tcpSyn p ip isn) s (fun t => tcpOf t p = tcpOf s p ∧ t.vl p = { s.vl p with out := [.reset] } ∧
      { t with regs := s.regs, links := s.links } = s)) ∧
  (∀ (p : Port) (seq ack : Nat) (d : List Byte) (fin : Bool) (s : State), vlAnswers s p = true → tcpOf s p = 2 ∨ tcpOf s p = 3 →
    Gives (.tcpSegment p (s.rd R.vl_PEER_IP [p.val]) seq ack d true fin) s (fun t => tcpOf t p = 1 ∧ t.rd R.vl_TLS [p.val] = 0 ∧
      (t.vl p).rx = (s.vl p).rx ∧ (t.vl p).tx = [] ∧ (t.vl p).rxKey = none ∧ bitB (t.rd R.hdr_IRQ_RAW [192 + p.val]) 4 = true ∧
      { t with regs := s.regs, links := s.links } = s)) ∧
  (∀ (p : Port) (seq ack : Nat) (d : List Byte) (fin : Bool) (s : State), vlAnswers s p = true → tcpOf s p = 3 → (s.vl p).tx = [] →
    rxWaits (s.vl p) = false →
    Gives (.tcpSegment p (s.rd R.vl_PEER_IP [p.val]) seq ack d false fin) s (fun t => tcpOf t p = 1 ∧
      (t.vl p).rx = (s.vl p).rx ∧ (t.vl p).tx = [] ∧ (t.vl p).rxKey = none ∧ { t with regs := s.regs, links := s.links } = s)) ∧
  (∀ (p : Port) (ip seq ack : Nat) (d : List Byte) (fin : Bool) (s : State), vlAnswers s p = true →
    (tcpOf s p ≠ 2 ∧ tcpOf s p ≠ 3) ∨ ip ≠ s.rd R.vl_PEER_IP [p.val] →
    Gives (.tcpSegment p ip seq ack d false fin) s (fun t => t.vl p = { s.vl p with out := [.reset], stale := false } ∧
      ((s.vl p).stale = true → bitB (t.rd R.hdr_IRQ_RAW [192 + p.val]) 4 = true) ∧
      { t with regs := s.regs, links := s.links } = s)) ∧
  (∀ (p : Port) (seq : Nat) (d : List Byte) (s : State), vlAnswers s p = true → tcpOf s p = 2 →
    d.length < ((s.vl p).rcvNxt + 2 ^ 32 - seq) % 2 ^ 32 →
    Gives (.tcpSegment p (s.rd R.vl_PEER_IP [p.val]) seq (s.vl p).sndUna d false false) s (fun t =>
      t.vl p = { s.vl p with out := [.ack (ackPoint (s.vl p)) (min 65535 (t.rd R.vl_RX_FREE [p.val]))] } ∧
      { t with regs := s.regs, links := s.links } = s)) ∧
  (∀ (p : Port) (d : List Byte) (s : State), vlAnswers s p = true → tcpOf s p = 2 → (s.vl p).tls = true → (s.vl p).strm = none →
    d.length ≤ min 65535 (vlBuf s p - vlUsed (s.vl p)) →
    Gives (.tcpSegment p (s.rd R.vl_PEER_IP [p.val]) (s.vl p).rcvNxt (s.vl p).sndUna d false false) s (fun t =>
      (t.vl p).raw = (s.vl p).raw ++ d ∧ (t.vl p).rcvNxt = ((s.vl p).rcvNxt + d.length) % 2 ^ 32 ∧ (t.vl p).rx = (s.vl p).rx ∧
      { t with regs := s.regs, links := s.links } = s)) ∧
  (∀ (p : Port) (n : Nat) (s : State), vlAnswers s p = true → tcpOf s p = 2 → (s.vl p).tls = true → (s.vl p).strm = none →
    (s.vl p).rxKey = none → s.rd R.vl_RX_PAUSED [p.val] = 0 → 5 ≤ (s.vl p).raw.length →
    n = beNat (((s.vl p).raw.drop 3).take 2) → 5 + n ≤ (s.vl p).raw.length → 5 + n ≤ vlBuf s p →
    Gives (.tlsRecord p) s (fun t => (t.vl p).raw = (s.vl p).raw.drop (5 + n) ∧
      (t.vl p).rx = (s.vl p).rx ++ [⟨0xFFFF, 0, 5 + n, (s.vl p).raw.take (5 + n), false⟩] ∧
      ((s.vl p).rx = [] → bitB (t.rd R.hdr_IRQ_RAW [192 + p.val]) 5 = true) ∧
      { t with regs := s.regs, links := s.links } = s)) ∧
  (∀ (p : Port) (s : State), vlAnswers s p = true → tcpOf s p = 2 ∨ tcpOf s p = 3 → 0 < wireLen (s.vl p).tx → (s.vl p).retx < 6 →
    Gives (.tcpRetxTimeout p) s (fun t => (t.vl p).retx = (s.vl p).retx + 1 ∧ (t.vl p).tx = (s.vl p).tx ∧
      (t.vl p).out = [.data (s.vl p).sndUna ((((s.vl p).tx.filterMap (·.wire)).flatten).take 1440)] ∧
      { t with regs := s.regs, links := s.links } = s)) ∧
  (∀ (p : Port) (s : State), vlAnswers s p = true → tcpOf s p = 2 ∨ tcpOf s p = 3 → 0 < wireLen (s.vl p).tx → 6 ≤ (s.vl p).retx →
    Gives (.tcpRetxTimeout p) s (fun t => tcpOf t p = 1 ∧ (t.vl p).tx = [] ∧ (t.vl p).out = [.reset] ∧
      (t.vl p).rx = (s.vl p).rx ∧ bitB (t.rd R.hdr_IRQ_RAW [192 + p.val]) 4 = true ∧
      { t with regs := s.regs, links := s.links } = s)) ∧
  (∀ (w : World) (p : Port) (s : State), s.canWrite w (192 + p.val) = true →
    4 ≤ (s.vl p).tx.length ∨ 16384 < vlTxUsed (s.vl p) + (vlStaged s p).data.length →
    Gives (.vlnkTxGo w p) s (fun t => t.rd R.hdr_CODE [192 + p.val] = 0x0105 ∧ (t.vl p).tx = (s.vl p).tx ∧
      { t with regs := s.regs, links := s.links } = s)) ∧
  (∀ (w : World) (p : Port) (s : State), s.canWrite w (192 + p.val) = true → vlSends s p = false →
    (s.vl p).tx.length < 4 → vlTxUsed (s.vl p) + (vlStaged s p).data.length ≤ 16384 →
    Gives (.vlnkTxGo w p) s (fun t => (t.vl p).tx = (s.vl p).tx ++ [vlStaged s p] ∧
      { t with regs := s.regs, links := s.links } = s)) ∧
  (∀ (w : World) (p : Port) (s : State), s.canWrite w (192 + p.val) = true → vlSends s p = true →
    (s.vl p).tx = [] → (s.vl p).txKey = none → (vlStaged s p).data.length ≤ 16384 →
    Gives (.vlnkTxGo w p) s (fun t => (t.vl p).tx = [{ vlStaged s p with wire := some (vlStaged s p).data }] ∧
      (∀ k : Fin 12, 1440 * k.val < (vlStaged s p).data.length →
        .data (((s.vl p).sndUna + 1440 * k.val) % 2 ^ 32) (((vlStaged s p).data.drop (1440 * k.val)).take 1440) ∈ (t.vl p).out) ∧
      { t with regs := s.regs, links := s.links } = s)) ∧
  (∀ (w : World) (p : Port) (m : VlMsg) (l : List VlMsg) (s : State), s.canWrite w (192 + p.val) = true → (s.vl p).rx = m :: l →
    Gives (.vlnkRxPop w p) s (fun t => t.vl p = { s.vl p with rx := l } ∧ t.rd R.vl_RX_MSGS [p.val] = min 255 l.length ∧
      t.rd R.vl_HEAD_VALID [p.val] = b2n (!l.isEmpty) ∧ { t with regs := s.regs, links := s.links } = s)) ∧
  (∀ (w : World) (p : Port) (s : State), s.canWrite w (192 + p.val) = true →
    Gives (.rxResume w p) s (fun t => t.rd R.vl_RX_PAUSED [p.val] = 0 ∧ OnlyRegs s t [R.vl_RX_PAUSED.key [p.val]])) ∧
  (∀ (w : World) (p : Port) (s : State), s.canWrite w (192 + p.val) = true →
    Gives (.keyRxOn w p) s (fun t =>
      if recordSlot s p.val (s.rd R.vl_KEY_RX [p.val]) (s.rd R.vl_SUITE [p.val]) uDecrypt = true then
        t.vl p = { s.vl p with rxKey := some ⟨s.rd R.vl_KEY_RX [p.val], s.rd R.vl_SUITE [p.val], 0⟩ } ∧
        t.rd R.vl_TLS [p.val] = 2 ∧ RegsBut s t [R.vl_TLS.key [p.val]] ∧ { t with regs := s.regs, links := s.links } = s
      else t.rd R.hdr_CODE [192 + p.val] = 0x0106 ∧ { t with regs := s.regs } = s)) ∧
  (∀ (w : World) (p : Port) (s : State), s.canWrite w (192 + p.val) = true →
    Gives (.keyTxOn w p) s (fun t =>
      if recordSlot s p.val (s.rd R.vl_KEY_TX [p.val]) (s.rd R.vl_SUITE [p.val]) uEncrypt = true then
        t.vl p = { s.vl p with txKey := some ⟨s.rd R.vl_KEY_TX [p.val], s.rd R.vl_SUITE [p.val], 0⟩ } ∧
        t.rd R.vl_TLS [p.val] = 2 ∧ RegsBut s t [R.vl_TLS.key [p.val]] ∧ { t with regs := s.regs, links := s.links } = s
      else t.rd R.hdr_CODE [192 + p.val] = 0x0106 ∧ { t with regs := s.regs } = s)) ∧
  (∀ (w : World) (p : Port) (s : State), s.canWrite w (192 + p.val) = true → tcpOf s p = 2 ∨ tcpOf s p = 3 →
    Gives (.abortLink w p) s (fun t => tcpOf t p = (if linkOf s p = 2 then 1 else 0) ∧ t.rd R.vl_TLS [p.val] = 0 ∧
      (t.vl p).out = (if s.active = true then [.reset] else []) ∧ (t.vl p).tx = [] ∧ (t.vl p).rx = (s.vl p).rx ∧ (t.vl p).rxKey = none ∧
      { t with regs := s.regs, links := s.links } = s)) ∧
  (∀ (w : World) (p : Port) (k : Fin 512) (m : VlMsg) (l : List VlMsg) (s : State), s.canRead w (192 + p.val) = true →
    s.rd R.vl_WSEL [p.val] = 0 → (s.vl p).rx = m :: l →
    Gives (.vlnkWindowRead w p k) s (fun t =>
      t.host.rdata[w] = [BitVec.ofNat 32 (leNat ((m.data.drop (winOff s p k.val)).take 4))] ∧
      { t with host := s.host } = s)) ∧
  (∀ (w : World) (p : Port) (k : Fin 512) (s : State), s.canRead w (192 + p.val) = false →
    Gives (.vlnkWindowRead w p k) s (fun t => t.host.rdata[w] = [0] ∧
      t.rd R.host_VIOL [w.val] = min (s.rd R.host_VIOL [w.val] + 1) (2 ^ R.host_VIOL.w - 1) ∧
      RegsBut s t [R.host_VIOL.key [w.val]] ∧ { t with regs := s.regs, host := s.host } = s)) ∧
  (∀ (w : World) (p : Port) (s : State), s.canWrite w (192 + p.val) = true →
    Gives (.vlnkCntClr w p) s (fun t => t.rd R.vl_SLAC_FAILS [p.val] = 0 ∧ t.rd R.vl_SDP_ANS [p.val] = 0 ∧
      t.rd R.vl_TOO_BIG [p.val] = 0 ∧ t.rd R.vl_AUTH_FAIL [p.val] = 0 ∧
      OnlyRegs s t [R.vl_SLAC_FAILS.key [p.val], R.vl_SDP_ANS.key [p.val], R.vl_TOO_BIG.key [p.val], R.vl_AUTH_FAIL.key [p.val]])) ∧
  (∀ (p : Port) (ip isn : Nat) (s : State), vlAnswers s p = true → ip = s.rd R.vl_PEER_IP [p.val] → ip ≠ 0 →
    tcpOf s p ≠ 2 → tcpOf s p ≠ 3 → (s.vl p).tx.length ≤ 4 → (∀ m ∈ (s.vl p).tx, m.wire = none) →
    Gives (.tcpSyn p ip isn) s (fun t => tcpOf t p = 2 ∧ (t.vl p).rx = (s.vl p).rx ∧
      (t.vl p).tx = (s.vl p).tx.map (fun m => { m with wire := some m.data }) ∧
      (t.vl p).out.head? = some (.synAck (s.free 32) ((isn + 1) % 2 ^ 32) 1440) ∧
      { t with regs := s.regs, links := s.links, freeCtr := s.freeCtr } = s)) ∧
  (∀ (p : Port) (seq ack : Nat) (d : List Byte) (fin : Bool) (s : State), vlAnswers s p = true → tcpOf s p = 3 →
    rxWaits (s.vl p) = true →
    Gives (.tcpSegment p (s.rd R.vl_PEER_IP [p.val]) seq ack d false fin) s (fun t => tcpOf t p = 3 ∧
      (t.vl p).rx = (s.vl p).rx ∧ (t.vl p).raw = (s.vl p).raw ∧ (t.vl p).strm = (s.vl p).strm ∧
      { t with regs := s.regs, links := s.links } = s)) ∧
  (∀ (p : Port) (d : List Byte) (s : State), vlAnswers s p = true → tcpOf s p = 2 → (s.vl p).tls = false → (s.vl p).strm = none →
    (s.vl p).part = [] → s.rd R.vl_RX_PAUSED [p.val] = 0 → 8 ≤ d.length → v2gOk (d.take 8) = true →
    d.length = 8 + beNat ((d.drop 4).take 4) → d.length ≤ 8192 → d.length ≤ vlBuf s p - vlUsed (s.vl p) →
    Gives (.tcpSegment p (s.rd R.vl_PEER_IP [p.val]) (s.vl p).rcvNxt (s.vl p).sndUna d false false) s (fun t =>
      (t.vl p).rx = (s.vl p).rx ++ [⟨beNat ((d.drop 2).take 2), 0, d.length, d, false⟩] ∧
      (t.vl p).rcvNxt = ((s.vl p).rcvNxt + d.length) % 2 ^ 32 ∧
      ((s.vl p).rx = [] → bitB (t.rd R.hdr_IRQ_RAW [192 + p.val]) 5 = true) ∧
      { t with regs := s.regs, links := s.links } = s)) ∧
  (∀ (p : Port) (n : Nat) (k : VlKey) (s : State), vlAnswers s p = true → tcpOf s p = 2 → (s.vl p).tls = true → (s.vl p).strm = none →
    (s.vl p).rxKey = some k → s.rd R.vl_RX_PAUSED [p.val] = 0 → 5 ≤ (s.vl p).raw.length →
    n = beNat (((s.vl p).raw.drop 3).take 2) → 5 + n ≤ (s.vl p).raw.length → 5 + n ≤ vlBuf s p →
    recordSlot s p.val k.slot k.suite uDecrypt = true →
    let r := openRecord (slotMat s k.slot) k.suite k.seq ((s.vl p).raw.take 5) (((s.vl p).raw.drop 5).take n)
    Gives (.tlsRecord p) s (fun t =>
      (r = none → tcpOf t p = 1 ∧ t.rd R.vl_TLS [p.val] = 3 ∧ t.rd R.hdr_CODE [192 + p.val] = 0x0103 ∧
        t.rd R.vl_AUTH_FAIL [p.val] = min (s.rd R.vl_AUTH_FAIL [p.val] + 1) 65535 ∧ VlOut.reset ∈ (t.vl p).out ∧
        (t.vl p).rx = (s.vl p).rx ∧ bitB (t.rd R.hdr_IRQ_RAW [192 + p.val]) 9 = true) ∧
      (∀ c l, r = some (c, l) → c ≠ 23 → t.rd R.vl_RX_PAUSED [p.val] = 1 ∧
        (t.vl p).rx = (s.vl p).rx ++ [⟨0xFFFE, c, l.length, l, false⟩] ∧ (t.vl p).raw = (s.vl p).raw.drop (5 + n) ∧
        (t.vl p).rxKey = some { k with seq := k.seq + 1 } ∧ bitB (t.rd R.hdr_IRQ_RAW [192 + p.val]) 6 = true) ∧
      { t with regs := s.regs, links := s.links } = s)) ∧
  (∀ (p : Port) (s : State), (s.vl p).strm = none → tcpOf s p ≠ 3 →
    vlSends s p = false ∨ (s.vl p).tls = false ∨ s.rd R.vl_RX_PAUSED [p.val] = 1 ∨ (s.vl p).raw.length < 5 →
    Gives (.tlsRecord p) s (fun t => LinkQuiet p s { t with regs := s.regs })) ∧
  (∀ (p : Port) (ip isn seq ack : Nat) (d : List Byte) (rst fin : Bool) (s : State), vlAnswers s p = false →
    Gives (.tcpSyn p ip isn) s (fun t => LinkQuiet p s { t with regs := s.regs }) ∧
    Gives (.tcpSegment p ip seq ack d rst fin) s (fun t => LinkQuiet p s { t with regs := s.regs })) ∧
  (∀ (p : Port) (s : State), vlSends s p = false ∨ wireLen (s.vl p).tx = 0 →
    Gives (.tcpRetxTimeout p) s (fun t => LinkQuiet p s { t with regs := s.regs })) ∧
  (∀ (w : World) (p : Port) (s : State), s.canWrite w (192 + p.val) = true →
    ((s.vl p).rx = [] → Gives (.vlnkRxPop w p) s (fun t => { t with regs := s.regs } = s)) ∧
    (tcpOf s p ≠ 2 → tcpOf s p ≠ 3 → Gives (.abortLink w p) s (LinkQuiet p s))) ∧
  (∀ (w : World) (p : Port) (k : Fin 512) (s : State), s.canRead w (192 + p.val) = true →
    (s.rd R.vl_WSEL [p.val] = 1 → Gives (.vlnkWindowRead w p k) s (fun t =>
      t.host.rdata[w] = [BitVec.ofNat 32 (leNat (memBytes (s.vl p).stage (winOff s p k.val) 4))] ∧ { t with host := s.host } = s)) ∧
    (s.rd R.vl_WSEL [p.val] = 0 → (s.vl p).rx = [] → (s.vl p).strm = none → Gives (.vlnkWindowRead w p k) s (fun t =>
      t.host.rdata[w] = [0] ∧ { t with host := s.host } = s)) ∧
    (∀ u : VlStream, s.rd R.vl_WSEL [p.val] = 0 → (s.vl p).rx = [] → (s.vl p).strm = some u → u.record.isSome = true →
      Gives (.vlnkWindowRead w p k) s (fun t => t.host.rdata[w] = [BitVec.ofNat 32 (leNat (u.buf.take 4))] ∧
        (t.vl p).strm = some { u with buf := u.buf.drop 4, used := u.used + (u.buf.take 4).length })))

/-- O31 (tier 2). At its instant an enabled coupling of an active module sends its beacon, with its length, MAC address
and network identifier, and a STATE frame to each joined dispenser of its own; without the rail it is silent (7),
with an unusable NMK slot it stops (0x0103), on a module that is not active it is not sent. A request with the
coupling's NMK of a dispenser that is joined, listed or admitted makes its entry ROBO with TEI d + 1, and a refused
one, or one the table has no room for, is counted and kept in LAST_REF; one with another NMK is not heard. Leaving
makes an entry LOST or EMPTY; KICK sends a leave too, where the coupling may transmit. Aged maps make estimation
due, and three times that falls back to ROBO; an estimation that ends with valid maps makes the entry ATTACHED with
maps of both directions, and sends the uplink ones. TM_NOW makes it due; a dispenser without beacons shows out of
service. Where its condition does not hold, each command changes nothing (R278-R286, R290). -/
def Obligations.FeederStationsJoinAndLeave : Prop :=
  (∀ (c : Fin 4) (s : State), beaconDue s c = true → s.rd R.cpl_CEN [c.val] = 1 → s.runs 224 = true → s.active = true →
    couplingSlot s c.val (s.rd R.cpl_NMK_KEY [c.val]) = true → railWhole s = true →
    Gives (.beacon c true) s (fun t => t.rd R.cpl_BSTATE [c.val] = 1 ∧ 
      t.splc.out.head? = some (.beacon c.val (beaconUnits s) s.rst.splcMac (Config.nidOf (cplNmk s c))) ∧
      t.splc.cpl[c].sentAt = some s.spar.serial ∧
      (∀ d : Fin 32, joined s d = true → dspCoup s d = c.val →
        SplcOut.state d.val 3 s.splc.dsp[d].seqOut (stateBody s d) ∈ t.splc.out ∧
        t.splc.dsp[d].seqOut = (s.splc.dsp[d].seqOut + 1) % 256) ∧
      { t with regs := s.regs, splc := s.splc } = s)) ∧
  (∀ (c : Fin 4) (rail : Bool) (s : State), beaconDue s c = true → s.rd R.cpl_CEN [c.val] = 1 → s.runs 224 = true →
    Gives (.beacon c rail) s (fun t => t.splc.cpl[c].sentAt = some s.spar.serial ∧
      (s.active = false → t.rd R.cpl_BSTATE [c.val] = 2 ∧ t.splc.out = []) ∧
      (s.active = true → couplingSlot s c.val (s.rd R.cpl_NMK_KEY [c.val]) = false →
        t.rd R.cpl_BSTATE [c.val] = 0 ∧ t.rd R.hdr_CODE [224] = 0x0103 ∧ t.splc.out = []) ∧
      (s.active = true → couplingSlot s c.val (s.rd R.cpl_NMK_KEY [c.val]) = true → rail = false ∨ railWhole s = false →
        t.rd R.cpl_BSTATE [c.val] = 3 ∧ t.splc.out = [] ∧
        (s.rd R.cpl_BSTATE [c.val] ≠ 3 → bitB (t.rd R.hdr_IRQ_RAW [224]) 7 = true)))) ∧
  (∀ (c : Fin 4) (d : Fin 32) (n : Nat) (down : List (List Byte)) (snr : List (List Nat)) (s : State), cplOn s c = true →
    s.splc.cpl[c].est = some (d.val, n) → downValid down = true →
    Gives (.windsockDone c down snr) s (fun t => dstate t d = 2 ∧ t.splc.cpl[c].est = none ∧ t.splc.dsp[d].due = false ∧
      t.splc.dsp[d].maps = (List.range 4).map (fun j => if (down.getD j []).isEmpty then [] else recordClean j (down.getD j [])) ++
        uplinkMaps s.splc.cpl[c].mask (s.rd R.splc_TM_MARGIN []) snr ∧
      t.splc.dsp[d].mapsAt = some s.now ∧
      t.splc.out = [.maps d.val (uplinkMaps s.splc.cpl[c].mask (s.rd R.splc_TM_MARGIN []) snr)] ∧
        bitB (t.rd R.hdr_IRQ_RAW [224]) 6 = true ∧
      { t with regs := s.regs, splc := s.splc, freeCtr := s.freeCtr } = s)) ∧
  (∀ (d : Fin 32) (s : State), splcOn s = true → dstate s d = 2 → s.rd R.splc_TM_REFRESH [] ≤ tmAge s d →
    Gives (.tmAgeExpiry d) s (fun t => t.splc.dsp[d].due = true ∧
      dstate t d = (if 3 * s.rd R.splc_TM_REFRESH [] ≤ tmAge s d then 3 else 2) ∧
      RegsBut s t [R.dsp_DSTATE.key [d.val]] ∧ { t with regs := s.regs, splc := s.splc } = s)) ∧
  (∀ (c : Fin 4) (mac : Nat) (d : Fin 32) (s : State), cplHears s c = true → dspMac s d = mac → dspCoup s d = c.val →
    (∀ e : Fin 32, e ≠ d → dspMac s e = mac → dspCoup s e = c.val → joined s e = false ∧ s.rd R.dsp_LISTED [e.val] = 0) →
    joined s d = true ∨ s.rd R.dsp_LISTED [d.val] = 1 ∨
      s.rd R.cpl_JOIN [c.val] = 2 ∧ (∀ e : Fin 32, e.val < d.val → ¬(dspMac s e = mac ∧ dspCoup s e = c.val)) →
    Gives (.assocRequest c ⟨mac, cplNmk s c⟩) s (fun t => dstate t d = 3 ∧ t.splc.dsp[d].due = true ∧ t.splc.dsp[d].maps = [] ∧
      t.rd R.dsp_FAILRUN [d.val] = 0 ∧ t.splc.out = (if cplOn s c then [.accept d.val (d.val + 1)] else []) ∧
        bitB (t.rd R.hdr_IRQ_RAW [224]) 0 = true ∧
      { t with regs := s.regs, splc := s.splc } = s)) ∧
  (∀ (c : Fin 4) (mac : Nat) (s : State), cplHears s c = true → s.rd R.cpl_JOIN [c.val] ≠ 2 →
    (∀ e : Fin 32, dspMac s e = mac → dspCoup s e = c.val → joined s e = false ∧ s.rd R.dsp_LISTED [e.val] = 0) →
    Gives (.assocRequest c ⟨mac, cplNmk s c⟩) s (fun t => t.splc.out = (if cplOn s c then [.refuse mac] else []) ∧
      t.rd R.splc_LAST_REF [] = mac % 2 ^ 64 ∧
      t.rd R.cpl_JOIN_REF [c.val] = min (s.rd R.cpl_JOIN_REF [c.val] + 1) 65535 ∧ bitB (t.rd R.hdr_IRQ_RAW [224]) 2 = true ∧
      RegsBut s t [R.splc_LAST_REF.key [], R.cpl_JOIN_REF.key [c.val], R.hdr_IRQ_RAW.key [224]] ∧
      { t with regs := s.regs, splc := s.splc } = s)) ∧
  (∀ (c : Fin 4) (mac : Nat) (d : Fin 32) (s : State), cplHears s c = true → s.rd R.cpl_JOIN [c.val] = 2 →
    (∀ e : Fin 32, ¬(dspMac s e = mac ∧ dspCoup s e = c.val)) → dstate s d = 0 → s.rd R.dsp_LISTED [d.val] = 0 →
    (∀ e : Fin 32, e.val < d.val → ¬(dstate s e = 0 ∧ s.rd R.dsp_LISTED [e.val] = 0)) →
    Gives (.assocRequest c ⟨mac, cplNmk s c⟩) s (fun t => dstate t d = 3 ∧ dspCoup t d = c.val ∧
      t.rd R.dsp_MAC_LO [d.val] = mac % 2 ^ 32 ∧
      t.rd R.dsp_MAC_HI [d.val] = mac / 2 ^ 32 % 2 ^ 16 ∧
      t.splc.out = (if cplOn s c then [.accept d.val (d.val + 1)] else []) ∧
      { t with regs := s.regs, splc := s.splc } = s)) ∧
  (∀ (d : Fin 32) (c : Instr) (s : State), joined s d = true →
    (c = .leaveInd d ∧ cplHears s (dspCpl s d) = true ∨ c = .leaveTimeout d ∧ splcOn s = true ∧ leaveTmo s ≤ s.splc.dsp[d].unacked) →
    Gives c s (fun t => dstate t d = (if s.rd R.dsp_LISTED [d.val] = 1 then 4 else 0) ∧ t.splc.dsp[d].maps = [] ∧
      t.splc.dsp[d].due = false ∧ t.splc.tx = s.splc.tx.filter (fun m => m.dest != d.val) ∧
      bitB (t.rd R.hdr_IRQ_RAW [224]) 1 = true ∧ { t with regs := s.regs, splc := s.splc } = s)) ∧
  (∀ (w : World) (d : Fin 32) (s : State), s.canWrite w 225 = true → joined s d = true →
    Gives (.kick w d) s (fun t => dstate t d = (if s.rd R.dsp_LISTED [d.val] = 1 then 4 else 0) ∧ 
      t.splc.out = (if cplOn s (dspCpl s d) then [.leave d.val] else []) ∧
      t.splc.dsp[d].maps = [] ∧ t.splc.tx = s.splc.tx.filter (fun m => m.dest != d.val) ∧
      bitB (t.rd R.hdr_IRQ_RAW [224]) 1 = true ∧ { t with regs := s.regs, splc := s.splc } = s)) ∧
  (∀ (w : World) (d : Fin 32) (s : State), s.canWrite w 225 = true → joined s d = true →
    Gives (.tmNow w d) s (fun t => t.splc.dsp[d] = { s.splc.dsp[d] with due := true } ∧ t.splc.cpl = s.splc.cpl ∧
      { t with splc := s.splc } = s)) ∧
  (∀ (d : Fin 32) (s : State),
    Gives (.dispenserBeaconLoss d) s (fun t => t.splc.dsp[d] = { s.splc.dsp[d] with oos := true } ∧
      (∀ e : Fin 32, e ≠ d → t.splc.dsp[e] = s.splc.dsp[e]) ∧ { t with splc := s.splc } = s)) ∧
  (∀ (c : Fin 4) (rail : Bool) (s : State), beaconDue s c = false ∨ s.rd R.cpl_CEN [c.val] = 0 ∨ s.runs 224 = false →
    Gives (.beacon c rail) s (fun t => t = s)) ∧
  (∀ (c : Fin 4) (down : List (List Byte)) (snr : List (List Nat)) (s : State),
    cplOn s c = false ∨ s.splc.cpl[c].est = none ∨ downValid down = false →
    Gives (.windsockDone c down snr) s (fun t => t = s)) ∧
  (∀ (d : Fin 32) (s : State), splcOn s = false ∨ dstate s d ≠ 2 ∨ tmAge s d < s.rd R.splc_TM_REFRESH [] →
    Gives (.tmAgeExpiry d) s (fun t => t = s)) ∧
  (∀ (c : Fin 4) (mac : Nat) (s : State), cplHears s c = true → s.rd R.cpl_JOIN [c.val] = 2 →
    (∀ e : Fin 32, ¬(dspMac s e = mac ∧ dspCoup s e = c.val)) → (∀ e : Fin 32, ¬(dstate s e = 0 ∧ s.rd R.dsp_LISTED [e.val] = 0)) →
    Gives (.assocRequest c ⟨mac, cplNmk s c⟩) s (fun t => t.splc.out = (if cplOn s c then [.refuse mac] else []) ∧
      t.rd R.splc_LAST_REF [] = mac % 2 ^ 64 ∧
      t.rd R.cpl_JOIN_REF [c.val] = min (s.rd R.cpl_JOIN_REF [c.val] + 1) 65535 ∧ bitB (t.rd R.hdr_IRQ_RAW [224]) 2 = true ∧
      RegsBut s t [R.splc_LAST_REF.key [], R.cpl_JOIN_REF.key [c.val], R.hdr_IRQ_RAW.key [224]] ∧
      { t with regs := s.regs, splc := s.splc } = s)) ∧
  (∀ (c : Fin 4) (mac : Nat) (nmk : List Byte) (s : State), cplHears s c = false ∨ nmk ≠ cplNmk s c →
    Gives (.assocRequest c ⟨mac, nmk⟩) s (fun t => t = s)) ∧
  (∀ (d : Fin 32) (s : State), cplHears s (dspCpl s d) = false ∨ joined s d = false → Gives (.leaveInd d) s (fun t => t = s)) ∧
  (∀ (d : Fin 32) (s : State), splcOn s = false ∨ joined s d = false → Gives (.leaveTimeout d) s (fun t => t = s)) ∧
  (∀ (d : Fin 32) (s : State), s.splc.dsp[d].unacked < leaveTmo s → Gives (.leaveTimeout d) s (fun t => t = s)) ∧
  (∀ (w : World) (d : Fin 32) (s : State), s.canWrite w 225 = true → joined s d = false →
    Gives (.kick w d) s (fun t => t = s) ∧ Gives (.tmNow w d) s (fun t => t = s))

/-- O32 (tier 2). A new message of a joined dispenser enters the queue, its number is kept, and it is acknowledged where
the coupling may transmit; one that repeats the number is acknowledged and discarded; one that does not fit, of
another type or length, of an entry that has not joined, or of a button or card out of service, is not acknowledged
and changes nothing. A clean exchange clears the run of failures; a failure is counted, and the third in a row falls
back to ROBO with estimation due; a delivered message leaves the queue, one not delivered stays, until its eighth
transmission discards it with 0x0104. An exchange of an entry that has not joined, or on a coupling that does not
run, changes nothing, and one on a coupling without its rail counts blanked bursts alone. TX_GO takes the staged
message under the entry's next number or refuses it by 0x0102, 0x0100 or 0x0101; RX_POP releases the head
(R286-R289, R293, R299). -/
def Obligations.FeederMessagesAreQueued : Prop :=
  (∀ (d : Fin 32) (typ seq : Nat) (body : List Byte) (s : State), cplHears s (dspCpl s d) = true → joined s d = true → 0x10 ≤ typ →
  typ ≤ 0x1F →
    body.length ≤ 1024 → seq % 256 ≠ s.rd R.dsp_EVT_SEQ [d.val] → s.splc.rx.length < 64 → oosDrops s d typ = false →
    rxBytes s.splc + (4 + body.length) ≤ 16384 →
    Gives (.splcRxMessage d typ seq body) s (fun t =>
      t.splc.rx = s.splc.rx ++ [(d.val, leBytes 1 typ ++ leBytes 1 seq ++ leBytes 2 body.length ++ body)] ∧
      t.rd R.dsp_EVT_SEQ [d.val] = seq % 256 ∧ t.rd R.splc_RX_MSGS [] = s.splc.rx.length + 1 ∧
      bitB (t.rd R.hdr_IRQ_RAW [224]) 3 = true ∧ t.splc.tx = s.splc.tx ∧ t.splc.dsp = s.splc.dsp ∧
      t.splc.out = (if cplOn s (dspCpl s d) then [.ack d.val (seq % 256)] else []) ∧
      { t with regs := s.regs, splc := s.splc } = s)) ∧
  (∀ (d : Fin 32) (typ seq : Nat) (body : List Byte) (s : State),
    cplHears s (dspCpl s d) = false ∨ joined s d = false ∨ typ < 0x10 ∨ 0x1F < typ ∨ 1024 < body.length ∨ oosDrops s d typ = true ∨
      (seq % 256 ≠ s.rd R.dsp_EVT_SEQ [d.val] ∧
        (64 ≤ s.splc.rx.length ∨ 16384 < rxBytes s.splc + (4 + body.length))) →
    Gives (.splcRxMessage d typ seq body) s (fun t => t.splc = { s.splc with out := [] } ∧ { t with splc := s.splc } = s)) ∧
  (∀ (d : Fin 32) (total bad resent blanked : Nat) (s : State), cplOn s (dspCpl s d) = true → joined s d = true → 2 * bad ≤ total →
    Gives (.frameExchangeDone d true total bad resent blanked false) s (fun t => t.rd R.dsp_FAILRUN [d.val] = 0 ∧
      t.splc.dsp[d].acked = true ∧ dstate t d = dstate s d ∧ t.splc.tx = s.splc.tx ∧
      t.rd R.dsp_PB_RETX [d.val] = min 65535 (s.rd R.dsp_PB_RETX [d.val] + resent) ∧
      t.rd R.cpl_IMP_BLANK [dspCoup s d] = min 65535 (s.rd R.cpl_IMP_BLANK [dspCoup s d] + blanked) ∧
      { t with regs := s.regs, splc := s.splc } = s)) ∧
  (∀ (d : Fin 32) (total bad resent blanked : Nat) (s : State), cplOn s (dspCpl s d) = true → joined s d = true →
    Gives (.frameExchangeDone d false total bad resent blanked false) s (fun t =>
      t.rd R.dsp_FAILRUN [d.val] = min (s.rd R.dsp_FAILRUN [d.val] + 1) 255 ∧
      t.rd R.dsp_FRM_FAIL [d.val] = min (s.rd R.dsp_FRM_FAIL [d.val] + 1) 65535 ∧
      (s.rd R.dsp_FAILRUN [d.val] = 2 → dstate t d = 3 ∧ t.splc.dsp[d].due = true ∧ bitB (t.rd R.hdr_IRQ_RAW [224]) 5 = true) ∧
      (s.rd R.dsp_FAILRUN [d.val] ≠ 2 → dstate t d = dstate s d ∧ t.splc.dsp[d].due = s.splc.dsp[d].due) ∧
      { t with regs := s.regs, splc := s.splc } = s)) ∧
  (∀ (d : Fin 32) (m : SplcTx) (total resent blanked : Nat) (s : State), cplOn s (dspCpl s d) = true → joined s d = true →
    s.splc.tx.find? (fun m => m.dest == d.val) = some m →
    Gives (.frameExchangeDone d true total 0 resent blanked true) s (fun t => t.splc.tx = s.splc.tx.erase m ∧
      t.splc.out = [.msg d.val m.prio m.data] ∧
      (s.splc.tx.erase m = [] → bitB (t.rd R.hdr_IRQ_RAW [224]) 4 = true) ∧ t.rd R.dsp_FAILRUN [d.val] = 0)) ∧
  (∀ (w : World) (d : Fin 32) (s : State), s.canWrite w 226 = true → s.rd R.splc_TX_DEST [] = d.val → joined s d = true →
    4 ≤ s.rd R.splc_TX_LEN [] → s.rd R.splc_TX_LEN [] ≤ 1028 →
    txTypeOk ((memBytes s.splc.stage 0 (s.rd R.splc_TX_LEN [])).getD 0 0).toNat = true → s.splc.tx.length < 32 →
    txBytes s.splc + s.rd R.splc_TX_LEN [] ≤ 16384 →
    Gives (.splcTxGo w) s (fun t =>
      t.splc.tx = s.splc.tx ++ [⟨d.val, s.rd R.splc_TX_PRIO [],
        (memBytes s.splc.stage 0 (s.rd R.splc_TX_LEN [])).set 1 (BitVec.ofNat 8 s.splc.dsp[d].seqOut), 0⟩] ∧
      t.splc.dsp[d].seqOut = (s.splc.dsp[d].seqOut + 1) % 256 ∧ t.rd R.splc_TX_QUEUED [] = s.splc.tx.length + 1 ∧
      t.splc.rx = s.splc.rx ∧ { t with regs := s.regs, splc := s.splc } = s)) ∧
  (∀ (w : World) (d : Fin 32) (s : State), s.canWrite w 226 = true → s.rd R.splc_TX_DEST [] = d.val →
    Gives (.splcTxGo w) s (fun t =>
      (s.rd R.splc_TX_LEN [] < 4 ∨ 1028 < s.rd R.splc_TX_LEN [] ∨
          txTypeOk ((memBytes s.splc.stage 0 (s.rd R.splc_TX_LEN [])).getD 0 0).toNat = false → t.rd R.hdr_CODE [224] = 0x0102 ∧
            t.splc = s.splc) ∧
      (4 ≤ s.rd R.splc_TX_LEN [] → s.rd R.splc_TX_LEN [] ≤ 1028 →
        txTypeOk ((memBytes s.splc.stage 0 (s.rd R.splc_TX_LEN [])).getD 0 0).toNat = true →
        (joined s d = false → t.rd R.hdr_CODE [224] = 0x0100 ∧ t.splc = s.splc) ∧
        (joined s d = true → 32 ≤ s.splc.tx.length ∨ 16384 < txBytes s.splc + s.rd R.splc_TX_LEN [] →
          t.rd R.hdr_CODE [224] = 0x0101 ∧ t.splc = s.splc)))) ∧
  (∀ (w : World) (s : State), s.canWrite w 226 = true →
    Gives (.splcRxPop w) s (fun t => t.splc = { s.splc with rx := s.splc.rx.drop 1 } ∧
      { t with regs := s.regs, splc := s.splc } = s)) ∧
  (∀ (d : Fin 32) (typ seq : Nat) (body : List Byte) (s : State), cplHears s (dspCpl s d) = true → joined s d = true → 0x10 ≤ typ →
    typ ≤ 0x1F →
    body.length ≤ 1024 → seq % 256 = s.rd R.dsp_EVT_SEQ [d.val] → oosDrops s d typ = false →
    Gives (.splcRxMessage d typ seq body) s (fun t =>
      t.splc = { s.splc with out := if cplOn s (dspCpl s d) then [.ack d.val (seq % 256)] else [] } ∧
      { t with splc := s.splc } = s)) ∧
  (∀ (d : Fin 32) (m : SplcTx) (total bad resent blanked : Nat) (s : State), cplOn s (dspCpl s d) = true → joined s d = true →
    s.splc.tx.find? (fun m => m.dest == d.val) = some m →
    Gives (.frameExchangeDone d false total bad resent blanked true) s (fun t =>
      (m.sent < 7 → t.splc.tx = s.splc.tx.map (fun x => if x = m then { x with sent := x.sent + 1 } else x)) ∧
      (7 ≤ m.sent → t.splc.tx = s.splc.tx.erase m ∧ t.rd R.hdr_CODE [224] = 0x0104) ∧
      t.rd R.dsp_FAILRUN [d.val] = min (s.rd R.dsp_FAILRUN [d.val] + 1) 255)) ∧
  (∀ (d : Fin 32) (ack q : Bool) (total bad resent blanked : Nat) (s : State), cplHears s (dspCpl s d) = false ∨ joined s d = false →
    Gives (.frameExchangeDone d ack total bad resent blanked q) s (fun t => t = s)) ∧
  (∀ (d : Fin 32) (ack q : Bool) (total bad resent blanked : Nat) (s : State), cplHears s (dspCpl s d) = true →
    cplOn s (dspCpl s d) = false → joined s d = true →
    Gives (.frameExchangeDone d ack total bad resent blanked q) s (fun t =>
      t.rd R.cpl_IMP_BLANK [dspCoup s d] = min 65535 (s.rd R.cpl_IMP_BLANK [dspCoup s d] + blanked) ∧
      OnlyRegs s t [R.cpl_IMP_BLANK.key [dspCoup s d]]))

/-- O33 (tier 2). When the addition is due, every running meter adds the steps that ended in earlier cycles: in a meter
of MODE 0 the counters and their remainders below 1 mWh grow by exactly the energy of those steps, the legal
registers follow, E_CYCLE takes the cycle before, and the steps of the present cycle wait. A meter that does not run
keeps its counters and its steps. With no addition due, or with the meters in reset, the command changes nothing
(R320, R321, R323, R338). -/
def Obligations.MetersAddTheirSteps : Prop :=
  (∀ s : State, s.addDue = true → s.inReset 14 = false →
    Gives .meterAddition s (fun t => t.addDue = false ∧ t.rst.accWrite = some s.now ∧
      (∀ m : Meter, s.runs (257 + m.val) = true →
        (t.mtr m).steps = (s.mtr m).steps.filter (fun x => x.cycle == s.spar.cycle) ∧
        t.rd R.mt_E_CYCLE [m.val] = (s.spar.cycle + 2 ^ 32 - 1) % 2 ^ 32 ∧
        t.rd R.leg_REG_POS [m.val] = legalReg (t.rd R.mt_E_POS [m.val]) % 2 ^ 64 ∧
        (s.rd R.mt_MODE [m.val] = 0 →
          (t.rd R.mt_E_POS [m.val] * mWh + (t.mtr m).posR) % (2 ^ 64 * mWh) =
            (s.rd R.mt_E_POS [m.val] * mWh + (s.mtr m).posR +
              (((s.mtr m).steps.filter (fun x => x.cycle != s.spar.cycle)).filter (fun x => x.dir == 1)).foldl
                (fun a x => a + x.e.toNat) 0) % (2 ^ 64 * mWh) ∧
          (t.rd R.mt_E_NEG [m.val] * mWh + (t.mtr m).negR) % (2 ^ 64 * mWh) =
            (s.rd R.mt_E_NEG [m.val] * mWh + (s.mtr m).negR +
              (((s.mtr m).steps.filter (fun x => x.cycle != s.spar.cycle)).filter (fun x => x.dir != 1)).foldl
                (fun a x => a + x.e.natAbs) 0) % (2 ^ 64 * mWh))) ∧
      (∀ m : Meter, s.runs (257 + m.val) = false → t.mtr m = s.mtr m ∧ t.rd R.mt_E_POS [m.val] = s.rd R.mt_E_POS [m.val] ∧
        t.rd R.mt_E_NEG [m.val] = s.rd R.mt_E_NEG [m.val] ∧ t.rd R.mt_E_NET [m.val] = s.rd R.mt_E_NET [m.val]) ∧
      { t with regs := s.regs, mtrs := s.mtrs, bill := s.bill, pulses := s.pulses, addDue := s.addDue, rst := s.rst } = s)) ∧
  (∀ s : State, s.addDue = false ∨ s.inReset 14 = true → Gives .meterAddition s (fun t => t = s))

/-- O34 (tier 2). A pending pulse of a working output is emitted when its interval has passed. A crossing of an armed
detector, from a sample below zero to one at or above it, clears ZC_LOST of its phase, disarms the detector and
keeps the interpolated instant, dividing the sums of its phase there, in the last period too; the first phase with
crossings gives FREQ from the one before. A phase without crossings for ZC_TMO sets ZC_LOST, once. A bitstream that
turns bad sets MODF and its bit of MODF_A to C, and stays noted until the period is processed. A standby that sees
no clock drives it, and the gap is noted for the group. LOAD of a stopped meter copies the LOAD values, clears the
remainders and is logged in the sealed area; while EN = 1 it is an error, and so it is with the area full. A change
of the seal is logged, or an error with the area full. GAP, REV and POVF are cleared by a write of 1. Where its
condition does not hold, a command changes nothing (R304, R314-R316, R323-R328, R330, R334, R335, R373). -/
def Obligations.MeterEventsActOnTheirChannel : Prop :=
  (∀ (n : Fin 8) (s : State), pulseOn s n = true → 0 < s.rd R.mtr_PEND [n.val] → s.pulses[n].next ≤ s.now + s.spar.clocks →
    Gives (.pulseEmit n) s (fun t => t.rd R.mtr_PEND [n.val] = s.rd R.mtr_PEND [n.val] - 1 ∧
      t.rd R.mtr_PCNT [n.val] = (s.rd R.mtr_PCNT [n.val] + 1) % 2 ^ 32 ∧
      t.pulses[n].next = max s.pulses[n].next s.now + max s.pulses[n].gap (2 * pulseWidth s n) ∧
      (∀ k : Fin 8, k ≠ n → t.pulses[k] = s.pulses[k]) ∧ RegsBut s t [R.mtr_PEND.key [n.val], R.mtr_PCNT.key [n.val]] ∧
      { t with regs := s.regs, pulses := s.pulses } = s)) ∧
  (∀ (c : Fin 4) (ph : Fin 3) (at_ : Nat) (x0 x1 low : Int) (s : State), s.inReset 14 = false →
    s.phases[phaseIx c ph].armed = true ∨ armLevel s c.val low = true → x0 < 0 → 0 ≤ x1 →
    let back := (rhu (x1 * 200) (x1 - x0).toNat).toNat
    let p := s.phases[phaseIx c ph]
    Gives (.zeroCrossing c ph at_ ⟨x0, x1, low⟩) s (fun t => bitB (t.rd R.mt_ZC_LOST [32 + c.val]) ph.val = false ∧
      (back ≤ at_ → t.phases[phaseIx c ph] = { p with
        armed := false, cross := p.cross ++ [at_ - back], lastAt := some (s.now + at_ - back), since := s.now + at_ - back }) ∧
      (at_ < back → t.phases[phaseIx c ph] = { p with
        armed := false, run := tailSum (back - at_) p.tail, opened := true, lastAt := some (s.now + at_ - back), since := s.now + at_ - back
        done := if p.opened = true then ⟨p.run.v - (tailSum (back - at_) p.tail).v, p.run.i - (tailSum (back - at_) p.tail).i,
          p.run.w - (tailSum (back - at_) p.tail).w⟩ else p.done }) ∧
      (∀ k : Fin 12, k ≠ phaseIx c ph → t.phases[k] = s.phases[k]) ∧
      (∀ t0, p.lastAt = some t0 → t0 < s.now + at_ - back → freqPhase s c.val ph.val = true →
        t.rd R.mt_FREQ [32 + c.val] = divRound (1000000 * 200000000) (s.now + at_ - back - t0) % 2 ^ 32) ∧
      RegsBut s t [R.mt_ZC_LOST.key [32 + c.val], R.mt_FREQ.key [32 + c.val]] ∧
      { t with regs := s.regs, phases := s.phases } = s)) ∧
  (∀ (c : Fin 4) (ph : Fin 3) (at_ : Nat) (x0 x1 low : Int) (s : State),
    (s.phases[phaseIx c ph].armed = false ∧ armLevel s c.val low = false) ∨ 0 ≤ x0 ∨ x1 < 0 ∨ s.inReset 14 = true →
    Gives (.zeroCrossing c ph at_ ⟨x0, x1, low⟩) s (fun t => t = s)) ∧
  (∀ (c : Fin 4) (ph : Fin 3) (s : State), s.inReset 14 = false → bitB (s.rd R.mt_ZC_LOST [32 + c.val]) ph.val = false →
    s.phases[phaseIx c ph].since + zcTmo s c.val ≤ s.now + s.spar.clocks →
    Gives (.zcLost c ph) s (fun t => bitB (t.rd R.mt_ZC_LOST [32 + c.val]) ph.val = true ∧
      bitB (t.rd R.hdr_IRQ_RAW [289 + c.val]) 2 = true ∧
      t.phases[phaseIx c ph] = { s.phases[phaseIx c ph] with opened := false, lastAt := none } ∧
      (∀ k : Fin 12, k ≠ phaseIx c ph → t.phases[k] = s.phases[k]) ∧
      RegsBut s t [R.mt_ZC_LOST.key [32 + c.val], R.hdr_IRQ_RAW.key [289 + c.val]] ∧
      { t with regs := s.regs, phases := s.phases } = s)) ∧
  (∀ (b : Fin 88) (bad : Bool) (s : State),
    Gives (.modf b bad) s (fun t => t.rd R.ch_MODF [(chanOf b.val).1, (chanOf b.val).2] = b2n bad ∧
      t.chans[b] = { s.chans[b] with modf := s.chans[b].modf || bad, stall := (bad && !s.chans[b].modf) || s.chans[b].stall } ∧
      (∀ k : Fin 88, k ≠ b → t.chans[k] = s.chans[k]) ∧
      (b.val < 32 → bitB (t.rd R.mtr_MODF_A []) b.val = (bad || s.rdB R.ch_OVR [(chanOf b.val).1, (chanOf b.val).2])) ∧
      (32 ≤ b.val → b.val < 64 →
        bitB (t.rd R.mtr_MODF_B []) (b.val - 32) = (bad || s.rdB R.ch_OVR [(chanOf b.val).1, (chanOf b.val).2])) ∧
      (64 ≤ b.val → bitB (t.rd R.mtr_MODF_C []) (b.val - 64) = (bad || s.rdB R.ch_OVR [(chanOf b.val).1, (chanOf b.val).2])) ∧
      RegsBut s t [R.ch_MODF.key [(chanOf b.val).1, (chanOf b.val).2], R.mtr_MODF_A.key [], R.mtr_MODF_B.key [],
        R.mtr_MODF_C.key [], R.hdr_IRQ_RAW.key [256]] ∧ { t with regs := s.regs, chans := s.chans } = s)) ∧
  (∀ (g : Fin 4) (s : State), s.inReset 14 = false → s.active = false → bitB (s.rd R.mtr_MCLK_DRV []) g.val = false →
    Gives (.mclkTaken g) s (fun t => bitB (t.rd R.mtr_MCLK_DRV []) g.val = true ∧ bitB (t.rd R.hdr_IRQ_RAW [256]) 2 = true ∧
      t.mclkTook[g] = true ∧ (∀ k : Fin 4, k ≠ g → t.mclkTook[k] = s.mclkTook[k]) ∧
      { t with regs := s.regs, bill := s.bill, mclkTook := s.mclkTook } = s)) ∧
  (∀ (w : World) (m : Meter) (s : State), s.canWrite w (257 + m.val) = true → s.rd R.hdr_EN [257 + m.val] = 0 →
    logFull s = false →
    Gives (.meterLoad w m) s (fun t => t.rd R.mt_E_POS [m.val] = s.rd R.mt_LOAD_POS [m.val] ∧
      t.rd R.mt_E_NEG [m.val] = s.rd R.mt_LOAD_NEG [m.val] ∧ t.rd R.mt_E_NET [m.val] = s.rd R.mt_LOAD_NET [m.val] ∧
      t.mtr m = { s.mtr m with posR := 0, negR := 0, netR := 0 } ∧
      t.rd R.leg_REG_POS [m.val] = legalReg (s.rd R.mt_LOAD_POS [m.val]) % 2 ^ 64 ∧
      t.rd R.bill_SEAL_FREE [] = 4096 - (s.bill.logSeal.length + 1) ∧ t.rd R.bill_LOG_SEQ [] = (s.rd R.bill_LOG_SEQ [] + 1) % 2 ^ 32 ∧
      t.bill.logSeal.head?.map (fun e => (e.code, e.unit)) = some (3, m.val) ∧ t.bill.logSeal.tail = s.bill.logSeal ∧
      { t with regs := s.regs, mtrs := s.mtrs, bill := s.bill } = s)) ∧
  (∀ (w : World) (m : Meter) (s : State), s.canWrite w (257 + m.val) = true → s.rd R.hdr_EN [257 + m.val] = 1 →
    Gives (.meterLoad w m) s (fun t => t.rd R.hdr_CODE [257 + m.val] = 0x0103 ∧
      t.rd R.mt_E_POS [m.val] = s.rd R.mt_E_POS [m.val] ∧ { t with regs := s.regs } = s)) ∧
  (∀ (on : Bool) (s : State), s.rd R.mtr_SEAL [] ≠ b2n on → logFull s = false →
    Gives (.sealChange on) s (fun t => t.rd R.mtr_SEAL [] = b2n on ∧ bitB (t.rd R.mtr_MSW []) 0 = on ∧
      t.bill.logSeal.head?.map (fun e => (e.code, e.d0)) = some (1, b2n on) ∧ t.bill.logSeal.tail = s.bill.logSeal ∧
      t.rd R.bill_SEAL_FREE [] = 4096 - (s.bill.logSeal.length + 1) ∧ { t with regs := s.regs, bill := s.bill } = s)) ∧
  (∀ (on : Bool) (s : State), s.rd R.mtr_SEAL [] = b2n on → Gives (.sealChange on) s (fun t => t = s)) ∧
  (∀ (w : World) (m : Meter) (v : Word) (s : State), s.canWrite w (257 + m.val) = true →
    Gives (.meterFlagClear w false m v) s (fun t =>
      t.rd R.mt_GAP [m.val] = (if v.getLsbD 5 = true then 0 else s.rd R.mt_GAP [m.val]) ∧
      t.rd R.mt_REV [m.val] = (if v.getLsbD 2 = true then 0 else s.rd R.mt_REV [m.val]) ∧
      OnlyRegs s t [R.mt_GAP.key [m.val], R.mt_REV.key [m.val]])) ∧
  (∀ (w : World) (m : Meter) (v : Word) (s : State), s.canWrite w 256 = true →
    Gives (.meterFlagClear w true m v) s (fun t =>
      t.rd R.mtr_POVF [m.val % 8] = (if v.getLsbD 16 = true then 0 else s.rd R.mtr_POVF [m.val % 8]) ∧
      OnlyRegs s t [R.mtr_POVF.key [m.val % 8]])) ∧
  (∀ (n : Fin 8) (s : State), pulseOn s n = false ∨ s.rd R.mtr_PEND [n.val] = 0 ∨ s.now + s.spar.clocks < s.pulses[n].next →
    Gives (.pulseEmit n) s (fun t => t = s)) ∧
  (∀ (c : Fin 4) (ph : Fin 3) (s : State), s.inReset 14 = true ∨ bitB (s.rd R.mt_ZC_LOST [32 + c.val]) ph.val = true ∨
      s.now + s.spar.clocks < s.phases[phaseIx c ph].since + zcTmo s c.val →
    Gives (.zcLost c ph) s (fun t => t = s)) ∧
  (∀ (g : Fin 4) (s : State), s.inReset 14 = true ∨ s.active = true ∨ bitB (s.rd R.mtr_MCLK_DRV []) g.val = true →
    Gives (.mclkTaken g) s (fun t => t = s)) ∧
  (∀ (w : World) (m : Meter) (s : State), s.canWrite w (257 + m.val) = true → s.rd R.hdr_EN [257 + m.val] = 0 →
    logFull s = true →
    Gives (.meterLoad w m) s (fun t => t.rd R.hdr_CODE [304] = 0x0103 ∧
      OnlyRegs s t [R.hdr_CODE.key [304], R.hdr_COUNT.key [304], R.hdr_ERR.key [304]])) ∧
  (∀ (on : Bool) (s : State), s.rd R.mtr_SEAL [] ≠ b2n on → logFull s = true →
    Gives (.sealChange on) s (fun t => t.rd R.mtr_SEAL [] = b2n on ∧ bitB (t.rd R.mtr_MSW []) 0 = on ∧
      t.rd R.hdr_CODE [304] = 0x0103 ∧ { t with regs := s.regs } = s))

/-- O35 (tier 2). The request at the tail of the ring is answered once with its tag: SESSION_OPEN opens a session of the
port's SESS_ID and arms the snapshot of E002, or answers 5, 6, 3 or 4; SESSION_CLOSE, 5, 3, 6 or the end at the next
snapshot; CREDIT, 5, 1, 2, 3 or the amount added and the token kept, every one logged; CAL_PART stages 224 bytes;
CAL_COMMIT takes the staged image, its reserved bits zero, where the signature verifies; READ puts the data in the
window. A request that names no port is answered 5. A command whose request does not stand at the tail, or that
finds no request to take, changes nothing (R360, R365, R366, R368, R378). The data word of an answer is a free value
(log entry 1). -/
def Obligations.BillingRequestsAreAnswered : Prop :=
  (∀ (pre : Bool) (low : Int) (ident : List (List Byte)) (p : Port) (s : State), LastRequest s 1 → reqPort s = some p →
    Gives (.sessionOpen pre low ident) s (fun t =>
      (if (s.bs p).isOpen = true then Answered s t 6 ∧ t.bs p = s.bs p
      else if reqSess s ≠ s.rd R.port_SESS_ID [p.val] then Answered s t 3 ∧ t.bs p = s.bs p
      else if ocmfFree s < 16 then Answered s t 4 ∧ t.bs p = s.bs p ∧ t.rd R.hdr_CODE [304] = 0x0104 ∧
        bitB (t.rd R.hdr_IRQ_RAW [304]) 7 = true
      else Answered s t 0 ∧ t.bs p = { BSessS.reset with
          serial := (s.bs p).serial + 1, prepaid := pre, isOpen := true, beginPend := true, ident := ident
          faulted := (s.bs p).faulted, lastSt := (s.bs p).lastSt } ∧
        t.rd R.pre_PREPAY [p.val] = b2n pre ∧ t.rd R.pre_SESS_ID [p.val] = reqSess s ∧ t.rd R.pre_BAL [p.val] = 0 ∧
        t.rd R.evt_ARM [2] = 1) ∧
      (∀ q : Port, q ≠ p → t.bs q = s.bs q))) ∧
  (∀ (pre : Bool) (low : Int) (ident : List (List Byte)) (s : State), LastRequest s 1 → reqPort s = none →
    Gives (.sessionOpen pre low ident) s (fun t => Answered s t 5 ∧ t.bill.sess = s.bill.sess)) ∧
  (∀ (p : Port) (s : State), LastRequest s 2 → reqPort s = some p →
    Gives .sessionClose s (fun t =>
      if (s.bs p).isOpen = false ∨ reqSess s ≠ s.rd R.pre_SESS_ID [p.val] then Answered s t 3 ∧ t.bill.sess = s.bill.sess
      else if (s.bs p).endPend = true then Answered s t 6 ∧ t.bill.sess = s.bill.sess
      else Answered s t 0 ∧ t.bs p = { s.bs p with endPend := true } ∧ t.rd R.evt_ARM [2] = 1 ∧
        (∀ q : Port, q ≠ p → t.bs q = s.bs q))) ∧
  (∀ (token : Word) (amount : Nat) (sig : List Byte) (p : Port) (s : State), LastRequest s 3 → reqPort s = some p →
    Gives (.credit token amount sig) s (fun t =>
      t.rd R.bill_LOG_SEQ [] = (s.rd R.bill_LOG_SEQ [] + 1) % 2 ^ 32 ∧
      (if Config.ecVerify 0 (pubOfSlot s (s.rd R.bill_CREDIT_KEY [])) (Config.digest 0 (tokenMsg s token.toNat p (reqSess s) amount)) sig
          = false then Answered s t 1 ∧ t.bs p = s.bs p ∧ t.rd R.bill_LAST_TOKEN [] = s.rd R.bill_LAST_TOKEN []
      else if token.toNat ≤ s.rd R.bill_LAST_TOKEN [] then
        Answered s t 2 ∧ t.bs p = s.bs p ∧ t.rd R.bill_LAST_TOKEN [] = s.rd R.bill_LAST_TOKEN []
      else if (s.bs p).isOpen = false ∨ (s.bs p).endPend = true ∨ s.rd R.pre_PREPAY [p.val] = 0 ∨
        reqSess s ≠ s.rd R.pre_SESS_ID [p.val] then
        Answered s t 3 ∧ t.bs p = s.bs p ∧ t.rd R.bill_LAST_TOKEN [] = s.rd R.bill_LAST_TOKEN []
      else Answered s t 0 ∧ t.bs p = { s.bs p with credit := (s.bs p).credit + amount } ∧
        t.rd R.bill_LAST_TOKEN [] = token.toNat ∧
        t.rd R.pre_BAL [p.val] = trunc 64 (s.rdI R.pre_BAL [p.val] + amount)))) ∧
  (∀ (ofs : Nat) (data : List Byte) (s : State), LastRequest s 4 →
    Gives (.calPart ofs data) s (fun t =>
      if data.length ≠ 224 ∨ 0x9A0 < ofs + 224 then Answered s t 5 ∧ t.bill.stage = s.bill.stage
      else Answered s t 0 ∧ t.bill.stage = memWrite s.bill.stage (0x100 + ofs) data ∧ t.bill.cal1 = s.bill.cal1)) ∧
  (∀ (sig : List Byte) (s : State), LastRequest s 5 →
    Gives (.calCommit sig) s (fun t => t.bill.cal0 = s.bill.cal0 ∧
      (if Config.ecVerify 0 (pubOfSlot s (s.rd R.bill_TARIFF_KEY [])) (Config.digest 0 (memBytes s.bill.stage 0x100 0x9A0)) sig = true
      then Answered s t 0 ∧ t.bill.cal1 = calClean s.bill.stage else Answered s t 1 ∧ t.bill.cal1 = s.bill.cal1))) ∧
  (∀ (kind : Nat) (index : Word) (ofs : Nat) (s : State), LastRequest s 6 →
    Gives (.billRead kind index ofs) s (fun t =>
      match readData s kind index.toNat ofs with
      | none => Answered s t 5 ∧ t.bill.rwData = s.bill.rwData
      | some d => Answered s t 0 ∧ t.bill.rwData = d ∧ t.bill.rwTag = reqByte s 1 ∧ t.bill.rwKind = kind ∧
        t.bill.rwIndex = index.toNat)) ∧
  (∀ (s : State), LastRequest s 2 → reqPort s = none →
    Gives .sessionClose s (fun t => Answered s t 5 ∧ t.bill.sess = s.bill.sess)) ∧
  (∀ (token : Word) (amount : Nat) (sig : List Byte) (s : State), LastRequest s 3 → reqPort s = none →
    Gives (.credit token amount sig) s (fun t => Answered s t 5 ∧ t.bill.sess = s.bill.sess ∧
      t.rd R.bill_LOG_SEQ [] = (s.rd R.bill_LOG_SEQ [] + 1) % 2 ^ 32)) ∧
  (∀ (pre : Bool) (low : Int) (ident : List (List Byte)) (token index : Word) (amount ofs kind : Nat) (sig data : List Byte)
    (c : Instr) (n : Nat) (s : State), reqReady s = false ∨ reqByte s 0 ≠ n →
    (c, n) ∈ [(Instr.sessionOpen pre low ident, 1), (.sessionClose, 2), (.credit token amount sig, 3), (.calPart ofs data, 4),
      (.calCommit sig, 5), (.billRead kind index ofs, 6)] →
    Gives c s (fun t => t = s))

/-- O36 (tier 2). The boundary sequence commits the oldest latched slot: one record more, SHADOW_ACK of the slot,
LAST_BOUND its wall time unless that was later (log entry 201), its SLOT_PEND bit clear; with no slot latched it
changes nothing. The start of billing completes every latched slot, judges the active calendar, and sets the causes
and DEFAULT. A port whose contactor has not read open within DISC_TMO of the session's first BILL_DISC, or whose
meter closed a DIR 1 step while it read open, sets DISC_FAIL and is logged, once; otherwise nothing changes. A
display frame is formed from what the display shows; an item advance whose item has had its DUR, 2 to 20 s, or is
displayed no longer, shows the next item, or the next port, and sends a frame; before that it changes nothing. With
BILL in reset these commands change nothing (R345, R351-R357, R363, R369, R371, R379). -/
def Obligations.BoundariesBootAndDisplay : Prop :=
  (∀ (k : Fin 2) (sh : ShadowS) (s : State), s.inReset 15 = false → oldestSlot s = some k → s.bill.slots[k] = some sh →
    Gives .boundarySequence s (fun t => t.rd R.bill_BREC [] = (s.rd R.bill_BREC [] + 1) % 2 ^ 32 ∧
      t.rd R.bill_SHADOW_ACK [] = sh.seq % 256 ∧ t.rd R.bill_LAST_BOUND [] = max (s.rd R.bill_LAST_BOUND []) sh.wall % 2 ^ 64 ∧
      bitB (t.rd R.bill_SLOT_PEND []) k.val = false ∧ bitB (t.rd R.hdr_IRQ_RAW [304]) 0 = true ∧
      t.bill.recs.head?.map (fun r => (r.slot, r.closed)) = some (sh, closes s sh) ∧ t.bill.recs.tail = s.bill.recs ∧
      { t with regs := s.regs, bill := s.bill, spar := s.spar, freeCtr := s.freeCtr } = s)) ∧
  (∀ s : State, oldestSlot s = none → Gives .boundarySequence s (fun t => t = s)) ∧
  (∀ s : State, s.inReset 15 = false → (∀ k : Fin 2, bitB (s.rd R.bill_SLOT_PEND []) k.val = true → (s.bill.slots[k]).isSome = true) →
    Gives .bootComplete s (fun t => t.rd R.bill_SLOT_PEND [] = 0 ∧
      t.rd R.bill_CAL_VALID [] = b2n (calValid t.bill.cal0) ∧ bitB (t.rd R.bill_DEF_CAUSE []) 3 = !calValid t.bill.cal0 ∧
      (s.rd R.wall_VALID [] = 0 → bitB (t.rd R.bill_DEF_CAUSE []) 0 = true) ∧
      t.rd R.bill_DEFAULT [] = b2n (t.rd R.bill_DEF_CAUSE [] != 0) ∧
      t.bill.recs.length = s.bill.recs.length + b2n (bitB (s.rd R.bill_SLOT_PEND []) 0) + b2n (bitB (s.rd R.bill_SLOT_PEND []) 1) ∧
      { t with regs := s.regs, bill := s.bill, spar := s.spar, freeCtr := s.freeCtr } = s)) ∧
  (∀ (p : Port) (d : DiscW) (s : State), (s.bs p).disc = some d → d.sess = s.rd R.port_SESS_ID [p.val] → d.failed = false →
    d.stepOpen = true ∨ (d.opened = false ∧ d.since + s.rd R.bill_DISC_TMO [] ≤ monoMs s) →
    Gives (.discFail p) s (fun t => t.rd R.pre_DISC_FAIL [p.val] = 1 ∧ bitB (t.rd R.hdr_IRQ_RAW [304]) 5 = true ∧
      t.bill.logRing.head?.map (fun e => (e.code, e.unit)) = some (0x42, p.val) ∧
      (t.bs p).disc = some { d with failed := true } ∧
      RegsBut s t [R.pre_DISC_FAIL.key [p.val], R.hdr_IRQ_RAW.key [304], R.bill_LOG_SEQ.key []] ∧
      { t with regs := s.regs, bill := s.bill } = s)) ∧
  (∀ s : State, s.inReset 15 = false →
    Gives .displayFrame s (fun t => t.bill.dFrame = displayBytes t ∧
      (t.bill.dPort = none ∨ ∃ p, t.bill.dPort = some p ∧ p ∈ dispPorts t) ∧
      (∀ p, s.bill.dPort = some p → p ∈ dispPorts s → t.bill.dPort = some p ∧ t.bill.dItem = s.bill.dItem) ∧
      { t with bill := s.bill } = s)) ∧
  (∀ (p : Nat) (s : State), s.inReset 15 = false → s.bill.dPort = some p → p ∈ dispPorts s → s.bill.dItem + 1 < 32 →
    s.bill.dAt + 1000 * min 20 (max 2 (s.rd R.pre_DUR [p, s.bill.dItem])) ≤ monoMs s →
    itemCode s p (s.bill.dItem + 1) ≠ 0 →
    Gives .displayItemAdvance s (fun t => t.bill.dPort = some p ∧ t.bill.dItem = s.bill.dItem + 1 ∧ t.bill.dAt = monoMs s ∧
      t.bill.dFrame = displayBytes t ∧ { t with bill := s.bill } = s)) ∧
  (∀ (p : Nat) (s : State), s.inReset 15 = false → s.bill.dPort = some p →
    p ∉ dispPorts s ∨ (s.bill.dAt + 1000 * min 20 (max 2 (s.rd R.pre_DUR [p, s.bill.dItem])) ≤ monoMs s ∧
      (itemCode s p (s.bill.dItem + 1) = 0 ∨ 32 ≤ s.bill.dItem + 1)) →
    Gives .displayItemAdvance s (fun t =>
      t.bill.dPort = ((dispPorts s).find? (fun q => decide (p < q))).orElse (fun _ => (dispPorts s).head?) ∧
      t.bill.dItem = 0 ∧ t.bill.dFrame = displayBytes t ∧ { t with bill := s.bill } = s)) ∧
  (∀ s : State, s.inReset 15 = false → s.bill.dPort = none →
    Gives .displayItemAdvance s (fun t => t.bill.dPort = (dispPorts s).head? ∧
      t.bill.dItem = 0 ∧ t.bill.dFrame = displayBytes t ∧ { t with bill := s.bill } = s)) ∧
  (∀ (p : Nat) (s : State), s.bill.dPort = some p → p ∈ dispPorts s →
    monoMs s < s.bill.dAt + 1000 * min 20 (max 2 (s.rd R.pre_DUR [p, s.bill.dItem])) →
    Gives .displayItemAdvance s (fun t => t = s)) ∧
  (∀ (p : Port) (s : State), (∀ d, (s.bs p).disc = some d → d.sess ≠ s.rd R.port_SESS_ID [p.val] ∨ d.failed = true ∨
      (d.stepOpen = false ∧ (d.opened = true ∨ monoMs s < d.since + s.rd R.bill_DISC_TMO []))) →
    Gives (.discFail p) s (fun t => t = s)) ∧
  (∀ s : State, s.inReset 15 = true → Gives .boundarySequence s (fun t => t = s) ∧ Gives .bootComplete s (fun t => t = s) ∧
    Gives .displayFrame s (fun t => t = s) ∧ Gives .displayItemAdvance s (fun t => t = s))

/-- O37 (tier 2). At the end of a slot every converter takes its next input. An open or short input becomes invalid, and
so does one with P1 = 0 (0x0101), of an unused KIND, or out of range; a reading inside the range and within RATE_MAX
of the last becomes TEMP, and at TRIP it sets TRIP and, with ACT 1, the PTRIP bit of its port; a faster one is
invalid until three agree. Inputs that no converter had keep their values. A PTRIP bit clears by a write of 1 unless
an input that set it still has TRIP. THR_LVL moves by one, at most every 100 ms, up at THR_ON to 3 and down below
THR_ON - THR_HYST to 0. With no slot due, the block stopped or power reduced, and for THR_LVL before its time or
without TD1, nothing changes. The conversion formulas are those of readTemp (log entry 25). -/
def Obligations.TemperaturesAreJudged : Prop :=
  (∀ (raw : List (Nat × Bool)) (s : State), s.thrm.slotDue = true → thrmRuns s = true → s.reduced = false →
    Gives (.conversionSlot raw) s (fun t => t.thrm.slotDue = false ∧
      (∀ c : Fin 18, t.thrm.convs[c] = chooseInput s c (s.spar.period / 4 % 2 == 1) s.thrm.convs[c]) ∧
      (∀ (c : Fin 18) (i : Fin 144), s.thrm.convs[c].slot = some i.val →
        (∀ d : Fin 18, d ≠ c → s.thrm.convs[d].slot ≠ some i.val) → tinOn s i.val = true → s.rd R.tin_P1 [i.val] ≠ 0 →
        let r := raw.getD c.val (0, false)
        let k := s.rd R.tin_KIND [i.val]
        let v : Int := readTemp k (s.rd R.tin_P1 [i.val]) (s.rd R.tin_P2 [i.val]) r.1 + s.rdI R.tin_OFS [i.val]
        ((readOpen k r.1 r.2 || readShort k r.1) = true → t.rd R.tin_VALID [i.val] = 0 ∧
          t.rd R.tin_OPEN [i.val] = b2n (readOpen k r.1 r.2) ∧ t.rd R.tin_SHORT [i.val] = b2n (readShort k r.1)) ∧
        ((readOpen k r.1 r.2 || readShort k r.1) = false → s.rdI R.thrm_TMIN [] ≤ v → v ≤ s.rdI R.thrm_TMAX [] →
          s.thrm.tins[i].ever = false ∨ (v - tinTemp s i.val).natAbs ≤ s.rd R.tin_RATE_MAX [i.val] →
          t.rd R.tin_VALID [i.val] = 1 ∧ t.rd R.tin_TEMP [i.val] = trunc 16 v ∧
          (s.rdI R.tin_TRIP [i.val] ≤ v → t.rd R.tin_TRIP_F [i.val] = 1 ∧
            (s.rd R.tin_ACT [i.val] = 1 → i.val < 128 → bitB (t.rd R.thrm_PTRIP []) (i.val / 4) = true)) ∧
          (v < s.rdI R.tin_TRIP [i.val] - s.rd R.tin_HYST [i.val] → t.rd R.tin_TRIP_F [i.val] = 0)) ∧
        ((readOpen k r.1 r.2 || readShort k r.1) = false → v < s.rdI R.thrm_TMIN [] ∨ s.rdI R.thrm_TMAX [] < v →
          t.rd R.tin_VALID [i.val] = 0 ∧ t.rd R.tin_RANGE [i.val] = 1) ∧
        ((readOpen k r.1 r.2 || readShort k r.1) = false → s.rdI R.thrm_TMIN [] ≤ v → v ≤ s.rdI R.thrm_TMAX [] →
          s.thrm.tins[i].ever = true → s.rd R.tin_RATE_MAX [i.val] < (v - tinTemp s i.val).natAbs →
          if agree3 ((v :: s.thrm.tins[i].rej).take 3) (s.rd R.tin_RATE_MAX [i.val]) = true
          then t.rd R.tin_VALID [i.val] = 1 ∧ t.rd R.tin_TEMP [i.val] = trunc 16 v
          else t.rd R.tin_VALID [i.val] = 0 ∧ t.rd R.tin_RATE [i.val] = 1)) ∧
      (∀ (c : Fin 18) (i : Fin 144), s.thrm.convs[c].slot = some i.val → (∀ d : Fin 18, d ≠ c → s.thrm.convs[d].slot ≠ some i.val) →
        tinOn s i.val = false ∨ s.rd R.tin_P1 [i.val] = 0 → t.rd R.tin_VALID [i.val] = 0) ∧
      (∀ i : Fin 144, (∀ d : Fin 18, s.thrm.convs[d].slot ≠ some i.val) →
        t.rd R.tin_TEMP [i.val] = s.rd R.tin_TEMP [i.val] ∧ t.rd R.tin_VALID [i.val] = s.rd R.tin_VALID [i.val] ∧
        t.rd R.tin_TRIP_F [i.val] = s.rd R.tin_TRIP_F [i.val]) ∧
      { t with regs := s.regs, thrm := s.thrm } = s)) ∧
  (∀ (w : World) (v : Word) (s : State), s.canWrite w 320 = true →
    Gives (.ptripClear w v) s (fun t =>
      (∀ p, p < 32 → bitB (t.rd R.thrm_PTRIP []) p = (bitB (s.rd R.thrm_PTRIP []) p &&
        !(bitB v.toNat p && !tripHeld s p))) ∧
      RegsBut s t [R.thrm_PTRIP.key []] ∧ { t with regs := s.regs, thrm := s.thrm } = s)) ∧
  (∀ s : State, s.inReset 16 = false → bitB (s.rd R.thrm_TD_VALID []) 1 = true → (∀ n, s.thrm.thrAt = some n → 20000000 ≤ s.now - n) →
    Gives .throttleStep s (fun t =>
      (s.rdI R.thrm_THR_ON [] ≤ s.rdI R.thrm_TD1 [] → s.rd R.thrm_THR_LVL [] < 3 →
        t.rd R.thrm_THR_LVL [] = s.rd R.thrm_THR_LVL [] + 1 ∧ t.thrm.thrAt = some s.now ∧ bitB (t.rd R.hdr_IRQ_RAW [320]) 5 = true) ∧
      (s.rdI R.thrm_TD1 [] < s.rdI R.thrm_THR_ON [] - s.rd R.thrm_THR_HYST [] → 0 < s.rd R.thrm_THR_LVL [] →
        t.rd R.thrm_THR_LVL [] = s.rd R.thrm_THR_LVL [] - 1 ∧ t.thrm.thrAt = some s.now) ∧
      (s.rdI R.thrm_THR_ON [] - s.rd R.thrm_THR_HYST [] ≤ s.rdI R.thrm_TD1 [] → s.rdI R.thrm_TD1 [] < s.rdI R.thrm_THR_ON [] →
        t = s) ∧
      (s.rdI R.thrm_THR_ON [] ≤ s.rdI R.thrm_TD1 [] → 3 ≤ s.rd R.thrm_THR_LVL [] → t = s) ∧
      (s.rdI R.thrm_TD1 [] < s.rdI R.thrm_THR_ON [] - s.rd R.thrm_THR_HYST [] → s.rdI R.thrm_TD1 [] < s.rdI R.thrm_THR_ON [] →
        s.rd R.thrm_THR_LVL [] = 0 → t = s) ∧
      RegsBut s t [R.thrm_THR_LVL.key [], R.hdr_IRQ_RAW.key [320]] ∧ { t with regs := s.regs, thrm := s.thrm } = s)) ∧
  (∀ (raw : List (Nat × Bool)) (s : State), s.thrm.slotDue = false ∨ thrmRuns s = false ∨ s.reduced = true →
    Gives (.conversionSlot raw) s (fun t => t = s)) ∧
  (∀ (s : State) (n : Nat), s.inReset 16 = true ∨ bitB (s.rd R.thrm_TD_VALID []) 1 = false ∨ (s.thrm.thrAt = some n ∧
    s.now - n < 20000000) →
    Gives .throttleStep s (fun t => t = s))

/-- O38 (tier 2). A trip of a channel that is on (after TLIM at the limit, or DT_TIME at DT_LIM) latches its flag, turns
the channel off with CH_SRC 7 and leaves the others; after RETRY retries it ends with RETRY_END. At 150 degrees
every channel trips. A retry, RETRY_DLY after the trip, clears the trip, counts, and gives the channel back to its
row; one second without a trip clears the count. The end of a blanking window, 100 ms of an open load, CLR (of a
channel that no limp pin drives), CASE_CLR at 130 degrees, PEAK_CLR, RAIL_LOSS_CLEAR and SYNC do what their rows
say. Where its condition does not hold, each of these events changes nothing (R406, R408, R410, R411, R417, R418). -/
def Obligations.SwitchChannelsTripAndRecover : Prop :=
  (∀ (n : Fin 32) (s : State), s.rd R.lch_OUT [n.val] = 1 → s.rd R.lch_INRUSH [n.val] = 0 →
    (s.rd R.lch_LIMIT [n.val] = 1 ∧ heldFor s (s.lc n).limAt (200000 * max 1 (s.rd R.lch_TLIM [n.val])) = true) ∨ s.inReset 17 = true →
    Gives (.tripI n) s (fun t => t.rd R.lch_TRIP_I [n.val] = 1 ∧ t.rd R.lch_OUT [n.val] = 0 ∧ t.rd R.lch_CH_SRC [n.val] = 7 ∧
      bitB (t.rd R.hdr_IRQ_RAW [328]) 0 = true ∧
      (0 < s.rd R.lch_RETRY [n.val] → s.rd R.lch_RETRY [n.val] ≤ s.rd R.lch_RETRY_CNT [n.val] → t.rd R.lch_RETRY_END [n.val] = 1) ∧
      (∀ m : Fin 32, m ≠ n → t.rd R.lch_OUT [m.val] = s.rd R.lch_OUT [m.val] ∧ t.lc m = s.lc m) ∧
      { t with regs := s.regs, lsw := s.lsw } = s)) ∧
  (∀ (n : Fin 32) (dt : Int) (s : State), s.rd R.lch_OUT [n.val] = 1 →
    ((max 10 (min 100 (s.rd R.lch_DT_LIM [n.val])) : Nat) : Int) ≤ dt →
    heldFor s (s.lc n).dtAt (200000 * s.rd R.lch_DT_TIME [n.val]) = true ∨ s.inReset 17 = true →
    Gives (.tripDt n dt) s (fun t => t.rd R.lch_TRIP_DT [n.val] = 1 ∧ t.rd R.lch_OUT [n.val] = 0 ∧ t.rd R.lch_CH_SRC [n.val] = 7 ∧
      t.rd R.lch_DT [n.val] = trunc 8 dt ∧ bitB (t.rd R.hdr_IRQ_RAW [328]) 0 = true ∧
      (∀ m : Fin 32, m ≠ n → t.rd R.lch_OUT [m.val] = s.rd R.lch_OUT [m.val] ∧ t.lc m = s.lc m) ∧
      { t with regs := s.regs, lsw := s.lsw } = s)) ∧
  (∀ (c : Int) (s : State), 2400 ≤ c → s.rd R.lsw_CASE_TRIP [] = 0 →
    Gives (.caseTrip c) s (fun t => t.rd R.lsw_CASE_TRIP [] = 1 ∧ t.rd R.lsw_TCASE [] = trunc 16 c ∧
      bitB (t.rd R.hdr_IRQ_RAW [328]) 2 = true ∧
      (∀ n : Fin 32, t.rd R.lch_OUT [n.val] = 0 ∧ t.rd R.lch_TRIP_CASE [n.val] = 1 ∧ t.rd R.lch_CH_SRC [n.val] = 7) ∧
      { t with regs := s.regs, lsw := s.lsw } = s)) ∧
  (∀ (c : Int) (s : State), s.inReset 17 = true → s.rd R.lsw_CASE_TRIP [] = 1 → c ≤ 2080 →
    Gives (.caseTripSelfClear c) s (fun t => t.rd R.lsw_CASE_TRIP [] = 0 ∧
      (∀ n : Fin 32, t.rd R.lch_TRIP_CASE [n.val] = 0 ∧ t.rd R.lch_CH_SRC [n.val] = chSrc t n ∧
        t.rd R.lch_OUT [n.val] = b2n (chWant t n)) ∧ { t with regs := s.regs, lsw := s.lsw } = s)) ∧
  (∀ (n : Fin 32) (s : State), s.rd R.lch_TRIP_I [n.val] = 1 ∨ s.rd R.lch_TRIP_DT [n.val] = 1 →
    s.rd R.lch_RETRY_CNT [n.val] < s.rd R.lch_RETRY [n.val] → s.rd R.lch_RETRY_END [n.val] = 0 →
    heldFor s (s.lc n).tripAt (2000000 * s.rd R.lch_RETRY_DLY [n.val]) = true ∨ s.inReset 17 = true →
    Gives (.channelRetry n) s (fun t => t.rd R.lch_TRIP_I [n.val] = 0 ∧ t.rd R.lch_TRIP_DT [n.val] = 0 ∧
      t.rd R.lch_RETRY_CNT [n.val] = s.rd R.lch_RETRY_CNT [n.val] + 1 ∧ t.rd R.lch_CH_SRC [n.val] = chSrc t n ∧
      t.rd R.lch_OUT [n.val] = b2n (chWant t n) ∧
      (∀ m : Fin 32, m ≠ n → t.rd R.lch_OUT [m.val] = s.rd R.lch_OUT [m.val] ∧ t.lc m = s.lc m) ∧
      { t with regs := s.regs, lsw := s.lsw } = s)) ∧
  (∀ (n : Fin 32) (s : State), s.rd R.lch_OUT [n.val] = 1 →
    heldFor s (s.lc n).onAt 200000000 = true ∨ s.inReset 17 = true →
    Gives (.retryCountReset n) s (fun t => t.rd R.lch_RETRY_CNT [n.val] = 0 ∧ OnlyRegs s t [R.lch_RETRY_CNT.key [n.val]])) ∧
  (∀ (n : Fin 32) (s : State), s.rd R.lch_INRUSH [n.val] = 1 → lswLive s = false ∨ (s.lc n).winEnd ≤ s.now + s.spar.clocks →
    Gives (.blankingEnd n) s (fun t => t.rd R.lch_INRUSH [n.val] = 0 ∧ OnlyRegs s t [R.lch_INRUSH.key [n.val]])) ∧
  (∀ (n : Fin 32) (s : State), s.rd R.lch_OUT [n.val] = 1 → s.rd R.lch_INRUSH [n.val] = 0 →
    s.rd R.lch_I_MEAS [n.val] < s.rd R.lch_OPEN_TH [n.val] → s.rd R.lch_OPEN_LOAD [n.val] = 0 →
    heldFor s (s.lc n).lowAt 20000000 = true →
    Gives (.openLoad n) s (fun t => t.rd R.lch_OPEN_LOAD [n.val] = 1 ∧ bitB (t.rd R.hdr_IRQ_RAW [328]) 4 = true ∧
      OnlyRegs s t [R.lch_OPEN_LOAD.key [n.val], R.hdr_IRQ_RAW.key [328]])) ∧
  (∀ (w : World) (n : Fin 32) (s : State), s.canWrite w 329 = true → s.rd R.lsw_LIMP_EN_IN [] = 1 → limpSel s n = true →
    Gives (.clr w n) s (fun t => t = s)) ∧
  (∀ (w : World) (n : Fin 32) (s : State), s.canWrite w 329 = true → s.rd R.lsw_LIMP_EN_IN [] = 0 ∨ limpSel s n = false →
    Gives (.clr w n) s (fun t => t.rd R.lch_TRIP_I [n.val] = 0 ∧ t.rd R.lch_TRIP_DT [n.val] = 0 ∧ t.rd R.lch_RETRY_END [n.val] = 0 ∧
      t.rd R.lch_RETRY_CNT [n.val] = 0 ∧
      OnlyRegs s t [R.lch_TRIP_I.key [n.val], R.lch_TRIP_DT.key [n.val], R.lch_RETRY_END.key [n.val], R.lch_RETRY_CNT.key [n.val]])) ∧
  (∀ (w : World) (s : State), s.canWrite w 328 = true → s.rdI R.lsw_TCASE [] ≤ 2080 →
    Gives (.caseClr w) s (fun t => t.rd R.lsw_CASE_TRIP [] = 0 ∧ (∀ n : Fin 32, t.rd R.lch_TRIP_CASE [n.val] = 0) ∧
      (∀ n : Fin 32, t.rd R.lch_OUT [n.val] = s.rd R.lch_OUT [n.val]) ∧ { t with regs := s.regs } = s)) ∧
  (∀ (w : World) (s : State), s.canWrite w 328 = true → 2080 < s.rdI R.lsw_TCASE [] → Gives (.caseClr w) s (fun t => t = s)) ∧
  (∀ (w : World) (n : Fin 32) (s : State), s.canWrite w 329 = true →
    Gives (.peakClr w n) s (fun t => t.rd R.lch_I_PEAK [n.val] = 0 ∧ OnlyRegs s t [R.lch_I_PEAK.key [n.val]])) ∧
  (∀ (w : World) (s : State), s.canWrite w 328 = true →
    Gives (.railLossClear w) s (fun t => t.rd R.lsw_RAIL_LOSS [] = 0 ∧ OnlyRegs s t [R.lsw_RAIL_LOSS.key []])) ∧
  (∀ (w : World) (s : State), s.canWrite w 328 = true →
    Gives (.sync w) s (fun t => t = { s with lsw := { s.lsw with origin := true } })) ∧
  (∀ (n : Fin 32) (s : State), s.rd R.lch_OUT [n.val] = 0 ∨ s.rd R.lch_INRUSH [n.val] = 1 ∨
      (s.inReset 17 = false ∧ (s.rd R.lch_LIMIT [n.val] = 0 ∨
        heldFor s (s.lc n).limAt (200000 * max 1 (s.rd R.lch_TLIM [n.val])) = false)) → Gives (.tripI n) s (fun t => t = s)) ∧
  (∀ (n : Fin 32) (dt : Int) (s : State), s.rd R.lch_OUT [n.val] = 0 ∨ dt < ((max 10 (min 100 (s.rd R.lch_DT_LIM [n.val])) : Nat) : Int) ∨
      (s.inReset 17 = false ∧ heldFor s (s.lc n).dtAt (200000 * s.rd R.lch_DT_TIME [n.val]) = false) →
    Gives (.tripDt n dt) s (fun t => t = s)) ∧
  (∀ (c : Int) (s : State), c < 2400 ∨ s.rd R.lsw_CASE_TRIP [] = 1 → Gives (.caseTrip c) s (fun t => t = s)) ∧
  (∀ (c : Int) (s : State), s.inReset 17 = false ∨ s.rd R.lsw_CASE_TRIP [] = 0 ∨ 2080 < c →
    Gives (.caseTripSelfClear c) s (fun t => t = s)) ∧
  (∀ (n : Fin 32) (s : State), (s.rd R.lch_TRIP_I [n.val] = 0 ∧ s.rd R.lch_TRIP_DT [n.val] = 0) ∨
      s.rd R.lch_RETRY [n.val] ≤ s.rd R.lch_RETRY_CNT [n.val] ∨ s.rd R.lch_RETRY_END [n.val] = 1 ∨
      (s.inReset 17 = false ∧ heldFor s (s.lc n).tripAt (2000000 * s.rd R.lch_RETRY_DLY [n.val]) = false) →
    Gives (.channelRetry n) s (fun t => t = s)) ∧
  (∀ (n : Fin 32) (s : State), s.rd R.lch_OUT [n.val] = 0 ∨ (s.inReset 17 = false ∧
      heldFor s (s.lc n).onAt 200000000 = false) → Gives (.retryCountReset n) s (fun t => t = s)) ∧
  (∀ (n : Fin 32) (s : State), s.rd R.lch_INRUSH [n.val] = 0 ∨ (lswLive s = true ∧ s.now + s.spar.clocks < (s.lc n).winEnd) →
    Gives (.blankingEnd n) s (fun t => t = s)) ∧
  (∀ (n : Fin 32) (s : State), s.rd R.lch_OUT [n.val] = 0 ∨ s.rd R.lch_INRUSH [n.val] = 1 ∨
      s.rd R.lch_OPEN_TH [n.val] ≤ s.rd R.lch_I_MEAS [n.val] ∨ s.rd R.lch_OPEN_LOAD [n.val] = 1 ∨
      heldFor s (s.lc n).lowAt 20000000 = false →
    Gives (.openLoad n) s (fun t => t = s))

/-- O39 (tier 2). Asserting LIMP_EN gives every selected channel that has not tripped its pin while the field rail is
there; releasing it in service changes no output until the next period, and out of service gives each channel to its
row. A limp channel whose pin has been low for 10 ms loses its trips and is off. When the hold time of a keeper
ends, the channel passes to its row. Enabling the block clears counters and old trips, begins a common origin and
switches no channel. A sag of the field rail below 16.0 V extends each running window once and stops the couplings
of a running network whose NMK may be used. Where its condition does not hold, each changes nothing (R404-R406,
R409, R410, R414, R415). -/
def Obligations.SwitchChannelsFollowTheirSource : Prop :=
  (∀ (pins : Nat) (s : State),
    Gives (.limpEnChange true pins) s (fun t => t.rd R.lsw_LIMP_EN_IN [] = 1 ∧ t.lsw.limp = pins ∧
      (∀ n : Fin 32, limpSel s n = true → s.lsw.railOff = false → tripped s n = false →
        t.rd R.lch_CH_SRC [n.val] = 4 ∧ t.rd R.lch_OUT [n.val] = b2n (bitB pins n.val)) ∧
      (∀ n : Fin 32, limpSel s n = false → t.rd R.lch_OUT [n.val] = s.rd R.lch_OUT [n.val] ∧ t.lc n = s.lc n) ∧
      (s.rd R.lsw_LIMP_EN_IN [] = 0 → bitB (t.rd R.hdr_IRQ_RAW [328]) 5 = true) ∧
      { t with regs := s.regs, lsw := s.lsw } = s)) ∧
  (∀ (pins : Nat) (s : State), lswLive s = true →
    Gives (.limpEnChange false pins) s (fun t => t.rd R.lsw_LIMP_EN_IN [] = 0 ∧
      t.lsw = { s.lsw with limp := pins, limpLow := t.lsw.limpLow } ∧
      (∀ n : Fin 32, t.lsw.limpLow[n] = if bitB pins n.val = true then none else some (s.lsw.limpLow[n].getD s.now)) ∧
      RegsBut s t [R.lsw_LIMP_EN_IN.key [], R.hdr_IRQ_RAW.key [328]] ∧ { t with regs := s.regs, lsw := s.lsw } = s)) ∧
  (∀ (n : Fin 32) (s : State), s.rd R.lsw_LIMP_EN_IN [] = 1 → limpSel s n = true → bitB s.lsw.limp n.val = false →
    heldFor s s.lsw.limpLow[n] 2000000 = true ∨ s.inReset 17 = true →
    Gives (.limpTripClear n) s (fun t => t.rd R.lch_TRIP_I [n.val] = 0 ∧ t.rd R.lch_TRIP_DT [n.val] = 0 ∧
      t.rd R.lch_RETRY_CNT [n.val] = 0 ∧ t.rd R.lch_OUT [n.val] = 0 ∧
      (∀ m : Fin 32, m ≠ n → t.rd R.lch_OUT [m.val] = s.rd R.lch_OUT [m.val] ∧ t.lc m = s.lc m) ∧
      { t with regs := s.regs, lsw := s.lsw } = s)) ∧
  (∀ (n : Fin 32) (s : State), (s.lc n).holdRun = true → lswLive s = false →
    Gives (.keeperHoldExpiry n) s (fun t => (t.lc n).holdRun = false ∧ t.rd R.lch_CH_SRC [n.val] = chSrc t n ∧
      t.rd R.lch_OUT [n.val] = b2n (chWant t n) ∧
      (∀ m : Fin 32, m ≠ n → t.rd R.lch_OUT [m.val] = s.rd R.lch_OUT [m.val] ∧ t.lc m = s.lc m) ∧
      { t with regs := s.regs, lsw := s.lsw } = s)) ∧
  (∀ (w : World) (s : State), s.canWrite w 328 = true → s.rd R.hdr_EN [328] = 0 →
    Gives (.lswEnable w) s (fun t => t.rd R.hdr_EN [328] = 1 ∧ t.lsw = { s.lsw with origin := true } ∧
      (∀ n : Fin 32, t.rd R.lch_OUT [n.val] = s.rd R.lch_OUT [n.val] ∧ t.rd R.lch_RETRY_CNT [n.val] = 0 ∧
        t.rd R.lch_RETRY_END [n.val] = 0 ∧ t.rd R.lch_I_PEAK [n.val] = 0 ∧
        t.rd R.lch_TRIP_I [n.val] = (if (s.lc n).old = true then 0 else s.rd R.lch_TRIP_I [n.val])) ∧
      { t with regs := s.regs, lsw := s.lsw } = s)) ∧
  (∀ (v : Nat) (s : State), v < 1600 →
    Gives (.fieldRailSag v) s (fun t => t.rd R.lsw_VRAIL [] = v ∧ t.rd R.lsw_RAIL_LOW [] = 1 ∧
      (∀ n : Fin 32, s.rd R.lch_INRUSH [n.val] = 1 → (s.lc n).ext = false →
        t.lc n = { s.lc n with ext := true, winEnd := (s.lc n).winEnd + blkClocks s n }) ∧
      (∀ n : Fin 32, s.rd R.lch_INRUSH [n.val] = 0 ∨ (s.lc n).ext = true → t.lc n = s.lc n) ∧
      (∀ c : Fin 4, splcOn s = true → s.rd R.cpl_CEN [c.val] = 1 →
        couplingSlot s c.val (s.rd R.cpl_NMK_KEY [c.val]) = true → t.rd R.cpl_BSTATE [c.val] = 3) ∧
      { t with regs := s.regs, lsw := s.lsw } = s)) ∧
  (∀ (pins : Nat) (s : State), lswLive s = false →
    Gives (.limpEnChange false pins) s (fun t => t.rd R.lsw_LIMP_EN_IN [] = 0 ∧ t.lsw.limp = pins ∧
      (∀ n : Fin 32, t.rd R.lch_CH_SRC [n.val] = chSrc t n ∧ t.rd R.lch_OUT [n.val] = b2n (chWant t n)) ∧
      { t with regs := s.regs, lsw := s.lsw } = s)) ∧
  (∀ (n : Fin 32) (s : State), s.rd R.lsw_LIMP_EN_IN [] = 0 ∨ limpSel s n = false ∨ bitB s.lsw.limp n.val = true ∨
      (s.inReset 17 = false ∧ heldFor s s.lsw.limpLow[n] 2000000 = false) →
    Gives (.limpTripClear n) s (fun t => t = s)) ∧
  (∀ (n : Fin 32) (s : State), (s.lc n).holdRun = false ∨ lswLive s = true → Gives (.keeperHoldExpiry n) s (fun t => t = s)) ∧
  (∀ (w : World) (s : State), s.canWrite w 328 = true → s.rd R.hdr_EN [328] = 1 → Gives (.lswEnable w) s (fun t => t = s)) ∧
  (∀ (v : Nat) (s : State), 1600 ≤ v → Gives (.fieldRailSag v) s (fun t => t = s))

/-- O40 (tier 2). Setting EN takes the copy of the configuration and enters CHECK in the safe state: no permit, every
zone OFF, every port REMOVED, every output off. In HALT and in RECOVERY mode setting EN takes the copy alone. The
end of the checks gives CFG_BAD with 0x0100 or 0x0101, or RUN with the enabled connections waiting and the outputs
that the test found stuck latched. Clearing EN returns to OFF in the safe state, from HALT with HALT kept, and is
refused with 0x0102 while an output is on or a port ramps. A lockstep mismatch enters HALT in the safe state and
requests a reset. Where there is nothing to enable, to disable or to check, nothing changes (R421-R424, R440, R453,
R593). -/
def Obligations.SafetyIslandEntersItsStates : Prop :=
  (∀ (w : World) (s : State), s.canWrite w 336 = true → s.rd R.hdr_EN [336] = 0 → s.rd R.safe_SF_STATE [] ≠ 4 → s.rd R.rst_MODE [] ≠ 3 →
    Gives (.safeEnable w) s (fun t => t.rd R.hdr_EN [336] = 1 ∧ t.rd R.safe_SF_STATE [] = 1 ∧ t.safe.copy = cfgEntries s ∧
      t.rd R.safe_PERMIT [] = 0 ∧ t.rd R.safe_ZSTATE [] = 0x33333333 ∧ (∀ p : Port, ripState t p = 2) ∧
      (∀ n : Fin 40, t.rd R.sout_CMD [n.val] = 0 ∧ t.rd R.sout_OUT_FLT [n.val] = 0) ∧
      { t with regs := s.regs, safe := s.safe, ports := s.ports } = s)) ∧
  (∀ (w : World) (s : State), s.canWrite w 336 = true → s.rd R.hdr_EN [336] = 1 → s.rd R.safe_SF_STATE [] ≠ 4 →
    (∀ n : Fin 40, s.rd R.sout_CMD [n.val] = 0) → (∀ p : Port, ripState s p ≠ 1) →
    Gives (.safeDisable w) s (fun t => t.rd R.hdr_EN [336] = 0 ∧ t.rd R.safe_SF_STATE [] = 0 ∧
      t.rd R.safe_PERMIT [] = 0 ∧ t.rd R.safe_ZSTATE [] = 0x33333333 ∧ (∀ p : Port, ripState t p = 2) ∧
      (∀ n : Fin 40, t.rd R.sout_CMD [n.val] = 0) ∧ { t with regs := s.regs, safe := s.safe, ports := s.ports } = s)) ∧
  (∀ (w : World) (s : State), s.canWrite w 336 = true → s.rd R.hdr_EN [336] = 1 →
    (∃ n : Fin 40, s.rd R.sout_CMD [n.val] = 1) ∨ (∃ p : Port, ripState s p = 1) →
    Gives (.safeDisable w) s (fun t => t.rd R.hdr_CODE [336] = 0x0102 ∧
      OnlyRegs s t [R.hdr_CODE.key [336], R.hdr_COUNT.key [336], R.hdr_ERR.key [336]])) ∧
  (∀ (hs ls : Nat) (s : State), s.rd R.safe_SF_STATE [] = 1 → s.inReset 18 = false →
    Gives (.safeCheckDone hs ls) s (fun t => t.rd R.safe_SID_CALC [] = crc16 (sidBytes s) % 65536 ∧
      (crc16 (sidBytes s) ≠ s.rd R.safe_SID_SW [] → t.rd R.safe_SF_STATE [] = 3 ∧ t.rd R.hdr_CODE [336] = 0x0100 ∧
        t.rd R.safe_PERMIT [] = s.rd R.safe_PERMIT [] ∧ { t with regs := s.regs } = s) ∧
      (crc16 (sidBytes s) = s.rd R.safe_SID_SW [] → fieldsOk s = false → t.rd R.safe_SF_STATE [] = 3 ∧
        t.rd R.hdr_CODE [336] = 0x0101 ∧ { t with regs := s.regs } = s) ∧
      (crc16 (sidBytes s) = s.rd R.safe_SID_SW [] → fieldsOk s = true → t.rd R.safe_SF_STATE [] = 2 ∧ t.safe.runAt = s.now ∧
        bitB (t.rd R.hdr_IRQ_RAW [336]) 6 = true ∧
        (∀ n : Fin 16, s.cfB R.xch_EN [n.val] = true → t.rd R.xch_CSTATE [n.val] = 1) ∧
        (∀ n : Fin 40, (bitB hs n.val = true → t.rd R.sout_HS_STUCK [n.val] = 1) ∧ (bitB ls n.val = true →
          t.rd R.sout_LS_STUCK [n.val] = 1) ∧
          (bitB hs n.val = true ∨ bitB ls n.val = true → t.rd R.sout_OUT_FLT [n.val] = 1)) ∧
        { t with regs := s.regs, safe := s.safe, ports := s.ports, sess := s.sess } = s))) ∧
  (∀ s : State, s.inReset 18 = false →
    Gives .islandLockstepMismatch s (fun t => t.rd R.safe_SF_STATE [] = 4 ∧ t.rd R.safe_PERMIT [] = 0 ∧
      t.rd R.safe_ZSTATE [] = 0x33333333 ∧ (∀ p : Port, ripState t p = 2) ∧ (∀ n : Fin 40, t.rd R.sout_CMD [n.val] = 0) ∧
      bitB t.rst.req 6 = true ∧
      { t with regs := s.regs, safe := s.safe, ports := s.ports, teth := s.teth, rst := s.rst } = s)) ∧
  (∀ (w : World) (s : State), s.canWrite w 336 = true → s.rd R.hdr_EN [336] = 0 → s.rd R.safe_SF_STATE [] = 4 ∨ s.rd R.rst_MODE [] = 3 →
    Gives (.safeEnable w) s (fun t => t.rd R.hdr_EN [336] = 1 ∧ RegsBut s t [R.hdr_EN.key [336]] ∧
      { t with regs := s.regs } = { s with safe := { s.safe with copy := cfgEntries s } })) ∧
  (∀ (w : World) (s : State), s.canWrite w 336 = true → s.rd R.hdr_EN [336] = 1 → Gives (.safeEnable w) s (fun t => t = s)) ∧
  (∀ (w : World) (s : State), s.canWrite w 336 = true → s.rd R.hdr_EN [336] = 0 → Gives (.safeDisable w) s (fun t => t = s)) ∧
  (∀ (w : World) (s : State), s.canWrite w 336 = true → s.rd R.hdr_EN [336] = 1 → s.rd R.safe_SF_STATE [] = 4 →
    (∀ n : Fin 40, s.rd R.sout_CMD [n.val] = 0) → (∀ p : Port, ripState s p ≠ 1) →
    Gives (.safeDisable w) s (fun t => t.rd R.hdr_EN [336] = 0 ∧ t.rd R.safe_SF_STATE [] = 4 ∧ t.rd R.safe_PERMIT [] = 0 ∧
      t.rd R.safe_ZSTATE [] = 0x33333333 ∧ (∀ p : Port, ripState t p = 2) ∧
      { t with regs := s.regs, safe := s.safe, ports := s.ports } = s)) ∧
  (∀ (hs ls : Nat) (s : State), s.rd R.safe_SF_STATE [] ≠ 1 ∨ s.inReset 18 = true → Gives (.safeCheckDone hs ls) s (fun t => t = s)) ∧
  (∀ s : State, s.inReset 18 = true → Gives .islandLockstepMismatch s (fun t => t = s))

/-- O41 (tier 2). Every sample runs the filters of all pairs and takes a demand where the accepted levels demand it. A
pair that disagrees too long latches DISC_FLT and trips every enabled zone it serves. At its ramp start a port
latches I0 and ramps, or loses power at once where its current is small or not valid. At the deadline of a ramp
power is removed: the permit falls and the contactor with it. A stop that starts on a port that ramps adds its ramp,
and one on a port without power adds none. The removal is reported done; an open coil of 100 ms, a dark-pulse test,
due DP_INT after the last, in which the switch does not fall below 5 mA within DP_LEN, and a stuck shared output
latch as their rows say, and an open coil of a contactor removes power. Where its condition does not hold, each of
these events changes nothing (R425-R440, R452). -/
def Obligations.DemandsTripZonesAndRemovePower : Prop :=
  (∀ (a b : Nat) (s : State), s.inReset 18 = false →
    Gives (.inputSample a b) s (fun t => ∀ n : Fin 48,
      let x := (chanSample (filtOf s n.val) (bitB a n.val) s.safe.pairs[n].rawA s.safe.pairs[n].runA (bitB (s.rd R.safe_RAW_A []) n.val)).2.2
      let y := (chanSample (filtOf s n.val) (bitB b n.val) s.safe.pairs[n].rawB s.safe.pairs[n].runB (bitB (s.rd R.safe_RAW_B []) n.val)).2.2
      t.safe.pairs[n].rawA = bitB a n.val ∧ t.safe.pairs[n].rawB = bitB b n.val ∧
      bitB (t.rd R.safe_RAW_A []) n.val = x ∧ bitB (t.rd R.safe_RAW_B []) n.val = y ∧
      (x = false → y = true → bitB (t.rd R.safe_IN_NORM []) n.val = false) ∧
      (x = true → y = false → bitB (s.rd R.safe_DISC_FLT []) n.val = false → bitB (t.rd R.safe_IN_NORM []) n.val = true) ∧
      (x = y → bitB (t.rd R.safe_IN_NORM []) n.val = bitB (s.rd R.safe_IN_NORM []) n.val) ∧
      { t with regs := s.regs, safe := s.safe, ports := s.ports, sess := s.sess } = s)) ∧
  (∀ (n : Fin 48) (d : Nat) (s : State), s.inReset 18 = false → s.safe.pairs[n].disc = some d →
    20 * s.cf R.scfg_DISC [n.val] ≤ d → s.cf R.scfg_KIND [n.val] = 1 ∨ s.cf R.scfg_KIND [n.val] = 2 →
      bitB (s.rd R.safe_DISC_FLT []) n.val = false →
    Gives (.discrepancyTimeout n) s (fun t => bitB (t.rd R.safe_DISC_FLT []) n.val = true ∧
      bitB (t.rd R.safe_IN_NORM []) n.val = false ∧ bitB (t.rd R.hdr_IRQ_RAW [336]) 4 = true ∧
      (∀ z, z ∈ zonesOn s → safeRuns s = true → s.cf R.scfg_KIND [n.val] = 1 → bitB (s.cf R.scfg_ZMASK [n.val]) z = true →
        zst s z = 0 ∨ zst s z = 2 → zst t z = 1) ∧
      { t with regs := s.regs, safe := s.safe, sess := s.sess } = s)) ∧
  (∀ (p : Port) (d : RipDue) (s : State), safeRuns s = true → s.lsw.railOff = false → (s.ripOf p).due = [d] → d.at_ ≤ s.spar.serial →
    ripState s p = 0 →
    Gives (.ripPanelStopStart p) s (fun t => t.rd R.safe_I0 [p.val] = min (portAmps s p) (2 ^ 22 - 1) ∧ (t.se p).rip = true ∧
      (s.rd R.mt_FAST_VALID [p.val] = 0 → ripState t p = 2 ∧ t.rd R.safe_RCAUSE [p.val] = 4 ∧ t.rd R.sout_CMD [p.val] = 0) ∧
      (s.rd R.mt_FAST_VALID [p.val] = 1 → below2 s p (portAmps s p) = true → ripState t p = 2 ∧
        t.rd R.safe_RCAUSE [p.val] = d.cause.getD 3 % 16 ∧ t.rd R.sout_CMD [p.val] = 0) ∧
      (s.rd R.mt_FAST_VALID [p.val] = 1 → below2 s p (portAmps s p) = false → ripState t p = 1 ∧
        (t.ripOf p).ramps = [(s.now, d.ms * 200000)] ∧ (t.ripOf p).ss = max 1 d.src) ∧
      { t with regs := s.regs, safe := s.safe, ports := s.ports, sess := s.sess, brn := s.brn, stages := s.stages } = s)) ∧
  (∀ (p : Port) (s : State), ripState s p = 1 → deadline s p ≤ s.now + s.spar.clocks →
    Gives (.rampDeadline p) s (fun t => ripState t p = 2 ∧ t.rd R.safe_RCAUSE [p.val] = (s.ripOf p).cause.getD 1 % 16 ∧
      t.rd R.safe_RMV_DONE [p.val] = 0 ∧ bitB (t.rd R.safe_PERMIT []) p.val = false ∧ t.rd R.sout_CMD [p.val] = 0 ∧
      (t.ripOf p).tR = some s.now ∧ { t with regs := s.regs, safe := s.safe, sess := s.sess } = s)) ∧
  (∀ (p : Port) (s : State), ripState s p = 2 → (s.ripOf p).tR.isSome = true → s.rd R.safe_RMV_DONE [p.val] = 0 →
    ownOff s (qOf p) = true → s.rd R.sout_TERM [p.val] = 0 →
    Gives (.removalComplete p) s (fun t => t.rd R.safe_RMV_DONE [p.val] = 1 ∧ bitB (t.rd R.hdr_IRQ_RAW [336]) 1 = true ∧
      { t with regs := s.regs, safe := s.safe, ports := s.ports, sess := s.sess } = s)) ∧
  (∀ (n : Fin 40) (s : State), safeRuns s = true → s.rd R.sout_CMD [n.val] = 1 → (s.qo n).hs < 20 ∨ (s.qo n).ls < 20 →
    s.rd R.sout_OPEN_COIL [n.val] = 0 → heldFor s (s.qo n).lowAt 20000000 = true →
    Gives (.openCoil n) s (fun t => t.rd R.sout_OPEN_COIL [n.val] = 1 ∧ t.rd R.hdr_CODE [336] = 0x0103 ∧
      bitB (t.rd R.hdr_IRQ_RAW [336]) 3 = true ∧ (32 ≤ n.val → t.rd R.sout_CMD [n.val] = 0) ∧
      (∀ p : Port, p.val = n.val → ripState s p ≠ 2 → ripState t p = 2 ∧ t.rd R.safe_RCAUSE [p.val] = 7 ∧
        bitB (t.rd R.safe_PERMIT []) p.val = false ∧ t.rd R.sout_CMD [p.val] = 0) ∧
      { t with regs := s.regs, safe := s.safe, sess := s.sess } = s)) ∧
  (∀ (n : Fin 40) (us : Nat) (s : State), safeRuns s = true → s.rd R.sout_CMD [n.val] = 1 → dpDue s n = true → us ≤ dpLen s →
    Gives (.darkPulseTest n (some us)) s (fun t =>
      t.qo n = { s.qo n with dpLow := !(s.qo n).dpLow, dpAt := some s.now, dpEnd := some (s.now + 200 * us) } ∧
      t.safe.dpLast = some s.now ∧ t.rd R.sout_DP [n.val] = 1 ∧ (∀ m : Fin 40, m ≠ n → t.qo m = s.qo m) ∧
      OnlyRegs s { t with safe := s.safe } [R.sout_DP.key [n.val]])) ∧
  (∀ (n : Fin 40) (fell : Option Nat) (s : State), safeRuns s = true → s.rd R.sout_CMD [n.val] = 1 → dpDue s n = true →
    (∀ us, fell = some us → dpLen s < us) →
    Gives (.darkPulseTest n fell) s (fun t => (t.qo n).dpLow = !(s.qo n).dpLow ∧ t.rd R.sout_OUT_FLT [n.val] = 1 ∧
      t.rd R.sout_HS_STUCK [n.val] = (if (s.qo n).dpLow = true then s.rd R.sout_HS_STUCK [n.val] else 1) ∧
      t.rd R.sout_LS_STUCK [n.val] = (if (s.qo n).dpLow = true then 1 else s.rd R.sout_LS_STUCK [n.val]) ∧
      (s.rd R.sout_OUT_FLT [n.val] = 0 → t.rd R.hdr_CODE [336] = 0x0103 ∧ bitB (t.rd R.hdr_IRQ_RAW [336]) 3 = true) ∧
      { t with regs := s.regs, safe := s.safe, sess := s.sess } = s)) ∧
  (∀ (p : Port) (at_ : Nat) (s : State), ripState s p = 2 → (s.ripOf p).tR = some at_ → 2000000 ≤ s.now + s.spar.clocks - at_ →
    ownOff s (qOf p) = true → s.rd R.sout_TERM [p.val] = 1 → s.rd R.sout_SH_STUCK [p.val] = 0 →
    Gives (.sharedStuck p) s (fun t => t.rd R.sout_SH_STUCK [p.val] = 1 ∧ bitB (t.rd R.hdr_IRQ_RAW [336]) 3 = true ∧
      OnlyRegs s t [R.sout_SH_STUCK.key [p.val], R.hdr_IRQ_RAW.key [336]])) ∧
  (∀ (p : Port) (d : RipDue) (s : State), safeRuns s = true → s.lsw.railOff = false → (s.ripOf p).due = [d] → d.at_ ≤ s.spar.serial →
    ripState s p = 1 → Gives (.ripPanelStopStart p) s (fun t => ripState t p = 1 ∧ (t.ripOf p).due = [] ∧
      (t.ripOf p).ramps = (s.ripOf p).ramps ++ [(s.now, d.ms * 200000)] ∧ t.rd R.safe_I0 [p.val] = s.rd R.safe_I0 [p.val] ∧
      { t with regs := s.regs, safe := s.safe, ports := s.ports, sess := s.sess, stages := s.stages } = s)) ∧
  (∀ (p : Port) (s : State), safeRuns s = true → s.lsw.railOff = false → (∀ d, d ∈ (s.ripOf p).due → s.spar.serial < d.at_) →
    Gives (.ripPanelStopStart p) s (fun t => ripState t p = ripState s p ∧ (t.ripOf p).ramps = (s.ripOf p).ramps ∧
      { t with regs := s.regs, safe := s.safe, sess := s.sess } = s)) ∧
  (∀ (p : Port) (s : State), safeRuns s = true → s.lsw.railOff = false → ripState s p = 2 →
    Gives (.ripPanelStopStart p) s (fun t => ripState t p = 2 ∧ (t.ripOf p).ramps = (s.ripOf p).ramps ∧
      { t with regs := s.regs, safe := s.safe, sess := s.sess } = s)) ∧
  (∀ (p : Port) (s : State), safeRuns s = false → Gives (.ripPanelStopStart p) s (fun t => t = s)) ∧
  (∀ (a b : Nat) (s : State), s.inReset 18 = true → Gives (.inputSample a b) s (fun t => t = s)) ∧
  (∀ (n : Fin 48) (s : State), s.safe.pairs[n].disc = none ∨ (∃ d, s.safe.pairs[n].disc = some d ∧ d < 20 * s.cf R.scfg_DISC [n.val]) ∨
      (s.cf R.scfg_KIND [n.val] ≠ 1 ∧ s.cf R.scfg_KIND [n.val] ≠ 2) ∨ bitB (s.rd R.safe_DISC_FLT []) n.val = true ∨ s.inReset 18 = true →
    Gives (.discrepancyTimeout n) s (fun t => t = s)) ∧
  (∀ (p : Port) (s : State), ripState s p ≠ 1 ∨ s.now + s.spar.clocks < deadline s p → Gives (.rampDeadline p) s (fun t => t = s)) ∧
  (∀ (p : Port) (s : State), ripState s p ≠ 2 ∨ (s.ripOf p).tR = none ∨ s.rd R.safe_RMV_DONE [p.val] = 1 ∨
      ownOff s (qOf p) = false ∨ s.rd R.sout_TERM [p.val] = 1 → Gives (.removalComplete p) s (fun t => t = s)) ∧
  (∀ (n : Fin 40) (s : State), safeRuns s = false ∨ s.rd R.sout_CMD [n.val] = 0 ∨ (20 ≤ (s.qo n).hs ∧ 20 ≤ (s.qo n).ls) ∨
      s.rd R.sout_OPEN_COIL [n.val] = 1 ∨ heldFor s (s.qo n).lowAt 20000000 = false → Gives (.openCoil n) s (fun t => t = s)) ∧
  (∀ (n : Fin 40) (fell : Option Nat) (s : State), safeRuns s = false ∨ s.rd R.sout_CMD [n.val] = 0 ∨ dpDue s n = false →
    Gives (.darkPulseTest n fell) s (fun t => t = s)) ∧
  (∀ (p : Port) (s : State), ripState s p ≠ 2 ∨ (s.ripOf p).tR = none ∨
      (∃ at_, (s.ripOf p).tR = some at_ ∧ s.now + s.spar.clocks - at_ < 2000000) ∨ ownOff s (qOf p) = false ∨
      s.rd R.sout_TERM [p.val] = 0 ∨ s.rd R.sout_SH_STUCK [p.val] = 1 → Gives (.sharedStuck p) s (fun t => t = s))

/-- O42 (tier 2). A good safety word of a paired module gives the partner permits: those of the word while the partner
is in RUN, all of them otherwise, with the interrupt PARTNER where one falls; a module whose PAIR_EN is 0 takes
none; after eight periods without one every partner permit stands and the word is gone; two mains cycles later a
module that is not active drops every output. Loss of the field rail turns every load switch and safe output off,
trips every zone and removes power from every port; the couplings of a running network whose NMK may be used stop;
on its return the channels follow their rows again. Where its condition does not hold, each changes nothing (R278,
R413, R448-R450, R454, R460, R463). -/
def Obligations.ThePairAndTheRailDropOutputs : Prop :=
  (∀ (x : SafetyWord) (s : State), s.cfB R.scfg_PAIR [] = true → s.rd R.teth_PAIR_EN [] = 1 → s.inReset 18 = false →
    Gives (.safetyWordRx x true) s (fun t => t.rd R.safe_TWORD [] = 1 ∧ t.safe.pw = some x ∧ t.safe.pwAge = 0 ∧ t.safe.sbOff = false ∧
      t.rd R.safe_PAIR_RUN [] = b2n (x.sf == 2) ∧
      (∀ p : Port, bitB (t.rd R.safe_PPERMIT []) p.val = (x.sf != 2 || bitB x.permit p.val)) ∧
      (∀ p : Port, bitB (s.rd R.safe_PPERMIT []) p.val = true → x.sf = 2 → bitB x.permit p.val = false →
        bitB (t.rd R.hdr_IRQ_RAW [336]) 7 = true) ∧
      { t with regs := s.regs, safe := s.safe, ports := s.ports, sess := s.sess } = s)) ∧
  (∀ s : State, s.rd R.safe_TWORD [] = 1 → 8 ≤ s.safe.pwAge →
    Gives .safetyWordLost s (fun t => t.rd R.safe_TWORD [] = 0 ∧ t.rd R.safe_PAIR_RUN [] = 0 ∧
      bitB (t.rd R.hdr_IRQ_RAW [336]) 8 = true ∧ (∀ p : Port, bitB (t.rd R.safe_PPERMIT []) p.val = true) ∧
      { t with regs := s.regs, safe := s.safe, ports := s.ports, sess := s.sess } = s)) ∧
  (∀ s : State, s.rd R.safe_TWORD [] = 0 → 1600 ≤ s.safe.pwAge →
    Gives .standbyOutputTimeout s (fun t => t.safe.sbOff = true ∧
      (s.active = false → ∀ n : Fin 40, t.rd R.sout_CMD [n.val] = 0) ∧ { t with regs := s.regs, safe := s.safe } = s)) ∧
  (∀ (v : Nat) (s : State), v < 1200 →
    Gives (.fieldRailLoss v) s (fun t => t.lsw.railOff = true ∧ t.rd R.lsw_VRAIL [] = v ∧ t.rd R.lsw_RAIL_LOSS [] = 1 ∧
      (∀ n : Fin 32, t.rd R.lch_OUT [n.val] = 0) ∧ (∀ n : Fin 40, t.rd R.sout_CMD [n.val] = 0) ∧
      (safeRuns s = true → (∀ p : Port, ripState t p = 2) ∧
        (∀ z, z ∈ zonesOn s → zst s z = 0 ∨ zst s z = 2 → zst t z = 1)) ∧
      (∀ c : Fin 4, splcOn s = true → s.rd R.cpl_CEN [c.val] = 1 →
        couplingSlot s c.val (s.rd R.cpl_NMK_KEY [c.val]) = true → t.rd R.cpl_BSTATE [c.val] = 3) ∧
      { t with regs := s.regs, lsw := s.lsw, safe := s.safe, sess := s.sess } = s)) ∧
  (∀ (v : Nat) (s : State), 1300 ≤ v → s.lsw.railOff = true →
    heldFor s s.lsw.railUp 2000000 = true ∨ s.sparRuns = false →
    Gives (.fieldRailReturn v) s (fun t => t.lsw.railOff = false ∧ t.rd R.lsw_VRAIL [] = v % 65536 ∧
      (∀ n : Fin 32, t.rd R.lch_CH_SRC [n.val] = chSrc t n ∧ t.rd R.lch_OUT [n.val] = b2n (chWant t n)) ∧
      { t with regs := s.regs, lsw := s.lsw, safe := s.safe, sess := s.sess } = s)) ∧
  (∀ (x : SafetyWord) (ok : Bool) (s : State), ok = false ∨ s.cfB R.scfg_PAIR [] = false ∨ s.rd R.teth_PAIR_EN [] = 0 ∨
    s.inReset 18 = true →
    Gives (.safetyWordRx x ok) s (fun t => t = s)) ∧
  (∀ s : State, s.rd R.safe_TWORD [] = 0 ∨ s.safe.pwAge < 8 → Gives .safetyWordLost s (fun t => t = s)) ∧
  (∀ s : State, s.rd R.safe_TWORD [] = 1 ∨ s.safe.pwAge < 1600 → Gives .standbyOutputTimeout s (fun t => t = s)) ∧
  (∀ (v : Nat) (s : State), 1200 ≤ v → Gives (.fieldRailLoss v) s (fun t => t = s)) ∧
  (∀ (v : Nat) (s : State), v < 1300 ∨ s.lsw.railOff = false ∨ (s.sparRuns = true ∧
      heldFor s s.lsw.railUp 2000000 = false) → Gives (.fieldRailReturn v) s (fun t => t = s))

/-- O43 (tier 2). A frame for a connection without dual paths is judged by its CRC, its watchdog value and its sequence:
a bad one is counted; the first of a connection that does not run gives its number, and so does one outside the
window of a sender that shows RESTART; one inside the window is taken, and a connection that does not run then runs.
With dual paths a copy on the wrong path is counted, a copy without its partner waits beside the others for 2 ms,
and two copies within 2 ms are judged as one frame, or counted where their data differ. A frame that is not for a
connection leaves it alone. A connection in RUN that takes no frame for WDOG_MS goes to FAULT and trips every
enabled zone it serves. A send, SEND_MS after the last, hands its frames to the ring ports at priority 7, counts
them and advances the number; CNT_CLR clears the counters. Where its condition does not hold, an expiry or a send
changes nothing (R24, R443-R447, R459). -/
def Obligations.XatchConnectionsCheckFrames : Prop :=
  (∀ (ringB : Bool) (src : Nat) (b : List Byte) (n : Fin 16) (s : State), xcMatch s n src (xatchDecode b) = true →
    s.cfB R.xch_DUAL [n.val] = false →
    Gives (.xatchFrameRx ringB src b) s (fun t =>
      let f := xatchDecode b
      let d := (f.seq + 65536 - s.rd R.xch_LAST_SEQ [n.val]) % 65536
      let kept := t.rd R.xch_LAST_SEQ [n.val] = s.rd R.xch_LAST_SEQ [n.val] ∧ t.rd R.xch_RXDATA [n.val] = s.rd R.xch_RXDATA [n.val] ∧
        t.rd R.xch_CSTATE [n.val] = s.rd R.xch_CSTATE [n.val] ∧ t.safe.conn[n] = s.safe.conn[n]
      (f.crcOk = false → kept ∧ t.rd R.xch_CRC_ERR [n.val] = min (s.rd R.xch_CRC_ERR [n.val] + 1) 65535) ∧
      (f.crcOk = true → f.wdog ≠ s.cf R.xch_WDOG_MS [n.val] →
        kept ∧ t.rd R.xch_SEQ_ERR [n.val] = min (s.rd R.xch_SEQ_ERR [n.val] + 1) 65535) ∧
      (f.crcOk = true → f.wdog = s.cf R.xch_WDOG_MS [n.val] →
        (s.rd R.xch_CSTATE [n.val] ≠ 2 →
          s.safe.conn[n].got = false ∨ f.restart = true ∧ (d = 0 ∨ s.cf R.xch_SEQ_WIN [n.val] < d) →
          t.rd R.xch_LAST_SEQ [n.val] = f.seq ∧ t.safe.conn[n] = { s.safe.conn[n] with got := true } ∧
          t.rd R.xch_CSTATE [n.val] = s.rd R.xch_CSTATE [n.val]) ∧
        (s.rd R.xch_CSTATE [n.val] = 2 ∨ s.safe.conn[n].got = true →
          (1 ≤ d → d ≤ s.cf R.xch_SEQ_WIN [n.val] → t.rd R.xch_LAST_SEQ [n.val] = f.seq ∧
            t.rd R.xch_RXDATA [n.val] = leNat f.data % 2 ^ 512 ∧ t.rd R.xch_AGE [n.val] = 0 ∧ t.rd R.xch_CSTATE [n.val] = 2 ∧
            t.safe.conn[n] = { s.safe.conn[n] with accAt := some s.now, bad := false } ∧
            (s.rd R.xch_CSTATE [n.val] ≠ 2 → bitB (t.rd R.xch_CRUN []) n.val = true)) ∧
          (d = 0 ∨ s.cf R.xch_SEQ_WIN [n.val] < d → s.rd R.xch_CSTATE [n.val] = 2 ∨ f.restart = false →
            kept ∧ t.rd R.xch_SEQ_ERR [n.val] = min (s.rd R.xch_SEQ_ERR [n.val] + 1) 65535))) ∧
      { t with regs := s.regs, safe := s.safe, sess := s.sess } = s)) ∧
  (∀ (n : Fin 16) (a : Nat) (s : State), xcOn s n = true → s.rd R.xch_CSTATE [n.val] = 2 →
    s.safe.conn[n].accAt = some a → a + 200000 * s.cf R.xch_WDOG_MS [n.val] ≤ s.now + s.spar.clocks →
    Gives (.xatchWatchdogExpiry n) s (fun t => t.rd R.xch_CSTATE [n.val] = 3 ∧ bitB (t.rd R.xch_CRUN []) n.val = false ∧
      t.rd R.xch_WDOG_EXP [n.val] = min (s.rd R.xch_WDOG_EXP [n.val] + 1) 65535 ∧ t.rd R.hdr_CODE [344] = 0x0104 ∧
      bitB (t.rd R.hdr_IRQ_RAW [344]) 1 = true ∧ t.safe.conn[n].got = false ∧
      (∀ z, z ∈ zonesOn s → bitB (s.cf R.xch_ZONES [n.val]) z = true → zst s z = 0 ∨ zst s z = 2 → zst t z = 1) ∧
      { t with regs := s.regs, safe := s.safe, sess := s.sess } = s)) ∧
  (∀ (m : Fin 8) (s : State), safeRuns s = true → s.cfB R.xpr_EN [m.val] = true → s.inReset 19 = false →
    s.safe.sentAt[m] = none ∨ heldFor s s.safe.sentAt[m] (200000 * s.cf R.xpr_SEND_MS [m.val]) = true →
    Gives (.xatchSend m) s (fun t =>
      t.safe.xsent = producedFrame s m false :: (if s.cfB R.xpr_DUAL [m.val] = true then [producedFrame s m true] else []) ∧
      t.rd R.xch_TX_CNT [] = (s.rd R.xch_TX_CNT [] + t.safe.xsent.length) % 2 ^ 32 ∧
      t.safe.prod[m] = (s.safe.prod[m] + 1) % 65536 ∧ t.safe.sentAt[m] = some s.now ∧ (∀ k : Fin 8, k ≠ m →
        t.safe.prod[k] = s.safe.prod[k]) ∧
      t.ring = (let a := vupd s.ring 0 (EgressS.put ⟨7, some (producedFrame s m false).2.1, 0x88B6, ethPad (producedFrame s m false).2.2, none⟩)
        if s.cfB R.xpr_DUAL [m.val] = true then
          vupd a 1 (EgressS.put ⟨7, some (producedFrame s m true).2.1, 0x88B6, ethPad (producedFrame s m true).2.2, none⟩)
        else a) ∧
      RegsBut s t [R.xch_TX_CNT.key []] ∧ { t with regs := s.regs, safe := s.safe, ring := s.ring } = s)) ∧
  (∀ (w : World) (s : State), s.canWrite w 344 = true →
    Gives (.xchCntClr w) s (fun t => t.rd R.xch_TX_CNT [] = 0 ∧
      (∀ n : Fin 16, t.rd R.xch_CRC_ERR [n.val] = 0 ∧ t.rd R.xch_SEQ_ERR [n.val] = 0 ∧ t.rd R.xch_WDOG_EXP [n.val] = 0 ∧
        t.rd R.xch_DUAL_ERR [n.val] = 0) ∧ { t with regs := s.regs } = s)) ∧
  (∀ (ringB : Bool) (src : Nat) (b : List Byte) (n : Fin 16) (s : State), xcMatch s n src (xatchDecode b) = true →
    s.cfB R.xch_DUAL [n.val] = true → (xatchDecode b).crcOk = true → (xatchDecode b).wdog = s.cf R.xch_WDOG_MS [n.val] →
    Gives (.xatchFrameRx ringB src b) s (fun t =>
      let f := xatchDecode b
      let d := (f.seq + 65536 - s.rd R.xch_LAST_SEQ [n.val]) % 65536
      let live := s.safe.conn[n].dual.filter (fun q => s.now - q.at_ ≤ 400000)
      let rest := live.filter (fun q => q.seq ≠ f.seq)
      let kept := t.rd R.xch_LAST_SEQ [n.val] = s.rd R.xch_LAST_SEQ [n.val] ∧ t.rd R.xch_RXDATA [n.val] = s.rd R.xch_RXDATA [n.val] ∧
        t.rd R.xch_CSTATE [n.val] = s.rd R.xch_CSTATE [n.val]
      (f.path ≠ ringB → kept ∧ t.safe.conn[n] = s.safe.conn[n] ∧
        t.rd R.xch_SEQ_ERR [n.val] = min (s.rd R.xch_SEQ_ERR [n.val] + 1) 65535) ∧
      (f.path = ringB → (∀ q, q ∈ live → q.seq = f.seq → q.path = f.path) →
        kept ∧ t.safe.conn[n] = { s.safe.conn[n] with dual := rest ++ [⟨f.seq, f.path, s.now, f.data⟩] }) ∧
      (f.path = ringB → ∀ q, live.find? (fun q => q.seq == f.seq && q.path != f.path) = some q →
        (q.data ≠ f.data → kept ∧ t.safe.conn[n] = { s.safe.conn[n] with dual := rest, bad := true } ∧
          t.rd R.xch_DUAL_ERR [n.val] = min (s.rd R.xch_DUAL_ERR [n.val] + 1) 65535) ∧
        (q.data = f.data → s.rd R.xch_CSTATE [n.val] ≠ 2 →
          s.safe.conn[n].got = false ∨ f.restart = true ∧ (d = 0 ∨ s.cf R.xch_SEQ_WIN [n.val] < d) →
          t.rd R.xch_LAST_SEQ [n.val] = f.seq ∧ t.safe.conn[n] = { s.safe.conn[n] with dual := rest, got := true }) ∧
        (q.data = f.data → s.rd R.xch_CSTATE [n.val] = 2 ∨ s.safe.conn[n].got = true →
          (1 ≤ d → d ≤ s.cf R.xch_SEQ_WIN [n.val] → t.rd R.xch_LAST_SEQ [n.val] = f.seq ∧ t.rd R.xch_CSTATE [n.val] = 2 ∧
            t.safe.conn[n] = { s.safe.conn[n] with dual := rest, accAt := some s.now, bad := false }) ∧
          (d = 0 ∨ s.cf R.xch_SEQ_WIN [n.val] < d → s.rd R.xch_CSTATE [n.val] = 2 ∨ f.restart = false → kept ∧
            t.rd R.xch_SEQ_ERR [n.val] = min (s.rd R.xch_SEQ_ERR [n.val] + 1) 65535))) ∧
      { t with regs := s.regs, safe := s.safe, sess := s.sess } = s)) ∧
  (∀ (ringB : Bool) (src : Nat) (b : List Byte) (n : Fin 16) (s : State), xcMatch s n src (xatchDecode b) = false →
    Gives (.xatchFrameRx ringB src b) s (fun t => t.safe.conn[n] = s.safe.conn[n] ∧
      t.rd R.xch_CSTATE [n.val] = s.rd R.xch_CSTATE [n.val] ∧ t.rd R.xch_LAST_SEQ [n.val] = s.rd R.xch_LAST_SEQ [n.val] ∧
      t.rd R.xch_RXDATA [n.val] = s.rd R.xch_RXDATA [n.val] ∧ t.rd R.xch_CRC_ERR [n.val] = s.rd R.xch_CRC_ERR [n.val] ∧
      t.rd R.xch_SEQ_ERR [n.val] = s.rd R.xch_SEQ_ERR [n.val] ∧ t.rd R.xch_DUAL_ERR [n.val] = s.rd R.xch_DUAL_ERR [n.val] ∧
      { t with regs := s.regs, safe := s.safe, sess := s.sess } = s)) ∧
  (∀ (n : Fin 16) (s : State), xcOn s n = false ∨ s.rd R.xch_CSTATE [n.val] ≠ 2 ∨
      heldFor s s.safe.conn[n].accAt (200000 * s.cf R.xch_WDOG_MS [n.val]) = false →
    Gives (.xatchWatchdogExpiry n) s (fun t => t = s)) ∧
  (∀ (m : Fin 8) (s : State), safeRuns s = false ∨ s.cfB R.xpr_EN [m.val] = false ∨ s.inReset 19 = true ∨
      s.safe.sentAt[m].isSome = true ∧ heldFor s s.safe.sentAt[m] (200000 * s.cf R.xpr_SEND_MS [m.val]) = false →
    Gives (.xatchSend m) s (fun t => t = s))

/-- O44 (tier 2). A module that may take the claim becomes ACTIVE with a claim newer than every claim it knows, with the
cause and the instant recorded; without a cause nothing changes. W0 alone releases the claim of an active module of
a pair, or forces a silent standby to take it, refused with 0x0102 otherwise. Enabling TETH makes a module of a pair
JOIN, and a single module ACTIVE; with a partner unlike it a joining module stays; after JOIN_WAIT a module of the
slot with the higher byte, or one that hears nothing, becomes ACTIVE and one of the other slot STANDBY. In reset
TETH only stores EN. DEMOTED and the counters are cleared. A release with nothing to release, an enable that is set
and an end of a wait that has not come change nothing (R461-R463, R473-R476, R481, R484). -/
def Obligations.ThePairPassesTheClaim : Prop :=
  (∀ s : State, newer (nextClaim s) (knownNow s) = true) ∧
  (∀ (c : Nat) (s : State), takeCause s = some c →
    Gives .takeClaim s (fun t => t.active = true ∧ tstate t = 3 ∧ t.rd R.teth_CLAIM [] = nextClaim s ∧ t.rd R.teth_TAKE_CAUSE [] = c ∧
      t.rd R.teth_TAKE_CYCLE [] = s.spar.cycle % 2 ^ 32 ∧ t.rd R.teth_TAKE_PERIOD [] = s.spar.period % 2 ^ 10 ∧
      t.rd R.teth_TAKEOVERS [] = min (s.rd R.teth_TAKEOVERS [] + 1) 65535 ∧ t.rd R.teth_TAKE_BLOCKED [] = 0 ∧
      bitB (t.rd R.hdr_IRQ_RAW [352]) 0 = true ∧ t.teth.known = nextClaim s ∧ t.teth.force = false ∧ t.rd R.mtr_MCLK_DRV [] = 15 ∧
      t.brd.takeover = true ∧ { t with
        regs := s.regs, teth := s.teth, links := s.links, ports := s.ports, stages := s.stages, brd := s.brd, lsw := s.lsw
        splc := s.splc, safe := s.safe, mclkTook := s.mclkTook, thrm := s.thrm, sess := s.sess } = s ∧
      (∀ p : Port, (t.se p).stAt = s.now ∧ (t.se p).stepAt = s.now ∧ (t.se p).hbAt = s.now ∧ (t.se p).contAt = none))) ∧
  (∀ s : State, takeCause s = none → Gives .takeClaim s (fun t => t = s)) ∧
  (∀ s : State, s.canWrite 0 352 = true → s.active = true → s.rd R.teth_PAIR_EN [] = 1 → s.teth.relTx = none →
    Gives (.releaseClaim 0) s (fun t => t.teth.relTx = some s.spar.serial ∧
      t.teth.word = s.teth.word.map (fun w => { w with release := true }) ∧ bitB (t.rd R.hdr_IRQ_RAW [352]) 2 = true ∧
      RegsBut s t [R.hdr_IRQ_RAW.key [352]] ∧ { t with regs := s.regs, teth := s.teth } = s)) ∧
  (∀ s : State, s.canWrite 0 352 = true →
    Gives (.take 0) s (fun t =>
      (tstate s = 2 → s.rd R.teth_SILENT [] = 1 → t = { s with teth := { s.teth with force := true } }) ∧
      (tstate s ≠ 2 ∨ s.rd R.teth_SILENT [] = 0 → t.rd R.hdr_CODE [352] = 0x0102 ∧
        OnlyRegs s t [R.hdr_CODE.key [352], R.hdr_COUNT.key [352], R.hdr_ERR.key [352]]))) ∧
  (∀ (w : World) (s : State), w ≠ 0 → s.canWrite w 352 = true →
    Gives (.releaseClaim w) s (fun t => t = s) ∧ Gives (.take w) s (fun t => t = s)) ∧
  (∀ (w : World) (s : State), s.canWrite w 352 = true → s.rd R.hdr_EN [352] = 0 → s.inReset 20 = false →
    Gives (.tethEnable w) s (fun t => t.rd R.hdr_EN [352] = 1 ∧ t.rd R.tethp_CFG_ID [] = cfgId s % 2 ^ 32 ∧
      (s.rd R.teth_PAIR_EN [] = 1 → tstate t = 1 ∧ t.rd R.teth_SILENT [] = 1 ∧ t.teth.quiet = 3 ∧ t.active = s.active) ∧
      (s.rd R.teth_PAIR_EN [] = 0 → tstate t = 3 ∧ t.active = true ∧ t.rd R.teth_TAKE_CAUSE [] = 4 ∧
        t.rd R.teth_CLAIM [] = nextClaim s))) ∧
  (∀ s : State, pairOn s = true → tstate s = 1 →
    Gives .joinWaitExpiry s (fun t =>
      (unlike s = true → t = s) ∧
      (unlike s = false → bothJoin s = true → s.rd R.teth_JOIN_WAIT [] ≤ s.teth.joinBoth → slotByte s = 2 → tstate t = 3 ∧
        t.active = true ∧ t.rd R.teth_TAKE_CAUSE [] = 4) ∧
      (unlike s = false → bothJoin s = true → s.rd R.teth_JOIN_WAIT [] ≤ s.teth.joinBoth → slotByte s = 1 → tstate t = 2 ∧
        t.active = s.active) ∧
      (unlike s = false → bothJoin s = false → s.teth.heardAny = false → s.rd R.teth_JOIN_WAIT [] ≤ s.teth.joinQuiet →
        tstate t = 3 ∧ t.active = true ∧ t.rd R.teth_CLAIM [] = nextClaim s))) ∧
  (∀ (w : World) (s : State), s.canWrite w 352 = true →
    Gives (.demotedClear w) s (fun t => t.rd R.teth_DEMOTED [] = 0 ∧ OnlyRegs s t [R.teth_DEMOTED.key []]) ∧
    Gives (.tethCntClr w) s (fun t => t.rd R.teth_IMG_BAD [] = 0 ∧ t.rd R.teth_IMG_LATE [] = 0 ∧ t.rd R.teth_TAKEOVERS [] = 0 ∧
      t.rd R.teth_DEMOTIONS [] = 0 ∧ OnlyRegs s t [R.teth_IMG_BAD.key [], R.teth_IMG_LATE.key [], R.teth_TAKEOVERS.key [],
        R.teth_DEMOTIONS.key []])) ∧
  (∀ s : State, s.canWrite 0 352 = true → s.active = false ∨ s.rd R.teth_PAIR_EN [] = 0 ∨ s.teth.relTx.isSome = true →
    Gives (.releaseClaim 0) s (fun t => t = s)) ∧
  (∀ (w : World) (s : State), s.canWrite w 352 = true → s.rd R.hdr_EN [352] = 1 → Gives (.tethEnable w) s (fun t => t = s)) ∧
  (∀ (w : World) (s : State), s.canWrite w 352 = true → s.rd R.hdr_EN [352] = 0 → s.inReset 20 = true →
    Gives (.tethEnable w) s (fun t => t.rd R.hdr_EN [352] = 1 ∧ OnlyRegs s t [R.hdr_EN.key [352]])) ∧
  (∀ s : State, pairOn s = false ∨ tstate s ≠ 1 ∨
      ((bothJoin s = false ∨ s.teth.joinBoth < s.rd R.teth_JOIN_WAIT []) ∧
        (s.teth.heardAny = true ∨ s.teth.joinQuiet < s.rd R.teth_JOIN_WAIT [])) →
    Gives .joinWaitExpiry s (fun t => t = s))

/-- O45 (tier 2). A Tether word of the partner is kept with its claim, its RELEASE to a standby and its TAKEREQ, which
requests reset source 10; a chunk is kept with the others of its cycle, over the fallback path while the Tether is
down. Loss of a lane and of both lanes, and their return, set and clear LANE_FLT, TDOWN, FALLBACK and the self-test.
A valid health report gives the partner's fields, renews the report age and lets a joining module with the same
CFG_ID follow an active partner; another CFG_ID gives 0x0100 and sends a standby back to JOIN, as another VERSION
does; 808 periods without a report set HLTH_LOST, and TAKE_BLOCKED on a silent standby without SYNCED. An
uncorrectable memory error sets its self-test bit. Where its condition does not hold (no pair, the Tether down or
up, a bad report, a flag that stands), each of the others changes nothing (R464-R468, R473, R474, R479-R482). -/
def Obligations.TheTetherCarriesThePartner : Prop :=
  (∀ (x : TethWord) (ch : Option Chunk) (s : State), pairOn s = true → s.rd R.teth_TDOWN [] = 0 →
    Gives (.tetherWordRx x ch) s (fun t => t.teth.pword = some x ∧ t.teth.heardAny = true ∧ t.teth.known = newest s.teth.known x.claim ∧
      t.teth.takereq = partnerOlder s x.tstate x.claim ∧
      t.teth.relRx = (if x.release = true ∧ tstate s = 2 then some s.spar.serial else s.teth.relRx) ∧
      (x.takereq = true → bitB t.rst.req 10 = true) ∧ (x.takereq = false → t.rst = s.rst) ∧
      (∀ c, ch = some c → t.teth.rx = c :: s.teth.rx.filter (fun y => y.cycle == c.cycle && y.idx != c.idx)) ∧
      (ch = none → t.teth.rx = s.teth.rx) ∧ { t with teth := s.teth, rst := s.rst } = s)) ∧
  (∀ (c : Chunk) (s : State), pairOn s = true → s.rd R.teth_TDOWN [] = 1 →
    Gives (.fallbackFrameRx c) s (fun t => t = { s with teth :=
      { s.teth with heardAny := true, rx := c :: s.teth.rx.filter (fun y => y.cycle == c.cycle && y.idx != c.idx) } })) ∧
  (∀ s : State, s.runs 352 = true → s.rd R.teth_LANE_FLT [] = 0 →
    Gives .laneFault s (fun t => t.rd R.teth_LANE_FLT [] = 1 ∧ bitB (t.rd R.tethp_SELFTEST []) 6 = true ∧
      bitB (t.rd R.hdr_IRQ_RAW [352]) 7 = true ∧
      OnlyRegs s t [R.teth_LANE_FLT.key [], R.tethp_SELFTEST.key [], R.hdr_IRQ_RAW.key [352]])) ∧
  (∀ s : State, s.runs 352 = true → s.rd R.teth_TDOWN [] = 0 →
    Gives .tetherDown s (fun t => t.rd R.teth_TDOWN [] = 1 ∧ t.rd R.teth_FALLBACK [] = b2n (pairOn s) ∧
      bitB (t.rd R.tethp_SELFTEST []) 6 = true ∧ bitB (t.rd R.hdr_IRQ_RAW [352]) 7 = true ∧
      { t with regs := s.regs, spar := s.spar } = s)) ∧
  (∀ (two : Bool) (s : State), s.runs 352 = true → s.rd R.teth_TDOWN [] = 1 ∨ s.rd R.teth_LANE_FLT [] = 1 →
    Gives (.tetherReturn two) s (fun t => t.rd R.teth_TDOWN [] = 0 ∧ t.rd R.teth_FALLBACK [] = 0 ∧
      t.rd R.teth_LANE_FLT [] = b2n (!two) ∧ bitB (t.rd R.tethp_SELFTEST []) 6 = !two ∧ bitB (t.rd R.hdr_IRQ_RAW [352]) 7 = true ∧
      { t with regs := s.regs, spar := s.spar } = s)) ∧
  (∀ (b : List Byte) (s : State), pairOn s = true → s.rd R.teth_TDOWN [] = 0 → reportOk b = true → fld b 0 1 = 1 →
    Gives (.healthReportRx b) s (fun t => t.rd R.tethp_P_CLAIM [] = fld b 4 2 ∧ t.rd R.tethp_P_SELFTEST [] = fld b 6 2 ∧
      t.rd R.tethp_P_CYCLE [] = fld b 8 4 ∧ t.rd R.tethp_P_CFG_ID [] = fld b 24 4 ∧ t.rd R.tethp_P_IMG_ACK [] = fld b 28 4 ∧
      t.rd R.tethp_HLTH_AGE [] = 0 ∧ t.rd R.teth_HLTH_LOST [] = 0 ∧ t.teth.known = newest s.teth.known (fld b 4 2) ∧
      t.teth.cfgBad = decide (fld b 24 4 ≠ s.rd R.tethp_CFG_ID []) ∧ t.teth.cfgOk = decide (fld b 24 4 = s.rd R.tethp_CFG_ID []) ∧
      t.teth.verBad = false ∧ (fld b 24 4 ≠ s.rd R.tethp_CFG_ID [] → tstate s = 1 ∨ tstate s = 2 → t.rd R.hdr_CODE [352] = 0x0100) ∧
        t.spar.partnerFreq = fld b 12 4 ∧
      tstate t = (if fld b 24 4 ≠ s.rd R.tethp_CFG_ID [] then (if tstate s = 2 then 1 else tstate s)
        else if fld b 2 1 = 3 ∧ tstate s = 1 then 2 else tstate s) ∧
      { t with regs := s.regs, teth := s.teth, spar := s.spar } = s)) ∧
  (∀ (b : List Byte) (s : State), pairOn s = true → s.rd R.teth_TDOWN [] = 0 → reportOk b = true → fld b 0 1 ≠ 1 →
    Gives (.healthReportRx b) s (fun t => t.rd R.tethp_HLTH_AGE [] = 0 ∧ t.rd R.teth_HLTH_LOST [] = 0 ∧
      t.teth = { s.teth with heardAny := true, verBad := true, cfgOk := false } ∧
      tstate t = (if tstate s = 2 then 1 else tstate s) ∧
      OnlyRegs s { t with teth := s.teth } [R.tethp_HLTH_AGE.key [], R.teth_HLTH_LOST.key [], R.teth_TSTATE.key []])) ∧
  (∀ s : State, s.inReset 20 = false → 808 ≤ s.rd R.tethp_HLTH_AGE [] → s.rd R.teth_HLTH_LOST [] = 0 →
    Gives .hlthLost s (fun t => t.rd R.teth_HLTH_LOST [] = 1 ∧ bitB (t.rd R.hdr_IRQ_RAW [352]) 3 = true ∧
      t.rdB R.teth_TAKE_BLOCKED [] = (tstate s == 2 && s.rdB R.teth_SILENT [] && !s.rdB R.teth_SYNCED []) ∧
      (t.rd R.teth_TAKE_BLOCKED [] = 1 → s.rd R.teth_TAKE_BLOCKED [] = 0 → bitB (t.rd R.hdr_IRQ_RAW [352]) 6 = true) ∧
      OnlyRegs s t [R.teth_HLTH_LOST.key [], R.teth_TAKE_BLOCKED.key [], R.hdr_IRQ_RAW.key [352]])) ∧
  (∀ s : State,
    Gives .uncorrectableEccError s (fun t => bitB (t.rd R.tethp_SELFTEST []) 4 = true ∧
      (bitB (s.rd R.tethp_SELFTEST []) 4 = false → bitB (t.rd R.hdr_IRQ_RAW [352]) 5 = true) ∧
      OnlyRegs s t [R.tethp_SELFTEST.key [], R.hdr_IRQ_RAW.key [352]])) ∧
  (∀ (x : TethWord) (ch : Option Chunk) (s : State), pairOn s = false ∨ s.rd R.teth_TDOWN [] = 1 →
    Gives (.tetherWordRx x ch) s (fun t => t = s)) ∧
  (∀ (c : Chunk) (s : State), pairOn s = false ∨ s.rd R.teth_TDOWN [] = 0 → Gives (.fallbackFrameRx c) s (fun t => t = s)) ∧
  (∀ s : State, s.runs 352 = false ∨ s.rd R.teth_LANE_FLT [] = 1 → Gives .laneFault s (fun t => t = s)) ∧
  (∀ s : State, s.runs 352 = false ∨ s.rd R.teth_TDOWN [] = 1 → Gives .tetherDown s (fun t => t = s)) ∧
  (∀ (two : Bool) (s : State), s.runs 352 = false ∨ (s.rd R.teth_TDOWN [] = 0 ∧ s.rd R.teth_LANE_FLT [] = 0) →
    Gives (.tetherReturn two) s (fun t => t = s)) ∧
  (∀ (b : List Byte) (s : State), pairOn s = false ∨ s.rd R.teth_TDOWN [] = 1 ∨ reportOk b = false →
    Gives (.healthReportRx b) s (fun t => t = s)) ∧
  (∀ s : State, s.inReset 20 = true ∨ s.rd R.tethp_HLTH_AGE [] < 808 ∨ s.rd R.teth_HLTH_LOST [] = 1 →
    Gives .hlthLost s (fun t => t = s))

/-- O46 (tier 2). RESET clears a monitor's address and its balancing; ENUM gives an unaddressed monitor its address and
goes on with the next number; CONFIG stores limits and timeout; HUSH stops balancing; CONVERT converts the cells or
runs the open-wire test, after which the old map is not resumed; READ appends the monitor's block; BALANCE gives the
map and mask of its address. Each is sent on, back where the hop is broken, and any other frame is sent on
unchanged; a valid frame restarts the time of MON_TMO, after which balancing stops and TIMEOUT is set. Comparators,
the timeout and the state of the hops act on that monitor alone. No register and no other monitor changes (R490,
R491, R495, R498-R500). -/
def Obligations.MonitorsFollowTheirFrames : Prop :=
  (∀ (r : Fin 2) (m : Fin 64) (b : Bool) (f p : List Byte) (s : State), framePay 1 f = some p →
    Gives (.monReset r m b f) s (fun t => MonBecomes s t r m { monOf s r m with
      heard := s.now, addr := 0, map := 0, bal := false, out := some (if b then (monOf s r m).brkA else !(monOf s r m).brkB, f) } ∧
      { t with blst := s.blst } = s)) ∧
  (∀ (r : Fin 2) (m : Fin 64) (b : Bool) (f : List Byte) (nx dir : Byte) (s : State), framePay 2 f = some [nx, dir] →
    Gives (.monEnum r m b f) s (fun t => { t with blst := s.blst } = s ∧
      ((monOf s r m).addr = 0 → MonBecomes s t r m { monOf s r m with
        addr := nx.toNat, heard := s.now
        out := some (if b then (monOf s r m).brkA else !(monOf s r m).brkB,
          monFrame 2 [if dir = 0 then nx + 1 else nx - 1, dir]) }) ∧
      ((monOf s r m).addr ≠ 0 → MonBecomes s t r m { monOf s r m with
        heard := s.now
        out := some (if b then (monOf s r m).brkA else !(monOf s r m).brkB, f) }))) ∧
  (∀ (r : Fin 2) (m : Fin 64) (b : Bool) (f p : List Byte) (s : State), framePay 3 f = some p →
    Gives (.monConfig r m b f) s (fun t => MonBecomes s t r m { monOf s r m with
      heard := s.now, ovHw := leNat (p.take 2), uvHw := leNat ((p.drop 2).take 2), tmo := leNat ((p.drop 4).take 2)
      out := some (if b then (monOf s r m).brkA else !(monOf s r m).brkB, f) } ∧ { t with blst := s.blst } = s)) ∧
  (∀ (r : Fin 2) (m : Fin 64) (b : Bool) (f p : List Byte) (s : State), framePay 4 f = some p →
    Gives (.monHush r m b f) s (fun t => MonBecomes s t r m { monOf s r m with
      heard := s.now, bal := false, out := some (if b then (monOf s r m).brkA else !(monOf s r m).brkB, f) } ∧
        { t with blst := s.blst } = s)) ∧
  (∀ (r : Fin 2) (m : Fin 64) (b : Bool) (f p : List Byte) (cells : List Nat) (ms tp : Nat) (s : State), framePay 5 f = some p →
    Gives (.monConvert r m b f cells ms tp) s (fun t =>
      ((monOf s r m).addr ≠ 0 → bitB (leNat p) ((monOf s r m).addr - 1) = true →
        (monOf t r m).heard = s.now ∧ (monOf t r m).test = true ∧ (monOf t r m).bal = false ∧ (monOf t r m).temp = tp % 65536 ∧
        (monOf t r m).cells.length = 18 ∧ (monOf t r m).msum = (monOf s r m).msum ∧ (monOf t r m).map = 0 ∧ t.freeCtr = s.freeCtr + 1 ∧
        MonBecomes s t r m (monOf t r m) ∧ { t with blst := s.blst, freeCtr := s.freeCtr } = s) ∧
      ((monOf s r m).addr = 0 ∨ bitB (leNat p) ((monOf s r m).addr - 1) = false →
        MonBecomes s t r m { monOf s r m with
          heard := s.now, test := false, bal := !(monOf s r m).timeout, cells := (List.range 18).map (fun k => cells.getD k 0 % 65536)
          msum := ms % 2 ^ 32, temp := tp % 65536
          out := some (if b then (monOf s r m).brkA else !(monOf s r m).brkB, f) } ∧ { t with blst := s.blst } = s))) ∧
  (∀ (r : Fin 2) (m : Fin 64) (b : Bool) (f p : List Byte) (s : State), framePay 6 f = some p →
    Gives (.monRead r m b f) s (fun t => MonBecomes s t r m { monOf s r m with
      heard := s.now, timeout := false
      cmp := (monOf s r m).intern || (monOf s r m).ov != 0 || (monOf s r m).uv != 0
      out := some (if b then (monOf s r m).brkA else !(monOf s r m).brkB, f ++ (monOf s r m).block) } ∧
      { t with blst := s.blst } = s)) ∧
  (∀ (r : Fin 2) (m : Fin 64) (b : Bool) (f p : List Byte) (s : State), framePay 7 f = some p → (monOf s r m).addr ≠ 0 →
    Gives (.monBalance r m b f) s (fun t =>
      (monOf t r m).map = leNat ((p.drop (6 * ((monOf s r m).addr - 1))).take 3) % 2 ^ 18 ∧
      (monOf t r m).mask = leNat ((p.drop (6 * ((monOf s r m).addr - 1) + 3)).take 3) % 2 ^ 19 ∧ (monOf t r m).bal = true ∧
      (monOf t r m).fault = (monOf t r m).faulty ∧ (monOf t r m).heard = s.now ∧
      (monOf t r m).out = some (if b then (monOf s r m).brkA else !(monOf s r m).brkB, f) ∧
      MonBecomes s t r m (monOf t r m) ∧ { t with blst := s.blst } = s)) ∧
  (∀ (r : Fin 2) (m : Fin 64) (b : Bool) (f : List Byte) (s : State), framePay 1 f = none →
    Gives (.monReset r m b f) s (fun t => MonBecomes s t r m { monOf s r m with
      heard := if goodFrame f then s.now else (monOf s r m).heard
      out := some (if b then (monOf s r m).brkA else !(monOf s r m).brkB, f) } ∧ { t with blst := s.blst } = s)) ∧
  (∀ (r : Fin 2) (m : Fin 64) (ov uv : Nat) (i : Bool) (s : State),
    Gives (.cellComparatorTrip r m ov uv i) s (fun t => (monOf t r m).ov = ov % 2 ^ 18 ∧ (monOf t r m).uv = uv % 2 ^ 18 ∧
      (monOf t r m).intern = i ∧ (monOf t r m).fault = (monOf t r m).faulty ∧
      (i = true ∨ ov % 2 ^ 18 ≠ 0 ∨ uv % 2 ^ 18 ≠ 0 → (monOf t r m).cmp = true) ∧
      MonBecomes s t r m (monOf t r m) ∧ { t with blst := s.blst } = s)) ∧
  (∀ (r : Fin 2) (m : Fin 64) (s : State), s.now + s.spar.clocks < (monOf s r m).heard + 200000 * (monOf s r m).tmo →
    Gives (.monitorTimeout r m) s (fun t => t = s)) ∧
  (∀ (r : Fin 2) (m : Fin 64) (s : State), (monOf s r m).heard + 200000 * (monOf s r m).tmo ≤ s.now + s.spar.clocks →
    Gives (.monitorTimeout r m) s (fun t => MonBecomes s t r m { monOf s r m with bal := false, map := 0, timeout := true } ∧
      { t with blst := s.blst } = s)) ∧
  (∀ (r : Fin 2) (m : Fin 64) (s : State),
    Gives (.hopBreak r m true) s (fun t => MonBecomes s t r m { monOf s r m with brkB := true } ∧ { t with blst := s.blst } = s) ∧
    Gives (.hopBreak r m false) s (fun t => MonBecomes s t r m { monOf s r m with brkA := true } ∧ { t with blst := s.blst } = s) ∧
    Gives (.hopRestore r m true) s (fun t => MonBecomes s t r m { monOf s r m with brkB := false } ∧ { t with blst := s.blst } = s) ∧
    Gives (.hopRestore r m false) s (fun t => MonBecomes s t r m { monOf s r m with brkA := false } ∧
      { t with blst := s.blst } = s)) ∧
  (∀ (r : Fin 2) (m : Fin 64) (b : Bool) (f : List Byte) (c : List Nat) (ms tp : Nat) (s : State),
    let on := fun (t : State) => MonBecomes s t r m { monOf s r m with
      heard := if goodFrame f then s.now else (monOf s r m).heard
      out := some (if b then (monOf s r m).brkA else !(monOf s r m).brkB, f) } ∧ { t with blst := s.blst } = s
    ((∀ x y, framePay 2 f ≠ some [x, y]) → Gives (.monEnum r m b f) s on) ∧
    (framePay 3 f = none → Gives (.monConfig r m b f) s on) ∧ (framePay 4 f = none → Gives (.monHush r m b f) s on) ∧
    (framePay 5 f = none → Gives (.monConvert r m b f c ms tp) s on) ∧ (framePay 6 f = none → Gives (.monRead r m b f) s on) ∧
    (framePay 7 f = none ∨ (monOf s r m).addr = 0 → Gives (.monBalance r m b f) s on))

/-- O47 (tier 2). A ring told to enumerate drops its limits to 0 and sends RESET and ENUM from its A end. An ENUM frame
that crosses the ring with the right number makes it RUN with CONFIG sent; one that comes back to its A end starts
ENUM from the B end, and the numbers of the two ends make it BROKEN; one that never comes back makes it DOWN with
0x0100 and every monitor LOST, and a wrong number ends it with 0x0100 in the state of the ends that answered. A
break of a ring in service is taken and healed. FCODE follows the fault code out of a reset; while BLST runs a code
sets TRIP and drops the limits; TRIP is cleared only when no code arrives, else 0x0102. OW_NOW sets the open-wire
test for all monitors. Where the ring is not in the state an event needs, it changes nothing (R492, R493, R498,
R500, R502, R504). -/
def Obligations.RingsEnumerateBreakAndTrip : Prop :=
  (∀ (w : World) (r : Fin 2) (s : State), s.canWrite w 360 = true → s.runs 360 = true → 0 < s.rd R.ring_EXPECT [r.val] →
    Gives (.blstEnumerate w r) s (fun t => t.rd R.ring_RSTATE [r.val] = 1 ∧ t.rd R.ring_CHG_MAX [r.val] = 0 ∧
      t.rd R.ring_DIS_MAX [r.val] = 0 ∧
      t.blst[r].tx = (if s.active ∧ s.reduced = false then [(false, monFrame 1 []), (false, monFrame 2 [1#8, 0#8])] else []) ∧
      t.blst[r].enumB = none ∧ t.blst[r].both = false ∧ t.blst[r].reading = false ∧ (∀ r' : Fin 2, r' ≠ r → t.blst[r'] = s.blst[r']) ∧
      RegsBut s t [R.ring_RSTATE.key [r.val], R.ring_CHG_MAX.key [r.val], R.ring_DIS_MAX.key [r.val]] ∧
      { t with regs := s.regs, blst := s.blst } = s)) ∧
  (∀ (r : Fin 2) (s : State), s.runs 360 = true → s.rd R.ring_RSTATE [r.val] = 1 → s.blst[r].enumB = none →
    Gives (.enumReturn r (some true) (expect s r + 1)) s (fun t => t.rd R.ring_RSTATE [r.val] = 2 ∧ t.rd R.ring_N_A [r.val] = expect s r ∧
      t.rd R.ring_N_B [r.val] = 0 ∧ t.blst[r].both = false ∧ bitB (t.rd R.hdr_IRQ_RAW [360]) (8 * r.val + 6) = true ∧
      t.blst[r].tx = (if s.active ∧ s.reduced = false then [(false, configFrame s r)] else []) ∧
      (∀ m : Fin 64, m.val < expect s r → s.rd R.mon_MSTATE [r.val, m.val] = 0 → t.rd R.mon_MSTATE [r.val, m.val] = 1 ∧
        bitB (t.rd R.ring_LOST [r.val]) m.val = false) ∧
      (∀ m : Fin 64, m.val < expect s r → s.rd R.mon_MSTATE [r.val, m.val] ≠ 0 →
        t.rd R.mon_MSTATE [r.val, m.val] = s.rd R.mon_MSTATE [r.val, m.val]) ∧ { t with regs := s.regs, blst := s.blst } = s) ∧
    (∀ n, 1 ≤ n → n ≤ expect s r + 1 → Gives (.enumReturn r (some false) n) s (fun t => t.blst[r].enumB = some (n - 1) ∧
      t.blst[r].tx = (if s.active ∧ s.reduced = false then [(true, monFrame 2 [BitVec.ofNat 8 (expect s r), 1#8])] else []) ∧
      { t with blst := s.blst } = s)) ∧
    (∀ n, Gives (.enumReturn r none n) s (fun t => t.rd R.ring_RSTATE [r.val] = 4 ∧ t.rd R.ring_N_A [r.val] = 0 ∧
      t.rd R.ring_N_B [r.val] = 0 ∧ t.rd R.hdr_CODE [360] = 0x0100 ∧ bitB (t.rd R.hdr_IRQ_RAW [360]) (8 * r.val + 2) = true ∧
      t.rd R.ring_CHG_MAX [r.val] = 0 ∧ t.rd R.ring_DIS_MAX [r.val] = 0 ∧
      (∀ m : Fin 64, m.val < expect s r → t.rd R.mon_MSTATE [r.val, m.val] = 2 ∧ bitB (t.rd R.ring_LOST [r.val]) m.val = true ∧
        ∀ k : Fin 18, t.rd R.cell_V [r.val, m.val, k.val] = 0xFFFF) ∧ { t with regs := s.regs, blst := s.blst } = s))) ∧
  (∀ (r : Fin 2) (k : Nat) (s : State), s.runs 360 = true → s.rd R.ring_RSTATE [r.val] = 1 → s.blst[r].enumB = some k → k ≤ expect s r →
    Gives (.enumReturn r (some true) k) s (fun t => t.rd R.ring_RSTATE [r.val] = 3 ∧ t.rd R.ring_N_A [r.val] = k ∧
      t.rd R.ring_N_B [r.val] = expect s r - k ∧ t.rd R.ring_BREAK_AT [r.val] = k ∧ t.blst[r].both = true ∧
      t.blst[r].tx = (if s.active ∧ s.reduced = false then [(false, configFrame s r), (true, configFrame s r)] else []) ∧
      bitB (t.rd R.hdr_IRQ_RAW [360]) (8 * r.val + 2) = true ∧ { t with regs := s.regs, blst := s.blst } = s)) ∧
  (∀ (r : Fin 2) (n : Nat) (s : State), s.runs 360 = true → s.rd R.ring_RSTATE [r.val] ≠ 0 →
    (s.rd R.ring_RSTATE [r.val] ≠ 1 ∨ s.active = false) →
    (∀ b, Gives (.ringBreak r b none n) s (fun t => t.rd R.ring_RSTATE [r.val] = 4 ∧ t.rd R.ring_CHG_MAX [r.val] = 0 ∧
      t.rd R.ring_DIS_MAX [r.val] = 0 ∧ t.blst[r].both = true ∧ { t with regs := s.regs, blst := s.blst } = s)) ∧
    Gives (.ringBreak r false (some false) n) s (fun t => t.rd R.ring_RSTATE [r.val] = 3 ∧ t.rd R.ring_N_A [r.val] = n % 128 ∧
      t.rd R.ring_BREAK_AT [r.val] = n % 128 ∧ t.blst[r].both = true ∧ { t with regs := s.regs, blst := s.blst } = s) ∧
    Gives (.ringBreak r true (some true) n) s (fun t => t.rd R.ring_RSTATE [r.val] = 3 ∧ t.rd R.ring_N_B [r.val] = n % 128 ∧
      t.blst[r].both = true ∧ { t with regs := s.regs, blst := s.blst } = s) ∧
    Gives (.ringBreak r false (some true) n) s (fun t => t.rd R.ring_RSTATE [r.val] = 2 ∧ t.rd R.ring_N_A [r.val] = expect s r ∧
      t.rd R.ring_N_B [r.val] = 0 ∧ t.blst[r].both = false ∧ { t with regs := s.regs, blst := s.blst } = s)) ∧
  (∀ (r : Fin 2) (s : State), s.runs 360 = true →
    Gives (.faultCode r true) s (fun t => t.rd R.ring_FCODE [r.val] = 1 ∧ t.rd R.ring_TRIP [r.val] = 1 ∧
      t.rd R.ring_CHG_MAX [r.val] = 0 ∧ t.rd R.ring_DIS_MAX [r.val] = 0 ∧ bitB (t.rd R.hdr_IRQ_RAW [360]) (8 * r.val) = true ∧
      (s.rd R.ring_TRIP [r.val] = 0 → t.blst[r].look = true) ∧ t.blst[r].code = true ∧
      RegsBut s t [R.ring_FCODE.key [r.val], R.ring_TRIP.key [r.val], R.ring_CHG_MAX.key [r.val], R.ring_DIS_MAX.key [r.val],
        R.hdr_IRQ_RAW.key [360]] ∧ { t with regs := s.regs, blst := s.blst } = s) ∧
    Gives (.faultCode r false) s (fun t => t.rd R.ring_FCODE [r.val] = 0 ∧ t.blst[r].code = false ∧
      RegsBut s t [R.ring_FCODE.key [r.val]] ∧ { t with regs := s.regs, blst := s.blst } = s)) ∧
  (∀ (w : World) (r : Fin 2) (s : State), s.canWrite w 360 = true →
    Gives (.tripClr w r) s (fun t =>
      (s.rd R.ring_FCODE [r.val] = 0 → t.rd R.ring_TRIP [r.val] = 0 ∧ OnlyRegs s t [R.ring_TRIP.key [r.val]]) ∧
      (s.rd R.ring_FCODE [r.val] ≠ 0 → t.rd R.hdr_CODE [360] = 0x0102 ∧
        OnlyRegs s t [R.hdr_CODE.key [360], R.hdr_COUNT.key [360], R.hdr_ERR.key [360]])) ∧
    Gives (.owNow w r) s (fun t => (∀ m : Fin 64, m.val < expect s r → t.rd R.mon_OW_RUN [r.val, m.val] = 1 ∧
        (t.blst[r].bm[m]).due = true) ∧ (∀ m : Fin 64, expect s r ≤ m.val → t.blst[r].bm[m] = s.blst[r].bm[m]) ∧
      RegsBut s t ((List.range 64).map (fun m => R.mon_OW_RUN.key [r.val, m])) ∧ { t with regs := s.regs, blst := s.blst } = s)) ∧
  (∀ (r : Fin 2) (n : Nat) (s : State), s.runs 360 = true → s.rd R.ring_RSTATE [r.val] = 1 →
    let ends := fun (v a b : Nat) (t : State) => t.rd R.ring_RSTATE [r.val] = v ∧ t.rd R.ring_N_A [r.val] = a ∧
      t.rd R.ring_N_B [r.val] = b ∧
      t.rd R.hdr_CODE [360] = 0x0100 ∧ bitB (t.rd R.hdr_IRQ_RAW [360]) (8 * r.val + 6) = true ∧
      (∀ m : Fin 64, a ≤ m.val → m.val < expect s r - b → t.rd R.mon_MSTATE [r.val, m.val] = 2) ∧
      { t with regs := s.regs, blst := s.blst } = s
    (s.blst[r].enumB = none → n ≠ expect s r + 1 →
      Gives (.enumReturn r (some true) n) s (ends 2 (min (expect s r) (n - 1)) 0)) ∧
    (s.blst[r].enumB = none → n = 0 ∨ expect s r + 1 < n → Gives (.enumReturn r (some false) n) s (ends 3 (expect s r) 0)) ∧
    (∀ k, s.blst[r].enumB = some k → k ≤ expect s r →
      (n ≠ k → Gives (.enumReturn r (some true) n) s (ends 3 k (min (expect s r - k) (expect s r - n)))) ∧
      Gives (.enumReturn r (some false) n) s (ends 3 k 0) ∧ Gives (.enumReturn r none n) s (ends 3 k 0))) ∧
  (∀ (r : Fin 2) (ret : Option Bool) (n : Nat) (s : State), s.runs 360 = false ∨ s.rd R.ring_RSTATE [r.val] ≠ 1 →
    Gives (.enumReturn r ret n) s (fun t => t = s)) ∧
  (∀ (w : World) (r : Fin 2) (s : State), s.canWrite w 360 = true → s.runs 360 = false ∨ s.rd R.ring_EXPECT [r.val] = 0 →
    Gives (.blstEnumerate w r) s (fun t => t = s)) ∧
  (∀ (r : Fin 2) (b : Bool) (ret : Option Bool) (n : Nat) (s : State),
    s.runs 360 = false ∨ s.rd R.ring_RSTATE [r.val] = 0 ∨ (s.rd R.ring_RSTATE [r.val] = 1 ∧ s.active = true) ∨
      (b = true ∧ ret = some false) → Gives (.ringBreak r b ret n) s (fun t => t = s)) ∧
  (∀ (r : Fin 2) (b : Bool) (s : State), s.runs 360 = false → Gives (.faultCode r b) s (fun t =>
    (s.rst.inReset[21] = false → t.rd R.ring_FCODE [r.val] = b2n b) ∧ t.blst[r].code = b ∧
    (s.rst.inReset[21] = true → t.regs = s.regs) ∧ RegsBut s t [R.ring_FCODE.key [r.val]] ∧
    { t with regs := s.regs, blst := s.blst } = s))

/-- O48 (tier 2). In a cycle with a slot a module that is active when it begins sends HUSH 56 control periods before
CONV_PER, CONVERT at it with the due tests, and READ 32 later, and nothing else; a slot whose HUSH or CONVERT was
missed is skipped. When the blocks of the READ are in, the reading is closed; a block with a bad CRC counts in
BAD_BLK; a monitor with a good block is found again with its temperature, and one without for LOSS_N slots is LOST
with cells of 0xFFFF; the limits are the committed ones, or 0 where LIM_HI or LIM_LO stands, or a trip or a lost
monitor cuts them; the balancing phase turns over. Out of a slot, without HUSH_EN at HUSH, in a skipped slot, and
without a reading, nothing changes (R494, R496, R500, R504). -/
def Obligations.MeasurementSlotsReadTheRing : Prop :=
  (∀ (r : Fin 2) (s : State), s.runs 360 = true → 2 ≤ s.rd R.ring_RSTATE [r.val] → slotCycle s r = true →
    Gives (.measurementSlot r) s (fun t =>
      (s.spar.period + 56 = convPer s r → s.rd R.ring_HUSH_EN [r.val] = 1 → s.active = true → s.reduced = false →
        t.blst[r].tx.head? = some (false, monFrame 4 []) ∧ t.blst[r].slot = some true ∧ { t with blst := s.blst } = s) ∧
      (s.spar.period + 56 = convPer s r → s.rd R.ring_HUSH_EN [r.val] = 1 → t.blst[r].slot = some s.active) ∧
      (s.spar.period = convPer s r → s.rd R.ring_HUSH_EN [r.val] = 0 → t.blst[r].slot = some s.active) ∧
      (s.spar.period = convPer s r → s.rd R.ring_HUSH_EN [r.val] = 1 → t.blst[r].slot = s.blst[r].slot) ∧
      (s.spar.period = convPer s r → s.rd R.ring_HUSH_EN [r.val] = 0 ∨ s.blst[r].slot.isSome = true → t.blst[r].conv = true ∧
        t.rd R.ring_SLOT_CYCLE [r.val] = s.spar.cycle % 2 ^ 32 ∧ t.blst[r].owMap = owDue s r ∧
        (∀ m : Fin 64, (t.blst[r].bm[m]).due = false) ∧
        (t.blst[r].slot = some true → s.active = true → s.reduced = false →
          t.blst[r].tx.head? = some (false, monFrame 5 (leBytes 8 (owDue s r)))) ∧
        RegsBut s t [R.ring_SLOT_CYCLE.key [r.val]] ∧ { t with regs := s.regs, blst := s.blst } = s) ∧
      (s.spar.period = convPer s r + 32 → s.blst[r].conv = true → t.blst[r].reading = true ∧ t.blst[r].conv = false ∧
        (s.blst[r].slot = some true → s.active = true → s.reduced = false → t.blst[r].tx.head? = some (false, monFrame 6 [])) ∧
          { t with blst := s.blst } = s) ∧
      (s.spar.period + 56 ≠ convPer s r → s.spar.period ≠ convPer s r → s.spar.period ≠ convPer s r + 32 → t = s))) ∧
  (∀ (r : Fin 2) (blocks : List (List Byte)) (mv : List (Nat × List Nat)) (s : State), s.runs 360 = true → s.blst[r].reading = true →
    2 ≤ s.rd R.ring_RSTATE [r.val] →
    Gives (.slotReadingsDone r blocks mv) s (fun t => t.blst[r].reading = false ∧ t.blst[r].owMap = 0 ∧ t.blst[r].slot = none ∧
      bitB (t.rd R.hdr_IRQ_RAW [360]) (8 * r.val + 7) = true ∧ t.rd R.ring_PHASE [r.val] = 1 - s.rd R.ring_PHASE [r.val] ∧
      t.rd R.ring_BAD_BLK [r.val] = min (s.rd R.ring_BAD_BLK [r.val] + (blocks.filter (fun b => (parseBlock b).isNone)).length) 65535 ∧
      (∀ m : Fin 64, m.val < expect s r →
        (∀ b, (blocks.filterMap parseBlock).find? (fun b => b.1 == m.val + 1) = some b →
          t.rd R.mon_MSTATE [r.val, m.val] = 1 ∧ bitB (t.rd R.ring_LOST [r.val]) m.val = false ∧
          t.rd R.mon_TEMP [r.val, m.val] = b.2.2.1) ∧
        ((blocks.filterMap parseBlock).find? (fun b => b.1 == m.val + 1) = none →
          max 1 (s.rd R.ring_LOSS_N [r.val]) ≤ (s.blst[r].bm[m]).miss + 1 → t.rd R.mon_MSTATE [r.val, m.val] = 2 ∧
          bitB (t.rd R.ring_LOST [r.val]) m.val = true ∧ ∀ k : Fin 18, t.rd R.cell_V [r.val, m.val, k.val] = 0xFFFF)) ∧
      (t.rd R.ring_TRIP [r.val] = 1 ∨ t.rd R.ring_LOST_ANY [r.val] = 1 ∨ t.rd R.ring_LIM_HI [r.val] = 1 →
        t.rd R.ring_CHG_MAX [r.val] = 0) ∧
      (t.rd R.ring_TRIP [r.val] = 1 ∨ t.rd R.ring_LOST_ANY [r.val] = 1 ∨ t.rd R.ring_LIM_LO [r.val] = 1 →
        t.rd R.ring_DIS_MAX [r.val] = 0) ∧
      (t.rd R.ring_TRIP [r.val] = 0 → t.rd R.ring_LOST_ANY [r.val] = 0 → t.rd R.ring_LIM_HI [r.val] = 0 →
        s.rd R.ring_RSTATE [r.val] ≤ 3 → t.rd R.ring_CHG_MAX [r.val] = s.rd R.ring_LIM_CHG [r.val]) ∧
      (t.rd R.ring_TRIP [r.val] = 0 → t.rd R.ring_LOST_ANY [r.val] = 0 → t.rd R.ring_LIM_LO [r.val] = 0 →
        s.rd R.ring_RSTATE [r.val] ≤ 3 → t.rd R.ring_DIS_MAX [r.val] = s.rd R.ring_LIM_DIS [r.val]) ∧
      { t with regs := s.regs, blst := s.blst } = s)) ∧
  (∀ (r : Fin 2) (s : State), s.runs 360 = false ∨ s.rd R.ring_RSTATE [r.val] < 2 ∨ slotCycle s r = false ∨
      (s.spar.period + 56 = convPer s r ∧ s.rd R.ring_HUSH_EN [r.val] = 0) ∨
      (s.spar.period = convPer s r ∧ s.rd R.ring_HUSH_EN [r.val] = 1 ∧ s.blst[r].slot = none) ∨
      (s.spar.period = convPer s r + 32 ∧ s.blst[r].conv = false) →
    Gives (.measurementSlot r) s (fun t => t = s)) ∧
  (∀ (r : Fin 2) (s : State), s.runs 360 = true → 2 ≤ s.rd R.ring_RSTATE [r.val] → slotCycle s r = true →
    s.active = false ∨ s.reduced = true ∨ (s.blst[r].slot = some false ∧ s.rd R.ring_HUSH_EN [r.val] = 1 ∧ convPer s r ≤ s.spar.period) →
    (s.spar.period = convPer s r ∧ (s.rd R.ring_HUSH_EN [r.val] = 0 ∨ s.blst[r].slot.isSome = true)) ∨
      (s.spar.period = convPer s r + 32 ∧ s.blst[r].conv = true) ∨
      (s.spar.period + 56 = convPer s r ∧ s.rd R.ring_HUSH_EN [r.val] = 1) →
    Gives (.measurementSlot r) s (fun t => t.blst[r].tx = [])) ∧
  (∀ (r : Fin 2) (blocks : List (List Byte)) (mv : List (Nat × List Nat)) (s : State),
    s.runs 360 = false ∨ s.blst[r].reading = false ∨ s.rd R.ring_RSTATE [r.val] < 2 →
    Gives (.slotReadingsDone r blocks mv) s (fun t => t = s))

/-- O49 (tier 2). TXREQ makes an idle transmit object PENDING, or is refused with 0x0102 on a bad DLC or remote FD
frame. CANCEL makes a pending object CANCELLED and holds on an active one. At the start of arbitration the object
that wins by identifier, or by number with TXP = 1, becomes ACTIVE. Losing arbitration makes it CANCELLED, FAILED or
PENDING as CPEND and SS stand; success makes it SENT with TEC one lower. NEWDAT and the counters are cleared by
writes, and EN = 0 takes effect at once on an idle bus and else at the end of the frame. A listening mode sends
nothing. Without a bus to take part in, or an object that is sent, these events change nothing (R511-R516, R518,
R520, R521). -/
def Obligations.CanObjectsAreRequestedAndSent : Prop :=
  (∀ (w : World) (c : Fin 4) (o : Fin 128) (s : State), s.canWrite w (objPage c o) = true →
    Gives (.txreq w c o) s (fun t =>
      (s.rd R.obj_DIR [c.val, o.val] = 1 → objState s c o ≠ 1 → objState s c o ≠ 2 →
        ((s.rd R.obj_DLC [c.val, o.val] ≤ 8 ∨ s.rd R.obj_FDF [c.val, o.val] = 1) →
          (s.rd R.obj_RTR [c.val, o.val] = 0 ∨ s.rd R.obj_FDF [c.val, o.val] = 0) →
          objState t c o = 1 ∧ OnlyRegs s t [R.obj_STATE.key [c.val, o.val]]) ∧
        ((8 < s.rd R.obj_DLC [c.val, o.val] ∧ s.rd R.obj_FDF [c.val, o.val] = 0) ∨
          (s.rd R.obj_RTR [c.val, o.val] = 1 ∧ s.rd R.obj_FDF [c.val, o.val] = 1) →
          t.rd R.hdr_CODE [canPage c] = 0x0102 ∧
          OnlyRegs s t [R.hdr_CODE.key [canPage c], R.hdr_COUNT.key [canPage c], R.hdr_ERR.key [canPage c]])) ∧
      (s.rd R.obj_DIR [c.val, o.val] ≠ 1 ∨ objState s c o = 1 ∨ objState s c o = 2 → t = s)) ∧
    Gives (.canCancel w c o) s (fun t =>
      (s.rd R.obj_DIR [c.val, o.val] = 1 → objState s c o = 1 → objState t c o = 4 ∧
        bitB (t.rd R.hdr_IRQ_RAW [canPage c]) 2 = true ∧
        OnlyRegs s t [R.obj_STATE.key [c.val, o.val], R.hdr_IRQ_RAW.key [canPage c]]) ∧
      (s.rd R.obj_DIR [c.val, o.val] = 1 → objState s c o = 2 → t.rd R.obj_CPEND [c.val, o.val] = 1 ∧
        OnlyRegs s t [R.obj_CPEND.key [c.val, o.val]]) ∧
      (s.rd R.obj_DIR [c.val, o.val] ≠ 1 ∨ (objState s c o ≠ 1 ∧ objState s c o ≠ 2) → t = s)) ∧
    Gives (.newdatClear w c o) s (fun t =>
      (s.rd R.obj_DIR [c.val, o.val] = 2 → t.rd R.obj_NEWDAT [c.val, o.val] = 0 ∧
        OnlyRegs s t [R.obj_NEWDAT.key [c.val, o.val]]) ∧
      (s.rd R.obj_DIR [c.val, o.val] ≠ 2 → t = s))) ∧
  (∀ (c : Fin 4) (o : Fin 128) (s : State), choose s c = some o → o ∈ sendable s c ∧
    (s.rd R.can_TXP [c.val] = 0 → ∀ x, x ∈ sendable s c → arbKey s c o < arbKey s c x ∨ (arbKey s c o = arbKey s c x ∧ o ≤ x)) ∧
    (s.rd R.can_TXP [c.val] = 1 → ∀ x, x ∈ sendable s c → o ≤ x)) ∧
  (∀ (c : Fin 4) (s : State), canOn s c = true → s.can[c].busy = false → s.can[c].mode = 0 → s.can[c].off = false →
    Gives (.arbitrationStart c) s (fun t => t.can[c].busy = true ∧ t.can[c].sofCycle = s.spar.cycle ∧
      t.can[c].sofPeriod = s.spar.period ∧
      (∀ o, choose s c = some o → objState t c o = 2 ∧ t.can[c].cur = some o ∧ RegsBut s t [R.obj_STATE.key [c.val, o.val]]) ∧
      (choose s c = none → t.can[c].cur = s.can[c].cur ∧ t.regs = s.regs) ∧
      (∀ c' : Fin 4, c' ≠ c → t.can[c'] = s.can[c']) ∧ { t with regs := s.regs, can := s.can } = s)) ∧
  (∀ (c : Fin 4) (o : Fin 128) (s : State), s.can[c].cur = some o →
    Gives (.arbitrationLost c) s (fun t => t.can[c] = { s.can[c] with cur := none } ∧ t.rd R.obj_CPEND [c.val, o.val] = 0 ∧
      (s.rd R.obj_CPEND [c.val, o.val] = 1 → objState t c o = 4 ∧ bitB (t.rd R.hdr_IRQ_RAW [canPage c]) 2 = true) ∧
      (s.rd R.obj_CPEND [c.val, o.val] = 0 → s.rd R.obj_SS [c.val, o.val] = 1 → objState t c o = 5 ∧
        bitB (t.rd R.hdr_IRQ_RAW [canPage c]) 3 = true) ∧
      (s.rd R.obj_CPEND [c.val, o.val] = 0 → s.rd R.obj_SS [c.val, o.val] = 0 → objState t c o = 1) ∧
      RegsBut s t [R.obj_CPEND.key [c.val, o.val], R.obj_STATE.key [c.val, o.val], R.hdr_IRQ_RAW.key [canPage c]] ∧
      { t with regs := s.regs, can := s.can } = s)) ∧
  (∀ (c : Fin 4) (o : Fin 128) (s : State), s.can[c].cur = some o → s.can[c].off = false →
    Gives (.canTxSuccess c) s (fun t => objState t c o = 3 ∧ t.rd R.obj_CPEND [c.val, o.val] = 0 ∧ t.rd R.can_LEC [c.val] = 0 ∧
      t.rd R.can_TEC [c.val] = s.rd R.can_TEC [c.val] - 1 ∧ bitB (t.rd R.hdr_IRQ_RAW [canPage c]) 1 = true ∧
      t.can[c] = { s.can[c] with busy := false, cur := none } ∧
      (s.rd R.can_SELF_RX [c.val] = 0 → t.freeCtr = s.freeCtr) ∧
      { t with regs := s.regs, can := s.can, freeCtr := s.freeCtr } = s)) ∧
  (∀ (w : World) (c : Fin 4) (s : State), s.canWrite w (canPage c) = true →
    Gives (.canCntClr w c) s (fun t => t.rd R.can_RX_LOST [c.val] = 0 ∧ t.rd R.can_BO_CNT [c.val] = 0 ∧
      OnlyRegs s t [R.can_RX_LOST.key [c.val], R.can_BO_CNT.key [c.val]]) ∧
    (s.rd R.hdr_EN [canPage c] = 1 → Gives (.canDisable w c) s (fun t =>
      (s.can[c].busy = true → t.can[c] = { s.can[c] with off := true } ∧ { t with can := s.can } = s) ∧
      (s.can[c].busy = false → t.rd R.hdr_EN [canPage c] = 0 ∧ t.rd R.can_INTEG [c.val] = 1 ∧ t.rd R.can_ROM_ACT [c.val] = 0 ∧
        t.can[c] = CanS.reset ∧ RegsIn s t (0x170000 + 0x4000 * c.val) (0x174000 + 0x4000 * c.val) ∧
        { t with regs := s.regs, can := s.can, arms := s.arms } = s) ∧
      (∀ c' : Fin 4, c' ≠ c → t.can[c'] = s.can[c'])))) ∧
  (∀ (c : Fin 4) (s : State), canOn s c = true → s.can[c].busy = false → s.can[c].mode ≠ 0 ∨ s.can[c].off = true →
    Gives (.arbitrationStart c) s (fun t => t.can[c] = { s.can[c] with busy := true, sofCycle := s.spar.cycle, sofPeriod := s.spar.period } ∧
      (∀ c' : Fin 4, c' ≠ c → t.can[c'] = s.can[c']) ∧ { t with can := s.can } = s)) ∧
  (∀ (c : Fin 4) (s : State), canOn s c = false ∨ s.can[c].busy = true → Gives (.arbitrationStart c) s (fun t => t = s)) ∧
  (∀ (c : Fin 4) (s : State), s.can[c].cur = none →
    Gives (.arbitrationLost c) s (fun t => t = s) ∧ Gives (.canTxSuccess c) s (fun t => t = s)) ∧
  (∀ (c : Fin 4) (o : Fin 128) (s : State), s.can[c].cur = some o → s.can[c].off = true →
    Gives (.canTxSuccess c) s (fun t => t.rd R.hdr_EN [canPage c] = 0 ∧ t.rd R.can_INTEG [c.val] = 1 ∧ t.can[c] = CanS.reset ∧
      { t with regs := s.regs, can := s.can, freeCtr := s.freeCtr, arms := s.arms } = s)) ∧
  (∀ (w : World) (c : Fin 4) (s : State), s.canWrite w (canPage c) = true → s.rd R.hdr_EN [canPage c] = 0 →
    Gives (.canDisable w c) s (fun t => t = s))

/-- O50 (tier 2). A frame received without error goes whole into the receive object at RX_HEAD, which moves on, with OVW
on an overwrite; without room it is lost and counted. An error gives LEC; the transmitter counts it in TEC by 8 or
by 0 in the two cases of the standard, above 255 with bus-off, and the receiver in REC; a listening mode integrates
again; an FD frame while FDOE = 0 is a form error; a res bit with PXE = 1 is no error. Bus-off recovery starts by
BO_REC, refused with 0x0103 when not bus-off, and ends with both counters 0. At bus idle the wanted mode comes into
force. With EN = 0 asked for, each of these ends stops the controller. Off the bus, with an object being sent, or
not in recovery, a frame, an error or an end of recovery changes nothing (R509, R513, R516-R521). -/
def Obligations.CanErrorsAndReception : Prop :=
  (∀ (c : Fin 4) (f : CanFrame) (s : State), canOn s c = true → s.can[c].cur = none → (f.fdf = true → s.rd R.can_FDOE [c.val] = 1) →
    s.can[c].off = false →
    Gives (.canFrameRx c f) s (fun t => t.rd R.can_LEC [c.val] = 0 ∧ t.can[c] = { s.can[c] with busy := false, cur := none } ∧
      (s.can[c].mode = 0 → s.rd R.can_REC [c.val] < 128 → t.rd R.can_REC [c.val] = s.rd R.can_REC [c.val] - 1) ∧
      (s.can[c].mode ≠ 0 → t.rd R.can_REC [c.val] = s.rd R.can_REC [c.val]) ∧
      (∀ o, o ∈ rxObjs s c → s.rd R.can_RX_HEAD [c.val] = o.val →
        (s.rd R.obj_NEWDAT [c.val, o.val] = 1 → s.rd R.can_RX_MODE [c.val] = 0 →
          t.rd R.can_RX_LOST [c.val] = min (s.rd R.can_RX_LOST [c.val] + 1) 65535 ∧
          bitB (t.rd R.hdr_IRQ_RAW [canPage c]) 7 = true ∧ (∀ k : Fin 16,
            t.rd R.obj_DATA [c.val, o.val, k.val] = s.rd R.obj_DATA [c.val, o.val, k.val])) ∧
        (s.rd R.obj_NEWDAT [c.val, o.val] = 0 ∨ s.rd R.can_RX_MODE [c.val] = 1 →
          t.rd R.obj_NEWDAT [c.val, o.val] = 1 ∧ t.rd R.obj_OVW [c.val, o.val] = s.rd R.obj_NEWDAT [c.val, o.val] ∧
          t.rd R.obj_ID [c.val, o.val] = f.id % 2 ^ 29 ∧ t.rd R.obj_IDE [c.val, o.val] = b2n f.ide ∧
          t.rd R.obj_RTR [c.val, o.val] = b2n f.rtr ∧ t.rd R.obj_FDF [c.val, o.val] = b2n f.fdf ∧
          t.rd R.obj_DLC [c.val, o.val] = f.dlc % 16 ∧ t.rd R.obj_TS_CYCLE [c.val, o.val] = s.can[c].sofCycle % 2 ^ 32 ∧
          t.rd R.obj_WSEQ [c.val, o.val] = (s.rd R.obj_WSEQ [c.val, o.val] + 1) % 16 ∧
          (∀ k, f.rtr = false → k < dlcLen f.fdf f.dlc →
            bits (t.rd R.obj_DATA [c.val, o.val, k / 4]) (8 * (k % 4)) 8 = (f.data.getD k 0#8).toNat) ∧
          (∀ h, nextRx (rxObjs s c) o.val = some h → t.rd R.can_RX_HEAD [c.val] = h.val) ∧
          bitB (t.rd R.hdr_IRQ_RAW [canPage c]) 0 = true ∧
          (∀ o' : Fin 128, o' ≠ o → ∀ k : Fin 16, t.rd R.obj_DATA [c.val, o'.val, k.val] = s.rd R.obj_DATA [c.val, o'.val, k.val]))) ∧
      { t with regs := s.regs, can := s.can, freeCtr := s.freeCtr } = s)) ∧
  (∀ (c : Fin 4) (lec n : Nat) (nd arb : Bool) (o : Fin 128) (s : State), canOn s c = true → s.can[c].cur = some o →
    s.can[c].mode = 0 → s.can[c].off = false →
    Gives (.canError c (.bus lec nd arb) n) s (fun t =>
      let add := 8 * n + (if (lec = 3 ∧ s.rd R.can_FSTATE [c.val] = 1 ∧ nd = true) ∨ (lec = 1 ∧ arb = true) then 0 else 8)
      t.rd R.can_LEC [c.val] = lec % 8 ∧ t.rd R.can_TEC [c.val] = min (s.rd R.can_TEC [c.val] + add) 255 ∧
      t.can[c] = { s.can[c] with busy := false, cur := none } ∧
      (255 < s.rd R.can_TEC [c.val] + add → t.rd R.can_FSTATE [c.val] = 2 + s.rd R.can_ABO [c.val] ∧
        t.rd R.can_BO_CNT [c.val] = min (s.rd R.can_BO_CNT [c.val] + 1) 65535 ∧ bitB (t.rd R.hdr_IRQ_RAW [canPage c]) 5 = true) ∧
      (s.rd R.can_TEC [c.val] + add ≤ 255 → t.rd R.can_FSTATE [c.val] =
        b2n (decide (128 ≤ s.rd R.can_TEC [c.val] + add) || decide (128 ≤ s.rd R.can_REC [c.val]))) ∧
      (s.rd R.obj_CPEND [c.val, o.val] = 0 → s.rd R.obj_SS [c.val, o.val] = 0 → objState t c o = 1) ∧
      { t with regs := s.regs, can := s.can } = s)) ∧
  (∀ (c : Fin 4) (e : CanErr) (n : Nat) (s : State), canOn s c = true → s.can[c].off = false →
    ¬ (e = .resBit ∧ s.rd R.can_PXE [c.val] = 1) → ¬ (e = .fdfBit ∧ s.rd R.can_FDOE [c.val] = 1) →
    Gives (.canError c e n) s (fun t => t.rd R.can_LEC [c.val] = errLec e % 8 ∧ t.can[c].busy = false ∧
      (s.can[c].mode ≠ 0 → t.rd R.can_INTEG [c.val] = 1 ∧
        OnlyRegs s { t with can := s.can } [R.can_LEC.key [c.val], R.can_INTEG.key [c.val]]) ∧
      (s.can[c].mode = 0 → s.can[c].cur = none → t.rd R.can_REC [c.val] = min 255 (s.rd R.can_REC [c.val] + 1 + 8 * n)) ∧
      { t with regs := s.regs, can := s.can } = s)) ∧
  (∀ (c : Fin 4) (n : Nat) (s : State), canOn s c = true → s.can[c].off = false → s.rd R.can_PXE [c.val] = 1 →
    Gives (.canError c .resBit n) s (fun t => t.rd R.can_INTEG [c.val] = 1 ∧ t.rd R.can_LEC [c.val] = s.rd R.can_LEC [c.val] ∧
      t.rd R.can_TEC [c.val] = s.rd R.can_TEC [c.val] ∧ t.rd R.can_REC [c.val] = s.rd R.can_REC [c.val] ∧
      t.can[c] = { s.can[c] with busy := false, cur := none } ∧ { t with regs := s.regs, can := s.can } = s)) ∧
  (∀ (w : World) (c : Fin 4) (s : State), s.canWrite w (canPage c) = true →
    Gives (.boRec w c) s (fun t =>
      (s.rd R.can_FSTATE [c.val] = 2 → t.rd R.can_FSTATE [c.val] = 3 ∧ OnlyRegs s t [R.can_FSTATE.key [c.val]]) ∧
      (s.rd R.can_FSTATE [c.val] = 3 → t = s) ∧
      (s.rd R.can_FSTATE [c.val] < 2 → t.rd R.hdr_CODE [canPage c] = 0x0103 ∧
        OnlyRegs s t [R.hdr_CODE.key [canPage c], R.hdr_COUNT.key [canPage c], R.hdr_ERR.key [canPage c]]))) ∧
  (∀ (c : Fin 4) (s : State), s.rd R.can_FSTATE [c.val] = 3 →
    Gives (.busOffRecoveryDone c) s (fun t => t.rd R.can_FSTATE [c.val] = 0 ∧ t.rd R.can_TEC [c.val] = 0 ∧ t.rd R.can_REC [c.val] = 0 ∧
      bitB (t.rd R.hdr_IRQ_RAW [canPage c]) 6 = true ∧ OnlyRegs s t [R.can_FSTATE.key [c.val], R.can_TEC.key [c.val],
        R.can_REC.key [c.val], R.hdr_IRQ_RAW.key [canPage c]])) ∧
  (∀ (c : Fin 4) (s : State), s.runs (canPage c) = true → s.can[c].off = false →
    Gives (.canBusIdle c) s (fun t => t.can[c] = { s.can[c] with mode := modeWanted s c, busy := false } ∧
      t.rd R.can_INTEG [c.val] = 0 ∧ t.rd R.can_ROM_ACT [c.val] = b2n (modeWanted s c != 0) ∧
      RegsBut s t [R.can_INTEG.key [c.val], R.can_ROM_ACT.key [c.val]] ∧ { t with regs := s.regs, can := s.can } = s)) ∧
  (∀ (c : Fin 4) (f : CanFrame) (s : State), canOn s c = true → s.can[c].cur = none → (f.fdf = true → s.rd R.can_FDOE [c.val] = 1) →
    (∀ o, o ∈ rxObjs s c → s.rd R.can_RX_HEAD [c.val] ≠ o.val) → s.can[c].off = false →
    Gives (.canFrameRx c f) s (fun t => t.rd R.can_RX_LOST [c.val] = min (s.rd R.can_RX_LOST [c.val] + 1) 65535 ∧
      bitB (t.rd R.hdr_IRQ_RAW [canPage c]) 7 = true)) ∧
  (∀ (c : Fin 4) (f : CanFrame) (e : CanErr) (n : Nat) (s : State), canOn s c = true → s.can[c].off = true →
    let stops := fun (t : State) => t.rd R.hdr_EN [canPage c] = 0 ∧ t.rd R.can_INTEG [c.val] = 1 ∧ t.can[c] = CanS.reset ∧
      { t with regs := s.regs, can := s.can, freeCtr := s.freeCtr, arms := s.arms } = s
    (s.can[c].cur = none → (f.fdf = true → s.rd R.can_FDOE [c.val] = 1) → Gives (.canFrameRx c f) s stops) ∧
    (¬ (e = .fdfBit ∧ s.rd R.can_FDOE [c.val] = 1) → Gives (.canError c e n) s stops) ∧ Gives (.canBusIdle c) s stops) ∧
  (∀ (c : Fin 4) (f : CanFrame) (s : State), canOn s c = false ∨ s.can[c].cur.isSome = true →
    Gives (.canFrameRx c f) s (fun t => t = s)) ∧
  (∀ (c : Fin 4) (f : CanFrame) (s : State), canOn s c = true → s.can[c].cur = none → s.can[c].off = false → f.fdf = true →
    s.rd R.can_FDOE [c.val] = 0 →
    Gives (.canFrameRx c f) s (fun t => t.rd R.can_LEC [c.val] = 2 ∧ t.can[c].busy = false ∧
      (s.can[c].mode ≠ 0 → t.rd R.can_INTEG [c.val] = 1 ∧
        OnlyRegs s { t with can := s.can } [R.can_LEC.key [c.val], R.can_INTEG.key [c.val]]) ∧
      (s.can[c].mode = 0 → t.rd R.can_REC [c.val] = min 255 (s.rd R.can_REC [c.val] + 1)) ∧
      (∀ (o : Fin 128) (k : Fin 16), t.rd R.obj_DATA [c.val, o.val, k.val] = s.rd R.obj_DATA [c.val, o.val, k.val]) ∧
      { t with regs := s.regs, can := s.can } = s)) ∧
  (∀ (c : Fin 4) (e : CanErr) (n : Nat) (s : State), canOn s c = false ∨ (e = .fdfBit ∧ s.rd R.can_FDOE [c.val] = 1) →
    Gives (.canError c e n) s (fun t => t = s)) ∧
  (∀ (c : Fin 4) (s : State), s.rd R.can_FSTATE [c.val] ≠ 3 → Gives (.busOffRecoveryDone c) s (fun t => t = s)) ∧
  (∀ (c : Fin 4) (s : State), s.runs (canPage c) = false → Gives (.canBusIdle c) s (fun t => t = s))

/-- O51 (tier 2). START, by W0 or the channel's own world, takes the program at PC: a bad address ends the channel in
ERROR with its ECODE, a good instruction makes it RUN, and in hold-up the fetch waits; from another world it is
refused with 0x0100. STOP ends a waiting or idle-in-hand channel at once, and one with bytes to write after them.
FLAG and CNT_CLR act on their fields. LOOP counts down and jumps back, then goes on; WAIT waits; a met wait goes on,
one that is out of time ends with WAIT_TMO. SIGNAL writes, kicks, interrupts, and halts or goes on; it waits for
DRAM in hold-up. A channel told to stop stops at the end of its instruction. A busy channel is not started, and
where a channel is not at such an instruction or wait, nothing changes (R526, R528, R529, R535-R538, R540, R571). -/
def Obligations.ReelChannelsStartStopAndBranch : Prop :=
  (∀ (w : World) (c : Fin 64) (e : Bool) (s : State), s.canWrite w (chPage c) = true → (w = 0 ∨ w.val = chWorld s c) → chBusy s c = false →
    s.runs 24 = true →
    Gives (.reelStart w c e) s (fun t =>
      let pc := s.rd R.rch_PC_HI [c.val] * 2 ^ 32 + s.rd R.rch_PC_LO [c.val]
      chPc t c = pc ∧ t.rd R.rch_LAST_LEN [c.val] = 0 ∧ t.reel[c].move = none ∧ t.reel[c].wait = none ∧
      t.reel[c].lact0 = false ∧ t.reel[c].lact1 = false ∧
      (pc % 16 ≠ 0 → chState t c = 4 ∧ t.rd R.rch_ECODE [c.val] = 2) ∧
      (pc % 16 = 0 → inDram pc = false → chState t c = 4 ∧ t.rd R.rch_ECODE [c.val] = 3) ∧
      (pc % 16 = 0 → inDram pc = true → s.reduced = false → e = true → chState t c = 4 ∧ t.rd R.rch_ECODE [c.val] = 4) ∧
      (chState t c = 4 → bitB (t.rd R.hdr_IRQ_RAW [chPage c]) (16 + c.val % 16) = true) ∧
      (pc % 16 = 0 → inDram pc = true → s.reduced = true → chState t c = 1 ∧ t.reel[c].line = none) ∧
      (pc % 16 = 0 → inDram pc = true → s.reduced = false → e = false →
        t.reel[c].line = some (pc / 64 * 64, (List.range 64).map (fun i => reelByte s (chWorld s c) (pc / 64 * 64 + i))) ∧
        (instrError (chInstr t c 0) (chInstr t c 1) (chInstr t c 2) (chInstr t c 3) = none →
          chState t c = 1 ∧ t.rd R.rch_ECODE [c.val] = 0)) ∧
      { t with regs := s.regs, reel := s.reel } = s)) ∧
  (∀ (w : World) (c : Fin 64) (e : Bool) (s : State), s.canWrite w (chPage c) = true →
    (w ≠ 0 → w.val ≠ chWorld s c → Gives (.reelStart w c e) s (fun t => t.rd R.hdr_CODE [chPage c] = 0x0100 ∧
      OnlyRegs s t [R.hdr_CODE.key [chPage c], R.hdr_COUNT.key [chPage c], R.hdr_ERR.key [chPage c]])) ∧
    Gives (.reelStop w c) s (fun t =>
      (chState s c = 2 ∨ (chState s c = 1 ∧ ∀ p, chPiece s c = some p → p.buf.length ≤ p.put) → chState t c = 5 ∧
        t.reel[c].move = none ∧ t.reel[c].wait = none ∧
        (∀ m, s.reel[c].move = some m → t.rd R.rch_LAST_LEN [c.val] = mvMoved m % 2 ^ 32) ∧
        RegsBut s t [R.rch_STATE.key [c.val], R.rch_LAST_LEN.key [c.val], R.reel_ACT_VALID.key []]) ∧
      (∀ p, chState s c = 1 → chPiece s c = some p → p.put < p.buf.length → t.reel[c] = { s.reel[c] with stopping := true } ∧
        t.regs = s.regs) ∧
      (chBusy s c = false → t = s) ∧ { t with regs := s.regs, reel := s.reel } = s) ∧
    Gives (.reelFlag w c) s (fun t => t.rd R.rch_FLAGGED [c.val] = 1 ∧ OnlyRegs s t [R.rch_FLAGGED.key [c.val]]) ∧
    Gives (.reelCntClr w c) s (fun t => t.rd R.rch_SPLITS [c.val] = 0 ∧ t.rd R.rch_PREEMPT [c.val] = 0 ∧ t.rd R.rch_BYTES [c.val] = 0 ∧
      OnlyRegs s t [R.rch_SPLITS.key [c.val], R.rch_PREEMPT.key [c.val], R.rch_BYTES.key [c.val]])) ∧
  (∀ (c : Fin 64) (e : Bool) (s : State), chAt s c 2 = true → s.reel[c].stopping = false → bitB (chInstr s c 0) 16 = false →
    Gives (.loop c e) s (fun t =>
      let count := bits (chInstr s c 0) 0 16
      let v := if s.reel[c].lact0 then s.rd R.rch_LCNT0 [c.val] else count
      let back := ((Int.ofNat (chPc s c) + 16 * sext 16 (chInstr s c 1)) % 2 ^ 40).toNat
      (count = 0xFFFF → chPc t c = back) ∧
      (count ≠ 0xFFFF → 0 < v → chPc t c = back ∧ t.rd R.rch_LCNT0 [c.val] = v - 1 ∧ t.reel[c].lact0 = true) ∧
      (count ≠ 0xFFFF → v = 0 → chPc t c = (chPc s c + 16) % 2 ^ 40 ∧ t.reel[c].lact0 = false) ∧
      t.reel[c].lact1 = s.reel[c].lact1 ∧ t.rd R.rch_LCNT1 [c.val] = s.rd R.rch_LCNT1 [c.val] ∧
      { t with regs := s.regs, reel := s.reel } = s)) ∧
  (∀ (c : Fin 64) (e : Bool) (s : State), chAt s c 2 = true → s.reel[c].stopping = false → bitB (chInstr s c 0) 16 = true →
    Gives (.loop c e) s (fun t =>
      let count := bits (chInstr s c 0) 0 16
      let v := if s.reel[c].lact1 then s.rd R.rch_LCNT1 [c.val] else count
      (count ≠ 0xFFFF → 0 < v → t.rd R.rch_LCNT1 [c.val] = v - 1 ∧ t.reel[c].lact1 = true) ∧
      (count ≠ 0xFFFF → v = 0 → chPc t c = (chPc s c + 16) % 2 ^ 40 ∧ t.reel[c].lact1 = false) ∧
      t.reel[c].lact0 = s.reel[c].lact0 ∧ t.rd R.rch_LCNT0 [c.val] = s.rd R.rch_LCNT0 [c.val] ∧
      { t with regs := s.regs, reel := s.reel } = s)) ∧
  (∀ (c : Fin 64) (s : State), chAt s c 3 = true →
    Gives (.wait c) s (fun t => chState t c = 2 ∧ OnlyRegs s { t with reel := s.reel } [R.rch_STATE.key [c.val]] ∧
      (∀ c' : Fin 64, c' ≠ c → t.reel[c'] = s.reel[c']) ∧ ∃ x, t.reel[c] = { s.reel[c] with wait := some x } ∧
        x.kind = bits (chInstr s c 0) 24 2 ∧ x.index = bits (chInstr s c 0) 0 8 ∧
        (x.kind = 3 → x.n = bits (chInstr s c 1) 0 16 ∧ x.tmo = none) ∧
        (x.kind ≠ 3 → x.tmo = if bits (chInstr s c 2) 0 16 = 0 then none else some (bits (chInstr s c 2) 0 16)))) ∧
  (∀ (c : Fin 64) (e : Bool) (x : WaitS) (s : State), s.reel[c].wait = some x → s.runs 24 = true → s.reel[c].stopping = false →
    Gives (.waitEnd c e) s (fun t =>
      (waitMet s c x = true → t.reel[c].wait = none ∧ chPc t c = (chPc s c + 16) % 2 ^ 40 ∧
        (x.kind = 2 → t.rd R.rch_FLAGGED [c.val] = 0)) ∧
      (waitMet s c x = false → x.tmo = some 0 → t.reel[c].wait = none ∧ chState t c = 4 ∧ t.rd R.rch_ECODE [c.val] = 5 ∧
        bitB (t.rd R.hdr_IRQ_RAW [chPage c]) (16 + c.val % 16) = true) ∧
      (waitMet s c x = false → x.tmo ≠ some 0 → t = s) ∧ { t with regs := s.regs, reel := s.reel } = s)) ∧
  (∀ (c : Fin 64) (e : Bool) (s : State), chAt s c 4 = true → s.reel[c].stopping = false →
    let w0 := chInstr s c 0
    let a := bits (chInstr s c 3) 0 8 * 2 ^ 32 + chInstr s c 1
    (bitB w0 25 = false ∨ (inDram a = true ∧ s.reduced = false) → Gives (.signal c e) s (fun t =>
      (bitB w0 24 = true → t.rd R.rch_FLAGGED [bits w0 0 6] = 1) ∧
      (bitB w0 27 = true → bitB (t.rd R.hdr_IRQ_RAW [chPage c]) (c.val % 16) = true) ∧
      (bitB w0 26 = true → chState t c = 3 ∧ t.reel[c].move = none ∧ t.reel[c].wait = none) ∧
      (bitB w0 26 = false → chPc t c = (chPc s c + 16) % 2 ^ 40) ∧
      (bitB w0 25 = false → t.dram = s.dram) ∧
      (bitB w0 25 = true → chWorld s c < 10 → ∀ k, k < 4 → dramOk s (chWorld s c) (a - 0x100000000 + k) true = true →
        memGet t.dram (a - 0x100000000 + k) = (leBytes 4 (chInstr s c 2)).getD k 0) ∧
      (∀ d, d < a - 0x100000000 ∨ a - 0x100000000 + 4 ≤ d → memGet t.dram d = memGet s.dram d) ∧
      { t with regs := s.regs, reel := s.reel, dram := s.dram } = s)) ∧
    (bitB w0 25 = true → inPages a = false → inDram a = false → Gives (.signal c e) s (fun t => chState t c = 4 ∧
      t.rd R.rch_ECODE [c.val] = 3 ∧ { t with regs := s.regs, reel := s.reel } = s)) ∧
    (bitB w0 25 = true → inDram a = true → s.reduced = true → Gives (.signal c e) s (fun t => t = s)) ∧
    (bitB w0 25 = true → inPages a = true → Gives (.signal c e) s (fun t => bitB w0 26 = true → chState t c = 3))) ∧
  (∀ (w : World) (c : Fin 64) (e : Bool) (s : State), s.canWrite w (chPage c) = true → (w = 0 ∨ w.val = chWorld s c) →
    chBusy s c = true ∨ s.runs 24 = false → Gives (.reelStart w c e) s (fun t => t = s)) ∧
  (∀ (c : Fin 64) (e : Bool) (s : State), s.reel[c].stopping = true →
    (chAt s c 2 = true → Gives (.loop c e) s (fun t => chState t c = 5)) ∧
    (∀ x, s.reel[c].wait = some x → s.runs 24 = true → waitMet s c x = true → Gives (.waitEnd c e) s (fun t => chState t c = 5)) ∧
    (chAt s c 4 = true → bitB (chInstr s c 0) 25 = false → bitB (chInstr s c 0) 26 = false →
      Gives (.signal c e) s (fun t => chState t c = 5))) ∧
  (∀ (c : Fin 64) (e : Bool) (s : State),
    (chAt s c 2 = false → Gives (.loop c e) s (fun t => t = s)) ∧ (chAt s c 3 = false → Gives (.wait c) s (fun t => t = s)) ∧
    (chAt s c 4 = false → Gives (.signal c e) s (fun t => t = s)) ∧
    (s.reel[c].wait = none ∨ s.runs 24 = false → Gives (.waitEnd c e) s (fun t => t = s)))

/-- O52 (tier 2). A MOVE takes its addresses and its length in bytes; without REQ its first burst begins at once, with
REQ the channel waits for its line; the waiting burst that has the line takes a piece as long as what the line
offers. A beat that reads DRAM puts the bytes the channel's world may read into the buffer and changes no memory; a
beat that writes DRAM stores the buffer's next bytes where that world may write and changes no other byte of memory;
a beat that reads a register page adds four bytes; an address outside pages and DRAM ends the channel with ECODE 3.
Where there is nothing to begin, no line, or no engine free, nothing changes (R525, R527, R530, R532-R534, R537). -/
def Obligations.ReelMovesBytes : Prop :=
  (∀ (c : Fin 64) (e : Bool) (s : State), chAt s c 1 = true →
    Gives (.move c 0 e) s (fun t =>
      let w0 := chInstr s c 0
      chSa t c = (if bitB w0 27 then bits (chInstr s c 3) 0 8 * 2 ^ 32 + chInstr s c 1 else chSa s c) ∧
      chDa t c = (if bitB w0 26 then bits (chInstr s c 3) 8 8 * 2 ^ 32 + chInstr s c 2 else chDa s c) ∧
      (∃ m, t.reel[c] = { s.reel[c] with move := some m } ∧ m.bsrc = chSa t c ∧ m.bdst = chDa t c ∧
        m.burst = 4 * (bits w0 16 6 + 1) ∧ m.line = bits (chInstr s c 3) 16 6 ∧
        (bitB w0 23 = true → chState t c = 2 ∧ m.piece = none ∧ m.left = 4 * (bits w0 0 16 + 1) ∧
          m.bleft = min m.burst (4 * (bits w0 0 16 + 1))) ∧
        (bitB w0 23 = false → chState t c = 1 ∧ ∃ p, m.piece = some p ∧ p.src = chSa t c ∧ p.dst = chDa t c ∧
          p.len = min m.burst (4 * (bits w0 0 16 + 1)) ∧ p.buf = [] ∧ p.put = 0 ∧ m.left + p.len = 4 * (bits w0 0 16 + 1))) ∧
      (∀ c' : Fin 64, c' ≠ c → t.reel[c'] = s.reel[c']) ∧
      RegsBut s t [R.rch_SA.key [c.val], R.rch_SA_HI.key [c.val], R.rch_DA.key [c.val], R.rch_DA_HI.key [c.val],
        R.rch_STATE.key [c.val]] ∧ { t with regs := s.regs, reel := s.reel } = s)) ∧
  (∀ (c : Fin 64) (e : Bool) (m : MoveS) (n : Nat) (fin : Bool) (s : State), s.reel[c].move = some m → m.piece = none →
    reelLine s m.line = some (n, fin) → 0 < n → waitsLine s c m.line = true → s.runs 24 = true → engineFree s c = true →
    (∀ d : Fin 64, d < c → waitsLine s d m.line = false) →
    Gives (.movePiece c 0 e) s (fun t => chState t c = 1 ∧ (m.line = 36 → t.brd.req = false) ∧
      (∃ p, chPiece t c = some p ∧ p.src = m.bsrc + m.boff ∧ p.dst = m.bdst + m.boff ∧ p.len = 4 * divCeil (min m.bleft n) 4 ∧
        p.offered = n ∧ p.fin = fin ∧ p.buf = [] ∧
        (p.len < m.bleft → t.rd R.rch_SPLITS [c.val] = min (s.rd R.rch_SPLITS [c.val] + 1) 65535)) ∧
      (∀ c' : Fin 64, c' ≠ c → t.reel[c'] = s.reel[c']) ∧ RegsBut s t [R.rch_STATE.key [c.val], R.rch_SPLITS.key [c.val]] ∧
      { t with regs := s.regs, reel := s.reel, brd := s.brd } = s)) ∧
  (∀ (c : Fin 64) (p : PieceS) (s : State), chPiece s c = some p → chReady s c = true → s.runs 24 = true → engineFree s c = true →
    p.buf.length < p.len → s.reel[c].stopping = false → inPages (p.src + p.buf.length) = false → inDram (p.src + p.buf.length) = true →
    ∀ i : Instr, i = .move c 1 false ∨ i = .movePiece c 1 false →
    Gives i s (fun t => chPiece t c = some { p with
        buf := p.buf ++ (List.range (beatLen p (p.src + p.buf.length) (p.len - p.buf.length))).map
          (fun k => reelByte s (chWorld s c) (p.src + p.buf.length + k)) } ∧
      t.rd R.reel_BEATS [] = (s.rd R.reel_BEATS [] + 1) % 2 ^ 32 ∧ t.rd R.reel_ACT_VALID [] = 1 ∧ t.rd R.reel_ACT_CH [] = c.val ∧
      { t with regs := s.regs, reel := s.reel } = s)) ∧
  (∀ (c : Fin 64) (p : PieceS) (s : State), chPiece s c = some p → chReady s c = true → s.runs 24 = true → engineFree s c = true →
    p.len ≤ p.buf.length ∨ s.reel[c].stopping = true → inPages (p.dst + p.put) = false → inDram (p.dst + p.put) = true →
    ∀ i : Instr, i = .move c 1 false ∨ i = .movePiece c 1 false →
    Gives i s (fun t =>
      let n := beatLen p (p.dst + p.put) (p.buf.length - p.put)
      let d0 := p.dst + p.put - 0x100000000
      (chWorld s c < 10 → ∀ k, k < n → p.put + k < p.buf.length → dramOk s (chWorld s c) (d0 + k) true = true →
        memGet t.dram (d0 + k) = p.buf.getD (p.put + k) 0) ∧
      (∀ d, d < d0 ∨ d0 + n ≤ d ∨ dramOk s (chWorld s c) d true = false → memGet t.dram d = memGet s.dram d) ∧
      t.rd R.rch_BYTES [c.val] = (s.rd R.rch_BYTES [c.val] + n) % 2 ^ 32 ∧
      { t with regs := s.regs, reel := s.reel, dram := s.dram } = s)) ∧
  (∀ (c : Fin 64) (p : PieceS) (s : State), chPiece s c = some p → chReady s c = true → s.runs 24 = true → engineFree s c = true →
    p.buf.length < p.len → s.reel[c].stopping = false → inPages (p.src + p.buf.length) = false → inDram (p.src + p.buf.length) = false →
    Gives (.move c 1 false) s (fun t => chState t c = 4 ∧ t.rd R.rch_ECODE [c.val] = 3 ∧ t.reel[c].move = none ∧
      { t with regs := s.regs, reel := s.reel } = s)) ∧
  (∀ (c : Fin 64) (p : PieceS) (s : State), chPiece s c = some p → chReady s c = true → s.runs 24 = true → engineFree s c = true →
    p.buf.length < p.len → s.reel[c].stopping = false → inPages (p.src + p.buf.length) = true →
    ∀ i : Instr, i = .move c 1 false ∨ i = .movePiece c 1 false →
    Gives i s (fun t => ∃ b : List Byte, b.length = 4 ∧ chPiece t c = some { p with buf := p.buf ++ b })) ∧
  (∀ (c : Fin 64) (n : Nat) (e : Bool) (s : State), chAt s c 1 = false →
    n = 0 ∨ s.runs 24 = false ∨ engineFree s c = false ∨ chReady s c = false → Gives (.move c n e) s (fun t => t = s)) ∧
  (∀ (c : Fin 64) (n : Nat) (e : Bool) (s : State), s.reel[c].move = none ∨
      (∃ p, chPiece s c = some p ∧ (n = 0 ∨ s.runs 24 = false ∨ engineFree s c = false ∨ chReady s c = false)) ∨
      (∃ m, s.reel[c].move = some m ∧ m.piece = none ∧ (reelLine s m.line = none ∨ waitsLine s c m.line = false ∨
        s.runs 24 = false ∨ engineFree s c = false ∨ (∃ d : Fin 64, d < c ∧ waitsLine s d m.line = true))) →
    Gives (.movePiece c n e) s (fun t => t = s))

/-- O53 (tier 2). A job that may start runs with the result its OP has: HASH, HMAC and GCM write their output, a failed
tag gives AUTH_FAIL and writes nothing, SIGN and VERIFY use the key of a slot or of DST, KEYGEN, ECDH, KDF, IMPORT
and UNWRAP give material for the destination slot, WRAP writes the blob, RANDOM and PUBREAD fill DST. A job that
needs random values while the source has failed ends with RNG_FAIL, one whose slots are not allowed is DENIED, one
with reserved fields or an unknown algorithm is BAD_JOB, and all of these write nothing; no register changes but
VIOL of the world, and that not where every byte lies within its grant; a command for no such job changes nothing.
Values the random source gives are free values (R546, R547, R551, R555-R557). -/
def Obligations.CryptoJobsGiveTheirResults : Prop :=
  (∀ (w : Fin 3) (i : Nat) (j : Job) (s : State),
    (JobReady s w i 1 j → algBytes j.alg ≤ j.dstLen → Gives (.hash w i) s (fun t =>
      let d := (Config.digest j.alg (jobSrc s j)).take (algBytes j.alg)
      JobRan s t j ⟨0, d.length, none⟩ d ∧ t.freeCtr = s.freeCtr)) ∧
    (JobReady s w i 2 j → jobSlot s w.val j.k1 [3 + j.alg] 2 = true →
      let tag := (Config.hmac j.alg (slotMat s j.k1) (jobSrc s j)).take (algBytes j.alg)
      (j.mode = 0 → algBytes j.alg ≤ j.dstLen → Gives (.hmac w i) s (fun t => JobRan s t j ⟨0, tag.length, none⟩ tag)) ∧
      (j.mode = 1 → j.auxLen = algBytes j.alg → Gives (.hmac w i) s (fun t =>
        JobRan s t j ⟨if tag = jobAux s j then 0 else 2, 0, none⟩ []))) ∧
    (JobReady s w i 3 j → 12 ≤ j.auxLen → j.srcLen + 16 ≤ j.dstLen → jobSlot s w.val j.k1 [1 + j.alg] 0 = true →
      Gives (.gcmEnc w i) s (fun t =>
        let d := Config.gcmSeal (slotMat s j.k1) ((jobAux s j).take 12) ((jobAux s j).drop 12) (jobSrc s j)
        JobRan s t j ⟨0, d.length, none⟩ d)) ∧
    (JobReady s w i 4 j → 12 ≤ j.auxLen → 16 ≤ j.srcLen → j.srcLen - 16 ≤ j.dstLen → jobSlot s w.val j.k1 [1 + j.alg] 1 = true →
      Gives (.gcmDec w i) s (fun t =>
        let r := Config.gcmOpen (slotMat s j.k1) ((jobAux s j).take 12) ((jobAux s j).drop 12)
          ((jobSrc s j).take (j.srcLen - 16)) ((jobSrc s j).drop (j.srcLen - 16))
        (r = none → JobRan s t j ⟨2, 0, none⟩ []) ∧ (∀ d, r = some d → JobRan s t j ⟨0, d.length, none⟩ d)))) ∧
  (∀ (w : Fin 3) (i : Nat) (j : Job) (s : State),
    (JobReady s w i 5 j → j.srcLen = algBytes j.alg → 2 * algBytes j.alg ≤ j.dstLen → jobSlot s w.val j.k1 [5 + j.alg] 2 = true →
      s.key.rngBad = false → Gives (.sign w i) s (fun t =>
        let d := Config.ecSign j.alg (privOf j.alg (slotMat s j.k1)) (jobSrc s j) (s.free 384)
        JobRan s t j ⟨0, d.length, none⟩ d ∧ t.freeCtr = s.freeCtr + 1)) ∧
    (JobReady s w i 6 j → j.srcLen = algBytes j.alg → j.auxLen = 2 * algBytes j.alg →
      (j.k1 = 0xFFFF ∧ j.dstLen = 2 * algBytes j.alg) ∨ (j.k1 ≠ 0xFFFF ∧ jobSlot s w.val j.k1 [5 + j.alg, 7 + j.alg] 3 = true) →
      let pub := if j.k1 = 0xFFFF then worldBytes s w.val j.dst j.dstLen else pubOfSlot s j.k1
      Gives (.verify w i) s (fun t => JobRan s t j
        ⟨if Config.onCurve j.alg pub then (if Config.ecVerify j.alg pub (jobSrc s j) (jobAux s j) then 0 else 2) else 4, 0, none⟩ [])) ∧
    (JobReady s w i 7 j → destSlot s w.val j.k2 [1, 2, 3, 4, 9, 10, 11, 12] = true → s.key.rngBad = false →
      Gives (.keygen w i) s (fun t => JobRan s t j
        ⟨0, 0, some (j.k2, randomBytes s (typeBytes (s.rd R.slot_TYPE [j.k2])))⟩ [] ∧ t.freeCtr = s.freeCtr + 1)) ∧
    (JobReady s w i 7 j → destSlot s w.val j.k2 [5] = true → 64 ≤ j.dstLen → s.key.rngBad = false →
      Gives (.keygen w i) s (fun t =>
        let p := (Config.pubOf 0 (randomBytes s 32)).take 64
        JobRan s t j ⟨0, p.length, some (j.k2, randomBytes s 32 ++ p)⟩ p)) ∧
    (JobReady s w i 7 j → destSlot s w.val j.k2 [6] = true → 96 ≤ j.dstLen → s.key.rngBad = false →
      Gives (.keygen w i) s (fun t =>
        let p := (Config.pubOf 1 (randomBytes s 48)).take 96
        JobRan s t j ⟨0, p.length, some (j.k2, randomBytes s 48)⟩ p)) ∧
    (JobReady s w i 8 j → j.srcLen = 2 * algBytes j.alg → jobSlot s w.val j.k1 [5 + j.alg] 4 = true →
      destSlot s w.val j.k2 [3, 4] = true → Gives (.ecdh w i) s (fun t =>
        (Config.onCurve j.alg (jobSrc s j) = true → JobRan s t j ⟨0, 0, some (j.k2,
          Config.ecdh j.alg (privOf j.alg (slotMat s j.k1)) (jobSrc s j) (jobAux s j) (typeBytes (s.rd R.slot_TYPE [j.k2])))⟩ []) ∧
        (Config.onCurve j.alg (jobSrc s j) = false → JobRan s t j ⟨4, 0, none⟩ []))) ∧
    (JobReady s w i 9 j → j.mode ≤ 2 → jobSlot s w.val j.k1 [3, 4] 4 = true →
      destSlot s w.val j.k2 (if j.mode = 0 then [10, 11] else [1, 2, 3, 4, 9, 10, 11, 12]) = true →
      Gives (.kdf w i) s (fun t => JobRan s t j ⟨0, 0, some (j.k2,
        Config.kdf j.mode j.alg (slotMat s j.k1) (jobAux s j) (typeBytes (s.rd R.slot_TYPE [j.k2])))⟩ []))) ∧
  (∀ (w : Fin 3) (i : Nat) (j : Job) (s : State),
    (JobReady s w i 10 j → destSlot s w.val j.k2 [1, 2, 3, 4, 5, 6, 7, 8, 9, 10, 11, 12] = true → s.rd R.slot_ENGINE [j.k2] ≠ 2 →
      j.srcLen = typeBytes (s.rd R.slot_TYPE [j.k2]) →
      Gives (.importKey w i) s (fun t => JobRan s t j ⟨0, 0, some (j.k2, jobSrc s j)⟩ [])) ∧
    (JobReady s w i 11 j → jobSlot s w.val j.k1 [1, 2, 3, 4, 5, 6, 7, 8, 9, 10, 11, 12] 6 = true → jobSlot s w.val j.k2 [2] 5 = true →
      36 + (slotMat s j.k1).length ≤ j.dstLen → s.key.rngBad = false → Gives (.wrap w i) s (fun t =>
        let words := leBytes 4 (slotWord0 s j.k1) ++ leBytes 4 (slotWord1 s j.k1)
        let d := words ++ randomBytes s 12 ++ Config.gcmSeal (slotMat s j.k2) (randomBytes s 12) words (slotMat s j.k1)
        JobRan s t j ⟨0, d.length, none⟩ d)) ∧
    (JobReady s w i 12 j → j.srcLen = 36 + typeBytes (s.rd R.slot_TYPE [j.k2]) → jobSlot s w.val j.k1 [2] 5 = true →
      destSlot s w.val j.k2 [1, 2, 3, 4, 5, 6, 7, 8, 9, 10, 11, 12] = true →
      sameWords (leNat ((jobSrc s j).take 4)) (leNat (((jobSrc s j).drop 4).take 4)) (slotWord0 s j.k2) (slotWord1 s j.k2) = true →
      Gives (.unwrap w i) s (fun t =>
        let b := jobSrc s j
        let r := Config.gcmOpen (slotMat s j.k1) ((b.drop 8).take 12) (b.take 8) ((b.drop 20).take (j.srcLen - 36)) (b.drop (j.srcLen - 16))
        (r = none → JobRan s t j ⟨2, 0, none⟩ []) ∧ (∀ m, r = some m → JobRan s t j ⟨0, 0, some (j.k2, m)⟩ []))) ∧
    (JobReady s w i 13 j → s.key.rngBad = false →
      Gives (.random w i) s (fun t => JobRan s t j ⟨0, j.dstLen, none⟩ (randomBytes s j.dstLen) ∧ t.freeCtr = s.freeCtr + 1)) ∧
    (JobReady s w i 14 j → jobSlot s w.val j.k1 [5, 6, 7, 8] 8 = true → (pubOfSlot s j.k1).length ≤ j.dstLen →
      Gives (.pubread w i) s (fun t => JobRan s t j ⟨0, (pubOfSlot s j.k1).length, none⟩ (pubOfSlot s j.k1)))) ∧
  (∀ (w : Fin 3) (i : Nat) (j : Job) (s : State), ∀ x, x ∈ [(1, Instr.hash w i), (2, .hmac w i), (3, .gcmEnc w i), (4, .gcmDec w i),
      (5, .sign w i), (6, .verify w i), (7, .keygen w i), (8, .ecdh w i), (9, .kdf w i), (10, .importKey w i), (11, .wrap w i),
      (12, .unwrap w i), (13, .random w i), (14, .pubread w i)] →
    (jobAt s w.val i = some j → j.op = x.1 → mayStart s j = true → j.resv = true ∨ 1 < j.alg →
      Gives x.2 s (fun t => JobRan s t j ⟨3, 0, none⟩ [])) ∧
    (jobAt s w.val i = some j → j.op ≠ x.1 ∨ mayStart s j = false → Gives x.2 s (fun t => t = s)) ∧
    (jobAt s w.val i = none → Gives x.2 s (fun t => t = s))) ∧
  (∀ (w : Fin 3) (i : Nat) (j : Job) (s : State),
    (JobReady s w i 2 j → j.mode = 0 → algBytes j.alg ≤ j.dstLen → jobSlot s w.val j.k1 [3 + j.alg] 2 = false →
      Gives (.hmac w i) s (fun t => JobRan s t j ⟨1, 0, none⟩ [])) ∧
    (JobReady s w i 3 j → 12 ≤ j.auxLen → j.srcLen + 16 ≤ j.dstLen → jobSlot s w.val j.k1 [1 + j.alg] 0 = false →
      Gives (.gcmEnc w i) s (fun t => JobRan s t j ⟨1, 0, none⟩ [])) ∧
    (JobReady s w i 4 j → 12 ≤ j.auxLen → 16 ≤ j.srcLen → j.srcLen - 16 ≤ j.dstLen → jobSlot s w.val j.k1 [1 + j.alg] 1 = false →
      Gives (.gcmDec w i) s (fun t => JobRan s t j ⟨1, 0, none⟩ [])) ∧
    (JobReady s w i 5 j → j.srcLen = algBytes j.alg → 2 * algBytes j.alg ≤ j.dstLen → jobSlot s w.val j.k1 [5 + j.alg] 2 = false →
      Gives (.sign w i) s (fun t => JobRan s t j ⟨1, 0, none⟩ [])) ∧
    (JobReady s w i 6 j → j.srcLen = algBytes j.alg → j.auxLen = 2 * algBytes j.alg → j.k1 ≠ 0xFFFF →
      jobSlot s w.val j.k1 [5 + j.alg, 7 + j.alg] 3 = false → Gives (.verify w i) s (fun t => JobRan s t j ⟨1, 0, none⟩ [])) ∧
    (JobReady s w i 7 j → destSlot s w.val j.k2 [1, 2, 3, 4, 5, 6, 9, 10, 11, 12] = false →
      Gives (.keygen w i) s (fun t => JobRan s t j ⟨1, 0, none⟩ [])) ∧
    (JobReady s w i 8 j → j.srcLen = 2 * algBytes j.alg →
      jobSlot s w.val j.k1 [5 + j.alg] 4 = false ∨ destSlot s w.val j.k2 [3, 4] = false →
      Gives (.ecdh w i) s (fun t => JobRan s t j ⟨1, 0, none⟩ [])) ∧
    (JobReady s w i 9 j → j.mode ≤ 2 → jobSlot s w.val j.k1 [3, 4] 4 = false →
      Gives (.kdf w i) s (fun t => JobRan s t j ⟨1, 0, none⟩ [])) ∧
    (JobReady s w i 10 j → s.rd R.slot_ENGINE [j.k2] = 2 → Gives (.importKey w i) s (fun t => JobRan s t j ⟨1, 0, none⟩ [])) ∧
    (JobReady s w i 11 j → jobSlot s w.val j.k2 [2] 5 = false → Gives (.wrap w i) s (fun t => JobRan s t j ⟨1, 0, none⟩ [])) ∧
    (JobReady s w i 12 j → 36 ≤ j.srcLen → jobSlot s w.val j.k1 [2] 5 = false →
      Gives (.unwrap w i) s (fun t => JobRan s t j ⟨1, 0, none⟩ [])) ∧
    (JobReady s w i 14 j → jobSlot s w.val j.k1 [5, 6, 7, 8] 8 = false →
      Gives (.pubread w i) s (fun t => JobRan s t j ⟨1, 0, none⟩ []))) ∧
  (∀ (w : Fin 3) (i : Nat) (j : Job) (s : State), s.key.rngBad = true →
    (JobReady s w i 5 j → j.srcLen = algBytes j.alg → 2 * algBytes j.alg ≤ j.dstLen → jobSlot s w.val j.k1 [5 + j.alg] 2 = true →
      Gives (.sign w i) s (fun t => JobRan s t j ⟨5, 0, none⟩ [])) ∧
    (JobReady s w i 7 j → destSlot s w.val j.k2 [1, 2, 3, 4, 9, 10, 11, 12] = true →
      Gives (.keygen w i) s (fun t => JobRan s t j ⟨5, 0, none⟩ [])) ∧
    (JobReady s w i 11 j → jobSlot s w.val j.k1 [1, 2, 3, 4, 5, 6, 7, 8, 9, 10, 11, 12] 6 = true → jobSlot s w.val j.k2 [2] 5 = true →
      36 + (slotMat s j.k1).length ≤ j.dstLen → Gives (.wrap w i) s (fun t => JobRan s t j ⟨5, 0, none⟩ [])) ∧
    (JobReady s w i 13 j → Gives (.random w i) s (fun t => JobRan s t j ⟨5, 0, none⟩ [])))

/-- O54 (tier 2). A job that has run completes: its material goes into its slot, which reads VALID; its completion entry
and the new count are written to the ring of its world as that world, and no other memory changes; it leaves the
engine; JOBS_DONE and the interrupt of its world advance. A job of a reserved OP completes with BAD_JOB; one that
has not run does not complete. A failed random source is noted with its interrupt (R547, R555-R557, R567). -/
def Obligations.JobsCompleteInTheirRing : Prop :=
  (∀ (w : Fin 3) (i : Nat) (j : Job) (o : JobOut) (s : State), jobAt s w.val i = some j →
    (j.out = some o ∨ (j.out = none ∧ (j.op = 0 ∨ 14 < j.op) ∧ mayStart s j = true ∧ o = ⟨3, 0, none⟩)) →
    Gives (.jobComplete w i) s (fun t =>
      let n := at3 s.key.comp w.val
      let at_ := s.rd R.jr_CR_BASE [w.val] + 16 * (n % jrSize s w.val)
      let cnt := s.rd R.jr_CR_BASE [w.val] + 16 * jrSize s w.val
      t.key.jobs = s.key.jobs.filter (fun k => k ≠ j) ∧ at3 t.key.comp w.val = (n + 1) % 2 ^ 32 ∧
      at3 t.key.irq w.val = (at3 s.key.irq w.val + 1) % 2 ^ 32 ∧
      t.rd R.key_JOBS_DONE [] = (s.rd R.key_JOBS_DONE [] + 1) % 2 ^ 32 ∧
      (∀ k m, o.slot = some (k, m) → slotMat t k = m ∧ t.rd R.slot_VALID [k] = 1) ∧
      (o.slot = none → t.key.mat = s.key.mat) ∧
      (∀ k, k < 16 → mayPut s w.val (at_ + k) = true → worldGet t w.val (at_ + k) = (completion j o).getD k 0) ∧
      (∀ k, k < 4 → mayPut s w.val (cnt + k) = true → worldGet t w.val (cnt + k) = (leBytes 4 (n + 1)).getD k 0) ∧
      (∀ a, (a < at_ ∨ at_ + 16 ≤ a) → (a < cnt ∨ cnt + 4 ≤ a) →
        memGet t.dram a = memGet s.dram a ∧ memGet t.sram0 a = memGet s.sram0 a ∧ memGet t.sram1 a = memGet s.sram1 a) ∧
      (o.status = 5 → bitB (t.rd R.hdr_IRQ_RAW [16]) 2 = true) ∧
      { t with regs := s.regs, key := s.key, dram := s.dram, sram0 := s.sram0, sram1 := s.sram1 } = s)) ∧
  (∀ (w : Fin 3) (i : Nat) (s : State), jobAt s w.val i = none ∨
      (∃ j, jobAt s w.val i = some j ∧ j.out = none ∧ ((1 ≤ j.op ∧ j.op ≤ 14) ∨ mayStart s j = false)) →
    Gives (.jobComplete w i) s (fun t => t = s)) ∧
  (∀ s : State, Gives .rngFail s (fun t => t.key = { s.key with rngBad := true } ∧ bitB (t.rd R.hdr_IRQ_RAW [16]) 2 = true ∧
    OnlyRegs s { t with key := s.key } [R.hdr_IRQ_RAW.key [16]]))

/-- O55 (tier 2). A write of a slot word sets its fields, and zeroises a valid slot where it changes TYPE, ENGINE or
UNIT or adds a right; K000 is refused with 0x0101 and a locked slot ignores it. CLR_GO zeroises slot CLR_SLOT,
locked or not. A region word sets its fields. LC_GO by W0 towards a later state with its code starts the burn, and
is refused with 0x0100 otherwise; the burn adds the fuse pattern of its target, and LC itself stays until a reset.
DBG_ARM by W0 arms debug; neither acts for another world, whose VIOL counts it where it holds no grant. No burn
under way: nothing changes (R543, R545, R548, R549, R559, R560, R562). -/
def Obligations.SlotsGrantsAndLifeCycle : Prop :=
  (∀ (w : World) (k : Fin 256) (v : Word) (s : State), s.canWrite w 17 = true →
    (∀ b, k = 0 → Gives (.slotAttributeWrite w k b v) s (fun t => t.rd R.hdr_CODE [16] = 0x0101 ∧
      OnlyRegs s t [R.hdr_CODE.key [16], R.hdr_COUNT.key [16], R.hdr_ERR.key [16]])) ∧
    (∀ b, k ≠ 0 → s.rd R.slot_LOCK [k.val] = 1 → Gives (.slotAttributeWrite w k b v) s (fun t => t = s)) ∧
    (k ≠ 0 → s.rd R.slot_LOCK [k.val] = 0 → Gives (.slotAttributeWrite w k false v) s (fun t =>
      let n := v.toNat
      t.rd R.slot_TYPE [k.val] = bits n 28 4 ∧ t.rd R.slot_LCMASK [k.val] = bits n 24 4 ∧ t.rd R.slot_WORLD [k.val] = bits n 14 10 ∧
      t.rd R.slot_DBG_OK [k.val] = bits n 13 1 ∧ t.rd R.slot_LOCK [k.val] = bits n 11 1 ∧ t.rd R.slot_USE [k.val] = bits n 0 9 ∧
      (s.rd R.slot_TYPE [k.val] ≠ bits n 28 4 ∨ setsBit (s.rd R.slot_USE [k.val]) (bits n 0 9) = true ∨
        setsBit (s.rd R.slot_WORLD [k.val]) (bits n 14 10) = true ∨ setsBit (s.rd R.slot_LCMASK [k.val]) (bits n 24 4) = true ∨
        setsBit (s.rd R.slot_DBG_OK [k.val]) (bits n 13 1) = true → t.rd R.slot_VALID [k.val] = 0 ∧
        (s.rd R.slot_VALID [k.val] = 1 → slotMat t k.val = [])) ∧
      (s.rd R.slot_TYPE [k.val] = bits n 28 4 → setsBit (s.rd R.slot_USE [k.val]) (bits n 0 9) = false →
        setsBit (s.rd R.slot_WORLD [k.val]) (bits n 14 10) = false → setsBit (s.rd R.slot_LCMASK [k.val]) (bits n 24 4) = false →
        setsBit (s.rd R.slot_DBG_OK [k.val]) (bits n 13 1) = false → t.rd R.slot_VALID [k.val] = s.rd R.slot_VALID [k.val] ∧
        t.key = s.key) ∧ { t with regs := s.regs, key := s.key } = s)) ∧
    (k ≠ 0 → s.rd R.slot_LOCK [k.val] = 0 → Gives (.slotAttributeWrite w k true v) s (fun t =>
      let n := v.toNat
      t.rd R.slot_ENGINE [k.val] = bits n 28 4 ∧ t.rd R.slot_UNIT [k.val] = bits n 22 6 ∧ t.rd R.slot_KEYID [k.val] = bits n 0 16 ∧
      (s.rd R.slot_ENGINE [k.val] ≠ bits n 28 4 ∨ s.rd R.slot_UNIT [k.val] ≠ bits n 22 6 → t.rd R.slot_VALID [k.val] = 0 ∧
        (s.rd R.slot_VALID [k.val] = 1 → slotMat t k.val = [])) ∧
      (s.rd R.slot_ENGINE [k.val] = bits n 28 4 → s.rd R.slot_UNIT [k.val] = bits n 22 6 →
        t.rd R.slot_VALID [k.val] = s.rd R.slot_VALID [k.val] ∧ t.key = s.key) ∧
      { t with regs := s.regs, key := s.key } = s))) ∧
  (∀ (w : World) (s : State), s.canWrite w 16 = true →
    Gives (.clrGo w) s (fun t =>
      (s.rd R.key_CLR_SLOT [] = 0 → t.rd R.hdr_CODE [16] = 0x0101 ∧
        OnlyRegs s t [R.hdr_CODE.key [16], R.hdr_COUNT.key [16], R.hdr_ERR.key [16]]) ∧
      (s.rd R.key_CLR_SLOT [] ≠ 0 → t.rd R.slot_VALID [s.rd R.key_CLR_SLOT []] = 0 ∧ slotMat t (s.rd R.key_CLR_SLOT []) = [] ∧
        (∀ k, k ≠ s.rd R.key_CLR_SLOT [] → slotMat t k = slotMat s k) ∧
        OnlyRegs s { t with key := s.key } [R.slot_VALID.key [s.rd R.key_CLR_SLOT []]]))) ∧
  (∀ (w : World) (r : Fin 16) (v : Word) (s : State), s.canWrite w 18 = true →
    Gives (.regionWrite w r 0 v) s (fun t => t.rd R.reg_BASE [r.val] = bits v.toNat 16 16 ∧ t.rd R.reg_SIZE [r.val] = bits v.toNat 0 16 ∧
      OnlyRegs s t [R.reg_BASE.key [r.val], R.reg_SIZE.key [r.val]]) ∧
    Gives (.regionWrite w r 1 v) s (fun t => t.rd R.reg_EN [r.val] = bits v.toNat 31 1 ∧ t.rd R.reg_RD [r.val] = bits v.toNat 0 10 ∧
      OnlyRegs s t [R.reg_EN.key [r.val], R.reg_RD.key [r.val]]) ∧
    Gives (.regionWrite w r 2 v) s (fun t => t.rd R.reg_WR [r.val] = bits v.toNat 0 10 ∧ OnlyRegs s t [R.reg_WR.key [r.val]]) ∧
    Gives (.regionWrite w r 3 v) s (fun t => t = s)) ∧
  (∀ s : State, s.canWrite 0 16 = true →
    Gives (.lcGo 0) s (fun t =>
      let g := s.rd R.key_LC_TARGET []
      (s.rd R.key_LC [] < g → s.rd R.key_LC_CODE [] = 0x5A → s.key.burn = none →
        t.key = { s.key with burn := some g } ∧ t.rd R.key_LC_BUSY [] = 1 ∧
        OnlyRegs s { t with key := s.key } [R.key_LC_BUSY.key []]) ∧
      (g ≤ s.rd R.key_LC [] ∨ s.rd R.key_LC_CODE [] ≠ 0x5A ∨ s.key.burn ≠ none → t.rd R.hdr_CODE [16] = 0x0100 ∧
        bitB (t.rd R.hdr_IRQ_RAW [16]) 1 = true ∧
        OnlyRegs s t [R.hdr_CODE.key [16], R.hdr_COUNT.key [16], R.hdr_ERR.key [16], R.hdr_IRQ_RAW.key [16]])) ∧
    Gives (.dbgArm 0) s (fun t => t.rd R.key_DBG_ARMED [] = 1 ∧ OnlyRegs s t [R.key_DBG_ARMED.key []])) ∧
  (∀ (w : World) (s : State), w ≠ 0 →
    Gives (.lcGo w) s (fun t => OnlyRegs s t [R.host_VIOL.key [w.val]]) ∧
    Gives (.dbgArm w) s (fun t => OnlyRegs s t [R.host_VIOL.key [w.val]])) ∧
  (∀ s : State,
    (∀ g, s.key.burn = some g → Gives .lcDone s (fun t =>
      t.key = { s.key with burn := none, fuse := s.key.fuse ||| lcPattern g } ∧ t.rd R.key_LC_BUSY [] = 0 ∧
      t.rd R.key_LC [] = s.rd R.key_LC [] ∧ bitB (t.rd R.hdr_IRQ_RAW [16]) 0 = true ∧
      OnlyRegs s { t with key := s.key } [R.key_LC_BUSY.key [], R.hdr_IRQ_RAW.key [16]])) ∧
    (s.key.burn = none → Gives .lcDone s (fun t => t = s)))

/-- O56 (tier 2). The loss of one ring supply is shown; the loss of the second starts the hold-up with its mark and the
TSTATE of that moment, and an active module releases its claim; a supply that returns ends it. HU_W0 and HU_W1, each
by its own world, complete the hold-up commits. The sources raise their bit: exhausted hold-up, brown-out, the
external pin, the debug unit while enabled, thermal shutdown once, an expired watchdog, which restarts, and software
at a level it may ask for, else 0x0102. A KICK by its own world restarts its watchdog, by another it is a violation.
A supply that is as the event says, a commit out of hold-up or by another world, and a watchdog that has not run out
change nothing (R394, R569-R575, R582, R583). -/
def Obligations.SuppliesAndSourcesRaiseResets : Prop :=
  (∀ (b : Bool) (s : State), s.rd (if b then R.pwr_B_OK else R.pwr_A_OK) [] = 1 →
    Gives (.ringSupplyLoss b) s (fun t =>
      t.rd (if b then R.pwr_B_OK else R.pwr_A_OK) [] = 0 ∧ bitB (t.rd R.hdr_IRQ_RAW [2]) (b2n b) = true ∧
      (s.rd (if b then R.pwr_A_OK else R.pwr_B_OK) [] = 1 ∨ s.reduced = true →
        OnlyRegs s t [(if b then R.pwr_B_OK else R.pwr_A_OK).key [], R.hdr_IRQ_RAW.key [2]]) ∧
      (s.rd (if b then R.pwr_A_OK else R.pwr_B_OK) [] = 0 → s.reduced = false → t.reduced = true ∧ t.rst.huAt = some s.now ∧
        t.teth.atLoss = tstate s ∧
        t.rst.huW0 = false ∧ t.rst.huW1 = false ∧ t.rd R.rst_CYC_MARK [] = s.spar.cycle % 2 ^ 32 ∧
        t.rd R.pwr_HU_COUNT [] = min (s.rd R.pwr_HU_COUNT [] + 1) 65535 ∧ bitB (t.rd R.hdr_IRQ_RAW [2]) 2 = true ∧
        (s.active = true → s.rd R.teth_PAIR_EN [] = 1 → s.teth.relTx = none → t.teth.relTx = some s.spar.serial)))) ∧
  (∀ (b : Bool) (s : State), s.rd (if b then R.pwr_B_OK else R.pwr_A_OK) [] = 0 →
    Gives (.ringSupplyGood b) s (fun t => t.rd (if b then R.pwr_B_OK else R.pwr_A_OK) [] = 1 ∧
      (s.reduced = true → t.reduced = false ∧ t.rd R.pwr_HU_DONE [] = 0 ∧ bitB (t.rd R.hdr_IRQ_RAW [2]) 3 = true ∧
        t.rst.huAt = none) ∧
      (s.reduced = false → OnlyRegs s t [(if b then R.pwr_B_OK else R.pwr_A_OK).key [], R.hdr_IRQ_RAW.key [2]]))) ∧
  (∀ s : State, s.reduced = true →
    (s.canWrite 0 2 = true → Gives (.huW0 0) s (fun t => t.rst.huW0 = true ∧ t.teth.lostState = s.teth.atLoss ∧
      (s.rst.huW1 = true → t.rd R.pwr_HU_DONE [] = 1) ∧ (s.rst.huW1 = false → t.regs = s.regs) ∧
      { t with regs := s.regs, teth := s.teth, rst := s.rst } = s)) ∧
    (s.canWrite 1 2 = true → Gives (.huW1 1) s (fun t => t.rst.huW1 = true ∧ (s.rst.huW0 = true → t.rd R.pwr_HU_DONE [] = 1) ∧
      (s.rst.huW0 = false → t.regs = s.regs) ∧ { t with regs := s.regs, rst := s.rst } = s))) ∧
  (∀ s : State,
    Gives .brownOut s (fun t => bitB t.rst.req 1 = true ∧ { t with rst := s.rst } = s) ∧
    Gives .extRst s (fun t => bitB t.rst.req 11 = true ∧ { t with rst := s.rst } = s) ∧
    Gives .holdupExhausted s (fun t => (s.reduced = true → bitB t.rst.req 2 = true) ∧ (s.reduced = false → t = s) ∧
      { t with rst := s.rst } = s) ∧
    Gives .debugReset s (fun t => (s.rd R.key_DEBUG_EN [] = 1 → bitB t.rst.req 9 = true) ∧
      (s.rd R.key_DEBUG_EN [] = 0 → t = s) ∧ { t with rst := s.rst } = s) ∧
    Gives .thermalShutdown s (fun t =>
      (s.rd R.thrm_SD_PEND [] = 1 → s.thrm.sdReq = false → s.thrm.sdAt + 2000000 ≤ s.now → bitB t.rst.req 7 = true ∧
        t.thrm = { s.thrm with sdReq := true }) ∧
      (s.rd R.thrm_SD_PEND [] = 0 ∨ s.thrm.sdReq = true ∨ s.now < s.thrm.sdAt + 2000000 → t = s) ∧
        { t with rst := s.rst, thrm := s.thrm } = s)) ∧
  (∀ (td : List (Option Int)) (s : State), s.thrm.sdHold = true →
    Gives (.shutdownResetRelease td) s (fun t =>
      ((∀ k, k < 4 → ∃ v, td.getD k none = some v ∧ v ≤ sdLimit s k - 160) →
        t.thrm = { s.thrm with sdHold := false, sdReq := false } ∧ t.rd R.thrm_SD_PEND [] = 0) ∧
      ((∃ k, k < 4 ∧ ∀ v, td.getD k none = some v → sdLimit s k - 160 < v) → t = s) ∧
      OnlyRegs s { t with thrm := s.thrm } [R.thrm_SD_PEND.key []])) ∧
  (∀ (k : Fin 3) (s : State),
    (wdgMs s k ≠ 0 → s.rst.wdg[k] = 0 → Gives (.watchdogExpiry k) s (fun t => bitB t.rst.req ([3, 5, 4].getD k.val 0) = true ∧
      t.rst.wdg[k] = wdgMs s k ∧ { t with rst := s.rst } = s)) ∧
    (wdgMs s k = 0 ∨ s.rst.wdg[k] ≠ 0 → Gives (.watchdogExpiry k) s (fun t => t = s))) ∧
  (∀ x, x ∈ [((0 : World), (0 : Fin 3), Instr.gKick), (1, 1, .bKick), (2, 2, .eKick)] → ∀ s : State,
    (s.canWrite x.1 1 = true → Gives (x.2.2 x.1) s (fun t => t.rst.wdg[x.2.1] = wdgMs s x.2.1 ∧
      (∀ k, k ≠ x.2.1 → t.rst.wdg[k] = s.rst.wdg[k]) ∧ { t with rst := s.rst } = s)) ∧
    (∀ w, w ≠ x.1 → Gives (x.2.2 w) s (fun t => OnlyRegs s t [R.host_VIOL.key [w.val]]))) ∧
  (∀ s : State, s.canWrite 0 1 = true →
    Gives (.swGo 0) s (fun t =>
      let v := s.rd R.rst_SW_LEVEL []
      let least := nearest [0, 1, 2] (bits s.rst.fuseMap 16 2)
      (v ≠ 3 → least ≤ v → t.rst.swLevel = v ∧ bitB t.rst.req 8 = true ∧ { t with rst := s.rst } = s) ∧
      (v = 3 ∨ v < least → t.rd R.hdr_CODE [1] = 0x0102 ∧
        OnlyRegs s t [R.hdr_CODE.key [1], R.hdr_COUNT.key [1], R.hdr_ERR.key [1]]))) ∧
  (∀ (b : Bool) (s : State),
    (s.rd (if b then R.pwr_B_OK else R.pwr_A_OK) [] = 0 → Gives (.ringSupplyLoss b) s (fun t => t = s)) ∧
    (s.rd (if b then R.pwr_B_OK else R.pwr_A_OK) [] = 1 → Gives (.ringSupplyGood b) s (fun t => t = s))) ∧
  (∀ (w : World) (s : State),
    (s.canWrite w 2 = true → w ≠ 0 ∨ s.reduced = false → Gives (.huW0 w) s (fun t => t = s)) ∧
    (s.canWrite w 2 = true → w ≠ 1 ∨ s.reduced = false → Gives (.huW1 w) s (fun t => t = s)) ∧
    (s.canWrite w 1 = true → w ≠ 0 → Gives (.swGo w) s (fun t => t = s))) ∧
  (∀ (td : List (Option Int)) (s : State), s.thrm.sdHold = false → Gives (.shutdownResetRelease td) s (fun t => t = s))

/-- O57 (tier 2). Accepting records every raised source and the lowest-numbered level among them, and at level 0 or 1
turns every safe output off; during the option load of a reset of the same or a lower-numbered level later sources
are merged into CAUSE. With nothing accepted HELD reads 0. A reset is applied when no hold is left, or at once after
brown-out or exhausted hold-up; until then HELD shows the holds. Levels 0 and 1 put every block into reset, clear
SRAM and DRAM and ask for the options, and level 1 keeps the meter accumulators; level 2 resets links, feeder, CAN
and the Envelope cores and keeps the rest; level 3 resets the Bremus cores and keeps their request ring. Power-on
acts as level 1; a failed reference or PLL halts the island or resets its blocks (R575-R579, R589, R595). -/
def Obligations.ResetsAreAcceptedAndApplied : Prop :=
  (∀ s : State, (s.rst.loading = false ∧ ∃ n, n < 12 ∧ bitB s.rst.req n = true) ∨
      (∃ n, n < 12 ∧ bitB s.rst.req n = true ∧ levelOf s n < s.rd R.rst_LAST_LEVEL []) →
    Gives .resetAccept s (fun t => t.rst.req = 0 ∧ t.rst.accSrc = s.rst.accSrc ||| s.rst.req ∧
      (∀ n, n < 12 → bitB s.rst.req n = true → levelOf s n ≤ 2 → ∃ a, t.rst.acc = some a ∧ a ≤ levelOf s n) ∧
      ((∃ n, n < 12 ∧ bitB s.rst.req n = true ∧ levelOf s n ≤ 1) → ∀ n : Fin 40, t.rd R.sout_CMD [n.val] = 0) ∧
      ((∃ n, n < 12 ∧ bitB s.rst.req n = true ∧ levelOf s n = 3) → t.rst.accB = true) ∧
      t.rd R.rst_HELD [] = holds t ∧ { t with regs := s.regs, rst := s.rst, safe := s.safe, teth := s.teth } = s)) ∧
  (∀ s : State, s.rst.loading = true → (∃ n, n < 12 ∧ bitB s.rst.req n = true) →
    (∀ n, n < 12 → bitB s.rst.req n = true → s.rd R.rst_LAST_LEVEL [] ≤ levelOf s n) →
    Gives .resetAccept s (fun t => t.rd R.rst_CAUSE [] = (s.rd R.rst_CAUSE [] ||| s.rst.req) % 2 ^ 12 ∧
      t.rst = { s.rst with req := 0 } ∧ RegsBut s t [R.rst_CAUSE.key [], R.sys_OPT_RESTARTS.key []] ∧
      { t with regs := s.regs, rst := s.rst } = s)) ∧
  (∀ s : State, (∀ n, n < 12 → bitB s.rst.req n = false) → Gives .resetAccept s (fun t => t = s)) ∧
  (∀ s : State, s.rst.acc ≠ none ∨ s.rst.accB = true → holds s ≠ 0 → bitB s.rst.accSrc 1 = false → bitB s.rst.accSrc 2 = false →
    Gives .resetApply s (fun t => t.rd R.rst_HELD [] = holds s ∧ OnlyRegs s t [R.rst_HELD.key []])) ∧
  (∀ (l : Nat) (s : State), s.rst.acc = some l → l ≤ 1 → (holds s = 0 ∨ bitB s.rst.accSrc 1 = true ∨ bitB s.rst.accSrc 2 = true) →
    Gives .resetApply s (fun t => t.rd R.rst_LAST_LEVEL [] = l ∧ t.rd R.rst_CAUSE [] = s.rst.accSrc % 2 ^ 12 ∧ t.rd R.rst_MODE [] = 1 ∧
      (∀ b : Fin 28, 4 ≤ b.val → t.inReset b.val = true ∧ t.rst.relPend[b] = true) ∧ t.rst.loading = true ∧ t.rst.acc = none ∧
      t.rst.run0 = false ∧ t.rst.run1 = false ∧ t.rst.run2 = false ∧ t.dram = [] ∧ t.sram0 = [] ∧ t.sram1 = [] ∧ t.arms = [] ∧
      t.flash = s.flash ∧ t.rst.mono0 = s.now ∧ (∀ n : Fin 40, t.rd R.sout_CMD [n.val] = 0) ∧
      (∀ m : Meter, t.rd R.mt_E_POS [m.val] = if l = 0 then 0 else s.rd R.mt_E_POS [m.val]) ∧
      t.rd R.rst_CYC_MARK [] = s.rd R.rst_CYC_MARK [] ∧
      t.rd R.sys_OPT_RESTARTS [] = (if s.rst.loading then s.rd R.sys_OPT_RESTARTS [] else 0) ∧
      (bitB s.rst.accSrc 7 = true → t.thrm.sdHold = true))) ∧
  (∀ s : State, s.rst.acc = some 2 → s.rst.accB = false → (holds s = 0 ∨ bitB s.rst.accSrc 1 = true ∨ bitB s.rst.accSrc 2 = true) →
    Gives .resetApply s (fun t => t.rd R.rst_LAST_LEVEL [] = 2 ∧ t.rd R.rst_CAUSE [] = s.rst.accSrc % 2 ^ 12 ∧ t.rst.acc = none ∧
      t.rst.run2 = false ∧ t.rst.run0 = s.rst.run0 ∧ t.rst.run1 = s.rst.run1 ∧
      (∀ b : Fin 28, t.rst.inReset[b] = (s.rst.inReset[b] || [12, 13, 24, 25, 26, 27].contains b.val)) ∧
      { t with regs := s.regs, arms := s.arms, links := s.links, splc := s.splc, can := s.can, reel := s.reel, key := s.key, freeCtr := s.freeCtr,
               rst := s.rst } = s)) ∧
  (∀ s : State, s.rst.acc = none → s.rst.accB = true → (holds s = 0 ∨ bitB s.rst.accSrc 1 = true ∨ bitB s.rst.accSrc 2 = true) →
    Gives .resetApply s (fun t => t.rd R.rst_LAST_LEVEL [] = 3 ∧ t.rst.accB = false ∧ t.inReset 23 = true ∧ t.rst.run1 = false ∧
      (∀ a, memGet t.sram1 a = if a < 16388 then memGet s.sram1 a else 0) ∧
      { t with regs := s.regs, rst := s.rst, sram1 := s.sram1 } = s)) ∧
  (∀ s : State, s.rst.acc = none → s.rst.accB = false →
    Gives .resetApply s (fun t => t.rd R.rst_HELD [] = 0 ∧ OnlyRegs s t [R.rst_HELD.key []])) ∧
  (∀ s : State, s.rst.acc = some 2 → s.rst.accB = true → (holds s = 0 ∨ bitB s.rst.accSrc 1 = true ∨ bitB s.rst.accSrc 2 = true) →
    Gives .resetApply s (fun t => t.rd R.rst_LAST_LEVEL [] = 2 ∧ t.rd R.rst_CAUSE [] = s.rst.accSrc % 2 ^ 12 ∧ t.rst.acc = none ∧
      t.rst.accB = false ∧ t.rst.run2 = false ∧ t.rst.run1 = false ∧ t.rst.run0 = s.rst.run0 ∧ t.inReset 23 = true ∧
      t.dram = s.dram ∧ t.sram0 = s.sram0 ∧ t.flash = s.flash)) ∧
  (∀ (a b : Bool) (s : State), a = true ∨ b = true →
    Gives (.powerOnReset a b) s (fun t => t.rd R.pwr_A_OK [] = b2n a ∧ t.rd R.pwr_B_OK [] = b2n b ∧ t.rd R.clk_REF_OK [] = 1 ∧
      (∀ k : Fin 28, 4 ≤ k.val → t.inReset k.val = true) ∧ t.rst.loading = true ∧ t.rst.req = 0 ∧ t.reduced = false ∧
      t.rd R.rst_MODE [] = 1 ∧ t.rd R.rst_CAUSE [] = 1 ∧ t.dram = [] ∧ t.sram0 = [] ∧ t.sram1 = [] ∧ t.flash = s.flash)) ∧
  (∀ s : State,
    Gives (.powerOnReset false false) s (fun t => t = s) ∧
    Gives .refFail s (fun t => t.rd R.clk_REF_OK [] = 0 ∧ bitB (t.rd R.hdr_IRQ_RAW [3]) 1 = true ∧ t.rd R.safe_SF_STATE [] = 4 ∧
      t.rd R.safe_PERMIT [] = 0 ∧ (∀ n : Fin 40, t.rd R.sout_CMD [n.val] = 0) ∧ bitB t.rst.req 6 = true ∧
      { t with regs := s.regs, rst := s.rst, safe := s.safe, ports := s.ports, teth := s.teth } = s)) ∧
  (∀ (k : Fin 6) (s : State),
    Gives (.pllLost k) s (fun t => bitB (t.rd R.clk_PLL_LOCK []) k.val = false ∧ bitB (t.rd R.hdr_IRQ_RAW [3]) 0 = true ∧
      t.rd R.clk_LOCK_LOSS [] = min (s.rd R.clk_LOCK_LOSS [] + 1) 65535 ∧
      (k.val ≤ 1 → t.rd R.safe_SF_STATE [] = 4 ∧ (∀ n : Fin 40, t.rd R.sout_CMD [n.val] = 0) ∧ bitB t.rst.req 6 = true) ∧
      (2 ≤ k.val → (∀ b : Fin 28, pllOf b.val = some k.val → t.inReset b.val = true ∧ bitB (t.rd R.clk_CLK_OK []) b.val = false) ∧
        (∀ b : Fin 28, pllOf b.val ≠ some k.val → t.rst.inReset[b] = s.rst.inReset[b])) ∧
      (k.val = 3 → t.rst.run2 = false)))

/-- O58 (tier 2). In SERVICE a BRST resets an idle unit other than KEY, at once or, under a hold, when it waits no
longer, and is refused with 0x0100 otherwise; a page without a STRB of its own, and the pages of SYS, RST, PWR and
CLK, take none; in the other modes it asks the unit to be idle and waits, and the unit is reset when it is idle, or,
where it is not idle IDLE_TMO after the write, then with 0x0004 and its bit in IDLE_TO, but SAFE and TETH only when
idle. A block whose clock is stable leaves reset, not while options load, while a thermal shutdown holds, or for the
Bremus cores in RECOVERY. A clock that does not come leaves the block in reset with its bit in CLK_FAIL and 0x0003;
W0 retries it. With no reset waiting, under a hold, or with no release asked for, nothing changes (R423, R487, R578,
R584-R587, R593, R599). -/
def Obligations.BlocksAreResetAndReleased : Prop :=
  (∀ (w : World) (p : Page) (s : State), s.canWrite w p.val = true → p.val = enPage p.val → 4 ≤ p.val →
    Gives (.brst w p) s (fun t =>
      (s.rd R.rst_MODE [] = 0 → idleOf s p.val = true → p.val ≠ 16 → holds s = 0 →
        t.rd R.hdr_EN [p.val] = (if p.val = 384 then 1 else 0) ∧
        t.dram = s.dram ∧ t.sram0 = s.sram0 ∧ t.flash = s.flash ∧
        (∀ b : Fin 28, blockOf p.val = some b.val → b.val ≠ 11 → b.val ≠ 12 → b.val ≠ 14 → t.inReset b.val = true ∧
          t.rst.relPend[b] = true) ∧
        (∀ b : Fin 28, blockOf p.val ≠ some b.val → t.rst.inReset[b] = s.rst.inReset[b])) ∧
      (s.rd R.rst_MODE [] = 0 → idleOf s p.val = false ∨ p.val = 16 → t.rd R.hdr_CODE [1] = 0x0100 ∧
        bitB (t.rd R.hdr_IRQ_RAW [1]) 2 = true ∧
        OnlyRegs s t [R.hdr_CODE.key [1], R.hdr_COUNT.key [1], R.hdr_ERR.key [1], R.hdr_IRQ_RAW.key [1]]) ∧
      (s.rd R.rst_MODE [] = 0 → idleOf s p.val = true → p.val ≠ 16 → holds s ≠ 0 →
        brstAt t p.val = some ((brstAt s p.val).getD s.now) ∧ { t with rst := s.rst } = s) ∧
      (s.rd R.rst_MODE [] ≠ 0 → t.rd R.hdr_IDLE_REQ [p.val] = 1 ∧ brstAt t p.val = some ((brstAt s p.val).getD s.now) ∧
        RegsBut s t [R.hdr_IDLE_REQ.key [p.val]] ∧ { t with regs := s.regs, rst := s.rst } = s))) ∧
  (∀ (p : Page) (s : State), (brstAt s p.val).isSome = true → p.val = enPage p.val → 4 ≤ p.val → blockOf p.val ≠ none → holds s = 0 →
    Gives (.brstIdleReached p) s (fun t => (idleOf s p.val = false → t = s) ∧
      (idleOf s p.val = true → t.rd R.hdr_EN [p.val] = (if p.val = 384 ∨ p.val = 16 then 1 else 0) ∧ brstAt t p.val = none ∧
        t.dram = s.dram ∧ t.sram0 = s.sram0 ∧ t.flash = s.flash)) ∧
    (idleOf s p.val = false → idleLate s p.val = true → idleOnly p.val = false →
      Gives (.idleTimeout p) s (fun t => t.rd R.hdr_EN [p.val] = (if p.val = 384 ∨ p.val = 16 then 1 else 0) ∧
      brstAt t p.val = none ∧ t.rd R.hdr_CODE [p.val] = 0x0004 ∧ bitB (t.rd R.hdr_IRQ_RAW [1]) 1 = true ∧
      (∀ b, blockOf p.val = some b → bitB (t.rd R.rst_IDLE_TO []) b = true) ∧
      t.dram = s.dram ∧ t.sram0 = s.sram0 ∧ t.flash = s.flash)) ∧
    (idleOf s p.val = true ∨ idleLate s p.val = false ∨ idleOnly p.val = true → Gives (.idleTimeout p) s (fun t => t = s))) ∧
  (∀ (p : Page) (s : State) (t0 : Nat), brstAt s p.val = some t0 →
    (idleLate s p.val = true ↔ t0 + 200 * max 1 (s.rd R.rst_IDLE_TMO []) ≤ s.now + s.spar.clocks)) ∧
  (∀ (w : World) (v : Word) (s : State), s.canWrite w 1 = true →
    Gives (.idleToClear w v) s (fun t => (∀ n : Fin 32, bitB (t.rd R.rst_IDLE_TO []) n.val =
      (bitB (s.rd R.rst_IDLE_TO []) n.val && !bitB v.toNat n.val)) ∧ OnlyRegs s t [R.rst_IDLE_TO.key []])) ∧
  (∀ (b : Fin 28) (s : State), s.rst.inReset[b] = true → s.rst.relPend[b] = true → s.rst.loading = false →
    (s.thrm.sdHold = false → (b.val ≠ 23 ∨ s.rd R.rst_MODE [] ≠ 3) →
      Gives (.blockRelease b) s (fun t => t.inReset b.val = false ∧ t.rst.relPend[b] = false ∧
        bitB (t.rd R.clk_CLK_OK []) b.val = true ∧ (∀ k, pllOf b.val = some k → bitB (t.rd R.clk_PLL_LOCK []) k = true) ∧
        (∀ b' : Fin 28, b' ≠ b → t.rst.inReset[b'] = s.rst.inReset[b'] ∧ t.rst.relPend[b'] = s.rst.relPend[b']) ∧
        t.dram = s.dram ∧ t.sram0 = s.sram0 ∧ t.sram1 = s.sram1 ∧ t.flash = s.flash)) ∧
    (s.thrm.sdHold = true ∨ (b.val = 23 ∧ s.rd R.rst_MODE [] = 3) → Gives (.blockRelease b) s (fun t => t = s)) ∧
    Gives (.clkFail b) s (fun t => t.inReset b.val = true ∧ t.rst.relPend[b] = false ∧ bitB (t.rd R.rst_CLK_FAIL []) b.val = true ∧
      bitB (t.rd R.clk_CLK_OK []) b.val = false ∧ bitB (t.rd R.hdr_IRQ_RAW [1]) 0 = true ∧
      (pageCount b.val ≠ 0 → t.rd R.hdr_CODE [firstPage b.val] = 0x0003) ∧ { t with regs := s.regs, rst := s.rst } = s)) ∧
  (∀ (b : Fin 28) (s : State), s.rst.loading = true → Gives (.blockRelease b) s (fun t => t = s)) ∧
  (∀ (b : Fin 28) (s : State), s.canWrite 0 1 = true → s.rd R.rst_RETRY_BLK [] = b.val →
    Gives (.retryGo 0) s (fun t =>
      (s.rst.inReset[b] = true → bitB (s.rd R.rst_CLK_FAIL []) b.val = true → t.rst.relPend[b] = true ∧
        bitB (t.rd R.rst_CLK_FAIL []) b.val = false ∧ OnlyRegs s { t with rst := s.rst } [R.rst_CLK_FAIL.key []]) ∧
      (s.rst.inReset[b] = false ∨ bitB (s.rd R.rst_CLK_FAIL []) b.val = false → t = s))) ∧
  (∀ (w : World) (p : Page) (s : State), s.canWrite w p.val = true → p.val ≠ enPage p.val ∨ p.val < 4 →
    Gives (.brst w p) s (fun t => t = s)) ∧
  (∀ (p : Page) (s : State), brstAt s p.val = none ∨ holds s ≠ 0 →
    Gives (.brstIdleReached p) s (fun t => t = s) ∧ Gives (.idleTimeout p) s (fun t => t = s)) ∧
  (∀ (b : Fin 28) (s : State), s.rst.inReset[b] = false ∨ s.rst.relPend[b] = false ∨ s.rst.loading = true →
    Gives (.blockRelease b) s (fun t => t = s) ∧ Gives (.clkFail b) s (fun t => t = s)) ∧
  (∀ (w : World) (s : State), s.canWrite w 1 = true → w ≠ 0 ∨ 28 ≤ s.rd R.rst_RETRY_BLK [] →
    Gives (.retryGo w) s (fun t => t = s))

/-- O59 (tier 2). The option load erases listed sectors, takes the later valid copy, or the safe defaults with OPT_FAIL
and MODE = RECOVERY, and gives KEY its life-cycle state and its root slot. Boot verification runs Gondola from the
boot bank, else from the other with BANK_FALL, else sets BOOT_FAIL. RUN_W1, RUN_W2 and MODE are W0's; in RECOVERY
the first two do nothing and MODE is refused with 0x0101. A flash word is programmed, or a sector erased, when its
time has passed, and no other byte changes; a second command while FL_BUSY does nothing. With nothing to load, to
verify or to end, and by another world, nothing changes (R549, R559, R590-R593, R596, R598, R602). -/
def Obligations.OptionsFlashAndCoresStart : Prop :=
  (∀ s : State, s.rst.loading = true → s.thrm.sdHold = false →
    Gives .optionLoad s (fun t => t.rst.loading = false ∧ t.rst.erase = [] ∧ t.rd R.sys_OPT_DONE [] = 1 ∧
      t.rd R.sys_RST_MAP [] = s.rst.fuseMap % 2 ^ 24 ∧ t.rd R.key_LC [] = lcState s.key.fuse ∧ t.rd R.key_DBG_ARMED [] = 0 ∧
      t.rd R.key_DEBUG_EN [] = b2n (lcState s.key.fuse == 0 || lcState s.key.fuse == 3 || s.rd R.key_DBG_ARMED [] == 1) ∧
      t.rd R.slot_VALID [0] = 1 ∧ t.rd R.slot_LOCK [0] = 1 ∧
      (∀ a, memGet t.flash a = if s.rst.erase.contains (a / 8192) then 0 else memGet s.flash a) ∧
      (optChoice (optCopy t.flash 0) (optCopy t.flash 0x2000) = none → t.rd R.sys_OPT_FAIL [] = 1 ∧ t.rd R.rst_MODE [] = 3 ∧
        t.rd R.teth_PAIR_EN [] = 0 ∧ t.rd R.spar_NOMINAL [] = 0) ∧
      (∀ k seq body, optChoice (optCopy t.flash 0) (optCopy t.flash 0x2000) = some (k, seq, body) →
        t.rd R.sys_OPT_COPY [] = k % 2 ∧ t.rd R.sys_OPT_SEQ [] = seq % 2 ^ 32 ∧ t.rd R.rst_MODE [] = s.rd R.rst_MODE [] ∧
        t.rd R.sys_OPT_ONE [] = b2n ((optCopy t.flash 0).isNone || (optCopy t.flash 0x2000).isNone)) ∧
      { t with regs := s.regs, rst := s.rst, key := s.key, flash := s.flash, lsw := s.lsw } = s)) ∧
  (∀ s : State, s.rd R.sys_OPT_DONE [] = 1 → s.rst.run0 = false → s.rst.loading = false →
    Gives .bootVerify s (fun t =>
      (Config.imageOk s.rst.fuseFw s.rst.bootBank s.flash = true → t = { s with rst := { s.rst with run0 := true } }) ∧
      (Config.imageOk s.rst.fuseFw s.rst.bootBank s.flash = false → Config.imageOk s.rst.fuseFw (1 - s.rst.bootBank) s.flash = true →
        t.rst.run0 = true ∧ t.rd R.sys_BANK_FALL [] = 1 ∧ OnlyRegs s { t with rst := s.rst } [R.sys_BANK_FALL.key []]) ∧
      (Config.imageOk s.rst.fuseFw s.rst.bootBank s.flash = false → Config.imageOk s.rst.fuseFw (1 - s.rst.bootBank) s.flash = false →
        t.rd R.sys_BOOT_FAIL [] = 1 ∧ OnlyRegs s t [R.sys_BOOT_FAIL.key []]))) ∧
  (∀ s : State, s.canWrite 0 1 = true →
    Gives (.runW1 0) s (fun t =>
      (s.rd R.rst_MODE [] ≠ 3 → s.inReset 23 = false → t.rst.run1 = true ∧ t.rst.wdg[1] = s.rd R.rst_B_WDG_MS [] ∧
        { t with rst := s.rst } = s) ∧ (s.rd R.rst_MODE [] = 3 ∨ s.inReset 23 = true → t = s)) ∧
    Gives (.runW2 0) s (fun t =>
      (s.rd R.rst_MODE [] ≠ 3 → t.rst.run2 = true ∧ t.rst.wdg[2] = s.rd R.rst_E_WDG_MS [] ∧ { t with rst := s.rst } = s) ∧
      (s.rd R.rst_MODE [] = 3 → t = s)) ∧
    (∀ v : Fin 4, Gives (.modeWrite 0 v) s (fun t =>
      (s.rd R.rst_MODE [] ≠ 3 → v.val ≠ 3 → t.rd R.rst_MODE [] = v.val ∧ OnlyRegs s t [R.rst_MODE.key []]) ∧
      (s.rd R.rst_MODE [] = 3 ∨ v.val = 3 → t.rd R.hdr_CODE [1] = 0x0101 ∧
        OnlyRegs s t [R.hdr_CODE.key [1], R.hdr_COUNT.key [1], R.hdr_ERR.key [1]])))) ∧
  (∀ x, x ∈ [(1, Instr.flashProgram), (2, .flashErase)] → ∀ s : State, s.canWrite 0 0 = true →
    Gives (x.2 0) s (fun t =>
      (s.rst.flOp = none → t.rst = { s.rst with flOp := some (x.1, s.rd R.sys_FL_ADDR [], s.rd R.sys_FL_DATA []) } ∧
        t.rd R.sys_FL_BUSY [] = 1 ∧ OnlyRegs s { t with rst := s.rst } [R.sys_FL_BUSY.key []]) ∧
      (s.rst.flOp ≠ none → t = s))) ∧
  (∀ (a v : Nat) (s : State),
    (s.rst.flOp = some (1, a, v) → Gives .flashDone s (fun t => t.rst.flOp = none ∧ t.rd R.sys_FL_BUSY [] = 0 ∧
      (∀ k, k < 4 → memGet t.flash (a / 4 * 4 + k) = (leBytes 4 v).getD k 0) ∧
      (∀ d, d < a / 4 * 4 ∨ a / 4 * 4 + 4 ≤ d → memGet t.flash d = memGet s.flash d) ∧
      OnlyRegs s { t with rst := s.rst, flash := s.flash } [R.sys_FL_BUSY.key [], R.rst_HELD.key []])) ∧
    (s.rst.flOp = some (2, a, v) → Gives .flashDone s (fun t => t.rst.flOp = none ∧ t.rd R.sys_FL_BUSY [] = 0 ∧
      (∀ d, memGet t.flash d = if d / 8192 = a / 8192 then 0 else memGet s.flash d) ∧
      OnlyRegs s { t with rst := s.rst, flash := s.flash } [R.sys_FL_BUSY.key [], R.rst_HELD.key []]))) ∧
  (∀ s : State, (s.rst.loading = false ∨ s.thrm.sdHold = true → Gives .optionLoad s (fun t => t = s)) ∧
    (s.rd R.sys_OPT_DONE [] = 0 ∨ s.rst.run0 = true ∨ s.rst.loading = true → Gives .bootVerify s (fun t => t = s)) ∧
    (s.rst.flOp = none → Gives .flashDone s (fun t => t = s))) ∧
  (∀ (w : World) (v : Fin 4) (s : State), w ≠ 0 →
    (s.canWrite w 1 = true → ∀ i, i ∈ [Instr.runW1 w, .runW2 w, .modeWrite w v] → Gives i s (fun t => t = s)) ∧
    (s.canWrite w 0 = true → ∀ i, i ∈ [Instr.flashProgram w, .flashErase w] → Gives i s (fun t => t = s)))
end

