-- ==== Sys2Proof/Laws/Exec.lean ====
section
/-! SUPPORT. What `exec` does with each command: its meaning, one lemma for each constructor. -/

namespace Sys2Proof.Machine

open Sys2Proof

@[simp] theorem exec_registerWrite (w : World) (addr : Nat) (size : Nat) (v : Word) (s : State) :
    exec (.registerWrite w addr size v) s = Sys2Proof.Machine.execRegisterWrite w addr size v s := rfl
@[simp] theorem exec_commit (w : World) (p : Page) (s : State) :
    exec (.commit w p) s = Sys2Proof.Machine.execCommit w p s := rfl
@[simp] theorem exec_cancel (w : World) (p : Page) (s : State) :
    exec (.cancel w p) s = Sys2Proof.Machine.execCancel w p s := rfl
@[simp] theorem exec_commitApply (u : CommitUnit) (s : State) :
    exec (.commitApply u) s = Sys2Proof.Machine.execCommitApply u s := rfl
@[simp] theorem exec_aCommit (w : World) (st : Stage) (s : State) :
    exec (.aCommit w st) s = Sys2Proof.Machine.execACommit w st s := rfl
@[simp] theorem exec_aCancel (w : World) (st : Stage) (s : State) :
    exec (.aCancel w st) s = Sys2Proof.Machine.execACancel w st s := rfl
@[simp] theorem exec_brst (w : World) (p : Page) (s : State) :
    exec (.brst w p) s = Sys2Proof.Machine.execBrst w p s := rfl
@[simp] theorem exec_irqClr (w : World) (p : Page) (v : Word) (s : State) :
    exec (.irqClr w p v) s = Sys2Proof.Machine.execIrqClr w p v s := rfl
@[simp] theorem exec_irqSet (w : World) (p : Page) (v : Word) (s : State) :
    exec (.irqSet w p v) s = Sys2Proof.Machine.execIrqSet w p v s := rfl
@[simp] theorem exec_errClear (w : World) (p : Page) (s : State) :
    exec (.errClear w p) s = Sys2Proof.Machine.execErrClear w p s := rfl
@[simp] theorem exec_ownerWrite (w : World) (p : Page) (v : Word) (s : State) :
    exec (.ownerWrite w p v) s = Sys2Proof.Machine.execOwnerWrite w p v s := rfl
@[simp] theorem exec_violClr (w : World) (v : Word) (s : State) :
    exec (.violClr w v) s = Sys2Proof.Machine.execViolClr w v s := rfl
@[simp] theorem exec_sessEnable (w : World) (k : Fin 6) (s : State) :
    exec (.sessEnable w k) s = Sys2Proof.Machine.execSessEnable w k s := rfl
@[simp] theorem exec_hostDatagram (dg : HostDatagram) (s : State) :
    exec (.hostDatagram dg) s = Sys2Proof.Machine.execHostDatagram dg s := rfl
@[simp] theorem exec_hostRead (k : Fin 6) (tag : Nat) (s : State) :
    exec (.hostRead k tag) s = Sys2Proof.Machine.execHostRead k tag s := rfl
@[simp] theorem exec_hostWrite (k : Fin 6) (tag : Nat) (s : State) :
    exec (.hostWrite k tag) s = Sys2Proof.Machine.execHostWrite k tag s := rfl
@[simp] theorem exec_hostFence (k : Fin 6) (tag : Nat) (s : State) :
    exec (.hostFence k tag) s = Sys2Proof.Machine.execHostFence k tag s := rfl
@[simp] theorem exec_pcieRead (addr : Nat) (len : Nat) (s : State) :
    exec (.pcieRead addr len) s = Sys2Proof.Machine.execPcieRead addr len s := rfl
@[simp] theorem exec_pcieWrite (addr : Nat) (data : List Word) (len : Nat) (s : State) :
    exec (.pcieWrite addr data len) s = Sys2Proof.Machine.execPcieWrite addr data len s := rfl
@[simp] theorem exec_controlPeriodStart (q : PeriodIn) (s : State) :
    exec (.controlPeriodStart q) s = Sys2Proof.Machine.execControlPeriodStart q s := rfl
@[simp] theorem exec_portLoopTick (ecc : List (Fin 4096)) (td : List (Option Int)) (s : State) :
    exec (.portLoopTick ecc td) s = Sys2Proof.Machine.execPortLoopTick ecc td s := rfl
@[simp] theorem exec_cycleStart (s : State) :
    exec (.cycleStart) s = Sys2Proof.Machine.execCycleStart s := rfl
@[simp] theorem exec_referenceCycle (l1 : RefCycle) (l2 : RefCycle) (l3 : RefCycle) (s : State) :
    exec (.referenceCycle l1 l2 l3) s = Sys2Proof.Machine.execReferenceCycle l1 l2 l3 s := rfl
@[simp] theorem exec_sparEnable (w : World) (s : State) :
    exec (.sparEnable w) s = Sys2Proof.Machine.execSparEnable w s := rfl
@[simp] theorem exec_followSet (w : World) (s : State) :
    exec (.followSet w) s = Sys2Proof.Machine.execFollowSet w s := rfl
@[simp] theorem exec_followClear (w : World) (s : State) :
    exec (.followClear w) s = Sys2Proof.Machine.execFollowClear w s := rfl
@[simp] theorem exec_align (period : Nat) (angle : Nat) (s : State) :
    exec (.align period angle) s = Sys2Proof.Machine.execAlign period angle s := rfl
@[simp] theorem exec_sparTimeFrameRx (f : HeardTimeFrame) (s : State) :
    exec (.sparTimeFrameRx f) s = Sys2Proof.Machine.execSparTimeFrameRx f s := rfl
@[simp] theorem exec_wallApply (w : World) (s : State) :
    exec (.wallApply w) s = Sys2Proof.Machine.execWallApply w s := rfl
@[simp] theorem exec_wallStep (s : State) :
    exec (.wallStep) s = Sys2Proof.Machine.execWallStep s := rfl
@[simp] theorem exec_wallSlewEnd (s : State) :
    exec (.wallSlewEnd) s = Sys2Proof.Machine.execWallSlewEnd s := rfl
@[simp] theorem exec_eventEntryWrite (w : World) (n : Fin 256) (v : Word) (s : State) :
    exec (.eventEntryWrite w n v) s = Sys2Proof.Machine.execEventEntryWrite w n v s := rfl
@[simp] theorem exec_eventFire (n : Fin 256) (s : State) :
    exec (.eventFire n) s = Sys2Proof.Machine.execEventFire n s := rfl
@[simp] theorem exec_evtFiredClear (w : World) (late : Bool) (st : Fin 8) (v : Word) (s : State) :
    exec (.evtFiredClear w late st v) s = Sys2Proof.Machine.execEvtFiredClear w late st v s := rfl
@[simp] theorem exec_setbackClear (w : World) (s : State) :
    exec (.setbackClear w) s = Sys2Proof.Machine.execSetbackClear w s := rfl
@[simp] theorem exec_uplinkMeas (st : Stage) (body : List Byte) (coding : Bool) (sof : Nat) (s : State) :
    exec (.uplinkMeas st body coding sof) s = Sys2Proof.Machine.execUplinkMeas st body coding sof s := rfl
@[simp] theorem exec_uplinkIdent (st : Stage) (body : List Byte) (coding : Bool) (sof : Nat) (s : State) :
    exec (.uplinkIdent st body coding sof) s = Sys2Proof.Machine.execUplinkIdent st body coding sof s := rfl
@[simp] theorem exec_uplinkWindowClose (s : State) :
    exec (.uplinkWindowClose) s = Sys2Proof.Machine.execUplinkWindowClose s := rfl
@[simp] theorem exec_lineLost (st : Stage) (s : State) :
    exec (.lineLost st) s = Sys2Proof.Machine.execLineLost st s := rfl
@[simp] theorem exec_downlinkWindow (heard : List (Stage × DownFrame)) (echo : List Stage) (s : State) :
    exec (.downlinkWindow heard echo) s = Sys2Proof.Machine.execDownlinkWindow heard echo s := rfl
@[simp] theorem exec_lineAttach (w : World) (st : Stage) (s : State) :
    exec (.lineAttach w st) s = Sys2Proof.Machine.execLineAttach w st s := rfl
@[simp] theorem exec_attachTimeout (st : Stage) (s : State) :
    exec (.attachTimeout st) s = Sys2Proof.Machine.execAttachTimeout st s := rfl
@[simp] theorem exec_lineLenWrite (w : World) (st : Stage) (b : Bool) (s : State) :
    exec (.lineLenWrite w st b) s = Sys2Proof.Machine.execLineLenWrite w st b s := rfl
@[simp] theorem exec_lineFaultClr (w : World) (st : Stage) (s : State) :
    exec (.lineFaultClr w st) s = Sys2Proof.Machine.execLineFaultClr w st s := rfl
@[simp] theorem exec_lineCntClr (w : World) (st : Stage) (s : State) :
    exec (.lineCntClr w st) s = Sys2Proof.Machine.execLineCntClr w st s := rfl
@[simp] theorem exec_drvCommandFrame (st : Stage) (body : List Byte) (coding : Bool) (eof : Nat) (iNow : Nat) (s : State) :
    exec (.drvCommandFrame st body coding eof iNow) s = Sys2Proof.Machine.execDrvCommandFrame st body coding eof iNow s := rfl
@[simp] theorem exec_drvSafeFrame (st : Stage) (body : List Byte) (coding : Bool) (eof : Nat) (iNow : Nat) (s : State) :
    exec (.drvSafeFrame st body coding eof iNow) s = Sys2Proof.Machine.execDrvSafeFrame st body coding eof iNow s := rfl
@[simp] theorem exec_drvProbe (st : Stage) (body : List Byte) (rx : LineRx) (s : State) :
    exec (.drvProbe st body rx) s = Sys2Proof.Machine.execDrvProbe st body rx s := rfl
@[simp] theorem exec_drvAttach (st : Stage) (body : List Byte) (rx : LineRx) (s : State) :
    exec (.drvAttach st body rx) s = Sys2Proof.Machine.execDrvAttach st body rx s := rfl
@[simp] theorem exec_driverPeriodStart (st : Stage) (m : DriverMeas) (hwlim : Bool) (s : State) :
    exec (.driverPeriodStart st m hwlim) s = Sys2Proof.Machine.execDriverPeriodStart st m hwlim s := rfl
@[simp] theorem exec_driverFault (st : Stage) (cause : Fin 4) (on : Bool) (s : State) :
    exec (.driverFault st cause on) s = Sys2Proof.Machine.execDriverFault st cause on s := rfl
@[simp] theorem exec_selectorMoveDone (st : Stage) (weld : Bool) (s : State) :
    exec (.selectorMoveDone st weld) s = Sys2Proof.Machine.execSelectorMoveDone st weld s := rfl
@[simp] theorem exec_stageFailed (st : Stage) (s : State) :
    exec (.stageFailed st) s = Sys2Proof.Machine.execStageFailed st s := rfl
@[simp] theorem exec_bankWrite (w : World) (b : Fin 16) (k : Fin 192) (v : Word) (s : State) :
    exec (.bankWrite w b k v) s = Sys2Proof.Machine.execBankWrite w b k v s := rfl
@[simp] theorem exec_bankCheck (w : World) (v : Word) (s : State) :
    exec (.bankCheck w v) s = Sys2Proof.Machine.execBankCheck w v s := rfl
@[simp] theorem exec_bankDone (b : Fin 16) (s : State) :
    exec (.bankDone b) s = Sys2Proof.Machine.execBankDone b s := rfl
@[simp] theorem exec_failSet (w : World) (st : Stage) (s : State) :
    exec (.failSet w st) s = Sys2Proof.Machine.execFailSet w st s := rfl
@[simp] theorem exec_failClr (w : World) (st : Stage) (s : State) :
    exec (.failClr w st) s = Sys2Proof.Machine.execFailClr w st s := rfl
@[simp] theorem exec_satClr (w : World) (st : Stage) (s : State) :
    exec (.satClr w st) s = Sys2Proof.Machine.execSatClr w st s := rfl
@[simp] theorem exec_loadClr (w : World) (s : State) :
    exec (.loadClr w) s = Sys2Proof.Machine.execLoadClr w s := rfl
@[simp] theorem exec_spoolArm (w : World) (s : State) :
    exec (.spoolArm w) s = Sys2Proof.Machine.execSpoolArm w s := rfl
@[simp] theorem exec_spoolStop (w : World) (s : State) :
    exec (.spoolStop w) s = Sys2Proof.Machine.execSpoolStop w s := rfl
@[simp] theorem exec_swtrig (w : World) (s : State) :
    exec (.swtrig w) s = Sys2Proof.Machine.execSwtrig w s := rfl
@[simp] theorem exec_spoolDone (s : State) :
    exec (.spoolDone) s = Sys2Proof.Machine.execSpoolDone s := rfl
@[simp] theorem exec_shortSoftstart (p : Port) (s : State) :
    exec (.shortSoftstart p) s = Sys2Proof.Machine.execShortSoftstart p s := rfl
@[simp] theorem exec_burstEntry (p : Port) (s : State) :
    exec (.burstEntry p) s = Sys2Proof.Machine.execBurstEntry p s := rfl
@[simp] theorem exec_burstRotate (p : Port) (s : State) :
    exec (.burstRotate p) s = Sys2Proof.Machine.execBurstRotate p s := rfl
@[simp] theorem exec_faultRouteOpen (st : Stage) (s : State) :
    exec (.faultRouteOpen st) s = Sys2Proof.Machine.execFaultRouteOpen st s := rfl
@[simp] theorem exec_handoverAbort (st : Stage) (s : State) :
    exec (.handoverAbort st) s = Sys2Proof.Machine.execHandoverAbort st s := rfl
@[simp] theorem exec_hoAbortClear (w : World) (st : Stage) (s : State) :
    exec (.hoAbortClear w st) s = Sys2Proof.Machine.execHoAbortClear w st s := rfl
@[simp] theorem exec_solveDone (s : State) :
    exec (.solveDone) s = Sys2Proof.Machine.execSolveDone s := rfl
@[simp] theorem exec_planLate (s : State) :
    exec (.planLate) s = Sys2Proof.Machine.execPlanLate s := rfl
@[simp] theorem exec_loftHoldTimeout (s : State) :
    exec (.loftHoldTimeout) s = Sys2Proof.Machine.execLoftHoldTimeout s := rfl
@[simp] theorem exec_pilotConfirm (p : Port) (hi : Int) (lo : Int) (ce : Int) (id : Int) (pp : Nat) (agree : Nat) (s : State) :
    exec (.pilotConfirm p hi lo ce id pp agree) s = Sys2Proof.Machine.execPilotConfirm p hi lo ce id pp agree s := rfl
@[simp] theorem exec_linkUp (w : World) (p : Port) (s : State) :
    exec (.linkUp w p) s = Sys2Proof.Machine.execLinkUp w p s := rfl
@[simp] theorem exec_authOk (w : World) (p : Port) (s : State) :
    exec (.authOk w p) s = Sys2Proof.Machine.execAuthOk w p s := rfl
@[simp] theorem exec_authFail (w : World) (p : Port) (s : State) :
    exec (.authFail w p) s = Sys2Proof.Machine.execAuthFail w p s := rfl
@[simp] theorem exec_isoGo (w : World) (p : Port) (s : State) :
    exec (.isoGo w p) s = Sys2Proof.Machine.execIsoGo w p s := rfl
@[simp] theorem exec_preGo (w : World) (p : Port) (s : State) :
    exec (.preGo w p) s = Sys2Proof.Machine.execPreGo w p s := rfl
@[simp] theorem exec_startSession (w : World) (p : Port) (s : State) :
    exec (.startSession w p) s = Sys2Proof.Machine.execStartSession w p s := rfl
@[simp] theorem exec_stopSession (w : World) (p : Port) (s : State) :
    exec (.stopSession w p) s = Sys2Proof.Machine.execStopSession w p s := rfl
@[simp] theorem exec_pause (w : World) (p : Port) (s : State) :
    exec (.pause w p) s = Sys2Proof.Machine.execPause w p s := rfl
@[simp] theorem exec_resume (w : World) (p : Port) (s : State) :
    exec (.resume w p) s = Sys2Proof.Machine.execResume w p s := rfl
@[simp] theorem exec_weldDone (w : World) (p : Port) (s : State) :
    exec (.weldDone w p) s = Sys2Proof.Machine.execWeldDone w p s := rfl
@[simp] theorem exec_newSess (w : World) (p : Port) (s : State) :
    exec (.newSess w p) s = Sys2Proof.Machine.execNewSess w p s := rfl
@[simp] theorem exec_oos (w : World) (p : Port) (s : State) :
    exec (.oos w p) s = Sys2Proof.Machine.execOos w p s := rfl
@[simp] theorem exec_inService (w : World) (p : Port) (s : State) :
    exec (.inService w p) s = Sys2Proof.Machine.execInService w p s := rfl
@[simp] theorem exec_hb (w : World) (p : Port) (s : State) :
    exec (.hb w p) s = Sys2Proof.Machine.execHb w p s := rfl
@[simp] theorem exec_billDisc (w : World) (p : Port) (s : State) :
    exec (.billDisc w p) s = Sys2Proof.Machine.execBillDisc w p s := rfl
@[simp] theorem exec_hbLost (p : Port) (s : State) :
    exec (.hbLost p) s = Sys2Proof.Machine.execHbLost p s := rfl
@[simp] theorem exec_linkTmo (p : Port) (s : State) :
    exec (.linkTmo p) s = Sys2Proof.Machine.execLinkTmo p s := rfl
@[simp] theorem exec_authTmo (p : Port) (s : State) :
    exec (.authTmo p) s = Sys2Proof.Machine.execAuthTmo p s := rfl
@[simp] theorem exec_readyTmo (p : Port) (s : State) :
    exec (.readyTmo p) s = Sys2Proof.Machine.execReadyTmo p s := rfl
@[simp] theorem exec_isoTmo (p : Port) (s : State) :
    exec (.isoTmo p) s = Sys2Proof.Machine.execIsoTmo p s := rfl
@[simp] theorem exec_preTmo (p : Port) (s : State) :
    exec (.preTmo p) s = Sys2Proof.Machine.execPreTmo p s := rfl
@[simp] theorem exec_rampTmo (p : Port) (s : State) :
    exec (.rampTmo p) s = Sys2Proof.Machine.execRampTmo p s := rfl
@[simp] theorem exec_pauseTmo (p : Port) (s : State) :
    exec (.pauseTmo p) s = Sys2Proof.Machine.execPauseTmo p s := rfl
@[simp] theorem exec_weldTmo (p : Port) (s : State) :
    exec (.weldTmo p) s = Sys2Proof.Machine.execWeldTmo p s := rfl
@[simp] theorem exec_contTmo (p : Port) (s : State) :
    exec (.contTmo p) s = Sys2Proof.Machine.execContTmo p s := rfl
@[simp] theorem exec_dischTmo (p : Port) (s : State) :
    exec (.dischTmo p) s = Sys2Proof.Machine.execDischTmo p s := rfl
@[simp] theorem exec_contactorFeedback (p : Port) (closed : Bool) (s : State) :
    exec (.contactorFeedback p closed) s = Sys2Proof.Machine.execContactorFeedback p closed s := rfl
@[simp] theorem exec_isoSettleDone (p : Port) (s : State) :
    exec (.isoSettleDone p) s = Sys2Proof.Machine.execIsoSettleDone p s := rfl
@[simp] theorem exec_isoMeasureDone (p : Port) (ohm : Nat) (s : State) :
    exec (.isoMeasureDone p ohm) s = Sys2Proof.Machine.execIsoMeasureDone p ohm s := rfl
@[simp] theorem exec_isoMonResult (p : Port) (ohm : Nat) (vMean : Nat) (s : State) :
    exec (.isoMonResult p ohm vMean) s = Sys2Proof.Machine.execIsoMonResult p ohm vMean s := rfl
@[simp] theorem exec_dischargeDone (p : Port) (s : State) :
    exec (.dischargeDone p) s = Sys2Proof.Machine.execDischargeDone p s := rfl
@[simp] theorem exec_stopped (p : Port) (s : State) :
    exec (.stopped p) s = Sys2Proof.Machine.execStopped p s := rfl
@[simp] theorem exec_contWeldClear (w : World) (p : Port) (s : State) :
    exec (.contWeldClear w p) s = Sys2Proof.Machine.execContWeldClear w p s := rfl
@[simp] theorem exec_evtDropClear (w : World) (p : Port) (v : Word) (s : State) :
    exec (.evtDropClear w p v) s = Sys2Proof.Machine.execEvtDropClear w p v s := rfl
@[simp] theorem exec_vlnkEnable (w : World) (p : Port) (s : State) :
    exec (.vlnkEnable w p) s = Sys2Proof.Machine.execVlnkEnable w p s := rfl
@[simp] theorem exec_dadDone (p : Port) (collision : Bool) (s : State) :
    exec (.dadDone p collision) s = Sys2Proof.Machine.execDadDone p collision s := rfl
@[simp] theorem exec_neighbourSolicitation (p : Port) (s : State) :
    exec (.neighbourSolicitation p) s = Sys2Proof.Machine.execNeighbourSolicitation p s := rfl
@[simp] theorem exec_echoRequest (p : Port) (data : List Byte) (s : State) :
    exec (.echoRequest p data) s = Sys2Proof.Machine.execEchoRequest p data s := rfl
@[simp] theorem exec_cmSlacParamReq (p : Port) (mac : Nat) (run : List Byte) (s : State) :
    exec (.cmSlacParamReq p mac run) s = Sys2Proof.Machine.execCmSlacParamReq p mac run s := rfl
@[simp] theorem exec_cmStartAttenCharInd (p : Port) (run : List Byte) (n : Nat) (s : State) :
    exec (.cmStartAttenCharInd p run n) s = Sys2Proof.Machine.execCmStartAttenCharInd p run n s := rfl
@[simp] theorem exec_cmMnbcSoundInd (p : Port) (run : List Byte) (att : List Nat) (s : State) :
    exec (.cmMnbcSoundInd p run att) s = Sys2Proof.Machine.execCmMnbcSoundInd p run att s := rfl
@[simp] theorem exec_soundingEnd (p : Port) (s : State) :
    exec (.soundingEnd p) s = Sys2Proof.Machine.execSoundingEnd p s := rfl
@[simp] theorem exec_cmValidateReq (p : Port) (run : List Byte) (s : State) :
    exec (.cmValidateReq p run) s = Sys2Proof.Machine.execCmValidateReq p run s := rfl
@[simp] theorem exec_cmSlacMatchReq (p : Port) (run : List Byte) (s : State) :
    exec (.cmSlacMatchReq p run) s = Sys2Proof.Machine.execCmSlacMatchReq p run s := rfl
@[simp] theorem exec_cmAmpMapReq (p : Port) (s : State) :
    exec (.cmAmpMapReq p) s = Sys2Proof.Machine.execCmAmpMapReq p s := rfl
@[simp] theorem exec_slacMatched (p : Port) (s : State) :
    exec (.slacMatched p) s = Sys2Proof.Machine.execSlacMatched p s := rfl
@[simp] theorem exec_slacTimeout (p : Port) (s : State) :
    exec (.slacTimeout p) s = Sys2Proof.Machine.execSlacTimeout p s := rfl
@[simp] theorem exec_sdpRequest (p : Port) (ip : Nat) (mac : Nat) (reqTls : Bool) (s : State) :
    exec (.sdpRequest p ip mac reqTls) s = Sys2Proof.Machine.execSdpRequest p ip mac reqTls s := rfl
@[simp] theorem exec_tcpSyn (p : Port) (ip : Nat) (isn : Nat) (s : State) :
    exec (.tcpSyn p ip isn) s = Sys2Proof.Machine.execTcpSyn p ip isn s := rfl
@[simp] theorem exec_tcpSegment (p : Port) (ip : Nat) (seq : Nat) (ack : Nat) (data : List Byte) (rst : Bool) (fin : Bool) (s : State) :
    exec (.tcpSegment p ip seq ack data rst fin) s = Sys2Proof.Machine.execTcpSegment p ip seq ack data rst fin s := rfl
@[simp] theorem exec_tlsRecord (p : Port) (s : State) :
    exec (.tlsRecord p) s = Sys2Proof.Machine.execTlsRecord p s := rfl
@[simp] theorem exec_tcpRetxTimeout (p : Port) (s : State) :
    exec (.tcpRetxTimeout p) s = Sys2Proof.Machine.execTcpRetxTimeout p s := rfl
@[simp] theorem exec_vlnkTxGo (w : World) (p : Port) (s : State) :
    exec (.vlnkTxGo w p) s = Sys2Proof.Machine.execVlnkTxGo w p s := rfl
@[simp] theorem exec_vlnkRxPop (w : World) (p : Port) (s : State) :
    exec (.vlnkRxPop w p) s = Sys2Proof.Machine.execVlnkRxPop w p s := rfl
@[simp] theorem exec_rxResume (w : World) (p : Port) (s : State) :
    exec (.rxResume w p) s = Sys2Proof.Machine.execRxResume w p s := rfl
@[simp] theorem exec_keyRxOn (w : World) (p : Port) (s : State) :
    exec (.keyRxOn w p) s = Sys2Proof.Machine.execKeyRxOn w p s := rfl
@[simp] theorem exec_keyTxOn (w : World) (p : Port) (s : State) :
    exec (.keyTxOn w p) s = Sys2Proof.Machine.execKeyTxOn w p s := rfl
@[simp] theorem exec_abortLink (w : World) (p : Port) (s : State) :
    exec (.abortLink w p) s = Sys2Proof.Machine.execAbortLink w p s := rfl
@[simp] theorem exec_vlnkWindowRead (w : World) (p : Port) (k : Fin 512) (s : State) :
    exec (.vlnkWindowRead w p k) s = Sys2Proof.Machine.execVlnkWindowRead w p k s := rfl
@[simp] theorem exec_vlnkCntClr (w : World) (p : Port) (s : State) :
    exec (.vlnkCntClr w p) s = Sys2Proof.Machine.execVlnkCntClr w p s := rfl
@[simp] theorem exec_beacon (c : Fin 4) (rail : Bool) (s : State) :
    exec (.beacon c rail) s = Sys2Proof.Machine.execBeacon c rail s := rfl
@[simp] theorem exec_windsockDone (c : Fin 4) (down : List (List Byte)) (snr : List (List Nat)) (s : State) :
    exec (.windsockDone c down snr) s = Sys2Proof.Machine.execWindsockDone c down snr s := rfl
@[simp] theorem exec_tmAgeExpiry (d : Fin 32) (s : State) :
    exec (.tmAgeExpiry d) s = Sys2Proof.Machine.execTmAgeExpiry d s := rfl
@[simp] theorem exec_assocRequest (c : Fin 4) (rq : AssocReq) (s : State) :
    exec (.assocRequest c rq) s = Sys2Proof.Machine.execAssocRequest c rq s := rfl
@[simp] theorem exec_leaveInd (d : Fin 32) (s : State) :
    exec (.leaveInd d) s = Sys2Proof.Machine.execLeaveInd d s := rfl
@[simp] theorem exec_leaveTimeout (d : Fin 32) (s : State) :
    exec (.leaveTimeout d) s = Sys2Proof.Machine.execLeaveTimeout d s := rfl
@[simp] theorem exec_kick (w : World) (d : Fin 32) (s : State) :
    exec (.kick w d) s = Sys2Proof.Machine.execKick w d s := rfl
@[simp] theorem exec_tmNow (w : World) (d : Fin 32) (s : State) :
    exec (.tmNow w d) s = Sys2Proof.Machine.execTmNow w d s := rfl
@[simp] theorem exec_splcRxMessage (d : Fin 32) (typ : Nat) (seq : Nat) (body : List Byte) (s : State) :
    exec (.splcRxMessage d typ seq body) s = Sys2Proof.Machine.execSplcRxMessage d typ seq body s := rfl
@[simp] theorem exec_frameExchangeDone (d : Fin 32) (acked : Bool) (total : Nat) (bad : Nat) (resent : Nat) (blanked : Nat) (queued : Bool) (s : State) :
    exec (.frameExchangeDone d acked total bad resent blanked queued) s = Sys2Proof.Machine.execFrameExchangeDone d acked total bad resent blanked queued s := rfl
@[simp] theorem exec_splcTxGo (w : World) (s : State) :
    exec (.splcTxGo w) s = Sys2Proof.Machine.execSplcTxGo w s := rfl
@[simp] theorem exec_splcRxPop (w : World) (s : State) :
    exec (.splcRxPop w) s = Sys2Proof.Machine.execSplcRxPop w s := rfl
@[simp] theorem exec_dispenserBeaconLoss (d : Fin 32) (s : State) :
    exec (.dispenserBeaconLoss d) s = Sys2Proof.Machine.execDispenserBeaconLoss d s := rfl
@[simp] theorem exec_meterAddition (s : State) :
    exec (.meterAddition) s = Sys2Proof.Machine.execMeterAddition s := rfl
@[simp] theorem exec_pulseEmit (n : Fin 8) (s : State) :
    exec (.pulseEmit n) s = Sys2Proof.Machine.execPulseEmit n s := rfl
@[simp] theorem exec_zeroCrossing (c : Fin 4) (ph : Fin 3) (at_ : Nat) (x : Crossing) (s : State) :
    exec (.zeroCrossing c ph at_ x) s = Sys2Proof.Machine.execZeroCrossing c ph at_ x s := rfl
@[simp] theorem exec_zcLost (c : Fin 4) (ph : Fin 3) (s : State) :
    exec (.zcLost c ph) s = Sys2Proof.Machine.execZcLost c ph s := rfl
@[simp] theorem exec_modf (b : Fin 88) (bad : Bool) (s : State) :
    exec (.modf b bad) s = Sys2Proof.Machine.execModf b bad s := rfl
@[simp] theorem exec_mclkTaken (g : Fin 4) (s : State) :
    exec (.mclkTaken g) s = Sys2Proof.Machine.execMclkTaken g s := rfl
@[simp] theorem exec_meterLoad (w : World) (m : Meter) (s : State) :
    exec (.meterLoad w m) s = Sys2Proof.Machine.execMeterLoad w m s := rfl
@[simp] theorem exec_sealChange (on : Bool) (s : State) :
    exec (.sealChange on) s = Sys2Proof.Machine.execSealChange on s := rfl
@[simp] theorem exec_meterFlagClear (w : World) (pulse : Bool) (m : Meter) (v : Word) (s : State) :
    exec (.meterFlagClear w pulse m v) s = Sys2Proof.Machine.execMeterFlagClear w pulse m v s := rfl
@[simp] theorem exec_boundarySequence (s : State) :
    exec (.boundarySequence) s = Sys2Proof.Machine.execBoundarySequence s := rfl
@[simp] theorem exec_bootComplete (s : State) :
    exec (.bootComplete) s = Sys2Proof.Machine.execBootComplete s := rfl
@[simp] theorem exec_sessionOpen (prepay : Bool) (lowAt : Int) (ident : List (List Byte)) (s : State) :
    exec (.sessionOpen prepay lowAt ident) s = Sys2Proof.Machine.execSessionOpen prepay lowAt ident s := rfl
@[simp] theorem exec_sessionClose (s : State) :
    exec (.sessionClose) s = Sys2Proof.Machine.execSessionClose s := rfl
@[simp] theorem exec_credit (token : Word) (amount : Nat) (sig : List Byte) (s : State) :
    exec (.credit token amount sig) s = Sys2Proof.Machine.execCredit token amount sig s := rfl
@[simp] theorem exec_calPart (ofs : Nat) (data : List Byte) (s : State) :
    exec (.calPart ofs data) s = Sys2Proof.Machine.execCalPart ofs data s := rfl
@[simp] theorem exec_calCommit (sig : List Byte) (s : State) :
    exec (.calCommit sig) s = Sys2Proof.Machine.execCalCommit sig s := rfl
@[simp] theorem exec_billRead (kind : Nat) (index : Word) (ofs : Nat) (s : State) :
    exec (.billRead kind index ofs) s = Sys2Proof.Machine.execBillRead kind index ofs s := rfl
@[simp] theorem exec_discFail (p : Port) (s : State) :
    exec (.discFail p) s = Sys2Proof.Machine.execDiscFail p s := rfl
@[simp] theorem exec_displayFrame (s : State) :
    exec (.displayFrame) s = Sys2Proof.Machine.execDisplayFrame s := rfl
@[simp] theorem exec_displayItemAdvance (s : State) :
    exec (.displayItemAdvance) s = Sys2Proof.Machine.execDisplayItemAdvance s := rfl
@[simp] theorem exec_conversionSlot (raw : List (Nat × Bool)) (s : State) :
    exec (.conversionSlot raw) s = Sys2Proof.Machine.execConversionSlot raw s := rfl
@[simp] theorem exec_ptripClear (w : World) (v : Word) (s : State) :
    exec (.ptripClear w v) s = Sys2Proof.Machine.execPtripClear w v s := rfl
@[simp] theorem exec_throttleStep (s : State) :
    exec (.throttleStep) s = Sys2Proof.Machine.execThrottleStep s := rfl
@[simp] theorem exec_thermalShutdown (s : State) :
    exec (.thermalShutdown) s = Sys2Proof.Machine.execThermalShutdown s := rfl
@[simp] theorem exec_sync (w : World) (s : State) :
    exec (.sync w) s = Sys2Proof.Machine.execSync w s := rfl
@[simp] theorem exec_blankingEnd (n : Fin 32) (s : State) :
    exec (.blankingEnd n) s = Sys2Proof.Machine.execBlankingEnd n s := rfl
@[simp] theorem exec_tripI (n : Fin 32) (s : State) :
    exec (.tripI n) s = Sys2Proof.Machine.execTripI n s := rfl
@[simp] theorem exec_tripDt (n : Fin 32) (dt : Int) (s : State) :
    exec (.tripDt n dt) s = Sys2Proof.Machine.execTripDt n dt s := rfl
@[simp] theorem exec_caseTrip (tcase : Int) (s : State) :
    exec (.caseTrip tcase) s = Sys2Proof.Machine.execCaseTrip tcase s := rfl
@[simp] theorem exec_channelRetry (n : Fin 32) (s : State) :
    exec (.channelRetry n) s = Sys2Proof.Machine.execChannelRetry n s := rfl
@[simp] theorem exec_retryCountReset (n : Fin 32) (s : State) :
    exec (.retryCountReset n) s = Sys2Proof.Machine.execRetryCountReset n s := rfl
@[simp] theorem exec_openLoad (n : Fin 32) (s : State) :
    exec (.openLoad n) s = Sys2Proof.Machine.execOpenLoad n s := rfl
@[simp] theorem exec_clr (w : World) (n : Fin 32) (s : State) :
    exec (.clr w n) s = Sys2Proof.Machine.execClr w n s := rfl
@[simp] theorem exec_caseClr (w : World) (s : State) :
    exec (.caseClr w) s = Sys2Proof.Machine.execCaseClr w s := rfl
@[simp] theorem exec_peakClr (w : World) (n : Fin 32) (s : State) :
    exec (.peakClr w n) s = Sys2Proof.Machine.execPeakClr w n s := rfl
@[simp] theorem exec_railLossClear (w : World) (s : State) :
    exec (.railLossClear w) s = Sys2Proof.Machine.execRailLossClear w s := rfl
@[simp] theorem exec_limpEnChange (on : Bool) (pins : Nat) (s : State) :
    exec (.limpEnChange on pins) s = Sys2Proof.Machine.execLimpEnChange on pins s := rfl
@[simp] theorem exec_limpTripClear (n : Fin 32) (s : State) :
    exec (.limpTripClear n) s = Sys2Proof.Machine.execLimpTripClear n s := rfl
@[simp] theorem exec_keeperHoldExpiry (n : Fin 32) (s : State) :
    exec (.keeperHoldExpiry n) s = Sys2Proof.Machine.execKeeperHoldExpiry n s := rfl
@[simp] theorem exec_lswEnable (w : World) (s : State) :
    exec (.lswEnable w) s = Sys2Proof.Machine.execLswEnable w s := rfl
@[simp] theorem exec_fieldRailSag (v : Nat) (s : State) :
    exec (.fieldRailSag v) s = Sys2Proof.Machine.execFieldRailSag v s := rfl
@[simp] theorem exec_fieldRailLoss (v : Nat) (s : State) :
    exec (.fieldRailLoss v) s = Sys2Proof.Machine.execFieldRailLoss v s := rfl
@[simp] theorem exec_fieldRailReturn (v : Nat) (s : State) :
    exec (.fieldRailReturn v) s = Sys2Proof.Machine.execFieldRailReturn v s := rfl
@[simp] theorem exec_safeEnable (w : World) (s : State) :
    exec (.safeEnable w) s = Sys2Proof.Machine.execSafeEnable w s := rfl
@[simp] theorem exec_safeCheckDone (hs ls : Nat) (s : State) :
    exec (.safeCheckDone hs ls) s = Sys2Proof.Machine.execSafeCheckDone hs ls s := rfl
@[simp] theorem exec_safeDisable (w : World) (s : State) :
    exec (.safeDisable w) s = Sys2Proof.Machine.execSafeDisable w s := rfl
@[simp] theorem exec_inputSample (a b : Nat) (s : State) :
    exec (.inputSample a b) s = Sys2Proof.Machine.execInputSample a b s := rfl
@[simp] theorem exec_discrepancyTimeout (n : Fin 48) (s : State) :
    exec (.discrepancyTimeout n) s = Sys2Proof.Machine.execDiscrepancyTimeout n s := rfl
@[simp] theorem exec_ripPanelStopStart (p : Port) (s : State) :
    exec (.ripPanelStopStart p) s = Sys2Proof.Machine.execRipPanelStopStart p s := rfl
@[simp] theorem exec_rampDeadline (p : Port) (s : State) :
    exec (.rampDeadline p) s = Sys2Proof.Machine.execRampDeadline p s := rfl
@[simp] theorem exec_removalComplete (p : Port) (s : State) :
    exec (.removalComplete p) s = Sys2Proof.Machine.execRemovalComplete p s := rfl
@[simp] theorem exec_darkPulseTest (n : Fin 40) (fell : Option Nat) (s : State) :
    exec (.darkPulseTest n fell) s = Sys2Proof.Machine.execDarkPulseTest n fell s := rfl
@[simp] theorem exec_openCoil (n : Fin 40) (s : State) :
    exec (.openCoil n) s = Sys2Proof.Machine.execOpenCoil n s := rfl
@[simp] theorem exec_xatchFrameRx (ringB : Bool) (src : Nat) (payload : List Byte) (s : State) :
    exec (.xatchFrameRx ringB src payload) s = Sys2Proof.Machine.execXatchFrameRx ringB src payload s := rfl
@[simp] theorem exec_xatchWatchdogExpiry (n : Fin 16) (s : State) :
    exec (.xatchWatchdogExpiry n) s = Sys2Proof.Machine.execXatchWatchdogExpiry n s := rfl
@[simp] theorem exec_xatchSend (m : Fin 8) (s : State) :
    exec (.xatchSend m) s = Sys2Proof.Machine.execXatchSend m s := rfl
@[simp] theorem exec_xchCntClr (w : World) (s : State) :
    exec (.xchCntClr w) s = Sys2Proof.Machine.execXchCntClr w s := rfl
@[simp] theorem exec_safetyWordRx (x : SafetyWord) (crcOk : Bool) (s : State) :
    exec (.safetyWordRx x crcOk) s = Sys2Proof.Machine.execSafetyWordRx x crcOk s := rfl
@[simp] theorem exec_safetyWordLost (s : State) :
    exec (.safetyWordLost) s = Sys2Proof.Machine.execSafetyWordLost s := rfl
@[simp] theorem exec_standbyOutputTimeout (s : State) :
    exec (.standbyOutputTimeout) s = Sys2Proof.Machine.execStandbyOutputTimeout s := rfl
@[simp] theorem exec_sharedStuck (p : Port) (s : State) :
    exec (.sharedStuck p) s = Sys2Proof.Machine.execSharedStuck p s := rfl
@[simp] theorem exec_islandLockstepMismatch (s : State) :
    exec (.islandLockstepMismatch) s = Sys2Proof.Machine.execIslandLockstepMismatch s := rfl
@[simp] theorem exec_tetherWordRx (x : TethWord) (chunk : Option Chunk) (s : State) :
    exec (.tetherWordRx x chunk) s = Sys2Proof.Machine.execTetherWordRx x chunk s := rfl
@[simp] theorem exec_laneFault (s : State) :
    exec (.laneFault) s = Sys2Proof.Machine.execLaneFault s := rfl
@[simp] theorem exec_tetherDown (s : State) :
    exec (.tetherDown) s = Sys2Proof.Machine.execTetherDown s := rfl
@[simp] theorem exec_healthReportRx (body : List Byte) (s : State) :
    exec (.healthReportRx body) s = Sys2Proof.Machine.execHealthReportRx body s := rfl
@[simp] theorem exec_hlthLost (s : State) :
    exec (.hlthLost) s = Sys2Proof.Machine.execHlthLost s := rfl
@[simp] theorem exec_fallbackFrameRx (chunk : Chunk) (s : State) :
    exec (.fallbackFrameRx chunk) s = Sys2Proof.Machine.execFallbackFrameRx chunk s := rfl
@[simp] theorem exec_takeClaim (s : State) :
    exec (.takeClaim) s = Sys2Proof.Machine.execTakeClaim s := rfl
@[simp] theorem exec_releaseClaim (w : World) (s : State) :
    exec (.releaseClaim w) s = Sys2Proof.Machine.execReleaseClaim w s := rfl
@[simp] theorem exec_take (w : World) (s : State) :
    exec (.take w) s = Sys2Proof.Machine.execTake w s := rfl
@[simp] theorem exec_tethEnable (w : World) (s : State) :
    exec (.tethEnable w) s = Sys2Proof.Machine.execTethEnable w s := rfl
@[simp] theorem exec_joinWaitExpiry (s : State) :
    exec (.joinWaitExpiry) s = Sys2Proof.Machine.execJoinWaitExpiry s := rfl
@[simp] theorem exec_demotedClear (w : World) (s : State) :
    exec (.demotedClear w) s = Sys2Proof.Machine.execDemotedClear w s := rfl
@[simp] theorem exec_tethCntClr (w : World) (s : State) :
    exec (.tethCntClr w) s = Sys2Proof.Machine.execTethCntClr w s := rfl
@[simp] theorem exec_blstEnumerate (w : World) (r : Fin 2) (s : State) :
    exec (.blstEnumerate w r) s = Sys2Proof.Machine.execBlstEnumerate w r s := rfl
@[simp] theorem exec_enumReturn (r : Fin 2) (ret : Option Bool) (next : Nat) (s : State) :
    exec (.enumReturn r ret next) s = Sys2Proof.Machine.execEnumReturn r ret next s := rfl
@[simp] theorem exec_ringBreak (r : Fin 2) (fromB : Bool) (ret : Option Bool) (reached : Nat) (s : State) :
    exec (.ringBreak r fromB ret reached) s = Sys2Proof.Machine.execRingBreak r fromB ret reached s := rfl
@[simp] theorem exec_measurementSlot (r : Fin 2) (s : State) :
    exec (.measurementSlot r) s = Sys2Proof.Machine.execMeasurementSlot r s := rfl
@[simp] theorem exec_slotReadingsDone (r : Fin 2) (blocks : List (List Byte)) (moves : List (Nat × List Nat)) (s : State) :
    exec (.slotReadingsDone r blocks moves) s = Sys2Proof.Machine.execSlotReadingsDone r blocks moves s := rfl
@[simp] theorem exec_faultCode (r : Fin 2) (on : Bool) (s : State) :
    exec (.faultCode r on) s = Sys2Proof.Machine.execFaultCode r on s := rfl
@[simp] theorem exec_tripClr (w : World) (r : Fin 2) (s : State) :
    exec (.tripClr w r) s = Sys2Proof.Machine.execTripClr w r s := rfl
@[simp] theorem exec_owNow (w : World) (r : Fin 2) (s : State) :
    exec (.owNow w r) s = Sys2Proof.Machine.execOwNow w r s := rfl
@[simp] theorem exec_monReset (r : Fin 2) (m : Fin 64) (fromB : Bool) (f : List Byte) (s : State) :
    exec (.monReset r m fromB f) s = Sys2Proof.Machine.execMonReset r m fromB f s := rfl
@[simp] theorem exec_monEnum (r : Fin 2) (m : Fin 64) (fromB : Bool) (f : List Byte) (s : State) :
    exec (.monEnum r m fromB f) s = Sys2Proof.Machine.execMonEnum r m fromB f s := rfl
@[simp] theorem exec_monConfig (r : Fin 2) (m : Fin 64) (fromB : Bool) (f : List Byte) (s : State) :
    exec (.monConfig r m fromB f) s = Sys2Proof.Machine.execMonConfig r m fromB f s := rfl
@[simp] theorem exec_monHush (r : Fin 2) (m : Fin 64) (fromB : Bool) (f : List Byte) (s : State) :
    exec (.monHush r m fromB f) s = Sys2Proof.Machine.execMonHush r m fromB f s := rfl
@[simp] theorem exec_monConvert (r : Fin 2) (m : Fin 64) (fromB : Bool) (f : List Byte) (cells : List Nat) (msum temp : Nat) (s : State) :
    exec (.monConvert r m fromB f cells msum temp) s = Sys2Proof.Machine.execMonConvert r m fromB f cells msum temp s := rfl
@[simp] theorem exec_monRead (r : Fin 2) (m : Fin 64) (fromB : Bool) (f : List Byte) (s : State) :
    exec (.monRead r m fromB f) s = Sys2Proof.Machine.execMonRead r m fromB f s := rfl
@[simp] theorem exec_monBalance (r : Fin 2) (m : Fin 64) (fromB : Bool) (f : List Byte) (s : State) :
    exec (.monBalance r m fromB f) s = Sys2Proof.Machine.execMonBalance r m fromB f s := rfl
@[simp] theorem exec_cellComparatorTrip (r : Fin 2) (m : Fin 64) (ov uv : Nat) (intern : Bool) (s : State) :
    exec (.cellComparatorTrip r m ov uv intern) s = Sys2Proof.Machine.execCellComparatorTrip r m ov uv intern s := rfl
@[simp] theorem exec_monitorTimeout (r : Fin 2) (m : Fin 64) (s : State) :
    exec (.monitorTimeout r m) s = Sys2Proof.Machine.execMonitorTimeout r m s := rfl
@[simp] theorem exec_hopBreak (r : Fin 2) (m : Fin 64) (toB : Bool) (s : State) :
    exec (.hopBreak r m toB) s = Sys2Proof.Machine.execHopBreak r m toB s := rfl
@[simp] theorem exec_hopRestore (r : Fin 2) (m : Fin 64) (toB : Bool) (s : State) :
    exec (.hopRestore r m toB) s = Sys2Proof.Machine.execHopRestore r m toB s := rfl
@[simp] theorem exec_txreq (w : World) (c : Fin 4) (o : Fin 128) (s : State) :
    exec (.txreq w c o) s = Sys2Proof.Machine.execTxreq w c o s := rfl
@[simp] theorem exec_canCancel (w : World) (c : Fin 4) (o : Fin 128) (s : State) :
    exec (.canCancel w c o) s = Sys2Proof.Machine.execCanCancel w c o s := rfl
@[simp] theorem exec_boRec (w : World) (c : Fin 4) (s : State) :
    exec (.boRec w c) s = Sys2Proof.Machine.execBoRec w c s := rfl
@[simp] theorem exec_newdatClear (w : World) (c : Fin 4) (o : Fin 128) (s : State) :
    exec (.newdatClear w c o) s = Sys2Proof.Machine.execNewdatClear w c o s := rfl
@[simp] theorem exec_canCntClr (w : World) (c : Fin 4) (s : State) :
    exec (.canCntClr w c) s = Sys2Proof.Machine.execCanCntClr w c s := rfl
@[simp] theorem exec_arbitrationStart (c : Fin 4) (s : State) :
    exec (.arbitrationStart c) s = Sys2Proof.Machine.execArbitrationStart c s := rfl
@[simp] theorem exec_canTxSuccess (c : Fin 4) (s : State) :
    exec (.canTxSuccess c) s = Sys2Proof.Machine.execCanTxSuccess c s := rfl
@[simp] theorem exec_arbitrationLost (c : Fin 4) (s : State) :
    exec (.arbitrationLost c) s = Sys2Proof.Machine.execArbitrationLost c s := rfl
@[simp] theorem exec_canError (c : Fin 4) (e : CanErr) (eights : Nat) (s : State) :
    exec (.canError c e eights) s = Sys2Proof.Machine.execCanError c e eights s := rfl
@[simp] theorem exec_canFrameRx (c : Fin 4) (f : CanFrame) (s : State) :
    exec (.canFrameRx c f) s = Sys2Proof.Machine.execCanFrameRx c f s := rfl
@[simp] theorem exec_busOffRecoveryDone (c : Fin 4) (s : State) :
    exec (.busOffRecoveryDone c) s = Sys2Proof.Machine.execBusOffRecoveryDone c s := rfl
@[simp] theorem exec_canDisable (w : World) (c : Fin 4) (s : State) :
    exec (.canDisable w c) s = Sys2Proof.Machine.execCanDisable w c s := rfl
@[simp] theorem exec_reelStart (w : World) (c : Fin 64) (ecc : Bool) (s : State) :
    exec (.reelStart w c ecc) s = Sys2Proof.Machine.execReelStart w c ecc s := rfl
@[simp] theorem exec_reelStop (w : World) (c : Fin 64) (s : State) :
    exec (.reelStop w c) s = Sys2Proof.Machine.execReelStop w c s := rfl
@[simp] theorem exec_reelFlag (w : World) (c : Fin 64) (s : State) :
    exec (.reelFlag w c) s = Sys2Proof.Machine.execReelFlag w c s := rfl
@[simp] theorem exec_reelCntClr (w : World) (c : Fin 64) (s : State) :
    exec (.reelCntClr w c) s = Sys2Proof.Machine.execReelCntClr w c s := rfl
@[simp] theorem exec_move (c : Fin 64) (beats : Nat) (ecc : Bool) (s : State) :
    exec (.move c beats ecc) s = Sys2Proof.Machine.execMove c beats ecc s := rfl
@[simp] theorem exec_movePiece (c : Fin 64) (beats : Nat) (ecc : Bool) (s : State) :
    exec (.movePiece c beats ecc) s = Sys2Proof.Machine.execMovePiece c beats ecc s := rfl
@[simp] theorem exec_loop (c : Fin 64) (ecc : Bool) (s : State) :
    exec (.loop c ecc) s = Sys2Proof.Machine.execLoop c ecc s := rfl
@[simp] theorem exec_wait (c : Fin 64) (s : State) :
    exec (.wait c) s = Sys2Proof.Machine.execWait c s := rfl
@[simp] theorem exec_waitEnd (c : Fin 64) (ecc : Bool) (s : State) :
    exec (.waitEnd c ecc) s = Sys2Proof.Machine.execWaitEnd c ecc s := rfl
@[simp] theorem exec_signal (c : Fin 64) (ecc : Bool) (s : State) :
    exec (.signal c ecc) s = Sys2Proof.Machine.execSignal c ecc s := rfl
@[simp] theorem exec_slotAttributeWrite (w : World) (k : Fin 256) (second : Bool) (v : Word) (s : State) :
    exec (.slotAttributeWrite w k second v) s = Sys2Proof.Machine.execSlotAttributeWrite w k second v s := rfl
@[simp] theorem exec_clrGo (w : World) (s : State) :
    exec (.clrGo w) s = Sys2Proof.Machine.execClrGo w s := rfl
@[simp] theorem exec_regionWrite (w : World) (r : Fin 16) (k : Fin 4) (v : Word) (s : State) :
    exec (.regionWrite w r k v) s = Sys2Proof.Machine.execRegionWrite w r k v s := rfl
@[simp] theorem exec_hash (w : Fin 3) (st : Nat) (s : State) :
    exec (.hash w st) s = Sys2Proof.Machine.execHash w st s := rfl
@[simp] theorem exec_hmac (w : Fin 3) (st : Nat) (s : State) :
    exec (.hmac w st) s = Sys2Proof.Machine.execHmac w st s := rfl
@[simp] theorem exec_gcmEnc (w : Fin 3) (st : Nat) (s : State) :
    exec (.gcmEnc w st) s = Sys2Proof.Machine.execGcmEnc w st s := rfl
@[simp] theorem exec_gcmDec (w : Fin 3) (st : Nat) (s : State) :
    exec (.gcmDec w st) s = Sys2Proof.Machine.execGcmDec w st s := rfl
@[simp] theorem exec_sign (w : Fin 3) (st : Nat) (s : State) :
    exec (.sign w st) s = Sys2Proof.Machine.execSign w st s := rfl
@[simp] theorem exec_verify (w : Fin 3) (st : Nat) (s : State) :
    exec (.verify w st) s = Sys2Proof.Machine.execVerify w st s := rfl
@[simp] theorem exec_keygen (w : Fin 3) (st : Nat) (s : State) :
    exec (.keygen w st) s = Sys2Proof.Machine.execKeygen w st s := rfl
@[simp] theorem exec_ecdh (w : Fin 3) (st : Nat) (s : State) :
    exec (.ecdh w st) s = Sys2Proof.Machine.execEcdh w st s := rfl
@[simp] theorem exec_kdf (w : Fin 3) (st : Nat) (s : State) :
    exec (.kdf w st) s = Sys2Proof.Machine.execKdf w st s := rfl
@[simp] theorem exec_importKey (w : Fin 3) (st : Nat) (s : State) :
    exec (.importKey w st) s = Sys2Proof.Machine.execImportKey w st s := rfl
@[simp] theorem exec_wrap (w : Fin 3) (st : Nat) (s : State) :
    exec (.wrap w st) s = Sys2Proof.Machine.execWrap w st s := rfl
@[simp] theorem exec_unwrap (w : Fin 3) (st : Nat) (s : State) :
    exec (.unwrap w st) s = Sys2Proof.Machine.execUnwrap w st s := rfl
@[simp] theorem exec_random (w : Fin 3) (st : Nat) (s : State) :
    exec (.random w st) s = Sys2Proof.Machine.execRandom w st s := rfl
@[simp] theorem exec_pubread (w : Fin 3) (st : Nat) (s : State) :
    exec (.pubread w st) s = Sys2Proof.Machine.execPubread w st s := rfl
@[simp] theorem exec_jobComplete (w : Fin 3) (st : Nat) (s : State) :
    exec (.jobComplete w st) s = Sys2Proof.Machine.execJobComplete w st s := rfl
@[simp] theorem exec_rngFail (s : State) :
    exec (.rngFail) s = Sys2Proof.Machine.execRngFail s := rfl
@[simp] theorem exec_lcGo (w : World) (s : State) :
    exec (.lcGo w) s = Sys2Proof.Machine.execLcGo w s := rfl
@[simp] theorem exec_lcDone (s : State) :
    exec (.lcDone) s = Sys2Proof.Machine.execLcDone s := rfl
@[simp] theorem exec_dbgArm (w : World) (s : State) :
    exec (.dbgArm w) s = Sys2Proof.Machine.execDbgArm w s := rfl
@[simp] theorem exec_ringSupplyLoss (portB : Bool) (s : State) :
    exec (.ringSupplyLoss portB) s = Sys2Proof.Machine.execRingSupplyLoss portB s := rfl
@[simp] theorem exec_ringSupplyGood (portB : Bool) (s : State) :
    exec (.ringSupplyGood portB) s = Sys2Proof.Machine.execRingSupplyGood portB s := rfl
@[simp] theorem exec_huW0 (w : World) (s : State) :
    exec (.huW0 w) s = Sys2Proof.Machine.execHuW0 w s := rfl
@[simp] theorem exec_huW1 (w : World) (s : State) :
    exec (.huW1 w) s = Sys2Proof.Machine.execHuW1 w s := rfl
@[simp] theorem exec_holdupExhausted (s : State) :
    exec (.holdupExhausted) s = Sys2Proof.Machine.execHoldupExhausted s := rfl
@[simp] theorem exec_powerOnReset (aOk bOk : Bool) (s : State) :
    exec (.powerOnReset aOk bOk) s = Sys2Proof.Machine.execPowerOnReset aOk bOk s := rfl
@[simp] theorem exec_brownOut (s : State) :
    exec (.brownOut) s = Sys2Proof.Machine.execBrownOut s := rfl
@[simp] theorem exec_watchdogExpiry (k : Fin 3) (s : State) :
    exec (.watchdogExpiry k) s = Sys2Proof.Machine.execWatchdogExpiry k s := rfl
@[simp] theorem exec_gKick (w : World) (s : State) :
    exec (.gKick w) s = Sys2Proof.Machine.execGKick w s := rfl
@[simp] theorem exec_bKick (w : World) (s : State) :
    exec (.bKick w) s = Sys2Proof.Machine.execBKick w s := rfl
@[simp] theorem exec_eKick (w : World) (s : State) :
    exec (.eKick w) s = Sys2Proof.Machine.execEKick w s := rfl
@[simp] theorem exec_swGo (w : World) (s : State) :
    exec (.swGo w) s = Sys2Proof.Machine.execSwGo w s := rfl
@[simp] theorem exec_extRst (s : State) :
    exec (.extRst) s = Sys2Proof.Machine.execExtRst s := rfl
@[simp] theorem exec_debugReset (s : State) :
    exec (.debugReset) s = Sys2Proof.Machine.execDebugReset s := rfl
@[simp] theorem exec_resetAccept (s : State) :
    exec (.resetAccept) s = Sys2Proof.Machine.execResetAccept s := rfl
@[simp] theorem exec_resetApply (s : State) :
    exec (.resetApply) s = Sys2Proof.Machine.execResetApply s := rfl
@[simp] theorem exec_optionLoad (s : State) :
    exec (.optionLoad) s = Sys2Proof.Machine.execOptionLoad s := rfl
@[simp] theorem exec_bootVerify (s : State) :
    exec (.bootVerify) s = Sys2Proof.Machine.execBootVerify s := rfl
@[simp] theorem exec_blockRelease (b : Fin 28) (s : State) :
    exec (.blockRelease b) s = Sys2Proof.Machine.execBlockRelease b s := rfl
@[simp] theorem exec_clkFail (b : Fin 28) (s : State) :
    exec (.clkFail b) s = Sys2Proof.Machine.execClkFail b s := rfl
@[simp] theorem exec_retryGo (w : World) (s : State) :
    exec (.retryGo w) s = Sys2Proof.Machine.execRetryGo w s := rfl
@[simp] theorem exec_brstIdleReached (p : Page) (s : State) :
    exec (.brstIdleReached p) s = Sys2Proof.Machine.execBrstIdleReached p s := rfl
@[simp] theorem exec_idleTimeout (p : Page) (s : State) :
    exec (.idleTimeout p) s = Sys2Proof.Machine.execIdleTimeout p s := rfl
@[simp] theorem exec_idleToClear (w : World) (v : Word) (s : State) :
    exec (.idleToClear w v) s = Sys2Proof.Machine.execIdleToClear w v s := rfl
@[simp] theorem exec_refFail (s : State) :
    exec (.refFail) s = Sys2Proof.Machine.execRefFail s := rfl
@[simp] theorem exec_pllLost (k : Fin 6) (s : State) :
    exec (.pllLost k) s = Sys2Proof.Machine.execPllLost k s := rfl
@[simp] theorem exec_runW1 (w : World) (s : State) :
    exec (.runW1 w) s = Sys2Proof.Machine.execRunW1 w s := rfl
@[simp] theorem exec_runW2 (w : World) (s : State) :
    exec (.runW2 w) s = Sys2Proof.Machine.execRunW2 w s := rfl
@[simp] theorem exec_modeWrite (w : World) (v : Fin 4) (s : State) :
    exec (.modeWrite w v) s = Sys2Proof.Machine.execModeWrite w v s := rfl
@[simp] theorem exec_flashProgram (w : World) (s : State) :
    exec (.flashProgram w) s = Sys2Proof.Machine.execFlashProgram w s := rfl
@[simp] theorem exec_flashErase (w : World) (s : State) :
    exec (.flashErase w) s = Sys2Proof.Machine.execFlashErase w s := rfl
@[simp] theorem exec_flashDone (s : State) :
    exec (.flashDone) s = Sys2Proof.Machine.execFlashDone s := rfl
@[simp] theorem exec_tetherReturn (two : Bool) (s : State) :
    exec (.tetherReturn two) s = Sys2Proof.Machine.execTetherReturn two s := rfl
@[simp] theorem exec_driverReset (st : Stage) (s : State) :
    exec (.driverReset st) s = Sys2Proof.Machine.execDriverReset st s := rfl
@[simp] theorem exec_canBusIdle (c : Fin 4) (s : State) :
    exec (.canBusIdle c) s = Sys2Proof.Machine.execCanBusIdle c s := rfl
@[simp] theorem exec_shutdownResetRelease (td : List (Option Int)) (s : State) :
    exec (.shutdownResetRelease td) s = Sys2Proof.Machine.execShutdownResetRelease td s := rfl
@[simp] theorem exec_caseTripSelfClear (tcase : Int) (s : State) :
    exec (.caseTripSelfClear tcase) s = Sys2Proof.Machine.execCaseTripSelfClear tcase s := rfl
@[simp] theorem exec_uncorrectableEccError (s : State) :
    exec (.uncorrectableEccError) s = Sys2Proof.Machine.execUncorrectableEccError s := rfl

end Sys2Proof.Machine
end

