-- ==== Sys2Proof/Laws/RegFile.lean ====
section
/-! SUPPORT. The laws of the sparse stores and of the register file: what a write leaves to be read, and the
canonical form. -/

namespace Sys2Proof.Machine

/-! ## Stores -/

theorem sget_sdel_same {α : Type} (z : α) (m : List (Nat × α)) (k : Nat) : sget z (sdel m k) k = z := by
  induction m with
  | nil => rfl
  | cons a t ih =>
    by_cases h : a.1 = k
    · simpa [sdel, h] using ih
    · have h' : ¬ k = a.1 := fun e => h e.symm
      simpa [sdel, h, h', sget] using ih

theorem sget_sdel_ne {α : Type} (z : α) (m : List (Nat × α)) (k j : Nat) (n : j ≠ k) :
    sget z (sdel m k) j = sget z m j := by
  induction m with
  | nil => rfl
  | cons a t ih =>
    by_cases h : a.1 = k
    · simpa [sdel, h, n, sget] using ih
    · by_cases e : j = a.1
      · simp [sdel, h, e, sget]
      · simpa [sdel, h, e, sget] using ih

theorem sget_sins_same {α : Type} (z : α) (m : List (Nat × α)) (k : Nat) (v : α) (h : ∀ e ∈ m, e.1 ≠ k) :
    sget z (sins m k v) k = v := by
  induction m with
  | nil => simp [sins, sget]
  | cons a t ih =>
    have h1 : ¬ k = a.1 := fun e => h a (by simp) e.symm
    by_cases c : k < a.1
    · simp [sins, c, sget]
    · simp [sins, c, sget, h1, ih (fun e he => h e (by simp [he]))]

theorem sget_sins_ne {α : Type} (z : α) (m : List (Nat × α)) (k j : Nat) (v : α) (n : j ≠ k) :
    sget z (sins m k v) j = sget z m j := by
  induction m with
  | nil => simp [sins, sget, n]
  | cons a t ih =>
    by_cases c : k < a.1
    · simp [sins, c, sget, n]
    · simp [sins, c, sget, ih]

theorem sdel_ne {α : Type} (m : List (Nat × α)) (k : Nat) : ∀ e ∈ sdel m k, e.1 ≠ k := by
  intro e he
  simp only [sdel, List.mem_filter, bne_iff_ne] at he
  exact he.2

@[simp] theorem sget_sput_same {α : Type} [DecidableEq α] (z : α) (m : List (Nat × α)) (k : Nat) (v : α) :
    sget z (sput z m k v) k = v := by
  by_cases h : v = z
  · simp [sput, h, sget_sdel_same]
  · simp [sput, h, sget_sins_same z _ k v (sdel_ne m k)]

theorem sget_sput_ne {α : Type} [DecidableEq α] (z : α) (m : List (Nat × α)) (k j : Nat) (v : α) (n : j ≠ k) :
    sget z (sput z m k v) j = sget z m j := by
  by_cases h : v = z
  · simp [sput, h, sget_sdel_ne z m k j n]
  · simp [sput, h, sget_sins_ne z _ k j v n, sget_sdel_ne z m k j n]

/-- A store is canonical when its keys rise and no entry is the default. -/
theorem swf_iff {α : Type} [DecidableEq α] (z : α) (m : List (Nat × α)) :
    swf z m = true ↔ m.Pairwise (fun a b => a.1 < b.1) ∧ ∀ e ∈ m, e.2 ≠ z := by
  have r : ∀ l : List (Nat × α), srising l = true ↔ l.Pairwise (fun a b => a.1 < b.1) := by
    intro l
    induction l with
    | nil => simp [srising]
    | cons a t ih =>
      cases t with
      | nil => simp [srising]
      | cons b t =>
        simp only [srising, Bool.and_eq_true, decide_eq_true_eq, ih, List.pairwise_cons, List.mem_cons]
        constructor
        · rintro ⟨h, h1, h2⟩
          exact ⟨fun c hc => hc.elim (fun e => e ▸ h) (fun e => h.trans (h1 c e)), h1, h2⟩
        · rintro ⟨h, h1, h2⟩
          exact ⟨h b (.inl rfl), h1, h2⟩
  simp [swf, r]

theorem sdel_swf {α : Type} [DecidableEq α] (z : α) (m : List (Nat × α)) (k : Nat) (h : swf z m = true) :
    swf z (sdel m k) = true := by
  rw [swf_iff] at *
  exact ⟨h.1.filter _, fun e he => h.2 e (List.mem_filter.mp he).1⟩

theorem mem_sins {α : Type} (m : List (Nat × α)) (k : Nat) (v : α) (e : Nat × α) (h : e ∈ sins m k v) :
    e = (k, v) ∨ e ∈ m := by
  induction m with
  | nil => simpa [sins] using h
  | cons a t ih =>
    by_cases c : k < a.1
    · simpa [sins, c] using h
    · simp only [sins, c, if_false, List.mem_cons] at h
      rcases h with h | h
      · exact .inr (by simp [h])
      · exact (ih h).elim .inl (fun x => .inr (by simp [x]))

theorem sins_swf {α : Type} [DecidableEq α] (z : α) (m : List (Nat × α)) (k : Nat) (v : α) (h : swf z m = true)
    (hk : ∀ e ∈ m, e.1 ≠ k) (hv : v ≠ z) : swf z (sins m k v) = true := by
  rw [swf_iff] at *
  refine ⟨?_, fun e he => ?_⟩
  · obtain ⟨h, -⟩ := h
    induction m with
    | nil => simp [sins]
    | cons a t ih =>
      have hp := List.pairwise_cons.mp h
      by_cases c : k < a.1
      · simp only [sins, c, if_true, List.pairwise_cons]
        refine ⟨fun e he => ?_, hp⟩
        rcases List.mem_cons.mp he with e' | e'
        · rw [e']; exact c
        · exact c.trans (hp.1 e e')
      · simp only [sins, c, if_false, List.pairwise_cons]
        have ne := hk a (by simp)
        refine ⟨fun e he => ?_, ih (fun e he => hk e (by simp [he])) hp.2⟩
        rcases mem_sins t k v e he with e' | e'
        · rw [e']; show a.1 < k; omega
        · exact hp.1 e e'
  · rcases mem_sins m k v e he with e' | e'
    · rw [e']; exact hv
    · exact h.2 e e'

/-- Every write of a store keeps the canonical form. -/
theorem sput_swf {α : Type} [DecidableEq α] (z : α) (m : List (Nat × α)) (k : Nat) (v : α) (h : swf z m = true) :
    swf z (sput z m k v) = true := by
  by_cases c : v = z
  · simpa [sput, c] using sdel_swf z m k h
  · simpa [sput, c] using sins_swf z _ k v (sdel_swf z m k h) (sdel_ne m k) c

theorem scopy_swf {α : Type} [DecidableEq α] (z : α) (d r : List (Nat × α)) (a b : Nat) (hd : swf z d = true)
    (hr : swf z r = true) : swf z (scopy d r a b) = true := by
  rw [swf_iff] at *
  obtain ⟨hd1, hd2⟩ := hd
  obtain ⟨hr1, hr2⟩ := hr
  refine ⟨?_, ?_⟩
  · simp only [scopy, List.append_assoc, List.pairwise_append, List.mem_append, List.mem_filter, decide_eq_true_eq]
    refine ⟨hd1.filter _, ⟨hr1.filter _, hd1.filter _, ?_⟩, ?_⟩
    · rintro x ⟨-, -, hx⟩ y ⟨-, hy⟩; omega
    · rintro x ⟨-, hx⟩ y (⟨-, hy⟩ | ⟨-, hy⟩) <;> omega
  · intro e he
    simp only [scopy, List.mem_append, List.mem_filter] at he
    rcases he with (he | he) | he
    · exact hd2 e he.1
    · exact hr2 e he.1
    · exact hd2 e he.1

/-! ## The register file -/

/-- A written field reads as written, in its width. -/
@[simp] theorem RegFile.get_put_same (f : RegFile) (r : Row) (ix : List Nat) (v : Nat) :
    (f.put r ix v).get r ix = v % 2 ^ r.w := by
  by_cases c : r.cls = .S <;> simp [RegFile.put, RegFile.get, c, Row.enc]

/-- The shadow copy reads as written too. -/
@[simp] theorem RegFile.getShadow_put_same (f : RegFile) (r : Row) (ix : List Nat) (v : Nat) :
    (f.put r ix v).getShadow r ix = v % 2 ^ r.w := by
  by_cases c : r.cls = .S <;> simp [RegFile.put, RegFile.getShadow, c, Row.enc]

/-- A write leaves every field at another place as it was. -/
theorem RegFile.get_put_ne (f : RegFile) (r q : Row) (ix jx : List Nat) (v : Nat) (h : q.key jx ≠ r.key ix) :
    (f.put r ix v).get q jx = f.get q jx := by
  by_cases c : r.cls = .S <;> by_cases d : q.cls = .S <;>
    simp [RegFile.put, RegFile.get, c, d, sget_sput_ne _ _ _ _ _ h]

/-- A write leaves every shadow copy at another place as it was. -/
theorem RegFile.getShadow_put_ne (f : RegFile) (r q : Row) (ix jx : List Nat) (v : Nat) (h : q.key jx ≠ r.key ix) :
    (f.put r ix v).getShadow q jx = f.getShadow q jx := by
  by_cases c : r.cls = .S <;> by_cases d : q.cls = .S <;>
    simp [RegFile.put, RegFile.getShadow, c, d, sget_sput_ne _ _ _ _ _ h]

/-- A field's value fits its width. -/
theorem RegFile.get_lt (f : RegFile) (r : Row) (ix : List Nat) : f.get r ix < 2 ^ r.w :=
  Nat.mod_lt _ (Nat.two_pow_pos _)

theorem RegFile.put_wf (f : RegFile) (r : Row) (ix : List Nat) (v : Nat) (h : f.wf = true) :
    (f.put r ix v).wf = true := by
  simp only [RegFile.wf, Bool.and_eq_true] at h ⊢
  by_cases c : r.cls = .S <;> simp [RegFile.put, c, sput_swf, h]

theorem RegFile.putShadow_wf (f : RegFile) (r : Row) (ix : List Nat) (v : Nat) (h : f.wf = true) :
    (f.putShadow r ix v).wf = true := by
  simp only [RegFile.wf, Bool.and_eq_true] at h ⊢
  simp [RegFile.putShadow, sput_swf, h]

theorem RegFile.commit_wf (f : RegFile) (a b : Nat) (h : f.wf = true) : (f.commit a b).wf = true := by
  simp only [RegFile.wf, Bool.and_eq_true] at h ⊢
  simp [RegFile.commit, scopy_swf, h]

theorem RegFile.revert_wf (f : RegFile) (a b : Nat) (h : f.wf = true) : (f.revert a b).wf = true := by
  simp only [RegFile.wf, Bool.and_eq_true] at h ⊢
  simp [RegFile.revert, scopy_swf, h]

theorem RegFile.clear_wf (f : RegFile) (a b : Nat) (h : f.wf = true) : (f.clear a b).wf = true := by
  simp only [RegFile.wf, Bool.and_eq_true] at h ⊢
  have n : swf 0 ([] : List (Nat × Nat)) = true := rfl
  simp [RegFile.clear, scopy_swf, h, n]

/-- A store copied in a range reads there as its source, elsewhere as before. -/
theorem sget_scopy {α : Type} (z : α) (d r : List (Nat × α)) (a b k : Nat) :
    sget z (scopy d r a b) k = if a ≤ k ∧ k < b then sget z r k else sget z d k := by
  have ap : ∀ l m : List (Nat × α), (∀ e ∈ l, e.1 ≠ k) → sget z (l ++ m) k = sget z m k := by
    intro l m h
    induction l with
    | nil => rfl
    | cons x t ih =>
      have : ¬ k = x.1 := fun e => h x (by simp) e.symm
      simp only [List.cons_append, sget, this, if_false]
      exact ih (fun e he => h e (by simp [he]))
  have fi : ∀ (l m : List (Nat × α)) (p : Nat × α → Bool), (∀ e, e.1 = k → p e = true) → (∀ e ∈ m, e.1 ≠ k) →
      sget z (l.filter p ++ m) k = sget z l k := by
    intro l m p h hm
    induction l with
    | nil =>
      have := ap m [] hm
      simpa using this
    | cons x t ih =>
      by_cases e : k = x.1
      · have := h x e.symm
        simp [this, sget, e]
      · by_cases q : p x = true
        · simp [q, sget, e, ih]
        · simp [q, sget, e, ih]
  unfold scopy
  by_cases c : a ≤ k ∧ k < b
  · rw [if_pos c, List.append_assoc, ap, fi]
    · intro e h; simp [h, c]
    · intro e he; simp at he; omega
    · intro e he; simp at he; omega
  · rw [if_neg c]
    by_cases c' : k < a
    · rw [List.append_assoc, fi]
      · intro e h; simp [h, c']
      · intro e he
        simp at he
        omega
    · rw [ap]
      · have := fi d [] (fun e => decide (a ≤ e.1 ∧ b ≤ e.1)) (by intro e h; simp [h]; omega) (by simp)
        simpa using this
      · intro e he
        simp at he
        omega

/-- A commit makes the shadow active in its range and leaves the rest (R34). -/
theorem RegFile.get_commit (f : RegFile) (a b : Nat) (r : Row) (ix : List Nat) :
    (f.commit a b).get r ix =
      if r.cls = .S ∧ 8 * a ≤ r.key ix ∧ r.key ix < 8 * b then f.getShadow r ix else f.get r ix := by
  by_cases c : r.cls = .S
  · by_cases d : 8 * a ≤ r.key ix ∧ r.key ix < 8 * b <;>
      simp [RegFile.commit, RegFile.get, RegFile.getShadow, c, d, sget_scopy]
  · simp [RegFile.commit, RegFile.get, c]

end Sys2Proof.Machine
end

