-- ==== Sys2Proof/Laws/State.lean ====
section
/-! SUPPORT. One lemma for each field of the state under each named update, and what a register field reads after a
write. -/

namespace Sys2Proof.Machine

open Sys2Proof

/-! ### wr -/

@[simp] theorem State.wr_arms (s : State) (r : Row) (ix : List Nat) (v : Nat) : (s.wr r ix v).arms = s.arms := rfl
@[simp] theorem State.wr_now (s : State) (r : Row) (ix : List Nat) (v : Nat) : (s.wr r ix v).now = s.now := rfl
@[simp] theorem State.wr_freeCtr (s : State) (r : Row) (ix : List Nat) (v : Nat) : (s.wr r ix v).freeCtr = s.freeCtr := rfl
@[simp] theorem State.wr_pending (s : State) (r : Row) (ix : List Nat) (v : Nat) : (s.wr r ix v).pending = s.pending := rfl
@[simp] theorem State.wr_spar (s : State) (r : Row) (ix : List Nat) (v : Nat) : (s.wr r ix v).spar = s.spar := rfl
@[simp] theorem State.wr_host (s : State) (r : Row) (ix : List Nat) (v : Nat) : (s.wr r ix v).host = s.host := rfl
@[simp] theorem State.wr_slotY (s : State) (r : Row) (ix : List Nat) (v : Nat) : (s.wr r ix v).slotY = s.slotY := rfl
@[simp] theorem State.wr_ring (s : State) (r : Row) (ix : List Nat) (v : Nat) : (s.wr r ix v).ring = s.ring := rfl
@[simp] theorem State.wr_lines (s : State) (r : Row) (ix : List Nat) (v : Nat) : (s.wr r ix v).lines = s.lines := rfl
@[simp] theorem State.wr_drivers (s : State) (r : Row) (ix : List Nat) (v : Nat) : (s.wr r ix v).drivers = s.drivers := rfl
@[simp] theorem State.wr_windowClosed (s : State) (r : Row) (ix : List Nat) (v : Nat) : (s.wr r ix v).windowClosed = s.windowClosed := rfl
@[simp] theorem State.wr_windowSent (s : State) (r : Row) (ix : List Nat) (v : Nat) : (s.wr r ix v).windowSent = s.windowSent := rfl
@[simp] theorem State.wr_stages (s : State) (r : Row) (ix : List Nat) (v : Nat) : (s.wr r ix v).stages = s.stages := rfl
@[simp] theorem State.wr_ports (s : State) (r : Row) (ix : List Nat) (v : Nat) : (s.wr r ix v).ports = s.ports := rfl
@[simp] theorem State.wr_brn (s : State) (r : Row) (ix : List Nat) (v : Nat) : (s.wr r ix v).brn = s.brn := rfl
@[simp] theorem State.wr_brd (s : State) (r : Row) (ix : List Nat) (v : Nat) : (s.wr r ix v).brd = s.brd := rfl
@[simp] theorem State.wr_sess (s : State) (r : Row) (ix : List Nat) (v : Nat) : (s.wr r ix v).sess = s.sess := rfl
@[simp] theorem State.wr_links (s : State) (r : Row) (ix : List Nat) (v : Nat) : (s.wr r ix v).links = s.links := rfl
@[simp] theorem State.wr_splc (s : State) (r : Row) (ix : List Nat) (v : Nat) : (s.wr r ix v).splc = s.splc := rfl
@[simp] theorem State.wr_mtrs (s : State) (r : Row) (ix : List Nat) (v : Nat) : (s.wr r ix v).mtrs = s.mtrs := rfl
@[simp] theorem State.wr_chans (s : State) (r : Row) (ix : List Nat) (v : Nat) : (s.wr r ix v).chans = s.chans := rfl
@[simp] theorem State.wr_phases (s : State) (r : Row) (ix : List Nat) (v : Nat) : (s.wr r ix v).phases = s.phases := rfl
@[simp] theorem State.wr_mclkTook (s : State) (r : Row) (ix : List Nat) (v : Nat) : (s.wr r ix v).mclkTook = s.mclkTook := rfl
@[simp] theorem State.wr_fineLeft (s : State) (r : Row) (ix : List Nat) (v : Nat) : (s.wr r ix v).fineLeft = s.fineLeft := rfl
@[simp] theorem State.wr_pulses (s : State) (r : Row) (ix : List Nat) (v : Nat) : (s.wr r ix v).pulses = s.pulses := rfl
@[simp] theorem State.wr_addDue (s : State) (r : Row) (ix : List Nat) (v : Nat) : (s.wr r ix v).addDue = s.addDue := rfl
@[simp] theorem State.wr_bill (s : State) (r : Row) (ix : List Nat) (v : Nat) : (s.wr r ix v).bill = s.bill := rfl
@[simp] theorem State.wr_thrm (s : State) (r : Row) (ix : List Nat) (v : Nat) : (s.wr r ix v).thrm = s.thrm := rfl
@[simp] theorem State.wr_lsw (s : State) (r : Row) (ix : List Nat) (v : Nat) : (s.wr r ix v).lsw = s.lsw := rfl
@[simp] theorem State.wr_safe (s : State) (r : Row) (ix : List Nat) (v : Nat) : (s.wr r ix v).safe = s.safe := rfl
@[simp] theorem State.wr_teth (s : State) (r : Row) (ix : List Nat) (v : Nat) : (s.wr r ix v).teth = s.teth := rfl
@[simp] theorem State.wr_blst (s : State) (r : Row) (ix : List Nat) (v : Nat) : (s.wr r ix v).blst = s.blst := rfl
@[simp] theorem State.wr_can (s : State) (r : Row) (ix : List Nat) (v : Nat) : (s.wr r ix v).can = s.can := rfl
@[simp] theorem State.wr_reel (s : State) (r : Row) (ix : List Nat) (v : Nat) : (s.wr r ix v).reel = s.reel := rfl
@[simp] theorem State.wr_key (s : State) (r : Row) (ix : List Nat) (v : Nat) : (s.wr r ix v).key = s.key := rfl
@[simp] theorem State.wr_dram (s : State) (r : Row) (ix : List Nat) (v : Nat) : (s.wr r ix v).dram = s.dram := rfl
@[simp] theorem State.wr_sram0 (s : State) (r : Row) (ix : List Nat) (v : Nat) : (s.wr r ix v).sram0 = s.sram0 := rfl
@[simp] theorem State.wr_sram1 (s : State) (r : Row) (ix : List Nat) (v : Nat) : (s.wr r ix v).sram1 = s.sram1 := rfl
@[simp] theorem State.wr_rst (s : State) (r : Row) (ix : List Nat) (v : Nat) : (s.wr r ix v).rst = s.rst := rfl
@[simp] theorem State.wr_flash (s : State) (r : Row) (ix : List Nat) (v : Nat) : (s.wr r ix v).flash = s.flash := rfl

/-! ### took -/

@[simp] theorem State.took_regs (s : State) : (s.took).regs = s.regs := rfl
@[simp] theorem State.took_arms (s : State) : (s.took).arms = s.arms := rfl
@[simp] theorem State.took_now (s : State) : (s.took).now = s.now := rfl
@[simp] theorem State.took_pending (s : State) : (s.took).pending = s.pending := rfl
@[simp] theorem State.took_spar (s : State) : (s.took).spar = s.spar := rfl
@[simp] theorem State.took_host (s : State) : (s.took).host = s.host := rfl
@[simp] theorem State.took_slotY (s : State) : (s.took).slotY = s.slotY := rfl
@[simp] theorem State.took_ring (s : State) : (s.took).ring = s.ring := rfl
@[simp] theorem State.took_lines (s : State) : (s.took).lines = s.lines := rfl
@[simp] theorem State.took_drivers (s : State) : (s.took).drivers = s.drivers := rfl
@[simp] theorem State.took_windowClosed (s : State) : (s.took).windowClosed = s.windowClosed := rfl
@[simp] theorem State.took_windowSent (s : State) : (s.took).windowSent = s.windowSent := rfl
@[simp] theorem State.took_stages (s : State) : (s.took).stages = s.stages := rfl
@[simp] theorem State.took_ports (s : State) : (s.took).ports = s.ports := rfl
@[simp] theorem State.took_brn (s : State) : (s.took).brn = s.brn := rfl
@[simp] theorem State.took_brd (s : State) : (s.took).brd = s.brd := rfl
@[simp] theorem State.took_sess (s : State) : (s.took).sess = s.sess := rfl
@[simp] theorem State.took_links (s : State) : (s.took).links = s.links := rfl
@[simp] theorem State.took_splc (s : State) : (s.took).splc = s.splc := rfl
@[simp] theorem State.took_mtrs (s : State) : (s.took).mtrs = s.mtrs := rfl
@[simp] theorem State.took_chans (s : State) : (s.took).chans = s.chans := rfl
@[simp] theorem State.took_phases (s : State) : (s.took).phases = s.phases := rfl
@[simp] theorem State.took_mclkTook (s : State) : (s.took).mclkTook = s.mclkTook := rfl
@[simp] theorem State.took_fineLeft (s : State) : (s.took).fineLeft = s.fineLeft := rfl
@[simp] theorem State.took_pulses (s : State) : (s.took).pulses = s.pulses := rfl
@[simp] theorem State.took_addDue (s : State) : (s.took).addDue = s.addDue := rfl
@[simp] theorem State.took_bill (s : State) : (s.took).bill = s.bill := rfl
@[simp] theorem State.took_thrm (s : State) : (s.took).thrm = s.thrm := rfl
@[simp] theorem State.took_lsw (s : State) : (s.took).lsw = s.lsw := rfl
@[simp] theorem State.took_safe (s : State) : (s.took).safe = s.safe := rfl
@[simp] theorem State.took_teth (s : State) : (s.took).teth = s.teth := rfl
@[simp] theorem State.took_blst (s : State) : (s.took).blst = s.blst := rfl
@[simp] theorem State.took_can (s : State) : (s.took).can = s.can := rfl
@[simp] theorem State.took_reel (s : State) : (s.took).reel = s.reel := rfl
@[simp] theorem State.took_key (s : State) : (s.took).key = s.key := rfl
@[simp] theorem State.took_dram (s : State) : (s.took).dram = s.dram := rfl
@[simp] theorem State.took_sram0 (s : State) : (s.took).sram0 = s.sram0 := rfl
@[simp] theorem State.took_sram1 (s : State) : (s.took).sram1 = s.sram1 := rfl
@[simp] theorem State.took_rst (s : State) : (s.took).rst = s.rst := rfl
@[simp] theorem State.took_flash (s : State) : (s.took).flash = s.flash := rfl
@[simp] theorem State.took_rd (s : State) (q : Row) (jx : List Nat) : (s.took).rd q jx = s.rd q jx := rfl

/-! ### rgF -/

@[simp] theorem State.rgF_regs (s : State) (r : Fin 2) (f : RingS → RingS) : (s.rgF r f).regs = s.regs := rfl
@[simp] theorem State.rgF_arms (s : State) (r : Fin 2) (f : RingS → RingS) : (s.rgF r f).arms = s.arms := rfl
@[simp] theorem State.rgF_now (s : State) (r : Fin 2) (f : RingS → RingS) : (s.rgF r f).now = s.now := rfl
@[simp] theorem State.rgF_freeCtr (s : State) (r : Fin 2) (f : RingS → RingS) : (s.rgF r f).freeCtr = s.freeCtr := rfl
@[simp] theorem State.rgF_pending (s : State) (r : Fin 2) (f : RingS → RingS) : (s.rgF r f).pending = s.pending := rfl
@[simp] theorem State.rgF_spar (s : State) (r : Fin 2) (f : RingS → RingS) : (s.rgF r f).spar = s.spar := rfl
@[simp] theorem State.rgF_host (s : State) (r : Fin 2) (f : RingS → RingS) : (s.rgF r f).host = s.host := rfl
@[simp] theorem State.rgF_slotY (s : State) (r : Fin 2) (f : RingS → RingS) : (s.rgF r f).slotY = s.slotY := rfl
@[simp] theorem State.rgF_ring (s : State) (r : Fin 2) (f : RingS → RingS) : (s.rgF r f).ring = s.ring := rfl
@[simp] theorem State.rgF_lines (s : State) (r : Fin 2) (f : RingS → RingS) : (s.rgF r f).lines = s.lines := rfl
@[simp] theorem State.rgF_drivers (s : State) (r : Fin 2) (f : RingS → RingS) : (s.rgF r f).drivers = s.drivers := rfl
@[simp] theorem State.rgF_windowClosed (s : State) (r : Fin 2) (f : RingS → RingS) : (s.rgF r f).windowClosed = s.windowClosed := rfl
@[simp] theorem State.rgF_windowSent (s : State) (r : Fin 2) (f : RingS → RingS) : (s.rgF r f).windowSent = s.windowSent := rfl
@[simp] theorem State.rgF_stages (s : State) (r : Fin 2) (f : RingS → RingS) : (s.rgF r f).stages = s.stages := rfl
@[simp] theorem State.rgF_ports (s : State) (r : Fin 2) (f : RingS → RingS) : (s.rgF r f).ports = s.ports := rfl
@[simp] theorem State.rgF_brn (s : State) (r : Fin 2) (f : RingS → RingS) : (s.rgF r f).brn = s.brn := rfl
@[simp] theorem State.rgF_brd (s : State) (r : Fin 2) (f : RingS → RingS) : (s.rgF r f).brd = s.brd := rfl
@[simp] theorem State.rgF_sess (s : State) (r : Fin 2) (f : RingS → RingS) : (s.rgF r f).sess = s.sess := rfl
@[simp] theorem State.rgF_links (s : State) (r : Fin 2) (f : RingS → RingS) : (s.rgF r f).links = s.links := rfl
@[simp] theorem State.rgF_splc (s : State) (r : Fin 2) (f : RingS → RingS) : (s.rgF r f).splc = s.splc := rfl
@[simp] theorem State.rgF_mtrs (s : State) (r : Fin 2) (f : RingS → RingS) : (s.rgF r f).mtrs = s.mtrs := rfl
@[simp] theorem State.rgF_chans (s : State) (r : Fin 2) (f : RingS → RingS) : (s.rgF r f).chans = s.chans := rfl
@[simp] theorem State.rgF_phases (s : State) (r : Fin 2) (f : RingS → RingS) : (s.rgF r f).phases = s.phases := rfl
@[simp] theorem State.rgF_mclkTook (s : State) (r : Fin 2) (f : RingS → RingS) : (s.rgF r f).mclkTook = s.mclkTook := rfl
@[simp] theorem State.rgF_fineLeft (s : State) (r : Fin 2) (f : RingS → RingS) : (s.rgF r f).fineLeft = s.fineLeft := rfl
@[simp] theorem State.rgF_pulses (s : State) (r : Fin 2) (f : RingS → RingS) : (s.rgF r f).pulses = s.pulses := rfl
@[simp] theorem State.rgF_addDue (s : State) (r : Fin 2) (f : RingS → RingS) : (s.rgF r f).addDue = s.addDue := rfl
@[simp] theorem State.rgF_bill (s : State) (r : Fin 2) (f : RingS → RingS) : (s.rgF r f).bill = s.bill := rfl
@[simp] theorem State.rgF_thrm (s : State) (r : Fin 2) (f : RingS → RingS) : (s.rgF r f).thrm = s.thrm := rfl
@[simp] theorem State.rgF_lsw (s : State) (r : Fin 2) (f : RingS → RingS) : (s.rgF r f).lsw = s.lsw := rfl
@[simp] theorem State.rgF_safe (s : State) (r : Fin 2) (f : RingS → RingS) : (s.rgF r f).safe = s.safe := rfl
@[simp] theorem State.rgF_teth (s : State) (r : Fin 2) (f : RingS → RingS) : (s.rgF r f).teth = s.teth := rfl
@[simp] theorem State.rgF_can (s : State) (r : Fin 2) (f : RingS → RingS) : (s.rgF r f).can = s.can := rfl
@[simp] theorem State.rgF_reel (s : State) (r : Fin 2) (f : RingS → RingS) : (s.rgF r f).reel = s.reel := rfl
@[simp] theorem State.rgF_key (s : State) (r : Fin 2) (f : RingS → RingS) : (s.rgF r f).key = s.key := rfl
@[simp] theorem State.rgF_dram (s : State) (r : Fin 2) (f : RingS → RingS) : (s.rgF r f).dram = s.dram := rfl
@[simp] theorem State.rgF_sram0 (s : State) (r : Fin 2) (f : RingS → RingS) : (s.rgF r f).sram0 = s.sram0 := rfl
@[simp] theorem State.rgF_sram1 (s : State) (r : Fin 2) (f : RingS → RingS) : (s.rgF r f).sram1 = s.sram1 := rfl
@[simp] theorem State.rgF_rst (s : State) (r : Fin 2) (f : RingS → RingS) : (s.rgF r f).rst = s.rst := rfl
@[simp] theorem State.rgF_flash (s : State) (r : Fin 2) (f : RingS → RingS) : (s.rgF r f).flash = s.flash := rfl
@[simp] theorem State.rgF_rd (s : State) (r : Fin 2) (f : RingS → RingS) (q : Row) (jx : List Nat) : (s.rgF r f).rd q jx = s.rd q jx := rfl

/-! ### brdF -/

@[simp] theorem State.brdF_regs (s : State) (f : BrdS → BrdS) : (s.brdF  f).regs = s.regs := rfl
@[simp] theorem State.brdF_arms (s : State) (f : BrdS → BrdS) : (s.brdF  f).arms = s.arms := rfl
@[simp] theorem State.brdF_now (s : State) (f : BrdS → BrdS) : (s.brdF  f).now = s.now := rfl
@[simp] theorem State.brdF_freeCtr (s : State) (f : BrdS → BrdS) : (s.brdF  f).freeCtr = s.freeCtr := rfl
@[simp] theorem State.brdF_pending (s : State) (f : BrdS → BrdS) : (s.brdF  f).pending = s.pending := rfl
@[simp] theorem State.brdF_spar (s : State) (f : BrdS → BrdS) : (s.brdF  f).spar = s.spar := rfl
@[simp] theorem State.brdF_host (s : State) (f : BrdS → BrdS) : (s.brdF  f).host = s.host := rfl
@[simp] theorem State.brdF_slotY (s : State) (f : BrdS → BrdS) : (s.brdF  f).slotY = s.slotY := rfl
@[simp] theorem State.brdF_ring (s : State) (f : BrdS → BrdS) : (s.brdF  f).ring = s.ring := rfl
@[simp] theorem State.brdF_lines (s : State) (f : BrdS → BrdS) : (s.brdF  f).lines = s.lines := rfl
@[simp] theorem State.brdF_drivers (s : State) (f : BrdS → BrdS) : (s.brdF  f).drivers = s.drivers := rfl
@[simp] theorem State.brdF_windowClosed (s : State) (f : BrdS → BrdS) : (s.brdF  f).windowClosed = s.windowClosed := rfl
@[simp] theorem State.brdF_windowSent (s : State) (f : BrdS → BrdS) : (s.brdF  f).windowSent = s.windowSent := rfl
@[simp] theorem State.brdF_stages (s : State) (f : BrdS → BrdS) : (s.brdF  f).stages = s.stages := rfl
@[simp] theorem State.brdF_ports (s : State) (f : BrdS → BrdS) : (s.brdF  f).ports = s.ports := rfl
@[simp] theorem State.brdF_brn (s : State) (f : BrdS → BrdS) : (s.brdF  f).brn = s.brn := rfl
@[simp] theorem State.brdF_sess (s : State) (f : BrdS → BrdS) : (s.brdF  f).sess = s.sess := rfl
@[simp] theorem State.brdF_links (s : State) (f : BrdS → BrdS) : (s.brdF  f).links = s.links := rfl
@[simp] theorem State.brdF_splc (s : State) (f : BrdS → BrdS) : (s.brdF  f).splc = s.splc := rfl
@[simp] theorem State.brdF_mtrs (s : State) (f : BrdS → BrdS) : (s.brdF  f).mtrs = s.mtrs := rfl
@[simp] theorem State.brdF_chans (s : State) (f : BrdS → BrdS) : (s.brdF  f).chans = s.chans := rfl
@[simp] theorem State.brdF_phases (s : State) (f : BrdS → BrdS) : (s.brdF  f).phases = s.phases := rfl
@[simp] theorem State.brdF_mclkTook (s : State) (f : BrdS → BrdS) : (s.brdF  f).mclkTook = s.mclkTook := rfl
@[simp] theorem State.brdF_fineLeft (s : State) (f : BrdS → BrdS) : (s.brdF  f).fineLeft = s.fineLeft := rfl
@[simp] theorem State.brdF_pulses (s : State) (f : BrdS → BrdS) : (s.brdF  f).pulses = s.pulses := rfl
@[simp] theorem State.brdF_addDue (s : State) (f : BrdS → BrdS) : (s.brdF  f).addDue = s.addDue := rfl
@[simp] theorem State.brdF_bill (s : State) (f : BrdS → BrdS) : (s.brdF  f).bill = s.bill := rfl
@[simp] theorem State.brdF_thrm (s : State) (f : BrdS → BrdS) : (s.brdF  f).thrm = s.thrm := rfl
@[simp] theorem State.brdF_lsw (s : State) (f : BrdS → BrdS) : (s.brdF  f).lsw = s.lsw := rfl
@[simp] theorem State.brdF_safe (s : State) (f : BrdS → BrdS) : (s.brdF  f).safe = s.safe := rfl
@[simp] theorem State.brdF_teth (s : State) (f : BrdS → BrdS) : (s.brdF  f).teth = s.teth := rfl
@[simp] theorem State.brdF_blst (s : State) (f : BrdS → BrdS) : (s.brdF  f).blst = s.blst := rfl
@[simp] theorem State.brdF_can (s : State) (f : BrdS → BrdS) : (s.brdF  f).can = s.can := rfl
@[simp] theorem State.brdF_reel (s : State) (f : BrdS → BrdS) : (s.brdF  f).reel = s.reel := rfl
@[simp] theorem State.brdF_key (s : State) (f : BrdS → BrdS) : (s.brdF  f).key = s.key := rfl
@[simp] theorem State.brdF_dram (s : State) (f : BrdS → BrdS) : (s.brdF  f).dram = s.dram := rfl
@[simp] theorem State.brdF_sram0 (s : State) (f : BrdS → BrdS) : (s.brdF  f).sram0 = s.sram0 := rfl
@[simp] theorem State.brdF_sram1 (s : State) (f : BrdS → BrdS) : (s.brdF  f).sram1 = s.sram1 := rfl
@[simp] theorem State.brdF_rst (s : State) (f : BrdS → BrdS) : (s.brdF  f).rst = s.rst := rfl
@[simp] theorem State.brdF_flash (s : State) (f : BrdS → BrdS) : (s.brdF  f).flash = s.flash := rfl
@[simp] theorem State.brdF_rd (s : State) (f : BrdS → BrdS) (q : Row) (jx : List Nat) : (s.brdF  f).rd q jx = s.rd q jx := rfl

/-! ### cnF -/

@[simp] theorem State.cnF_regs (s : State) (c : Fin 4) (f : CanS → CanS) : (s.cnF c f).regs = s.regs := rfl
@[simp] theorem State.cnF_arms (s : State) (c : Fin 4) (f : CanS → CanS) : (s.cnF c f).arms = s.arms := rfl
@[simp] theorem State.cnF_now (s : State) (c : Fin 4) (f : CanS → CanS) : (s.cnF c f).now = s.now := rfl
@[simp] theorem State.cnF_freeCtr (s : State) (c : Fin 4) (f : CanS → CanS) : (s.cnF c f).freeCtr = s.freeCtr := rfl
@[simp] theorem State.cnF_pending (s : State) (c : Fin 4) (f : CanS → CanS) : (s.cnF c f).pending = s.pending := rfl
@[simp] theorem State.cnF_spar (s : State) (c : Fin 4) (f : CanS → CanS) : (s.cnF c f).spar = s.spar := rfl
@[simp] theorem State.cnF_host (s : State) (c : Fin 4) (f : CanS → CanS) : (s.cnF c f).host = s.host := rfl
@[simp] theorem State.cnF_slotY (s : State) (c : Fin 4) (f : CanS → CanS) : (s.cnF c f).slotY = s.slotY := rfl
@[simp] theorem State.cnF_ring (s : State) (c : Fin 4) (f : CanS → CanS) : (s.cnF c f).ring = s.ring := rfl
@[simp] theorem State.cnF_lines (s : State) (c : Fin 4) (f : CanS → CanS) : (s.cnF c f).lines = s.lines := rfl
@[simp] theorem State.cnF_drivers (s : State) (c : Fin 4) (f : CanS → CanS) : (s.cnF c f).drivers = s.drivers := rfl
@[simp] theorem State.cnF_windowClosed (s : State) (c : Fin 4) (f : CanS → CanS) : (s.cnF c f).windowClosed = s.windowClosed := rfl
@[simp] theorem State.cnF_windowSent (s : State) (c : Fin 4) (f : CanS → CanS) : (s.cnF c f).windowSent = s.windowSent := rfl
@[simp] theorem State.cnF_stages (s : State) (c : Fin 4) (f : CanS → CanS) : (s.cnF c f).stages = s.stages := rfl
@[simp] theorem State.cnF_ports (s : State) (c : Fin 4) (f : CanS → CanS) : (s.cnF c f).ports = s.ports := rfl
@[simp] theorem State.cnF_brn (s : State) (c : Fin 4) (f : CanS → CanS) : (s.cnF c f).brn = s.brn := rfl
@[simp] theorem State.cnF_brd (s : State) (c : Fin 4) (f : CanS → CanS) : (s.cnF c f).brd = s.brd := rfl
@[simp] theorem State.cnF_sess (s : State) (c : Fin 4) (f : CanS → CanS) : (s.cnF c f).sess = s.sess := rfl
@[simp] theorem State.cnF_links (s : State) (c : Fin 4) (f : CanS → CanS) : (s.cnF c f).links = s.links := rfl
@[simp] theorem State.cnF_splc (s : State) (c : Fin 4) (f : CanS → CanS) : (s.cnF c f).splc = s.splc := rfl
@[simp] theorem State.cnF_mtrs (s : State) (c : Fin 4) (f : CanS → CanS) : (s.cnF c f).mtrs = s.mtrs := rfl
@[simp] theorem State.cnF_chans (s : State) (c : Fin 4) (f : CanS → CanS) : (s.cnF c f).chans = s.chans := rfl
@[simp] theorem State.cnF_phases (s : State) (c : Fin 4) (f : CanS → CanS) : (s.cnF c f).phases = s.phases := rfl
@[simp] theorem State.cnF_mclkTook (s : State) (c : Fin 4) (f : CanS → CanS) : (s.cnF c f).mclkTook = s.mclkTook := rfl
@[simp] theorem State.cnF_fineLeft (s : State) (c : Fin 4) (f : CanS → CanS) : (s.cnF c f).fineLeft = s.fineLeft := rfl
@[simp] theorem State.cnF_pulses (s : State) (c : Fin 4) (f : CanS → CanS) : (s.cnF c f).pulses = s.pulses := rfl
@[simp] theorem State.cnF_addDue (s : State) (c : Fin 4) (f : CanS → CanS) : (s.cnF c f).addDue = s.addDue := rfl
@[simp] theorem State.cnF_bill (s : State) (c : Fin 4) (f : CanS → CanS) : (s.cnF c f).bill = s.bill := rfl
@[simp] theorem State.cnF_thrm (s : State) (c : Fin 4) (f : CanS → CanS) : (s.cnF c f).thrm = s.thrm := rfl
@[simp] theorem State.cnF_lsw (s : State) (c : Fin 4) (f : CanS → CanS) : (s.cnF c f).lsw = s.lsw := rfl
@[simp] theorem State.cnF_safe (s : State) (c : Fin 4) (f : CanS → CanS) : (s.cnF c f).safe = s.safe := rfl
@[simp] theorem State.cnF_teth (s : State) (c : Fin 4) (f : CanS → CanS) : (s.cnF c f).teth = s.teth := rfl
@[simp] theorem State.cnF_blst (s : State) (c : Fin 4) (f : CanS → CanS) : (s.cnF c f).blst = s.blst := rfl
@[simp] theorem State.cnF_reel (s : State) (c : Fin 4) (f : CanS → CanS) : (s.cnF c f).reel = s.reel := rfl
@[simp] theorem State.cnF_key (s : State) (c : Fin 4) (f : CanS → CanS) : (s.cnF c f).key = s.key := rfl
@[simp] theorem State.cnF_dram (s : State) (c : Fin 4) (f : CanS → CanS) : (s.cnF c f).dram = s.dram := rfl
@[simp] theorem State.cnF_sram0 (s : State) (c : Fin 4) (f : CanS → CanS) : (s.cnF c f).sram0 = s.sram0 := rfl
@[simp] theorem State.cnF_sram1 (s : State) (c : Fin 4) (f : CanS → CanS) : (s.cnF c f).sram1 = s.sram1 := rfl
@[simp] theorem State.cnF_rst (s : State) (c : Fin 4) (f : CanS → CanS) : (s.cnF c f).rst = s.rst := rfl
@[simp] theorem State.cnF_flash (s : State) (c : Fin 4) (f : CanS → CanS) : (s.cnF c f).flash = s.flash := rfl
@[simp] theorem State.cnF_rd (s : State) (c : Fin 4) (f : CanS → CanS) (q : Row) (jx : List Nat) : (s.cnF c f).rd q jx = s.rd q jx := rfl

/-! ### drvF -/

@[simp] theorem State.drvF_regs (s : State) (i : Stage) (f : DrvS → DrvS) : (s.drvF i f).regs = s.regs := rfl
@[simp] theorem State.drvF_arms (s : State) (i : Stage) (f : DrvS → DrvS) : (s.drvF i f).arms = s.arms := rfl
@[simp] theorem State.drvF_now (s : State) (i : Stage) (f : DrvS → DrvS) : (s.drvF i f).now = s.now := rfl
@[simp] theorem State.drvF_freeCtr (s : State) (i : Stage) (f : DrvS → DrvS) : (s.drvF i f).freeCtr = s.freeCtr := rfl
@[simp] theorem State.drvF_pending (s : State) (i : Stage) (f : DrvS → DrvS) : (s.drvF i f).pending = s.pending := rfl
@[simp] theorem State.drvF_spar (s : State) (i : Stage) (f : DrvS → DrvS) : (s.drvF i f).spar = s.spar := rfl
@[simp] theorem State.drvF_host (s : State) (i : Stage) (f : DrvS → DrvS) : (s.drvF i f).host = s.host := rfl
@[simp] theorem State.drvF_slotY (s : State) (i : Stage) (f : DrvS → DrvS) : (s.drvF i f).slotY = s.slotY := rfl
@[simp] theorem State.drvF_ring (s : State) (i : Stage) (f : DrvS → DrvS) : (s.drvF i f).ring = s.ring := rfl
@[simp] theorem State.drvF_lines (s : State) (i : Stage) (f : DrvS → DrvS) : (s.drvF i f).lines = s.lines := rfl
@[simp] theorem State.drvF_windowClosed (s : State) (i : Stage) (f : DrvS → DrvS) : (s.drvF i f).windowClosed = s.windowClosed := rfl
@[simp] theorem State.drvF_windowSent (s : State) (i : Stage) (f : DrvS → DrvS) : (s.drvF i f).windowSent = s.windowSent := rfl
@[simp] theorem State.drvF_stages (s : State) (i : Stage) (f : DrvS → DrvS) : (s.drvF i f).stages = s.stages := rfl
@[simp] theorem State.drvF_ports (s : State) (i : Stage) (f : DrvS → DrvS) : (s.drvF i f).ports = s.ports := rfl
@[simp] theorem State.drvF_brn (s : State) (i : Stage) (f : DrvS → DrvS) : (s.drvF i f).brn = s.brn := rfl
@[simp] theorem State.drvF_brd (s : State) (i : Stage) (f : DrvS → DrvS) : (s.drvF i f).brd = s.brd := rfl
@[simp] theorem State.drvF_sess (s : State) (i : Stage) (f : DrvS → DrvS) : (s.drvF i f).sess = s.sess := rfl
@[simp] theorem State.drvF_links (s : State) (i : Stage) (f : DrvS → DrvS) : (s.drvF i f).links = s.links := rfl
@[simp] theorem State.drvF_splc (s : State) (i : Stage) (f : DrvS → DrvS) : (s.drvF i f).splc = s.splc := rfl
@[simp] theorem State.drvF_mtrs (s : State) (i : Stage) (f : DrvS → DrvS) : (s.drvF i f).mtrs = s.mtrs := rfl
@[simp] theorem State.drvF_chans (s : State) (i : Stage) (f : DrvS → DrvS) : (s.drvF i f).chans = s.chans := rfl
@[simp] theorem State.drvF_phases (s : State) (i : Stage) (f : DrvS → DrvS) : (s.drvF i f).phases = s.phases := rfl
@[simp] theorem State.drvF_mclkTook (s : State) (i : Stage) (f : DrvS → DrvS) : (s.drvF i f).mclkTook = s.mclkTook := rfl
@[simp] theorem State.drvF_fineLeft (s : State) (i : Stage) (f : DrvS → DrvS) : (s.drvF i f).fineLeft = s.fineLeft := rfl
@[simp] theorem State.drvF_pulses (s : State) (i : Stage) (f : DrvS → DrvS) : (s.drvF i f).pulses = s.pulses := rfl
@[simp] theorem State.drvF_addDue (s : State) (i : Stage) (f : DrvS → DrvS) : (s.drvF i f).addDue = s.addDue := rfl
@[simp] theorem State.drvF_bill (s : State) (i : Stage) (f : DrvS → DrvS) : (s.drvF i f).bill = s.bill := rfl
@[simp] theorem State.drvF_thrm (s : State) (i : Stage) (f : DrvS → DrvS) : (s.drvF i f).thrm = s.thrm := rfl
@[simp] theorem State.drvF_lsw (s : State) (i : Stage) (f : DrvS → DrvS) : (s.drvF i f).lsw = s.lsw := rfl
@[simp] theorem State.drvF_safe (s : State) (i : Stage) (f : DrvS → DrvS) : (s.drvF i f).safe = s.safe := rfl
@[simp] theorem State.drvF_teth (s : State) (i : Stage) (f : DrvS → DrvS) : (s.drvF i f).teth = s.teth := rfl
@[simp] theorem State.drvF_blst (s : State) (i : Stage) (f : DrvS → DrvS) : (s.drvF i f).blst = s.blst := rfl
@[simp] theorem State.drvF_can (s : State) (i : Stage) (f : DrvS → DrvS) : (s.drvF i f).can = s.can := rfl
@[simp] theorem State.drvF_reel (s : State) (i : Stage) (f : DrvS → DrvS) : (s.drvF i f).reel = s.reel := rfl
@[simp] theorem State.drvF_key (s : State) (i : Stage) (f : DrvS → DrvS) : (s.drvF i f).key = s.key := rfl
@[simp] theorem State.drvF_dram (s : State) (i : Stage) (f : DrvS → DrvS) : (s.drvF i f).dram = s.dram := rfl
@[simp] theorem State.drvF_sram0 (s : State) (i : Stage) (f : DrvS → DrvS) : (s.drvF i f).sram0 = s.sram0 := rfl
@[simp] theorem State.drvF_sram1 (s : State) (i : Stage) (f : DrvS → DrvS) : (s.drvF i f).sram1 = s.sram1 := rfl
@[simp] theorem State.drvF_rst (s : State) (i : Stage) (f : DrvS → DrvS) : (s.drvF i f).rst = s.rst := rfl
@[simp] theorem State.drvF_flash (s : State) (i : Stage) (f : DrvS → DrvS) : (s.drvF i f).flash = s.flash := rfl
@[simp] theorem State.drvF_rd (s : State) (i : Stage) (f : DrvS → DrvS) (q : Row) (jx : List Nat) : (s.drvF i f).rd q jx = s.rd q jx := rfl

/-! ### keyF -/

@[simp] theorem State.keyF_regs (s : State) (f : KeyS → KeyS) : (s.keyF  f).regs = s.regs := rfl
@[simp] theorem State.keyF_arms (s : State) (f : KeyS → KeyS) : (s.keyF  f).arms = s.arms := rfl
@[simp] theorem State.keyF_now (s : State) (f : KeyS → KeyS) : (s.keyF  f).now = s.now := rfl
@[simp] theorem State.keyF_freeCtr (s : State) (f : KeyS → KeyS) : (s.keyF  f).freeCtr = s.freeCtr := rfl
@[simp] theorem State.keyF_pending (s : State) (f : KeyS → KeyS) : (s.keyF  f).pending = s.pending := rfl
@[simp] theorem State.keyF_spar (s : State) (f : KeyS → KeyS) : (s.keyF  f).spar = s.spar := rfl
@[simp] theorem State.keyF_host (s : State) (f : KeyS → KeyS) : (s.keyF  f).host = s.host := rfl
@[simp] theorem State.keyF_slotY (s : State) (f : KeyS → KeyS) : (s.keyF  f).slotY = s.slotY := rfl
@[simp] theorem State.keyF_ring (s : State) (f : KeyS → KeyS) : (s.keyF  f).ring = s.ring := rfl
@[simp] theorem State.keyF_lines (s : State) (f : KeyS → KeyS) : (s.keyF  f).lines = s.lines := rfl
@[simp] theorem State.keyF_drivers (s : State) (f : KeyS → KeyS) : (s.keyF  f).drivers = s.drivers := rfl
@[simp] theorem State.keyF_windowClosed (s : State) (f : KeyS → KeyS) : (s.keyF  f).windowClosed = s.windowClosed := rfl
@[simp] theorem State.keyF_windowSent (s : State) (f : KeyS → KeyS) : (s.keyF  f).windowSent = s.windowSent := rfl
@[simp] theorem State.keyF_stages (s : State) (f : KeyS → KeyS) : (s.keyF  f).stages = s.stages := rfl
@[simp] theorem State.keyF_ports (s : State) (f : KeyS → KeyS) : (s.keyF  f).ports = s.ports := rfl
@[simp] theorem State.keyF_brn (s : State) (f : KeyS → KeyS) : (s.keyF  f).brn = s.brn := rfl
@[simp] theorem State.keyF_brd (s : State) (f : KeyS → KeyS) : (s.keyF  f).brd = s.brd := rfl
@[simp] theorem State.keyF_sess (s : State) (f : KeyS → KeyS) : (s.keyF  f).sess = s.sess := rfl
@[simp] theorem State.keyF_links (s : State) (f : KeyS → KeyS) : (s.keyF  f).links = s.links := rfl
@[simp] theorem State.keyF_splc (s : State) (f : KeyS → KeyS) : (s.keyF  f).splc = s.splc := rfl
@[simp] theorem State.keyF_mtrs (s : State) (f : KeyS → KeyS) : (s.keyF  f).mtrs = s.mtrs := rfl
@[simp] theorem State.keyF_chans (s : State) (f : KeyS → KeyS) : (s.keyF  f).chans = s.chans := rfl
@[simp] theorem State.keyF_phases (s : State) (f : KeyS → KeyS) : (s.keyF  f).phases = s.phases := rfl
@[simp] theorem State.keyF_mclkTook (s : State) (f : KeyS → KeyS) : (s.keyF  f).mclkTook = s.mclkTook := rfl
@[simp] theorem State.keyF_fineLeft (s : State) (f : KeyS → KeyS) : (s.keyF  f).fineLeft = s.fineLeft := rfl
@[simp] theorem State.keyF_pulses (s : State) (f : KeyS → KeyS) : (s.keyF  f).pulses = s.pulses := rfl
@[simp] theorem State.keyF_addDue (s : State) (f : KeyS → KeyS) : (s.keyF  f).addDue = s.addDue := rfl
@[simp] theorem State.keyF_bill (s : State) (f : KeyS → KeyS) : (s.keyF  f).bill = s.bill := rfl
@[simp] theorem State.keyF_thrm (s : State) (f : KeyS → KeyS) : (s.keyF  f).thrm = s.thrm := rfl
@[simp] theorem State.keyF_lsw (s : State) (f : KeyS → KeyS) : (s.keyF  f).lsw = s.lsw := rfl
@[simp] theorem State.keyF_safe (s : State) (f : KeyS → KeyS) : (s.keyF  f).safe = s.safe := rfl
@[simp] theorem State.keyF_teth (s : State) (f : KeyS → KeyS) : (s.keyF  f).teth = s.teth := rfl
@[simp] theorem State.keyF_blst (s : State) (f : KeyS → KeyS) : (s.keyF  f).blst = s.blst := rfl
@[simp] theorem State.keyF_can (s : State) (f : KeyS → KeyS) : (s.keyF  f).can = s.can := rfl
@[simp] theorem State.keyF_reel (s : State) (f : KeyS → KeyS) : (s.keyF  f).reel = s.reel := rfl
@[simp] theorem State.keyF_dram (s : State) (f : KeyS → KeyS) : (s.keyF  f).dram = s.dram := rfl
@[simp] theorem State.keyF_sram0 (s : State) (f : KeyS → KeyS) : (s.keyF  f).sram0 = s.sram0 := rfl
@[simp] theorem State.keyF_sram1 (s : State) (f : KeyS → KeyS) : (s.keyF  f).sram1 = s.sram1 := rfl
@[simp] theorem State.keyF_rst (s : State) (f : KeyS → KeyS) : (s.keyF  f).rst = s.rst := rfl
@[simp] theorem State.keyF_flash (s : State) (f : KeyS → KeyS) : (s.keyF  f).flash = s.flash := rfl
@[simp] theorem State.keyF_rd (s : State) (f : KeyS → KeyS) (q : Row) (jx : List Nat) : (s.keyF  f).rd q jx = s.rd q jx := rfl

/-! ### lineF -/

@[simp] theorem State.lineF_regs (s : State) (i : Stage) (f : LineS → LineS) : (s.lineF i f).regs = s.regs := rfl
@[simp] theorem State.lineF_arms (s : State) (i : Stage) (f : LineS → LineS) : (s.lineF i f).arms = s.arms := rfl
@[simp] theorem State.lineF_now (s : State) (i : Stage) (f : LineS → LineS) : (s.lineF i f).now = s.now := rfl
@[simp] theorem State.lineF_freeCtr (s : State) (i : Stage) (f : LineS → LineS) : (s.lineF i f).freeCtr = s.freeCtr := rfl
@[simp] theorem State.lineF_pending (s : State) (i : Stage) (f : LineS → LineS) : (s.lineF i f).pending = s.pending := rfl
@[simp] theorem State.lineF_spar (s : State) (i : Stage) (f : LineS → LineS) : (s.lineF i f).spar = s.spar := rfl
@[simp] theorem State.lineF_host (s : State) (i : Stage) (f : LineS → LineS) : (s.lineF i f).host = s.host := rfl
@[simp] theorem State.lineF_slotY (s : State) (i : Stage) (f : LineS → LineS) : (s.lineF i f).slotY = s.slotY := rfl
@[simp] theorem State.lineF_ring (s : State) (i : Stage) (f : LineS → LineS) : (s.lineF i f).ring = s.ring := rfl
@[simp] theorem State.lineF_drivers (s : State) (i : Stage) (f : LineS → LineS) : (s.lineF i f).drivers = s.drivers := rfl
@[simp] theorem State.lineF_windowClosed (s : State) (i : Stage) (f : LineS → LineS) : (s.lineF i f).windowClosed = s.windowClosed := rfl
@[simp] theorem State.lineF_windowSent (s : State) (i : Stage) (f : LineS → LineS) : (s.lineF i f).windowSent = s.windowSent := rfl
@[simp] theorem State.lineF_stages (s : State) (i : Stage) (f : LineS → LineS) : (s.lineF i f).stages = s.stages := rfl
@[simp] theorem State.lineF_ports (s : State) (i : Stage) (f : LineS → LineS) : (s.lineF i f).ports = s.ports := rfl
@[simp] theorem State.lineF_brn (s : State) (i : Stage) (f : LineS → LineS) : (s.lineF i f).brn = s.brn := rfl
@[simp] theorem State.lineF_brd (s : State) (i : Stage) (f : LineS → LineS) : (s.lineF i f).brd = s.brd := rfl
@[simp] theorem State.lineF_sess (s : State) (i : Stage) (f : LineS → LineS) : (s.lineF i f).sess = s.sess := rfl
@[simp] theorem State.lineF_links (s : State) (i : Stage) (f : LineS → LineS) : (s.lineF i f).links = s.links := rfl
@[simp] theorem State.lineF_splc (s : State) (i : Stage) (f : LineS → LineS) : (s.lineF i f).splc = s.splc := rfl
@[simp] theorem State.lineF_mtrs (s : State) (i : Stage) (f : LineS → LineS) : (s.lineF i f).mtrs = s.mtrs := rfl
@[simp] theorem State.lineF_chans (s : State) (i : Stage) (f : LineS → LineS) : (s.lineF i f).chans = s.chans := rfl
@[simp] theorem State.lineF_phases (s : State) (i : Stage) (f : LineS → LineS) : (s.lineF i f).phases = s.phases := rfl
@[simp] theorem State.lineF_mclkTook (s : State) (i : Stage) (f : LineS → LineS) : (s.lineF i f).mclkTook = s.mclkTook := rfl
@[simp] theorem State.lineF_fineLeft (s : State) (i : Stage) (f : LineS → LineS) : (s.lineF i f).fineLeft = s.fineLeft := rfl
@[simp] theorem State.lineF_pulses (s : State) (i : Stage) (f : LineS → LineS) : (s.lineF i f).pulses = s.pulses := rfl
@[simp] theorem State.lineF_addDue (s : State) (i : Stage) (f : LineS → LineS) : (s.lineF i f).addDue = s.addDue := rfl
@[simp] theorem State.lineF_bill (s : State) (i : Stage) (f : LineS → LineS) : (s.lineF i f).bill = s.bill := rfl
@[simp] theorem State.lineF_thrm (s : State) (i : Stage) (f : LineS → LineS) : (s.lineF i f).thrm = s.thrm := rfl
@[simp] theorem State.lineF_lsw (s : State) (i : Stage) (f : LineS → LineS) : (s.lineF i f).lsw = s.lsw := rfl
@[simp] theorem State.lineF_safe (s : State) (i : Stage) (f : LineS → LineS) : (s.lineF i f).safe = s.safe := rfl
@[simp] theorem State.lineF_teth (s : State) (i : Stage) (f : LineS → LineS) : (s.lineF i f).teth = s.teth := rfl
@[simp] theorem State.lineF_blst (s : State) (i : Stage) (f : LineS → LineS) : (s.lineF i f).blst = s.blst := rfl
@[simp] theorem State.lineF_can (s : State) (i : Stage) (f : LineS → LineS) : (s.lineF i f).can = s.can := rfl
@[simp] theorem State.lineF_reel (s : State) (i : Stage) (f : LineS → LineS) : (s.lineF i f).reel = s.reel := rfl
@[simp] theorem State.lineF_key (s : State) (i : Stage) (f : LineS → LineS) : (s.lineF i f).key = s.key := rfl
@[simp] theorem State.lineF_dram (s : State) (i : Stage) (f : LineS → LineS) : (s.lineF i f).dram = s.dram := rfl
@[simp] theorem State.lineF_sram0 (s : State) (i : Stage) (f : LineS → LineS) : (s.lineF i f).sram0 = s.sram0 := rfl
@[simp] theorem State.lineF_sram1 (s : State) (i : Stage) (f : LineS → LineS) : (s.lineF i f).sram1 = s.sram1 := rfl
@[simp] theorem State.lineF_rst (s : State) (i : Stage) (f : LineS → LineS) : (s.lineF i f).rst = s.rst := rfl
@[simp] theorem State.lineF_flash (s : State) (i : Stage) (f : LineS → LineS) : (s.lineF i f).flash = s.flash := rfl
@[simp] theorem State.lineF_rd (s : State) (i : Stage) (f : LineS → LineS) (q : Row) (jx : List Nat) : (s.lineF i f).rd q jx = s.rd q jx := rfl

/-! ### lsF -/

@[simp] theorem State.lsF_regs (s : State) (f : LswS → LswS) : (s.lsF  f).regs = s.regs := rfl
@[simp] theorem State.lsF_arms (s : State) (f : LswS → LswS) : (s.lsF  f).arms = s.arms := rfl
@[simp] theorem State.lsF_now (s : State) (f : LswS → LswS) : (s.lsF  f).now = s.now := rfl
@[simp] theorem State.lsF_freeCtr (s : State) (f : LswS → LswS) : (s.lsF  f).freeCtr = s.freeCtr := rfl
@[simp] theorem State.lsF_pending (s : State) (f : LswS → LswS) : (s.lsF  f).pending = s.pending := rfl
@[simp] theorem State.lsF_spar (s : State) (f : LswS → LswS) : (s.lsF  f).spar = s.spar := rfl
@[simp] theorem State.lsF_host (s : State) (f : LswS → LswS) : (s.lsF  f).host = s.host := rfl
@[simp] theorem State.lsF_slotY (s : State) (f : LswS → LswS) : (s.lsF  f).slotY = s.slotY := rfl
@[simp] theorem State.lsF_ring (s : State) (f : LswS → LswS) : (s.lsF  f).ring = s.ring := rfl
@[simp] theorem State.lsF_lines (s : State) (f : LswS → LswS) : (s.lsF  f).lines = s.lines := rfl
@[simp] theorem State.lsF_drivers (s : State) (f : LswS → LswS) : (s.lsF  f).drivers = s.drivers := rfl
@[simp] theorem State.lsF_windowClosed (s : State) (f : LswS → LswS) : (s.lsF  f).windowClosed = s.windowClosed := rfl
@[simp] theorem State.lsF_windowSent (s : State) (f : LswS → LswS) : (s.lsF  f).windowSent = s.windowSent := rfl
@[simp] theorem State.lsF_stages (s : State) (f : LswS → LswS) : (s.lsF  f).stages = s.stages := rfl
@[simp] theorem State.lsF_ports (s : State) (f : LswS → LswS) : (s.lsF  f).ports = s.ports := rfl
@[simp] theorem State.lsF_brn (s : State) (f : LswS → LswS) : (s.lsF  f).brn = s.brn := rfl
@[simp] theorem State.lsF_brd (s : State) (f : LswS → LswS) : (s.lsF  f).brd = s.brd := rfl
@[simp] theorem State.lsF_sess (s : State) (f : LswS → LswS) : (s.lsF  f).sess = s.sess := rfl
@[simp] theorem State.lsF_links (s : State) (f : LswS → LswS) : (s.lsF  f).links = s.links := rfl
@[simp] theorem State.lsF_splc (s : State) (f : LswS → LswS) : (s.lsF  f).splc = s.splc := rfl
@[simp] theorem State.lsF_mtrs (s : State) (f : LswS → LswS) : (s.lsF  f).mtrs = s.mtrs := rfl
@[simp] theorem State.lsF_chans (s : State) (f : LswS → LswS) : (s.lsF  f).chans = s.chans := rfl
@[simp] theorem State.lsF_phases (s : State) (f : LswS → LswS) : (s.lsF  f).phases = s.phases := rfl
@[simp] theorem State.lsF_mclkTook (s : State) (f : LswS → LswS) : (s.lsF  f).mclkTook = s.mclkTook := rfl
@[simp] theorem State.lsF_fineLeft (s : State) (f : LswS → LswS) : (s.lsF  f).fineLeft = s.fineLeft := rfl
@[simp] theorem State.lsF_pulses (s : State) (f : LswS → LswS) : (s.lsF  f).pulses = s.pulses := rfl
@[simp] theorem State.lsF_addDue (s : State) (f : LswS → LswS) : (s.lsF  f).addDue = s.addDue := rfl
@[simp] theorem State.lsF_bill (s : State) (f : LswS → LswS) : (s.lsF  f).bill = s.bill := rfl
@[simp] theorem State.lsF_thrm (s : State) (f : LswS → LswS) : (s.lsF  f).thrm = s.thrm := rfl
@[simp] theorem State.lsF_safe (s : State) (f : LswS → LswS) : (s.lsF  f).safe = s.safe := rfl
@[simp] theorem State.lsF_teth (s : State) (f : LswS → LswS) : (s.lsF  f).teth = s.teth := rfl
@[simp] theorem State.lsF_blst (s : State) (f : LswS → LswS) : (s.lsF  f).blst = s.blst := rfl
@[simp] theorem State.lsF_can (s : State) (f : LswS → LswS) : (s.lsF  f).can = s.can := rfl
@[simp] theorem State.lsF_reel (s : State) (f : LswS → LswS) : (s.lsF  f).reel = s.reel := rfl
@[simp] theorem State.lsF_key (s : State) (f : LswS → LswS) : (s.lsF  f).key = s.key := rfl
@[simp] theorem State.lsF_dram (s : State) (f : LswS → LswS) : (s.lsF  f).dram = s.dram := rfl
@[simp] theorem State.lsF_sram0 (s : State) (f : LswS → LswS) : (s.lsF  f).sram0 = s.sram0 := rfl
@[simp] theorem State.lsF_sram1 (s : State) (f : LswS → LswS) : (s.lsF  f).sram1 = s.sram1 := rfl
@[simp] theorem State.lsF_rst (s : State) (f : LswS → LswS) : (s.lsF  f).rst = s.rst := rfl
@[simp] theorem State.lsF_flash (s : State) (f : LswS → LswS) : (s.lsF  f).flash = s.flash := rfl
@[simp] theorem State.lsF_rd (s : State) (f : LswS → LswS) (q : Row) (jx : List Nat) : (s.lsF  f).rd q jx = s.rd q jx := rfl

/-! ### mtrF -/

@[simp] theorem State.mtrF_regs (s : State) (m : Meter) (f : MtrS → MtrS) : (s.mtrF m f).regs = s.regs := rfl
@[simp] theorem State.mtrF_arms (s : State) (m : Meter) (f : MtrS → MtrS) : (s.mtrF m f).arms = s.arms := rfl
@[simp] theorem State.mtrF_now (s : State) (m : Meter) (f : MtrS → MtrS) : (s.mtrF m f).now = s.now := rfl
@[simp] theorem State.mtrF_freeCtr (s : State) (m : Meter) (f : MtrS → MtrS) : (s.mtrF m f).freeCtr = s.freeCtr := rfl
@[simp] theorem State.mtrF_pending (s : State) (m : Meter) (f : MtrS → MtrS) : (s.mtrF m f).pending = s.pending := rfl
@[simp] theorem State.mtrF_spar (s : State) (m : Meter) (f : MtrS → MtrS) : (s.mtrF m f).spar = s.spar := rfl
@[simp] theorem State.mtrF_host (s : State) (m : Meter) (f : MtrS → MtrS) : (s.mtrF m f).host = s.host := rfl
@[simp] theorem State.mtrF_slotY (s : State) (m : Meter) (f : MtrS → MtrS) : (s.mtrF m f).slotY = s.slotY := rfl
@[simp] theorem State.mtrF_ring (s : State) (m : Meter) (f : MtrS → MtrS) : (s.mtrF m f).ring = s.ring := rfl
@[simp] theorem State.mtrF_lines (s : State) (m : Meter) (f : MtrS → MtrS) : (s.mtrF m f).lines = s.lines := rfl
@[simp] theorem State.mtrF_drivers (s : State) (m : Meter) (f : MtrS → MtrS) : (s.mtrF m f).drivers = s.drivers := rfl
@[simp] theorem State.mtrF_windowClosed (s : State) (m : Meter) (f : MtrS → MtrS) : (s.mtrF m f).windowClosed = s.windowClosed := rfl
@[simp] theorem State.mtrF_windowSent (s : State) (m : Meter) (f : MtrS → MtrS) : (s.mtrF m f).windowSent = s.windowSent := rfl
@[simp] theorem State.mtrF_stages (s : State) (m : Meter) (f : MtrS → MtrS) : (s.mtrF m f).stages = s.stages := rfl
@[simp] theorem State.mtrF_ports (s : State) (m : Meter) (f : MtrS → MtrS) : (s.mtrF m f).ports = s.ports := rfl
@[simp] theorem State.mtrF_brn (s : State) (m : Meter) (f : MtrS → MtrS) : (s.mtrF m f).brn = s.brn := rfl
@[simp] theorem State.mtrF_brd (s : State) (m : Meter) (f : MtrS → MtrS) : (s.mtrF m f).brd = s.brd := rfl
@[simp] theorem State.mtrF_sess (s : State) (m : Meter) (f : MtrS → MtrS) : (s.mtrF m f).sess = s.sess := rfl
@[simp] theorem State.mtrF_links (s : State) (m : Meter) (f : MtrS → MtrS) : (s.mtrF m f).links = s.links := rfl
@[simp] theorem State.mtrF_splc (s : State) (m : Meter) (f : MtrS → MtrS) : (s.mtrF m f).splc = s.splc := rfl
@[simp] theorem State.mtrF_chans (s : State) (m : Meter) (f : MtrS → MtrS) : (s.mtrF m f).chans = s.chans := rfl
@[simp] theorem State.mtrF_phases (s : State) (m : Meter) (f : MtrS → MtrS) : (s.mtrF m f).phases = s.phases := rfl
@[simp] theorem State.mtrF_mclkTook (s : State) (m : Meter) (f : MtrS → MtrS) : (s.mtrF m f).mclkTook = s.mclkTook := rfl
@[simp] theorem State.mtrF_fineLeft (s : State) (m : Meter) (f : MtrS → MtrS) : (s.mtrF m f).fineLeft = s.fineLeft := rfl
@[simp] theorem State.mtrF_pulses (s : State) (m : Meter) (f : MtrS → MtrS) : (s.mtrF m f).pulses = s.pulses := rfl
@[simp] theorem State.mtrF_addDue (s : State) (m : Meter) (f : MtrS → MtrS) : (s.mtrF m f).addDue = s.addDue := rfl
@[simp] theorem State.mtrF_bill (s : State) (m : Meter) (f : MtrS → MtrS) : (s.mtrF m f).bill = s.bill := rfl
@[simp] theorem State.mtrF_thrm (s : State) (m : Meter) (f : MtrS → MtrS) : (s.mtrF m f).thrm = s.thrm := rfl
@[simp] theorem State.mtrF_lsw (s : State) (m : Meter) (f : MtrS → MtrS) : (s.mtrF m f).lsw = s.lsw := rfl
@[simp] theorem State.mtrF_safe (s : State) (m : Meter) (f : MtrS → MtrS) : (s.mtrF m f).safe = s.safe := rfl
@[simp] theorem State.mtrF_teth (s : State) (m : Meter) (f : MtrS → MtrS) : (s.mtrF m f).teth = s.teth := rfl
@[simp] theorem State.mtrF_blst (s : State) (m : Meter) (f : MtrS → MtrS) : (s.mtrF m f).blst = s.blst := rfl
@[simp] theorem State.mtrF_can (s : State) (m : Meter) (f : MtrS → MtrS) : (s.mtrF m f).can = s.can := rfl
@[simp] theorem State.mtrF_reel (s : State) (m : Meter) (f : MtrS → MtrS) : (s.mtrF m f).reel = s.reel := rfl
@[simp] theorem State.mtrF_key (s : State) (m : Meter) (f : MtrS → MtrS) : (s.mtrF m f).key = s.key := rfl
@[simp] theorem State.mtrF_dram (s : State) (m : Meter) (f : MtrS → MtrS) : (s.mtrF m f).dram = s.dram := rfl
@[simp] theorem State.mtrF_sram0 (s : State) (m : Meter) (f : MtrS → MtrS) : (s.mtrF m f).sram0 = s.sram0 := rfl
@[simp] theorem State.mtrF_sram1 (s : State) (m : Meter) (f : MtrS → MtrS) : (s.mtrF m f).sram1 = s.sram1 := rfl
@[simp] theorem State.mtrF_rst (s : State) (m : Meter) (f : MtrS → MtrS) : (s.mtrF m f).rst = s.rst := rfl
@[simp] theorem State.mtrF_flash (s : State) (m : Meter) (f : MtrS → MtrS) : (s.mtrF m f).flash = s.flash := rfl
@[simp] theorem State.mtrF_rd (s : State) (m : Meter) (f : MtrS → MtrS) (q : Row) (jx : List Nat) : (s.mtrF m f).rd q jx = s.rd q jx := rfl

/-! ### billF -/

@[simp] theorem State.billF_regs (s : State) (f : BillS → BillS) : (s.billF  f).regs = s.regs := rfl
@[simp] theorem State.billF_arms (s : State) (f : BillS → BillS) : (s.billF  f).arms = s.arms := rfl
@[simp] theorem State.billF_now (s : State) (f : BillS → BillS) : (s.billF  f).now = s.now := rfl
@[simp] theorem State.billF_freeCtr (s : State) (f : BillS → BillS) : (s.billF  f).freeCtr = s.freeCtr := rfl
@[simp] theorem State.billF_pending (s : State) (f : BillS → BillS) : (s.billF  f).pending = s.pending := rfl
@[simp] theorem State.billF_spar (s : State) (f : BillS → BillS) : (s.billF  f).spar = s.spar := rfl
@[simp] theorem State.billF_host (s : State) (f : BillS → BillS) : (s.billF  f).host = s.host := rfl
@[simp] theorem State.billF_slotY (s : State) (f : BillS → BillS) : (s.billF  f).slotY = s.slotY := rfl
@[simp] theorem State.billF_ring (s : State) (f : BillS → BillS) : (s.billF  f).ring = s.ring := rfl
@[simp] theorem State.billF_lines (s : State) (f : BillS → BillS) : (s.billF  f).lines = s.lines := rfl
@[simp] theorem State.billF_drivers (s : State) (f : BillS → BillS) : (s.billF  f).drivers = s.drivers := rfl
@[simp] theorem State.billF_windowClosed (s : State) (f : BillS → BillS) : (s.billF  f).windowClosed = s.windowClosed := rfl
@[simp] theorem State.billF_windowSent (s : State) (f : BillS → BillS) : (s.billF  f).windowSent = s.windowSent := rfl
@[simp] theorem State.billF_stages (s : State) (f : BillS → BillS) : (s.billF  f).stages = s.stages := rfl
@[simp] theorem State.billF_ports (s : State) (f : BillS → BillS) : (s.billF  f).ports = s.ports := rfl
@[simp] theorem State.billF_brn (s : State) (f : BillS → BillS) : (s.billF  f).brn = s.brn := rfl
@[simp] theorem State.billF_brd (s : State) (f : BillS → BillS) : (s.billF  f).brd = s.brd := rfl
@[simp] theorem State.billF_sess (s : State) (f : BillS → BillS) : (s.billF  f).sess = s.sess := rfl
@[simp] theorem State.billF_links (s : State) (f : BillS → BillS) : (s.billF  f).links = s.links := rfl
@[simp] theorem State.billF_splc (s : State) (f : BillS → BillS) : (s.billF  f).splc = s.splc := rfl
@[simp] theorem State.billF_mtrs (s : State) (f : BillS → BillS) : (s.billF  f).mtrs = s.mtrs := rfl
@[simp] theorem State.billF_chans (s : State) (f : BillS → BillS) : (s.billF  f).chans = s.chans := rfl
@[simp] theorem State.billF_phases (s : State) (f : BillS → BillS) : (s.billF  f).phases = s.phases := rfl
@[simp] theorem State.billF_mclkTook (s : State) (f : BillS → BillS) : (s.billF  f).mclkTook = s.mclkTook := rfl
@[simp] theorem State.billF_fineLeft (s : State) (f : BillS → BillS) : (s.billF  f).fineLeft = s.fineLeft := rfl
@[simp] theorem State.billF_pulses (s : State) (f : BillS → BillS) : (s.billF  f).pulses = s.pulses := rfl
@[simp] theorem State.billF_addDue (s : State) (f : BillS → BillS) : (s.billF  f).addDue = s.addDue := rfl
@[simp] theorem State.billF_thrm (s : State) (f : BillS → BillS) : (s.billF  f).thrm = s.thrm := rfl
@[simp] theorem State.billF_lsw (s : State) (f : BillS → BillS) : (s.billF  f).lsw = s.lsw := rfl
@[simp] theorem State.billF_safe (s : State) (f : BillS → BillS) : (s.billF  f).safe = s.safe := rfl
@[simp] theorem State.billF_teth (s : State) (f : BillS → BillS) : (s.billF  f).teth = s.teth := rfl
@[simp] theorem State.billF_blst (s : State) (f : BillS → BillS) : (s.billF  f).blst = s.blst := rfl
@[simp] theorem State.billF_can (s : State) (f : BillS → BillS) : (s.billF  f).can = s.can := rfl
@[simp] theorem State.billF_reel (s : State) (f : BillS → BillS) : (s.billF  f).reel = s.reel := rfl
@[simp] theorem State.billF_key (s : State) (f : BillS → BillS) : (s.billF  f).key = s.key := rfl
@[simp] theorem State.billF_dram (s : State) (f : BillS → BillS) : (s.billF  f).dram = s.dram := rfl
@[simp] theorem State.billF_sram0 (s : State) (f : BillS → BillS) : (s.billF  f).sram0 = s.sram0 := rfl
@[simp] theorem State.billF_sram1 (s : State) (f : BillS → BillS) : (s.billF  f).sram1 = s.sram1 := rfl
@[simp] theorem State.billF_rst (s : State) (f : BillS → BillS) : (s.billF  f).rst = s.rst := rfl
@[simp] theorem State.billF_flash (s : State) (f : BillS → BillS) : (s.billF  f).flash = s.flash := rfl
@[simp] theorem State.billF_rd (s : State) (f : BillS → BillS) (q : Row) (jx : List Nat) : (s.billF  f).rd q jx = s.rd q jx := rfl

/-! ### phaseF -/

@[simp] theorem State.phaseF_regs (s : State) (k : Fin 12) (f : PhaseS → PhaseS) : (s.phaseF k f).regs = s.regs := rfl
@[simp] theorem State.phaseF_arms (s : State) (k : Fin 12) (f : PhaseS → PhaseS) : (s.phaseF k f).arms = s.arms := rfl
@[simp] theorem State.phaseF_now (s : State) (k : Fin 12) (f : PhaseS → PhaseS) : (s.phaseF k f).now = s.now := rfl
@[simp] theorem State.phaseF_freeCtr (s : State) (k : Fin 12) (f : PhaseS → PhaseS) : (s.phaseF k f).freeCtr = s.freeCtr := rfl
@[simp] theorem State.phaseF_pending (s : State) (k : Fin 12) (f : PhaseS → PhaseS) : (s.phaseF k f).pending = s.pending := rfl
@[simp] theorem State.phaseF_spar (s : State) (k : Fin 12) (f : PhaseS → PhaseS) : (s.phaseF k f).spar = s.spar := rfl
@[simp] theorem State.phaseF_host (s : State) (k : Fin 12) (f : PhaseS → PhaseS) : (s.phaseF k f).host = s.host := rfl
@[simp] theorem State.phaseF_slotY (s : State) (k : Fin 12) (f : PhaseS → PhaseS) : (s.phaseF k f).slotY = s.slotY := rfl
@[simp] theorem State.phaseF_ring (s : State) (k : Fin 12) (f : PhaseS → PhaseS) : (s.phaseF k f).ring = s.ring := rfl
@[simp] theorem State.phaseF_lines (s : State) (k : Fin 12) (f : PhaseS → PhaseS) : (s.phaseF k f).lines = s.lines := rfl
@[simp] theorem State.phaseF_drivers (s : State) (k : Fin 12) (f : PhaseS → PhaseS) : (s.phaseF k f).drivers = s.drivers := rfl
@[simp] theorem State.phaseF_windowClosed (s : State) (k : Fin 12) (f : PhaseS → PhaseS) : (s.phaseF k f).windowClosed = s.windowClosed := rfl
@[simp] theorem State.phaseF_windowSent (s : State) (k : Fin 12) (f : PhaseS → PhaseS) : (s.phaseF k f).windowSent = s.windowSent := rfl
@[simp] theorem State.phaseF_stages (s : State) (k : Fin 12) (f : PhaseS → PhaseS) : (s.phaseF k f).stages = s.stages := rfl
@[simp] theorem State.phaseF_ports (s : State) (k : Fin 12) (f : PhaseS → PhaseS) : (s.phaseF k f).ports = s.ports := rfl
@[simp] theorem State.phaseF_brn (s : State) (k : Fin 12) (f : PhaseS → PhaseS) : (s.phaseF k f).brn = s.brn := rfl
@[simp] theorem State.phaseF_brd (s : State) (k : Fin 12) (f : PhaseS → PhaseS) : (s.phaseF k f).brd = s.brd := rfl
@[simp] theorem State.phaseF_sess (s : State) (k : Fin 12) (f : PhaseS → PhaseS) : (s.phaseF k f).sess = s.sess := rfl
@[simp] theorem State.phaseF_links (s : State) (k : Fin 12) (f : PhaseS → PhaseS) : (s.phaseF k f).links = s.links := rfl
@[simp] theorem State.phaseF_splc (s : State) (k : Fin 12) (f : PhaseS → PhaseS) : (s.phaseF k f).splc = s.splc := rfl
@[simp] theorem State.phaseF_mtrs (s : State) (k : Fin 12) (f : PhaseS → PhaseS) : (s.phaseF k f).mtrs = s.mtrs := rfl
@[simp] theorem State.phaseF_chans (s : State) (k : Fin 12) (f : PhaseS → PhaseS) : (s.phaseF k f).chans = s.chans := rfl
@[simp] theorem State.phaseF_mclkTook (s : State) (k : Fin 12) (f : PhaseS → PhaseS) : (s.phaseF k f).mclkTook = s.mclkTook := rfl
@[simp] theorem State.phaseF_fineLeft (s : State) (k : Fin 12) (f : PhaseS → PhaseS) : (s.phaseF k f).fineLeft = s.fineLeft := rfl
@[simp] theorem State.phaseF_pulses (s : State) (k : Fin 12) (f : PhaseS → PhaseS) : (s.phaseF k f).pulses = s.pulses := rfl
@[simp] theorem State.phaseF_addDue (s : State) (k : Fin 12) (f : PhaseS → PhaseS) : (s.phaseF k f).addDue = s.addDue := rfl
@[simp] theorem State.phaseF_bill (s : State) (k : Fin 12) (f : PhaseS → PhaseS) : (s.phaseF k f).bill = s.bill := rfl
@[simp] theorem State.phaseF_thrm (s : State) (k : Fin 12) (f : PhaseS → PhaseS) : (s.phaseF k f).thrm = s.thrm := rfl
@[simp] theorem State.phaseF_lsw (s : State) (k : Fin 12) (f : PhaseS → PhaseS) : (s.phaseF k f).lsw = s.lsw := rfl
@[simp] theorem State.phaseF_safe (s : State) (k : Fin 12) (f : PhaseS → PhaseS) : (s.phaseF k f).safe = s.safe := rfl
@[simp] theorem State.phaseF_teth (s : State) (k : Fin 12) (f : PhaseS → PhaseS) : (s.phaseF k f).teth = s.teth := rfl
@[simp] theorem State.phaseF_blst (s : State) (k : Fin 12) (f : PhaseS → PhaseS) : (s.phaseF k f).blst = s.blst := rfl
@[simp] theorem State.phaseF_can (s : State) (k : Fin 12) (f : PhaseS → PhaseS) : (s.phaseF k f).can = s.can := rfl
@[simp] theorem State.phaseF_reel (s : State) (k : Fin 12) (f : PhaseS → PhaseS) : (s.phaseF k f).reel = s.reel := rfl
@[simp] theorem State.phaseF_key (s : State) (k : Fin 12) (f : PhaseS → PhaseS) : (s.phaseF k f).key = s.key := rfl
@[simp] theorem State.phaseF_dram (s : State) (k : Fin 12) (f : PhaseS → PhaseS) : (s.phaseF k f).dram = s.dram := rfl
@[simp] theorem State.phaseF_sram0 (s : State) (k : Fin 12) (f : PhaseS → PhaseS) : (s.phaseF k f).sram0 = s.sram0 := rfl
@[simp] theorem State.phaseF_sram1 (s : State) (k : Fin 12) (f : PhaseS → PhaseS) : (s.phaseF k f).sram1 = s.sram1 := rfl
@[simp] theorem State.phaseF_rst (s : State) (k : Fin 12) (f : PhaseS → PhaseS) : (s.phaseF k f).rst = s.rst := rfl
@[simp] theorem State.phaseF_flash (s : State) (k : Fin 12) (f : PhaseS → PhaseS) : (s.phaseF k f).flash = s.flash := rfl
@[simp] theorem State.phaseF_rd (s : State) (k : Fin 12) (f : PhaseS → PhaseS) (q : Row) (jx : List Nat) : (s.phaseF k f).rd q jx = s.rd q jx := rfl

/-! ### seF -/

@[simp] theorem State.seF_regs (s : State) (p : Port) (f : SessS → SessS) : (s.seF p f).regs = s.regs := rfl
@[simp] theorem State.seF_arms (s : State) (p : Port) (f : SessS → SessS) : (s.seF p f).arms = s.arms := rfl
@[simp] theorem State.seF_now (s : State) (p : Port) (f : SessS → SessS) : (s.seF p f).now = s.now := rfl
@[simp] theorem State.seF_freeCtr (s : State) (p : Port) (f : SessS → SessS) : (s.seF p f).freeCtr = s.freeCtr := rfl
@[simp] theorem State.seF_pending (s : State) (p : Port) (f : SessS → SessS) : (s.seF p f).pending = s.pending := rfl
@[simp] theorem State.seF_spar (s : State) (p : Port) (f : SessS → SessS) : (s.seF p f).spar = s.spar := rfl
@[simp] theorem State.seF_host (s : State) (p : Port) (f : SessS → SessS) : (s.seF p f).host = s.host := rfl
@[simp] theorem State.seF_slotY (s : State) (p : Port) (f : SessS → SessS) : (s.seF p f).slotY = s.slotY := rfl
@[simp] theorem State.seF_ring (s : State) (p : Port) (f : SessS → SessS) : (s.seF p f).ring = s.ring := rfl
@[simp] theorem State.seF_lines (s : State) (p : Port) (f : SessS → SessS) : (s.seF p f).lines = s.lines := rfl
@[simp] theorem State.seF_drivers (s : State) (p : Port) (f : SessS → SessS) : (s.seF p f).drivers = s.drivers := rfl
@[simp] theorem State.seF_windowClosed (s : State) (p : Port) (f : SessS → SessS) : (s.seF p f).windowClosed = s.windowClosed := rfl
@[simp] theorem State.seF_windowSent (s : State) (p : Port) (f : SessS → SessS) : (s.seF p f).windowSent = s.windowSent := rfl
@[simp] theorem State.seF_stages (s : State) (p : Port) (f : SessS → SessS) : (s.seF p f).stages = s.stages := rfl
@[simp] theorem State.seF_ports (s : State) (p : Port) (f : SessS → SessS) : (s.seF p f).ports = s.ports := rfl
@[simp] theorem State.seF_brn (s : State) (p : Port) (f : SessS → SessS) : (s.seF p f).brn = s.brn := rfl
@[simp] theorem State.seF_brd (s : State) (p : Port) (f : SessS → SessS) : (s.seF p f).brd = s.brd := rfl
@[simp] theorem State.seF_links (s : State) (p : Port) (f : SessS → SessS) : (s.seF p f).links = s.links := rfl
@[simp] theorem State.seF_splc (s : State) (p : Port) (f : SessS → SessS) : (s.seF p f).splc = s.splc := rfl
@[simp] theorem State.seF_mtrs (s : State) (p : Port) (f : SessS → SessS) : (s.seF p f).mtrs = s.mtrs := rfl
@[simp] theorem State.seF_chans (s : State) (p : Port) (f : SessS → SessS) : (s.seF p f).chans = s.chans := rfl
@[simp] theorem State.seF_phases (s : State) (p : Port) (f : SessS → SessS) : (s.seF p f).phases = s.phases := rfl
@[simp] theorem State.seF_mclkTook (s : State) (p : Port) (f : SessS → SessS) : (s.seF p f).mclkTook = s.mclkTook := rfl
@[simp] theorem State.seF_fineLeft (s : State) (p : Port) (f : SessS → SessS) : (s.seF p f).fineLeft = s.fineLeft := rfl
@[simp] theorem State.seF_pulses (s : State) (p : Port) (f : SessS → SessS) : (s.seF p f).pulses = s.pulses := rfl
@[simp] theorem State.seF_addDue (s : State) (p : Port) (f : SessS → SessS) : (s.seF p f).addDue = s.addDue := rfl
@[simp] theorem State.seF_bill (s : State) (p : Port) (f : SessS → SessS) : (s.seF p f).bill = s.bill := rfl
@[simp] theorem State.seF_thrm (s : State) (p : Port) (f : SessS → SessS) : (s.seF p f).thrm = s.thrm := rfl
@[simp] theorem State.seF_lsw (s : State) (p : Port) (f : SessS → SessS) : (s.seF p f).lsw = s.lsw := rfl
@[simp] theorem State.seF_safe (s : State) (p : Port) (f : SessS → SessS) : (s.seF p f).safe = s.safe := rfl
@[simp] theorem State.seF_teth (s : State) (p : Port) (f : SessS → SessS) : (s.seF p f).teth = s.teth := rfl
@[simp] theorem State.seF_blst (s : State) (p : Port) (f : SessS → SessS) : (s.seF p f).blst = s.blst := rfl
@[simp] theorem State.seF_can (s : State) (p : Port) (f : SessS → SessS) : (s.seF p f).can = s.can := rfl
@[simp] theorem State.seF_reel (s : State) (p : Port) (f : SessS → SessS) : (s.seF p f).reel = s.reel := rfl
@[simp] theorem State.seF_key (s : State) (p : Port) (f : SessS → SessS) : (s.seF p f).key = s.key := rfl
@[simp] theorem State.seF_dram (s : State) (p : Port) (f : SessS → SessS) : (s.seF p f).dram = s.dram := rfl
@[simp] theorem State.seF_sram0 (s : State) (p : Port) (f : SessS → SessS) : (s.seF p f).sram0 = s.sram0 := rfl
@[simp] theorem State.seF_sram1 (s : State) (p : Port) (f : SessS → SessS) : (s.seF p f).sram1 = s.sram1 := rfl
@[simp] theorem State.seF_rst (s : State) (p : Port) (f : SessS → SessS) : (s.seF p f).rst = s.rst := rfl
@[simp] theorem State.seF_flash (s : State) (p : Port) (f : SessS → SessS) : (s.seF p f).flash = s.flash := rfl
@[simp] theorem State.seF_rd (s : State) (p : Port) (f : SessS → SessS) (q : Row) (jx : List Nat) : (s.seF p f).rd q jx = s.rd q jx := rfl

/-! ### chF -/

@[simp] theorem State.chF_regs (s : State) (c : Fin 64) (f : ChS → ChS) : (s.chF c f).regs = s.regs := rfl
@[simp] theorem State.chF_arms (s : State) (c : Fin 64) (f : ChS → ChS) : (s.chF c f).arms = s.arms := rfl
@[simp] theorem State.chF_now (s : State) (c : Fin 64) (f : ChS → ChS) : (s.chF c f).now = s.now := rfl
@[simp] theorem State.chF_freeCtr (s : State) (c : Fin 64) (f : ChS → ChS) : (s.chF c f).freeCtr = s.freeCtr := rfl
@[simp] theorem State.chF_pending (s : State) (c : Fin 64) (f : ChS → ChS) : (s.chF c f).pending = s.pending := rfl
@[simp] theorem State.chF_spar (s : State) (c : Fin 64) (f : ChS → ChS) : (s.chF c f).spar = s.spar := rfl
@[simp] theorem State.chF_host (s : State) (c : Fin 64) (f : ChS → ChS) : (s.chF c f).host = s.host := rfl
@[simp] theorem State.chF_slotY (s : State) (c : Fin 64) (f : ChS → ChS) : (s.chF c f).slotY = s.slotY := rfl
@[simp] theorem State.chF_ring (s : State) (c : Fin 64) (f : ChS → ChS) : (s.chF c f).ring = s.ring := rfl
@[simp] theorem State.chF_lines (s : State) (c : Fin 64) (f : ChS → ChS) : (s.chF c f).lines = s.lines := rfl
@[simp] theorem State.chF_drivers (s : State) (c : Fin 64) (f : ChS → ChS) : (s.chF c f).drivers = s.drivers := rfl
@[simp] theorem State.chF_windowClosed (s : State) (c : Fin 64) (f : ChS → ChS) : (s.chF c f).windowClosed = s.windowClosed := rfl
@[simp] theorem State.chF_windowSent (s : State) (c : Fin 64) (f : ChS → ChS) : (s.chF c f).windowSent = s.windowSent := rfl
@[simp] theorem State.chF_stages (s : State) (c : Fin 64) (f : ChS → ChS) : (s.chF c f).stages = s.stages := rfl
@[simp] theorem State.chF_ports (s : State) (c : Fin 64) (f : ChS → ChS) : (s.chF c f).ports = s.ports := rfl
@[simp] theorem State.chF_brn (s : State) (c : Fin 64) (f : ChS → ChS) : (s.chF c f).brn = s.brn := rfl
@[simp] theorem State.chF_brd (s : State) (c : Fin 64) (f : ChS → ChS) : (s.chF c f).brd = s.brd := rfl
@[simp] theorem State.chF_sess (s : State) (c : Fin 64) (f : ChS → ChS) : (s.chF c f).sess = s.sess := rfl
@[simp] theorem State.chF_links (s : State) (c : Fin 64) (f : ChS → ChS) : (s.chF c f).links = s.links := rfl
@[simp] theorem State.chF_splc (s : State) (c : Fin 64) (f : ChS → ChS) : (s.chF c f).splc = s.splc := rfl
@[simp] theorem State.chF_mtrs (s : State) (c : Fin 64) (f : ChS → ChS) : (s.chF c f).mtrs = s.mtrs := rfl
@[simp] theorem State.chF_chans (s : State) (c : Fin 64) (f : ChS → ChS) : (s.chF c f).chans = s.chans := rfl
@[simp] theorem State.chF_phases (s : State) (c : Fin 64) (f : ChS → ChS) : (s.chF c f).phases = s.phases := rfl
@[simp] theorem State.chF_mclkTook (s : State) (c : Fin 64) (f : ChS → ChS) : (s.chF c f).mclkTook = s.mclkTook := rfl
@[simp] theorem State.chF_fineLeft (s : State) (c : Fin 64) (f : ChS → ChS) : (s.chF c f).fineLeft = s.fineLeft := rfl
@[simp] theorem State.chF_pulses (s : State) (c : Fin 64) (f : ChS → ChS) : (s.chF c f).pulses = s.pulses := rfl
@[simp] theorem State.chF_addDue (s : State) (c : Fin 64) (f : ChS → ChS) : (s.chF c f).addDue = s.addDue := rfl
@[simp] theorem State.chF_bill (s : State) (c : Fin 64) (f : ChS → ChS) : (s.chF c f).bill = s.bill := rfl
@[simp] theorem State.chF_thrm (s : State) (c : Fin 64) (f : ChS → ChS) : (s.chF c f).thrm = s.thrm := rfl
@[simp] theorem State.chF_lsw (s : State) (c : Fin 64) (f : ChS → ChS) : (s.chF c f).lsw = s.lsw := rfl
@[simp] theorem State.chF_safe (s : State) (c : Fin 64) (f : ChS → ChS) : (s.chF c f).safe = s.safe := rfl
@[simp] theorem State.chF_teth (s : State) (c : Fin 64) (f : ChS → ChS) : (s.chF c f).teth = s.teth := rfl
@[simp] theorem State.chF_blst (s : State) (c : Fin 64) (f : ChS → ChS) : (s.chF c f).blst = s.blst := rfl
@[simp] theorem State.chF_can (s : State) (c : Fin 64) (f : ChS → ChS) : (s.chF c f).can = s.can := rfl
@[simp] theorem State.chF_key (s : State) (c : Fin 64) (f : ChS → ChS) : (s.chF c f).key = s.key := rfl
@[simp] theorem State.chF_dram (s : State) (c : Fin 64) (f : ChS → ChS) : (s.chF c f).dram = s.dram := rfl
@[simp] theorem State.chF_sram0 (s : State) (c : Fin 64) (f : ChS → ChS) : (s.chF c f).sram0 = s.sram0 := rfl
@[simp] theorem State.chF_sram1 (s : State) (c : Fin 64) (f : ChS → ChS) : (s.chF c f).sram1 = s.sram1 := rfl
@[simp] theorem State.chF_rst (s : State) (c : Fin 64) (f : ChS → ChS) : (s.chF c f).rst = s.rst := rfl
@[simp] theorem State.chF_flash (s : State) (c : Fin 64) (f : ChS → ChS) : (s.chF c f).flash = s.flash := rfl
@[simp] theorem State.chF_rd (s : State) (c : Fin 64) (f : ChS → ChS) (q : Row) (jx : List Nat) : (s.chF c f).rd q jx = s.rd q jx := rfl

/-! ### rsF -/

@[simp] theorem State.rsF_regs (s : State) (f : RstS → RstS) : (s.rsF  f).regs = s.regs := rfl
@[simp] theorem State.rsF_arms (s : State) (f : RstS → RstS) : (s.rsF  f).arms = s.arms := rfl
@[simp] theorem State.rsF_now (s : State) (f : RstS → RstS) : (s.rsF  f).now = s.now := rfl
@[simp] theorem State.rsF_freeCtr (s : State) (f : RstS → RstS) : (s.rsF  f).freeCtr = s.freeCtr := rfl
@[simp] theorem State.rsF_pending (s : State) (f : RstS → RstS) : (s.rsF  f).pending = s.pending := rfl
@[simp] theorem State.rsF_spar (s : State) (f : RstS → RstS) : (s.rsF  f).spar = s.spar := rfl
@[simp] theorem State.rsF_host (s : State) (f : RstS → RstS) : (s.rsF  f).host = s.host := rfl
@[simp] theorem State.rsF_slotY (s : State) (f : RstS → RstS) : (s.rsF  f).slotY = s.slotY := rfl
@[simp] theorem State.rsF_ring (s : State) (f : RstS → RstS) : (s.rsF  f).ring = s.ring := rfl
@[simp] theorem State.rsF_lines (s : State) (f : RstS → RstS) : (s.rsF  f).lines = s.lines := rfl
@[simp] theorem State.rsF_drivers (s : State) (f : RstS → RstS) : (s.rsF  f).drivers = s.drivers := rfl
@[simp] theorem State.rsF_windowClosed (s : State) (f : RstS → RstS) : (s.rsF  f).windowClosed = s.windowClosed := rfl
@[simp] theorem State.rsF_windowSent (s : State) (f : RstS → RstS) : (s.rsF  f).windowSent = s.windowSent := rfl
@[simp] theorem State.rsF_stages (s : State) (f : RstS → RstS) : (s.rsF  f).stages = s.stages := rfl
@[simp] theorem State.rsF_ports (s : State) (f : RstS → RstS) : (s.rsF  f).ports = s.ports := rfl
@[simp] theorem State.rsF_brn (s : State) (f : RstS → RstS) : (s.rsF  f).brn = s.brn := rfl
@[simp] theorem State.rsF_brd (s : State) (f : RstS → RstS) : (s.rsF  f).brd = s.brd := rfl
@[simp] theorem State.rsF_sess (s : State) (f : RstS → RstS) : (s.rsF  f).sess = s.sess := rfl
@[simp] theorem State.rsF_links (s : State) (f : RstS → RstS) : (s.rsF  f).links = s.links := rfl
@[simp] theorem State.rsF_splc (s : State) (f : RstS → RstS) : (s.rsF  f).splc = s.splc := rfl
@[simp] theorem State.rsF_mtrs (s : State) (f : RstS → RstS) : (s.rsF  f).mtrs = s.mtrs := rfl
@[simp] theorem State.rsF_chans (s : State) (f : RstS → RstS) : (s.rsF  f).chans = s.chans := rfl
@[simp] theorem State.rsF_phases (s : State) (f : RstS → RstS) : (s.rsF  f).phases = s.phases := rfl
@[simp] theorem State.rsF_mclkTook (s : State) (f : RstS → RstS) : (s.rsF  f).mclkTook = s.mclkTook := rfl
@[simp] theorem State.rsF_fineLeft (s : State) (f : RstS → RstS) : (s.rsF  f).fineLeft = s.fineLeft := rfl
@[simp] theorem State.rsF_pulses (s : State) (f : RstS → RstS) : (s.rsF  f).pulses = s.pulses := rfl
@[simp] theorem State.rsF_addDue (s : State) (f : RstS → RstS) : (s.rsF  f).addDue = s.addDue := rfl
@[simp] theorem State.rsF_bill (s : State) (f : RstS → RstS) : (s.rsF  f).bill = s.bill := rfl
@[simp] theorem State.rsF_thrm (s : State) (f : RstS → RstS) : (s.rsF  f).thrm = s.thrm := rfl
@[simp] theorem State.rsF_lsw (s : State) (f : RstS → RstS) : (s.rsF  f).lsw = s.lsw := rfl
@[simp] theorem State.rsF_safe (s : State) (f : RstS → RstS) : (s.rsF  f).safe = s.safe := rfl
@[simp] theorem State.rsF_teth (s : State) (f : RstS → RstS) : (s.rsF  f).teth = s.teth := rfl
@[simp] theorem State.rsF_blst (s : State) (f : RstS → RstS) : (s.rsF  f).blst = s.blst := rfl
@[simp] theorem State.rsF_can (s : State) (f : RstS → RstS) : (s.rsF  f).can = s.can := rfl
@[simp] theorem State.rsF_reel (s : State) (f : RstS → RstS) : (s.rsF  f).reel = s.reel := rfl
@[simp] theorem State.rsF_key (s : State) (f : RstS → RstS) : (s.rsF  f).key = s.key := rfl
@[simp] theorem State.rsF_dram (s : State) (f : RstS → RstS) : (s.rsF  f).dram = s.dram := rfl
@[simp] theorem State.rsF_sram0 (s : State) (f : RstS → RstS) : (s.rsF  f).sram0 = s.sram0 := rfl
@[simp] theorem State.rsF_sram1 (s : State) (f : RstS → RstS) : (s.rsF  f).sram1 = s.sram1 := rfl
@[simp] theorem State.rsF_flash (s : State) (f : RstS → RstS) : (s.rsF  f).flash = s.flash := rfl
@[simp] theorem State.rsF_rd (s : State) (f : RstS → RstS) (q : Row) (jx : List Nat) : (s.rsF  f).rd q jx = s.rd q jx := rfl

/-! ### sfF -/

@[simp] theorem State.sfF_regs (s : State) (f : SafeS → SafeS) : (s.sfF  f).regs = s.regs := rfl
@[simp] theorem State.sfF_arms (s : State) (f : SafeS → SafeS) : (s.sfF  f).arms = s.arms := rfl
@[simp] theorem State.sfF_now (s : State) (f : SafeS → SafeS) : (s.sfF  f).now = s.now := rfl
@[simp] theorem State.sfF_freeCtr (s : State) (f : SafeS → SafeS) : (s.sfF  f).freeCtr = s.freeCtr := rfl
@[simp] theorem State.sfF_pending (s : State) (f : SafeS → SafeS) : (s.sfF  f).pending = s.pending := rfl
@[simp] theorem State.sfF_spar (s : State) (f : SafeS → SafeS) : (s.sfF  f).spar = s.spar := rfl
@[simp] theorem State.sfF_host (s : State) (f : SafeS → SafeS) : (s.sfF  f).host = s.host := rfl
@[simp] theorem State.sfF_slotY (s : State) (f : SafeS → SafeS) : (s.sfF  f).slotY = s.slotY := rfl
@[simp] theorem State.sfF_ring (s : State) (f : SafeS → SafeS) : (s.sfF  f).ring = s.ring := rfl
@[simp] theorem State.sfF_lines (s : State) (f : SafeS → SafeS) : (s.sfF  f).lines = s.lines := rfl
@[simp] theorem State.sfF_drivers (s : State) (f : SafeS → SafeS) : (s.sfF  f).drivers = s.drivers := rfl
@[simp] theorem State.sfF_windowClosed (s : State) (f : SafeS → SafeS) : (s.sfF  f).windowClosed = s.windowClosed := rfl
@[simp] theorem State.sfF_windowSent (s : State) (f : SafeS → SafeS) : (s.sfF  f).windowSent = s.windowSent := rfl
@[simp] theorem State.sfF_stages (s : State) (f : SafeS → SafeS) : (s.sfF  f).stages = s.stages := rfl
@[simp] theorem State.sfF_ports (s : State) (f : SafeS → SafeS) : (s.sfF  f).ports = s.ports := rfl
@[simp] theorem State.sfF_brn (s : State) (f : SafeS → SafeS) : (s.sfF  f).brn = s.brn := rfl
@[simp] theorem State.sfF_brd (s : State) (f : SafeS → SafeS) : (s.sfF  f).brd = s.brd := rfl
@[simp] theorem State.sfF_sess (s : State) (f : SafeS → SafeS) : (s.sfF  f).sess = s.sess := rfl
@[simp] theorem State.sfF_links (s : State) (f : SafeS → SafeS) : (s.sfF  f).links = s.links := rfl
@[simp] theorem State.sfF_splc (s : State) (f : SafeS → SafeS) : (s.sfF  f).splc = s.splc := rfl
@[simp] theorem State.sfF_mtrs (s : State) (f : SafeS → SafeS) : (s.sfF  f).mtrs = s.mtrs := rfl
@[simp] theorem State.sfF_chans (s : State) (f : SafeS → SafeS) : (s.sfF  f).chans = s.chans := rfl
@[simp] theorem State.sfF_phases (s : State) (f : SafeS → SafeS) : (s.sfF  f).phases = s.phases := rfl
@[simp] theorem State.sfF_mclkTook (s : State) (f : SafeS → SafeS) : (s.sfF  f).mclkTook = s.mclkTook := rfl
@[simp] theorem State.sfF_fineLeft (s : State) (f : SafeS → SafeS) : (s.sfF  f).fineLeft = s.fineLeft := rfl
@[simp] theorem State.sfF_pulses (s : State) (f : SafeS → SafeS) : (s.sfF  f).pulses = s.pulses := rfl
@[simp] theorem State.sfF_addDue (s : State) (f : SafeS → SafeS) : (s.sfF  f).addDue = s.addDue := rfl
@[simp] theorem State.sfF_bill (s : State) (f : SafeS → SafeS) : (s.sfF  f).bill = s.bill := rfl
@[simp] theorem State.sfF_thrm (s : State) (f : SafeS → SafeS) : (s.sfF  f).thrm = s.thrm := rfl
@[simp] theorem State.sfF_lsw (s : State) (f : SafeS → SafeS) : (s.sfF  f).lsw = s.lsw := rfl
@[simp] theorem State.sfF_teth (s : State) (f : SafeS → SafeS) : (s.sfF  f).teth = s.teth := rfl
@[simp] theorem State.sfF_blst (s : State) (f : SafeS → SafeS) : (s.sfF  f).blst = s.blst := rfl
@[simp] theorem State.sfF_can (s : State) (f : SafeS → SafeS) : (s.sfF  f).can = s.can := rfl
@[simp] theorem State.sfF_reel (s : State) (f : SafeS → SafeS) : (s.sfF  f).reel = s.reel := rfl
@[simp] theorem State.sfF_key (s : State) (f : SafeS → SafeS) : (s.sfF  f).key = s.key := rfl
@[simp] theorem State.sfF_dram (s : State) (f : SafeS → SafeS) : (s.sfF  f).dram = s.dram := rfl
@[simp] theorem State.sfF_sram0 (s : State) (f : SafeS → SafeS) : (s.sfF  f).sram0 = s.sram0 := rfl
@[simp] theorem State.sfF_sram1 (s : State) (f : SafeS → SafeS) : (s.sfF  f).sram1 = s.sram1 := rfl
@[simp] theorem State.sfF_rst (s : State) (f : SafeS → SafeS) : (s.sfF  f).rst = s.rst := rfl
@[simp] theorem State.sfF_flash (s : State) (f : SafeS → SafeS) : (s.sfF  f).flash = s.flash := rfl
@[simp] theorem State.sfF_rd (s : State) (f : SafeS → SafeS) (q : Row) (jx : List Nat) : (s.sfF  f).rd q jx = s.rd q jx := rfl

/-! ### sparF -/

@[simp] theorem State.sparF_regs (s : State) (f : SparS → SparS) : (s.sparF  f).regs = s.regs := rfl
@[simp] theorem State.sparF_arms (s : State) (f : SparS → SparS) : (s.sparF  f).arms = s.arms := rfl
@[simp] theorem State.sparF_now (s : State) (f : SparS → SparS) : (s.sparF  f).now = s.now := rfl
@[simp] theorem State.sparF_freeCtr (s : State) (f : SparS → SparS) : (s.sparF  f).freeCtr = s.freeCtr := rfl
@[simp] theorem State.sparF_pending (s : State) (f : SparS → SparS) : (s.sparF  f).pending = s.pending := rfl
@[simp] theorem State.sparF_host (s : State) (f : SparS → SparS) : (s.sparF  f).host = s.host := rfl
@[simp] theorem State.sparF_slotY (s : State) (f : SparS → SparS) : (s.sparF  f).slotY = s.slotY := rfl
@[simp] theorem State.sparF_ring (s : State) (f : SparS → SparS) : (s.sparF  f).ring = s.ring := rfl
@[simp] theorem State.sparF_lines (s : State) (f : SparS → SparS) : (s.sparF  f).lines = s.lines := rfl
@[simp] theorem State.sparF_drivers (s : State) (f : SparS → SparS) : (s.sparF  f).drivers = s.drivers := rfl
@[simp] theorem State.sparF_windowClosed (s : State) (f : SparS → SparS) : (s.sparF  f).windowClosed = s.windowClosed := rfl
@[simp] theorem State.sparF_windowSent (s : State) (f : SparS → SparS) : (s.sparF  f).windowSent = s.windowSent := rfl
@[simp] theorem State.sparF_stages (s : State) (f : SparS → SparS) : (s.sparF  f).stages = s.stages := rfl
@[simp] theorem State.sparF_ports (s : State) (f : SparS → SparS) : (s.sparF  f).ports = s.ports := rfl
@[simp] theorem State.sparF_brn (s : State) (f : SparS → SparS) : (s.sparF  f).brn = s.brn := rfl
@[simp] theorem State.sparF_brd (s : State) (f : SparS → SparS) : (s.sparF  f).brd = s.brd := rfl
@[simp] theorem State.sparF_sess (s : State) (f : SparS → SparS) : (s.sparF  f).sess = s.sess := rfl
@[simp] theorem State.sparF_links (s : State) (f : SparS → SparS) : (s.sparF  f).links = s.links := rfl
@[simp] theorem State.sparF_splc (s : State) (f : SparS → SparS) : (s.sparF  f).splc = s.splc := rfl
@[simp] theorem State.sparF_mtrs (s : State) (f : SparS → SparS) : (s.sparF  f).mtrs = s.mtrs := rfl
@[simp] theorem State.sparF_chans (s : State) (f : SparS → SparS) : (s.sparF  f).chans = s.chans := rfl
@[simp] theorem State.sparF_phases (s : State) (f : SparS → SparS) : (s.sparF  f).phases = s.phases := rfl
@[simp] theorem State.sparF_mclkTook (s : State) (f : SparS → SparS) : (s.sparF  f).mclkTook = s.mclkTook := rfl
@[simp] theorem State.sparF_fineLeft (s : State) (f : SparS → SparS) : (s.sparF  f).fineLeft = s.fineLeft := rfl
@[simp] theorem State.sparF_pulses (s : State) (f : SparS → SparS) : (s.sparF  f).pulses = s.pulses := rfl
@[simp] theorem State.sparF_addDue (s : State) (f : SparS → SparS) : (s.sparF  f).addDue = s.addDue := rfl
@[simp] theorem State.sparF_bill (s : State) (f : SparS → SparS) : (s.sparF  f).bill = s.bill := rfl
@[simp] theorem State.sparF_thrm (s : State) (f : SparS → SparS) : (s.sparF  f).thrm = s.thrm := rfl
@[simp] theorem State.sparF_lsw (s : State) (f : SparS → SparS) : (s.sparF  f).lsw = s.lsw := rfl
@[simp] theorem State.sparF_safe (s : State) (f : SparS → SparS) : (s.sparF  f).safe = s.safe := rfl
@[simp] theorem State.sparF_teth (s : State) (f : SparS → SparS) : (s.sparF  f).teth = s.teth := rfl
@[simp] theorem State.sparF_blst (s : State) (f : SparS → SparS) : (s.sparF  f).blst = s.blst := rfl
@[simp] theorem State.sparF_can (s : State) (f : SparS → SparS) : (s.sparF  f).can = s.can := rfl
@[simp] theorem State.sparF_reel (s : State) (f : SparS → SparS) : (s.sparF  f).reel = s.reel := rfl
@[simp] theorem State.sparF_key (s : State) (f : SparS → SparS) : (s.sparF  f).key = s.key := rfl
@[simp] theorem State.sparF_dram (s : State) (f : SparS → SparS) : (s.sparF  f).dram = s.dram := rfl
@[simp] theorem State.sparF_sram0 (s : State) (f : SparS → SparS) : (s.sparF  f).sram0 = s.sram0 := rfl
@[simp] theorem State.sparF_sram1 (s : State) (f : SparS → SparS) : (s.sparF  f).sram1 = s.sram1 := rfl
@[simp] theorem State.sparF_rst (s : State) (f : SparS → SparS) : (s.sparF  f).rst = s.rst := rfl
@[simp] theorem State.sparF_flash (s : State) (f : SparS → SparS) : (s.sparF  f).flash = s.flash := rfl
@[simp] theorem State.sparF_rd (s : State) (f : SparS → SparS) (q : Row) (jx : List Nat) : (s.sparF  f).rd q jx = s.rd q jx := rfl

/-! ### splcF -/

@[simp] theorem State.splcF_regs (s : State) (f : SplcS → SplcS) : (s.splcF  f).regs = s.regs := rfl
@[simp] theorem State.splcF_arms (s : State) (f : SplcS → SplcS) : (s.splcF  f).arms = s.arms := rfl
@[simp] theorem State.splcF_now (s : State) (f : SplcS → SplcS) : (s.splcF  f).now = s.now := rfl
@[simp] theorem State.splcF_freeCtr (s : State) (f : SplcS → SplcS) : (s.splcF  f).freeCtr = s.freeCtr := rfl
@[simp] theorem State.splcF_pending (s : State) (f : SplcS → SplcS) : (s.splcF  f).pending = s.pending := rfl
@[simp] theorem State.splcF_spar (s : State) (f : SplcS → SplcS) : (s.splcF  f).spar = s.spar := rfl
@[simp] theorem State.splcF_host (s : State) (f : SplcS → SplcS) : (s.splcF  f).host = s.host := rfl
@[simp] theorem State.splcF_slotY (s : State) (f : SplcS → SplcS) : (s.splcF  f).slotY = s.slotY := rfl
@[simp] theorem State.splcF_ring (s : State) (f : SplcS → SplcS) : (s.splcF  f).ring = s.ring := rfl
@[simp] theorem State.splcF_lines (s : State) (f : SplcS → SplcS) : (s.splcF  f).lines = s.lines := rfl
@[simp] theorem State.splcF_drivers (s : State) (f : SplcS → SplcS) : (s.splcF  f).drivers = s.drivers := rfl
@[simp] theorem State.splcF_windowClosed (s : State) (f : SplcS → SplcS) : (s.splcF  f).windowClosed = s.windowClosed := rfl
@[simp] theorem State.splcF_windowSent (s : State) (f : SplcS → SplcS) : (s.splcF  f).windowSent = s.windowSent := rfl
@[simp] theorem State.splcF_stages (s : State) (f : SplcS → SplcS) : (s.splcF  f).stages = s.stages := rfl
@[simp] theorem State.splcF_ports (s : State) (f : SplcS → SplcS) : (s.splcF  f).ports = s.ports := rfl
@[simp] theorem State.splcF_brn (s : State) (f : SplcS → SplcS) : (s.splcF  f).brn = s.brn := rfl
@[simp] theorem State.splcF_brd (s : State) (f : SplcS → SplcS) : (s.splcF  f).brd = s.brd := rfl
@[simp] theorem State.splcF_sess (s : State) (f : SplcS → SplcS) : (s.splcF  f).sess = s.sess := rfl
@[simp] theorem State.splcF_links (s : State) (f : SplcS → SplcS) : (s.splcF  f).links = s.links := rfl
@[simp] theorem State.splcF_mtrs (s : State) (f : SplcS → SplcS) : (s.splcF  f).mtrs = s.mtrs := rfl
@[simp] theorem State.splcF_chans (s : State) (f : SplcS → SplcS) : (s.splcF  f).chans = s.chans := rfl
@[simp] theorem State.splcF_phases (s : State) (f : SplcS → SplcS) : (s.splcF  f).phases = s.phases := rfl
@[simp] theorem State.splcF_mclkTook (s : State) (f : SplcS → SplcS) : (s.splcF  f).mclkTook = s.mclkTook := rfl
@[simp] theorem State.splcF_fineLeft (s : State) (f : SplcS → SplcS) : (s.splcF  f).fineLeft = s.fineLeft := rfl
@[simp] theorem State.splcF_pulses (s : State) (f : SplcS → SplcS) : (s.splcF  f).pulses = s.pulses := rfl
@[simp] theorem State.splcF_addDue (s : State) (f : SplcS → SplcS) : (s.splcF  f).addDue = s.addDue := rfl
@[simp] theorem State.splcF_bill (s : State) (f : SplcS → SplcS) : (s.splcF  f).bill = s.bill := rfl
@[simp] theorem State.splcF_thrm (s : State) (f : SplcS → SplcS) : (s.splcF  f).thrm = s.thrm := rfl
@[simp] theorem State.splcF_lsw (s : State) (f : SplcS → SplcS) : (s.splcF  f).lsw = s.lsw := rfl
@[simp] theorem State.splcF_safe (s : State) (f : SplcS → SplcS) : (s.splcF  f).safe = s.safe := rfl
@[simp] theorem State.splcF_teth (s : State) (f : SplcS → SplcS) : (s.splcF  f).teth = s.teth := rfl
@[simp] theorem State.splcF_blst (s : State) (f : SplcS → SplcS) : (s.splcF  f).blst = s.blst := rfl
@[simp] theorem State.splcF_can (s : State) (f : SplcS → SplcS) : (s.splcF  f).can = s.can := rfl
@[simp] theorem State.splcF_reel (s : State) (f : SplcS → SplcS) : (s.splcF  f).reel = s.reel := rfl
@[simp] theorem State.splcF_key (s : State) (f : SplcS → SplcS) : (s.splcF  f).key = s.key := rfl
@[simp] theorem State.splcF_dram (s : State) (f : SplcS → SplcS) : (s.splcF  f).dram = s.dram := rfl
@[simp] theorem State.splcF_sram0 (s : State) (f : SplcS → SplcS) : (s.splcF  f).sram0 = s.sram0 := rfl
@[simp] theorem State.splcF_sram1 (s : State) (f : SplcS → SplcS) : (s.splcF  f).sram1 = s.sram1 := rfl
@[simp] theorem State.splcF_rst (s : State) (f : SplcS → SplcS) : (s.splcF  f).rst = s.rst := rfl
@[simp] theorem State.splcF_flash (s : State) (f : SplcS → SplcS) : (s.splcF  f).flash = s.flash := rfl
@[simp] theorem State.splcF_rd (s : State) (f : SplcS → SplcS) (q : Row) (jx : List Nat) : (s.splcF  f).rd q jx = s.rd q jx := rfl

/-! ### brnF -/

@[simp] theorem State.brnF_regs (s : State) (f : BrnS → BrnS) : (s.brnF  f).regs = s.regs := rfl
@[simp] theorem State.brnF_arms (s : State) (f : BrnS → BrnS) : (s.brnF  f).arms = s.arms := rfl
@[simp] theorem State.brnF_now (s : State) (f : BrnS → BrnS) : (s.brnF  f).now = s.now := rfl
@[simp] theorem State.brnF_freeCtr (s : State) (f : BrnS → BrnS) : (s.brnF  f).freeCtr = s.freeCtr := rfl
@[simp] theorem State.brnF_pending (s : State) (f : BrnS → BrnS) : (s.brnF  f).pending = s.pending := rfl
@[simp] theorem State.brnF_spar (s : State) (f : BrnS → BrnS) : (s.brnF  f).spar = s.spar := rfl
@[simp] theorem State.brnF_host (s : State) (f : BrnS → BrnS) : (s.brnF  f).host = s.host := rfl
@[simp] theorem State.brnF_slotY (s : State) (f : BrnS → BrnS) : (s.brnF  f).slotY = s.slotY := rfl
@[simp] theorem State.brnF_ring (s : State) (f : BrnS → BrnS) : (s.brnF  f).ring = s.ring := rfl
@[simp] theorem State.brnF_lines (s : State) (f : BrnS → BrnS) : (s.brnF  f).lines = s.lines := rfl
@[simp] theorem State.brnF_drivers (s : State) (f : BrnS → BrnS) : (s.brnF  f).drivers = s.drivers := rfl
@[simp] theorem State.brnF_windowClosed (s : State) (f : BrnS → BrnS) : (s.brnF  f).windowClosed = s.windowClosed := rfl
@[simp] theorem State.brnF_windowSent (s : State) (f : BrnS → BrnS) : (s.brnF  f).windowSent = s.windowSent := rfl
@[simp] theorem State.brnF_stages (s : State) (f : BrnS → BrnS) : (s.brnF  f).stages = s.stages := rfl
@[simp] theorem State.brnF_ports (s : State) (f : BrnS → BrnS) : (s.brnF  f).ports = s.ports := rfl
@[simp] theorem State.brnF_brd (s : State) (f : BrnS → BrnS) : (s.brnF  f).brd = s.brd := rfl
@[simp] theorem State.brnF_sess (s : State) (f : BrnS → BrnS) : (s.brnF  f).sess = s.sess := rfl
@[simp] theorem State.brnF_links (s : State) (f : BrnS → BrnS) : (s.brnF  f).links = s.links := rfl
@[simp] theorem State.brnF_splc (s : State) (f : BrnS → BrnS) : (s.brnF  f).splc = s.splc := rfl
@[simp] theorem State.brnF_mtrs (s : State) (f : BrnS → BrnS) : (s.brnF  f).mtrs = s.mtrs := rfl
@[simp] theorem State.brnF_chans (s : State) (f : BrnS → BrnS) : (s.brnF  f).chans = s.chans := rfl
@[simp] theorem State.brnF_phases (s : State) (f : BrnS → BrnS) : (s.brnF  f).phases = s.phases := rfl
@[simp] theorem State.brnF_mclkTook (s : State) (f : BrnS → BrnS) : (s.brnF  f).mclkTook = s.mclkTook := rfl
@[simp] theorem State.brnF_fineLeft (s : State) (f : BrnS → BrnS) : (s.brnF  f).fineLeft = s.fineLeft := rfl
@[simp] theorem State.brnF_pulses (s : State) (f : BrnS → BrnS) : (s.brnF  f).pulses = s.pulses := rfl
@[simp] theorem State.brnF_addDue (s : State) (f : BrnS → BrnS) : (s.brnF  f).addDue = s.addDue := rfl
@[simp] theorem State.brnF_bill (s : State) (f : BrnS → BrnS) : (s.brnF  f).bill = s.bill := rfl
@[simp] theorem State.brnF_thrm (s : State) (f : BrnS → BrnS) : (s.brnF  f).thrm = s.thrm := rfl
@[simp] theorem State.brnF_lsw (s : State) (f : BrnS → BrnS) : (s.brnF  f).lsw = s.lsw := rfl
@[simp] theorem State.brnF_safe (s : State) (f : BrnS → BrnS) : (s.brnF  f).safe = s.safe := rfl
@[simp] theorem State.brnF_teth (s : State) (f : BrnS → BrnS) : (s.brnF  f).teth = s.teth := rfl
@[simp] theorem State.brnF_blst (s : State) (f : BrnS → BrnS) : (s.brnF  f).blst = s.blst := rfl
@[simp] theorem State.brnF_can (s : State) (f : BrnS → BrnS) : (s.brnF  f).can = s.can := rfl
@[simp] theorem State.brnF_reel (s : State) (f : BrnS → BrnS) : (s.brnF  f).reel = s.reel := rfl
@[simp] theorem State.brnF_key (s : State) (f : BrnS → BrnS) : (s.brnF  f).key = s.key := rfl
@[simp] theorem State.brnF_dram (s : State) (f : BrnS → BrnS) : (s.brnF  f).dram = s.dram := rfl
@[simp] theorem State.brnF_sram0 (s : State) (f : BrnS → BrnS) : (s.brnF  f).sram0 = s.sram0 := rfl
@[simp] theorem State.brnF_sram1 (s : State) (f : BrnS → BrnS) : (s.brnF  f).sram1 = s.sram1 := rfl
@[simp] theorem State.brnF_rst (s : State) (f : BrnS → BrnS) : (s.brnF  f).rst = s.rst := rfl
@[simp] theorem State.brnF_flash (s : State) (f : BrnS → BrnS) : (s.brnF  f).flash = s.flash := rfl
@[simp] theorem State.brnF_rd (s : State) (f : BrnS → BrnS) (q : Row) (jx : List Nat) : (s.brnF  f).rd q jx = s.rd q jx := rfl

/-! ### stgF -/

@[simp] theorem State.stgF_regs (s : State) (i : Stage) (f : StgS → StgS) : (s.stgF i f).regs = s.regs := rfl
@[simp] theorem State.stgF_arms (s : State) (i : Stage) (f : StgS → StgS) : (s.stgF i f).arms = s.arms := rfl
@[simp] theorem State.stgF_now (s : State) (i : Stage) (f : StgS → StgS) : (s.stgF i f).now = s.now := rfl
@[simp] theorem State.stgF_freeCtr (s : State) (i : Stage) (f : StgS → StgS) : (s.stgF i f).freeCtr = s.freeCtr := rfl
@[simp] theorem State.stgF_pending (s : State) (i : Stage) (f : StgS → StgS) : (s.stgF i f).pending = s.pending := rfl
@[simp] theorem State.stgF_spar (s : State) (i : Stage) (f : StgS → StgS) : (s.stgF i f).spar = s.spar := rfl
@[simp] theorem State.stgF_host (s : State) (i : Stage) (f : StgS → StgS) : (s.stgF i f).host = s.host := rfl
@[simp] theorem State.stgF_slotY (s : State) (i : Stage) (f : StgS → StgS) : (s.stgF i f).slotY = s.slotY := rfl
@[simp] theorem State.stgF_ring (s : State) (i : Stage) (f : StgS → StgS) : (s.stgF i f).ring = s.ring := rfl
@[simp] theorem State.stgF_lines (s : State) (i : Stage) (f : StgS → StgS) : (s.stgF i f).lines = s.lines := rfl
@[simp] theorem State.stgF_drivers (s : State) (i : Stage) (f : StgS → StgS) : (s.stgF i f).drivers = s.drivers := rfl
@[simp] theorem State.stgF_windowClosed (s : State) (i : Stage) (f : StgS → StgS) : (s.stgF i f).windowClosed = s.windowClosed := rfl
@[simp] theorem State.stgF_windowSent (s : State) (i : Stage) (f : StgS → StgS) : (s.stgF i f).windowSent = s.windowSent := rfl
@[simp] theorem State.stgF_ports (s : State) (i : Stage) (f : StgS → StgS) : (s.stgF i f).ports = s.ports := rfl
@[simp] theorem State.stgF_brn (s : State) (i : Stage) (f : StgS → StgS) : (s.stgF i f).brn = s.brn := rfl
@[simp] theorem State.stgF_brd (s : State) (i : Stage) (f : StgS → StgS) : (s.stgF i f).brd = s.brd := rfl
@[simp] theorem State.stgF_sess (s : State) (i : Stage) (f : StgS → StgS) : (s.stgF i f).sess = s.sess := rfl
@[simp] theorem State.stgF_links (s : State) (i : Stage) (f : StgS → StgS) : (s.stgF i f).links = s.links := rfl
@[simp] theorem State.stgF_splc (s : State) (i : Stage) (f : StgS → StgS) : (s.stgF i f).splc = s.splc := rfl
@[simp] theorem State.stgF_mtrs (s : State) (i : Stage) (f : StgS → StgS) : (s.stgF i f).mtrs = s.mtrs := rfl
@[simp] theorem State.stgF_chans (s : State) (i : Stage) (f : StgS → StgS) : (s.stgF i f).chans = s.chans := rfl
@[simp] theorem State.stgF_phases (s : State) (i : Stage) (f : StgS → StgS) : (s.stgF i f).phases = s.phases := rfl
@[simp] theorem State.stgF_mclkTook (s : State) (i : Stage) (f : StgS → StgS) : (s.stgF i f).mclkTook = s.mclkTook := rfl
@[simp] theorem State.stgF_fineLeft (s : State) (i : Stage) (f : StgS → StgS) : (s.stgF i f).fineLeft = s.fineLeft := rfl
@[simp] theorem State.stgF_pulses (s : State) (i : Stage) (f : StgS → StgS) : (s.stgF i f).pulses = s.pulses := rfl
@[simp] theorem State.stgF_addDue (s : State) (i : Stage) (f : StgS → StgS) : (s.stgF i f).addDue = s.addDue := rfl
@[simp] theorem State.stgF_bill (s : State) (i : Stage) (f : StgS → StgS) : (s.stgF i f).bill = s.bill := rfl
@[simp] theorem State.stgF_thrm (s : State) (i : Stage) (f : StgS → StgS) : (s.stgF i f).thrm = s.thrm := rfl
@[simp] theorem State.stgF_lsw (s : State) (i : Stage) (f : StgS → StgS) : (s.stgF i f).lsw = s.lsw := rfl
@[simp] theorem State.stgF_safe (s : State) (i : Stage) (f : StgS → StgS) : (s.stgF i f).safe = s.safe := rfl
@[simp] theorem State.stgF_teth (s : State) (i : Stage) (f : StgS → StgS) : (s.stgF i f).teth = s.teth := rfl
@[simp] theorem State.stgF_blst (s : State) (i : Stage) (f : StgS → StgS) : (s.stgF i f).blst = s.blst := rfl
@[simp] theorem State.stgF_can (s : State) (i : Stage) (f : StgS → StgS) : (s.stgF i f).can = s.can := rfl
@[simp] theorem State.stgF_reel (s : State) (i : Stage) (f : StgS → StgS) : (s.stgF i f).reel = s.reel := rfl
@[simp] theorem State.stgF_key (s : State) (i : Stage) (f : StgS → StgS) : (s.stgF i f).key = s.key := rfl
@[simp] theorem State.stgF_dram (s : State) (i : Stage) (f : StgS → StgS) : (s.stgF i f).dram = s.dram := rfl
@[simp] theorem State.stgF_sram0 (s : State) (i : Stage) (f : StgS → StgS) : (s.stgF i f).sram0 = s.sram0 := rfl
@[simp] theorem State.stgF_sram1 (s : State) (i : Stage) (f : StgS → StgS) : (s.stgF i f).sram1 = s.sram1 := rfl
@[simp] theorem State.stgF_rst (s : State) (i : Stage) (f : StgS → StgS) : (s.stgF i f).rst = s.rst := rfl
@[simp] theorem State.stgF_flash (s : State) (i : Stage) (f : StgS → StgS) : (s.stgF i f).flash = s.flash := rfl
@[simp] theorem State.stgF_rd (s : State) (i : Stage) (f : StgS → StgS) (q : Row) (jx : List Nat) : (s.stgF i f).rd q jx = s.rd q jx := rfl

/-! ### prtF -/

@[simp] theorem State.prtF_regs (s : State) (p : Port) (f : PrtS → PrtS) : (s.prtF p f).regs = s.regs := rfl
@[simp] theorem State.prtF_arms (s : State) (p : Port) (f : PrtS → PrtS) : (s.prtF p f).arms = s.arms := rfl
@[simp] theorem State.prtF_now (s : State) (p : Port) (f : PrtS → PrtS) : (s.prtF p f).now = s.now := rfl
@[simp] theorem State.prtF_freeCtr (s : State) (p : Port) (f : PrtS → PrtS) : (s.prtF p f).freeCtr = s.freeCtr := rfl
@[simp] theorem State.prtF_pending (s : State) (p : Port) (f : PrtS → PrtS) : (s.prtF p f).pending = s.pending := rfl
@[simp] theorem State.prtF_spar (s : State) (p : Port) (f : PrtS → PrtS) : (s.prtF p f).spar = s.spar := rfl
@[simp] theorem State.prtF_host (s : State) (p : Port) (f : PrtS → PrtS) : (s.prtF p f).host = s.host := rfl
@[simp] theorem State.prtF_slotY (s : State) (p : Port) (f : PrtS → PrtS) : (s.prtF p f).slotY = s.slotY := rfl
@[simp] theorem State.prtF_ring (s : State) (p : Port) (f : PrtS → PrtS) : (s.prtF p f).ring = s.ring := rfl
@[simp] theorem State.prtF_lines (s : State) (p : Port) (f : PrtS → PrtS) : (s.prtF p f).lines = s.lines := rfl
@[simp] theorem State.prtF_drivers (s : State) (p : Port) (f : PrtS → PrtS) : (s.prtF p f).drivers = s.drivers := rfl
@[simp] theorem State.prtF_windowClosed (s : State) (p : Port) (f : PrtS → PrtS) : (s.prtF p f).windowClosed = s.windowClosed := rfl
@[simp] theorem State.prtF_windowSent (s : State) (p : Port) (f : PrtS → PrtS) : (s.prtF p f).windowSent = s.windowSent := rfl
@[simp] theorem State.prtF_stages (s : State) (p : Port) (f : PrtS → PrtS) : (s.prtF p f).stages = s.stages := rfl
@[simp] theorem State.prtF_brn (s : State) (p : Port) (f : PrtS → PrtS) : (s.prtF p f).brn = s.brn := rfl
@[simp] theorem State.prtF_brd (s : State) (p : Port) (f : PrtS → PrtS) : (s.prtF p f).brd = s.brd := rfl
@[simp] theorem State.prtF_sess (s : State) (p : Port) (f : PrtS → PrtS) : (s.prtF p f).sess = s.sess := rfl
@[simp] theorem State.prtF_links (s : State) (p : Port) (f : PrtS → PrtS) : (s.prtF p f).links = s.links := rfl
@[simp] theorem State.prtF_splc (s : State) (p : Port) (f : PrtS → PrtS) : (s.prtF p f).splc = s.splc := rfl
@[simp] theorem State.prtF_mtrs (s : State) (p : Port) (f : PrtS → PrtS) : (s.prtF p f).mtrs = s.mtrs := rfl
@[simp] theorem State.prtF_chans (s : State) (p : Port) (f : PrtS → PrtS) : (s.prtF p f).chans = s.chans := rfl
@[simp] theorem State.prtF_phases (s : State) (p : Port) (f : PrtS → PrtS) : (s.prtF p f).phases = s.phases := rfl
@[simp] theorem State.prtF_mclkTook (s : State) (p : Port) (f : PrtS → PrtS) : (s.prtF p f).mclkTook = s.mclkTook := rfl
@[simp] theorem State.prtF_fineLeft (s : State) (p : Port) (f : PrtS → PrtS) : (s.prtF p f).fineLeft = s.fineLeft := rfl
@[simp] theorem State.prtF_pulses (s : State) (p : Port) (f : PrtS → PrtS) : (s.prtF p f).pulses = s.pulses := rfl
@[simp] theorem State.prtF_addDue (s : State) (p : Port) (f : PrtS → PrtS) : (s.prtF p f).addDue = s.addDue := rfl
@[simp] theorem State.prtF_bill (s : State) (p : Port) (f : PrtS → PrtS) : (s.prtF p f).bill = s.bill := rfl
@[simp] theorem State.prtF_thrm (s : State) (p : Port) (f : PrtS → PrtS) : (s.prtF p f).thrm = s.thrm := rfl
@[simp] theorem State.prtF_lsw (s : State) (p : Port) (f : PrtS → PrtS) : (s.prtF p f).lsw = s.lsw := rfl
@[simp] theorem State.prtF_safe (s : State) (p : Port) (f : PrtS → PrtS) : (s.prtF p f).safe = s.safe := rfl
@[simp] theorem State.prtF_teth (s : State) (p : Port) (f : PrtS → PrtS) : (s.prtF p f).teth = s.teth := rfl
@[simp] theorem State.prtF_blst (s : State) (p : Port) (f : PrtS → PrtS) : (s.prtF p f).blst = s.blst := rfl
@[simp] theorem State.prtF_can (s : State) (p : Port) (f : PrtS → PrtS) : (s.prtF p f).can = s.can := rfl
@[simp] theorem State.prtF_reel (s : State) (p : Port) (f : PrtS → PrtS) : (s.prtF p f).reel = s.reel := rfl
@[simp] theorem State.prtF_key (s : State) (p : Port) (f : PrtS → PrtS) : (s.prtF p f).key = s.key := rfl
@[simp] theorem State.prtF_dram (s : State) (p : Port) (f : PrtS → PrtS) : (s.prtF p f).dram = s.dram := rfl
@[simp] theorem State.prtF_sram0 (s : State) (p : Port) (f : PrtS → PrtS) : (s.prtF p f).sram0 = s.sram0 := rfl
@[simp] theorem State.prtF_sram1 (s : State) (p : Port) (f : PrtS → PrtS) : (s.prtF p f).sram1 = s.sram1 := rfl
@[simp] theorem State.prtF_rst (s : State) (p : Port) (f : PrtS → PrtS) : (s.prtF p f).rst = s.rst := rfl
@[simp] theorem State.prtF_flash (s : State) (p : Port) (f : PrtS → PrtS) : (s.prtF p f).flash = s.flash := rfl
@[simp] theorem State.prtF_rd (s : State) (p : Port) (f : PrtS → PrtS) (q : Row) (jx : List Nat) : (s.prtF p f).rd q jx = s.rd q jx := rfl

/-! ### teF -/

@[simp] theorem State.teF_regs (s : State) (f : TethS → TethS) : (s.teF  f).regs = s.regs := rfl
@[simp] theorem State.teF_arms (s : State) (f : TethS → TethS) : (s.teF  f).arms = s.arms := rfl
@[simp] theorem State.teF_now (s : State) (f : TethS → TethS) : (s.teF  f).now = s.now := rfl
@[simp] theorem State.teF_freeCtr (s : State) (f : TethS → TethS) : (s.teF  f).freeCtr = s.freeCtr := rfl
@[simp] theorem State.teF_pending (s : State) (f : TethS → TethS) : (s.teF  f).pending = s.pending := rfl
@[simp] theorem State.teF_spar (s : State) (f : TethS → TethS) : (s.teF  f).spar = s.spar := rfl
@[simp] theorem State.teF_host (s : State) (f : TethS → TethS) : (s.teF  f).host = s.host := rfl
@[simp] theorem State.teF_slotY (s : State) (f : TethS → TethS) : (s.teF  f).slotY = s.slotY := rfl
@[simp] theorem State.teF_ring (s : State) (f : TethS → TethS) : (s.teF  f).ring = s.ring := rfl
@[simp] theorem State.teF_lines (s : State) (f : TethS → TethS) : (s.teF  f).lines = s.lines := rfl
@[simp] theorem State.teF_drivers (s : State) (f : TethS → TethS) : (s.teF  f).drivers = s.drivers := rfl
@[simp] theorem State.teF_windowClosed (s : State) (f : TethS → TethS) : (s.teF  f).windowClosed = s.windowClosed := rfl
@[simp] theorem State.teF_windowSent (s : State) (f : TethS → TethS) : (s.teF  f).windowSent = s.windowSent := rfl
@[simp] theorem State.teF_stages (s : State) (f : TethS → TethS) : (s.teF  f).stages = s.stages := rfl
@[simp] theorem State.teF_ports (s : State) (f : TethS → TethS) : (s.teF  f).ports = s.ports := rfl
@[simp] theorem State.teF_brn (s : State) (f : TethS → TethS) : (s.teF  f).brn = s.brn := rfl
@[simp] theorem State.teF_brd (s : State) (f : TethS → TethS) : (s.teF  f).brd = s.brd := rfl
@[simp] theorem State.teF_sess (s : State) (f : TethS → TethS) : (s.teF  f).sess = s.sess := rfl
@[simp] theorem State.teF_links (s : State) (f : TethS → TethS) : (s.teF  f).links = s.links := rfl
@[simp] theorem State.teF_splc (s : State) (f : TethS → TethS) : (s.teF  f).splc = s.splc := rfl
@[simp] theorem State.teF_mtrs (s : State) (f : TethS → TethS) : (s.teF  f).mtrs = s.mtrs := rfl
@[simp] theorem State.teF_chans (s : State) (f : TethS → TethS) : (s.teF  f).chans = s.chans := rfl
@[simp] theorem State.teF_phases (s : State) (f : TethS → TethS) : (s.teF  f).phases = s.phases := rfl
@[simp] theorem State.teF_mclkTook (s : State) (f : TethS → TethS) : (s.teF  f).mclkTook = s.mclkTook := rfl
@[simp] theorem State.teF_fineLeft (s : State) (f : TethS → TethS) : (s.teF  f).fineLeft = s.fineLeft := rfl
@[simp] theorem State.teF_pulses (s : State) (f : TethS → TethS) : (s.teF  f).pulses = s.pulses := rfl
@[simp] theorem State.teF_addDue (s : State) (f : TethS → TethS) : (s.teF  f).addDue = s.addDue := rfl
@[simp] theorem State.teF_bill (s : State) (f : TethS → TethS) : (s.teF  f).bill = s.bill := rfl
@[simp] theorem State.teF_thrm (s : State) (f : TethS → TethS) : (s.teF  f).thrm = s.thrm := rfl
@[simp] theorem State.teF_lsw (s : State) (f : TethS → TethS) : (s.teF  f).lsw = s.lsw := rfl
@[simp] theorem State.teF_safe (s : State) (f : TethS → TethS) : (s.teF  f).safe = s.safe := rfl
@[simp] theorem State.teF_blst (s : State) (f : TethS → TethS) : (s.teF  f).blst = s.blst := rfl
@[simp] theorem State.teF_can (s : State) (f : TethS → TethS) : (s.teF  f).can = s.can := rfl
@[simp] theorem State.teF_reel (s : State) (f : TethS → TethS) : (s.teF  f).reel = s.reel := rfl
@[simp] theorem State.teF_key (s : State) (f : TethS → TethS) : (s.teF  f).key = s.key := rfl
@[simp] theorem State.teF_dram (s : State) (f : TethS → TethS) : (s.teF  f).dram = s.dram := rfl
@[simp] theorem State.teF_sram0 (s : State) (f : TethS → TethS) : (s.teF  f).sram0 = s.sram0 := rfl
@[simp] theorem State.teF_sram1 (s : State) (f : TethS → TethS) : (s.teF  f).sram1 = s.sram1 := rfl
@[simp] theorem State.teF_rst (s : State) (f : TethS → TethS) : (s.teF  f).rst = s.rst := rfl
@[simp] theorem State.teF_flash (s : State) (f : TethS → TethS) : (s.teF  f).flash = s.flash := rfl
@[simp] theorem State.teF_rd (s : State) (f : TethS → TethS) (q : Row) (jx : List Nat) : (s.teF  f).rd q jx = s.rd q jx := rfl

/-! ### thF -/

@[simp] theorem State.thF_regs (s : State) (f : ThrmS → ThrmS) : (s.thF  f).regs = s.regs := rfl
@[simp] theorem State.thF_arms (s : State) (f : ThrmS → ThrmS) : (s.thF  f).arms = s.arms := rfl
@[simp] theorem State.thF_now (s : State) (f : ThrmS → ThrmS) : (s.thF  f).now = s.now := rfl
@[simp] theorem State.thF_freeCtr (s : State) (f : ThrmS → ThrmS) : (s.thF  f).freeCtr = s.freeCtr := rfl
@[simp] theorem State.thF_pending (s : State) (f : ThrmS → ThrmS) : (s.thF  f).pending = s.pending := rfl
@[simp] theorem State.thF_spar (s : State) (f : ThrmS → ThrmS) : (s.thF  f).spar = s.spar := rfl
@[simp] theorem State.thF_host (s : State) (f : ThrmS → ThrmS) : (s.thF  f).host = s.host := rfl
@[simp] theorem State.thF_slotY (s : State) (f : ThrmS → ThrmS) : (s.thF  f).slotY = s.slotY := rfl
@[simp] theorem State.thF_ring (s : State) (f : ThrmS → ThrmS) : (s.thF  f).ring = s.ring := rfl
@[simp] theorem State.thF_lines (s : State) (f : ThrmS → ThrmS) : (s.thF  f).lines = s.lines := rfl
@[simp] theorem State.thF_drivers (s : State) (f : ThrmS → ThrmS) : (s.thF  f).drivers = s.drivers := rfl
@[simp] theorem State.thF_windowClosed (s : State) (f : ThrmS → ThrmS) : (s.thF  f).windowClosed = s.windowClosed := rfl
@[simp] theorem State.thF_windowSent (s : State) (f : ThrmS → ThrmS) : (s.thF  f).windowSent = s.windowSent := rfl
@[simp] theorem State.thF_stages (s : State) (f : ThrmS → ThrmS) : (s.thF  f).stages = s.stages := rfl
@[simp] theorem State.thF_ports (s : State) (f : ThrmS → ThrmS) : (s.thF  f).ports = s.ports := rfl
@[simp] theorem State.thF_brn (s : State) (f : ThrmS → ThrmS) : (s.thF  f).brn = s.brn := rfl
@[simp] theorem State.thF_brd (s : State) (f : ThrmS → ThrmS) : (s.thF  f).brd = s.brd := rfl
@[simp] theorem State.thF_sess (s : State) (f : ThrmS → ThrmS) : (s.thF  f).sess = s.sess := rfl
@[simp] theorem State.thF_links (s : State) (f : ThrmS → ThrmS) : (s.thF  f).links = s.links := rfl
@[simp] theorem State.thF_splc (s : State) (f : ThrmS → ThrmS) : (s.thF  f).splc = s.splc := rfl
@[simp] theorem State.thF_mtrs (s : State) (f : ThrmS → ThrmS) : (s.thF  f).mtrs = s.mtrs := rfl
@[simp] theorem State.thF_chans (s : State) (f : ThrmS → ThrmS) : (s.thF  f).chans = s.chans := rfl
@[simp] theorem State.thF_phases (s : State) (f : ThrmS → ThrmS) : (s.thF  f).phases = s.phases := rfl
@[simp] theorem State.thF_mclkTook (s : State) (f : ThrmS → ThrmS) : (s.thF  f).mclkTook = s.mclkTook := rfl
@[simp] theorem State.thF_fineLeft (s : State) (f : ThrmS → ThrmS) : (s.thF  f).fineLeft = s.fineLeft := rfl
@[simp] theorem State.thF_pulses (s : State) (f : ThrmS → ThrmS) : (s.thF  f).pulses = s.pulses := rfl
@[simp] theorem State.thF_addDue (s : State) (f : ThrmS → ThrmS) : (s.thF  f).addDue = s.addDue := rfl
@[simp] theorem State.thF_bill (s : State) (f : ThrmS → ThrmS) : (s.thF  f).bill = s.bill := rfl
@[simp] theorem State.thF_lsw (s : State) (f : ThrmS → ThrmS) : (s.thF  f).lsw = s.lsw := rfl
@[simp] theorem State.thF_safe (s : State) (f : ThrmS → ThrmS) : (s.thF  f).safe = s.safe := rfl
@[simp] theorem State.thF_teth (s : State) (f : ThrmS → ThrmS) : (s.thF  f).teth = s.teth := rfl
@[simp] theorem State.thF_blst (s : State) (f : ThrmS → ThrmS) : (s.thF  f).blst = s.blst := rfl
@[simp] theorem State.thF_can (s : State) (f : ThrmS → ThrmS) : (s.thF  f).can = s.can := rfl
@[simp] theorem State.thF_reel (s : State) (f : ThrmS → ThrmS) : (s.thF  f).reel = s.reel := rfl
@[simp] theorem State.thF_key (s : State) (f : ThrmS → ThrmS) : (s.thF  f).key = s.key := rfl
@[simp] theorem State.thF_dram (s : State) (f : ThrmS → ThrmS) : (s.thF  f).dram = s.dram := rfl
@[simp] theorem State.thF_sram0 (s : State) (f : ThrmS → ThrmS) : (s.thF  f).sram0 = s.sram0 := rfl
@[simp] theorem State.thF_sram1 (s : State) (f : ThrmS → ThrmS) : (s.thF  f).sram1 = s.sram1 := rfl
@[simp] theorem State.thF_rst (s : State) (f : ThrmS → ThrmS) : (s.thF  f).rst = s.rst := rfl
@[simp] theorem State.thF_flash (s : State) (f : ThrmS → ThrmS) : (s.thF  f).flash = s.flash := rfl
@[simp] theorem State.thF_rd (s : State) (f : ThrmS → ThrmS) (q : Row) (jx : List Nat) : (s.thF  f).rd q jx = s.rd q jx := rfl

/-! ### vlF -/

@[simp] theorem State.vlF_regs (s : State) (p : Port) (f : VlS → VlS) : (s.vlF p f).regs = s.regs := rfl
@[simp] theorem State.vlF_arms (s : State) (p : Port) (f : VlS → VlS) : (s.vlF p f).arms = s.arms := rfl
@[simp] theorem State.vlF_now (s : State) (p : Port) (f : VlS → VlS) : (s.vlF p f).now = s.now := rfl
@[simp] theorem State.vlF_freeCtr (s : State) (p : Port) (f : VlS → VlS) : (s.vlF p f).freeCtr = s.freeCtr := rfl
@[simp] theorem State.vlF_pending (s : State) (p : Port) (f : VlS → VlS) : (s.vlF p f).pending = s.pending := rfl
@[simp] theorem State.vlF_spar (s : State) (p : Port) (f : VlS → VlS) : (s.vlF p f).spar = s.spar := rfl
@[simp] theorem State.vlF_host (s : State) (p : Port) (f : VlS → VlS) : (s.vlF p f).host = s.host := rfl
@[simp] theorem State.vlF_slotY (s : State) (p : Port) (f : VlS → VlS) : (s.vlF p f).slotY = s.slotY := rfl
@[simp] theorem State.vlF_ring (s : State) (p : Port) (f : VlS → VlS) : (s.vlF p f).ring = s.ring := rfl
@[simp] theorem State.vlF_lines (s : State) (p : Port) (f : VlS → VlS) : (s.vlF p f).lines = s.lines := rfl
@[simp] theorem State.vlF_drivers (s : State) (p : Port) (f : VlS → VlS) : (s.vlF p f).drivers = s.drivers := rfl
@[simp] theorem State.vlF_windowClosed (s : State) (p : Port) (f : VlS → VlS) : (s.vlF p f).windowClosed = s.windowClosed := rfl
@[simp] theorem State.vlF_windowSent (s : State) (p : Port) (f : VlS → VlS) : (s.vlF p f).windowSent = s.windowSent := rfl
@[simp] theorem State.vlF_stages (s : State) (p : Port) (f : VlS → VlS) : (s.vlF p f).stages = s.stages := rfl
@[simp] theorem State.vlF_ports (s : State) (p : Port) (f : VlS → VlS) : (s.vlF p f).ports = s.ports := rfl
@[simp] theorem State.vlF_brn (s : State) (p : Port) (f : VlS → VlS) : (s.vlF p f).brn = s.brn := rfl
@[simp] theorem State.vlF_brd (s : State) (p : Port) (f : VlS → VlS) : (s.vlF p f).brd = s.brd := rfl
@[simp] theorem State.vlF_sess (s : State) (p : Port) (f : VlS → VlS) : (s.vlF p f).sess = s.sess := rfl
@[simp] theorem State.vlF_splc (s : State) (p : Port) (f : VlS → VlS) : (s.vlF p f).splc = s.splc := rfl
@[simp] theorem State.vlF_mtrs (s : State) (p : Port) (f : VlS → VlS) : (s.vlF p f).mtrs = s.mtrs := rfl
@[simp] theorem State.vlF_chans (s : State) (p : Port) (f : VlS → VlS) : (s.vlF p f).chans = s.chans := rfl
@[simp] theorem State.vlF_phases (s : State) (p : Port) (f : VlS → VlS) : (s.vlF p f).phases = s.phases := rfl
@[simp] theorem State.vlF_mclkTook (s : State) (p : Port) (f : VlS → VlS) : (s.vlF p f).mclkTook = s.mclkTook := rfl
@[simp] theorem State.vlF_fineLeft (s : State) (p : Port) (f : VlS → VlS) : (s.vlF p f).fineLeft = s.fineLeft := rfl
@[simp] theorem State.vlF_pulses (s : State) (p : Port) (f : VlS → VlS) : (s.vlF p f).pulses = s.pulses := rfl
@[simp] theorem State.vlF_addDue (s : State) (p : Port) (f : VlS → VlS) : (s.vlF p f).addDue = s.addDue := rfl
@[simp] theorem State.vlF_bill (s : State) (p : Port) (f : VlS → VlS) : (s.vlF p f).bill = s.bill := rfl
@[simp] theorem State.vlF_thrm (s : State) (p : Port) (f : VlS → VlS) : (s.vlF p f).thrm = s.thrm := rfl
@[simp] theorem State.vlF_lsw (s : State) (p : Port) (f : VlS → VlS) : (s.vlF p f).lsw = s.lsw := rfl
@[simp] theorem State.vlF_safe (s : State) (p : Port) (f : VlS → VlS) : (s.vlF p f).safe = s.safe := rfl
@[simp] theorem State.vlF_teth (s : State) (p : Port) (f : VlS → VlS) : (s.vlF p f).teth = s.teth := rfl
@[simp] theorem State.vlF_blst (s : State) (p : Port) (f : VlS → VlS) : (s.vlF p f).blst = s.blst := rfl
@[simp] theorem State.vlF_can (s : State) (p : Port) (f : VlS → VlS) : (s.vlF p f).can = s.can := rfl
@[simp] theorem State.vlF_reel (s : State) (p : Port) (f : VlS → VlS) : (s.vlF p f).reel = s.reel := rfl
@[simp] theorem State.vlF_key (s : State) (p : Port) (f : VlS → VlS) : (s.vlF p f).key = s.key := rfl
@[simp] theorem State.vlF_dram (s : State) (p : Port) (f : VlS → VlS) : (s.vlF p f).dram = s.dram := rfl
@[simp] theorem State.vlF_sram0 (s : State) (p : Port) (f : VlS → VlS) : (s.vlF p f).sram0 = s.sram0 := rfl
@[simp] theorem State.vlF_sram1 (s : State) (p : Port) (f : VlS → VlS) : (s.vlF p f).sram1 = s.sram1 := rfl
@[simp] theorem State.vlF_rst (s : State) (p : Port) (f : VlS → VlS) : (s.vlF p f).rst = s.rst := rfl
@[simp] theorem State.vlF_flash (s : State) (p : Port) (f : VlS → VlS) : (s.vlF p f).flash = s.flash := rfl
@[simp] theorem State.vlF_rd (s : State) (p : Port) (f : VlS → VlS) (q : Row) (jx : List Nat) : (s.vlF p f).rd q jx = s.rd q jx := rfl

/-! ### Updates of one entry of a part -/

@[simp] theorem State.bsF_eq (s : State) (p : Port) (f : BSessS → BSessS) : s.bsF p f =
    s.billF (fun b => { b with sess := vupd b.sess p f }) := rfl
@[simp] theorem State.mnF_eq (s : State) (r : Fin 2) (m : Fin 64) (f : MonS → MonS) : s.mnF r m f =
    s.rgF r (fun g => { g with mons := vupd g.mons m f }) := rfl
@[simp] theorem State.bmF_eq (s : State) (r : Fin 2) (m : Fin 64) (f : BmonS → BmonS) : s.bmF r m f =
    s.rgF r (fun g => { g with bm := vupd g.bm m f }) := rfl
@[simp] theorem State.lcF_eq (s : State) (n : Fin 32) (f : LchS → LchS) : s.lcF n f =
    s.lsF (fun l => { l with ch := vupd l.ch n f }) := rfl
@[simp] theorem State.ripF_eq (s : State) (p : Port) (f : RipS → RipS) : s.ripF p f =
    s.sfF (fun x => { x with rip := vupd x.rip p f }) := rfl
@[simp] theorem State.qoF_eq (s : State) (n : Fin 40) (f : QoutS → QoutS) : s.qoF n f =
    s.sfF (fun x => { x with out := vupd x.out n f }) := rfl
@[simp] theorem State.xcF_eq (s : State) (n : Fin 16) (f : XconS → XconS) : s.xcF n f =
    s.sfF (fun x => { x with conn := vupd x.conn n f }) := rfl
@[simp] theorem State.cplF_eq (s : State) (c : Fin 4) (f : CplS → CplS) : s.cplF c f =
    s.splcF (fun q => { q with cpl := vupd q.cpl c f }) := rfl
@[simp] theorem State.dspF_eq (s : State) (d : Fin 32) (f : DspS → DspS) : s.dspF d f =
    s.splcF (fun q => { q with dsp := vupd q.dsp d f }) := rfl
@[simp] theorem State.tiF_eq (s : State) (i : Fin 144) (f : TinS → TinS) : s.tiF i f =
    s.thF (fun t => { t with tins := vupd t.tins i f }) := rfl
/-! ### Register fields -/

@[simp] theorem State.rd_wr_same (s : State) (r : Row) (ix : List Nat) (v : Nat) :
    (s.wr r ix v).rd r ix = v % 2 ^ r.w := RegFile.get_put_same s.regs r ix v

theorem State.rd_wr_ne (s : State) (r q : Row) (ix jx : List Nat) (v : Nat) (h : q.key jx ≠ r.key ix) :
    (s.wr r ix v).rd q jx = s.rd q jx := RegFile.get_put_ne s.regs r q ix jx v h

theorem State.rd_lt (s : State) (r : Row) (ix : List Nat) : s.rd r ix < 2 ^ r.w := RegFile.get_lt s.regs r ix

@[simp] theorem State.rd_mod (s : State) (r : Row) (ix : List Nat) : s.rd r ix % 2 ^ r.w = s.rd r ix :=
  Nat.mod_eq_of_lt (s.rd_lt r ix)

@[simp] theorem State.wrB_eq (s : State) (r : Row) (ix : List Nat) (b : Bool) : s.wrB r ix b = s.wr r ix (b2n b) := rfl
@[simp] theorem State.wrI_eq (s : State) (r : Row) (ix : List Nat) (v : Int) : s.wrI r ix v = s.wr r ix (trunc r.w v) :=
  rfl
@[simp] theorem State.inc_eq (s : State) (r : Row) (ix : List Nat) : s.inc r ix = s.wr r ix (s.rd r ix + 1) := rfl
@[simp] theorem State.wrBit_eq (s : State) (r : Row) (ix : List Nat) (n : Nat) (b : Bool) :
    s.wrBit r ix n b = s.wr r ix (setBit (s.rd r ix) n b) := rfl
@[simp] theorem State.raise_eq (s : State) (page bit : Nat) :
    s.raise page bit = s.wr R.hdr_IRQ_RAW [page] (setBit (s.rd R.hdr_IRQ_RAW [page]) bit true) := rfl

/-- A saturating counter advances by one, and stays at its greatest value. -/
@[simp] theorem State.rd_satInc_same (s : State) (r : Row) (ix : List Nat) :
    (s.satInc r ix).rd r ix = min (s.rd r ix + 1) (2 ^ r.w - 1) := by
  have h := s.rd_lt r ix
  unfold State.satInc
  split
  · rw [State.rd_wr_same, Nat.mod_eq_of_lt ‹_›]; omega
  · omega

theorem State.rd_satInc_ne (s : State) (r q : Row) (ix jx : List Nat) (h : q.key jx ≠ r.key ix) :
    (s.satInc r ix).rd q jx = s.rd q jx := by
  unfold State.satInc
  split
  · exact s.rd_wr_ne r q ix jx _ h
  · rfl

end Sys2Proof.Machine
end

