-- ==== Sys2Proof/Laws/Canon.lean ====
section
/-! SUPPORT. The canonical form: what every operation on memories and registers keeps of it. -/

namespace Sys2Proof.Machine

open Sys2Proof

/-! ## Memories -/

@[simp] theorem memGet_memPut_same (m : Memory) (a : Nat) (b : Byte) : memGet (memPut m a b) a = b :=
  sget_sput_same 0 m a b

theorem memGet_memPut_ne (m : Memory) (a d : Nat) (b : Byte) (h : d ≠ a) : memGet (memPut m a b) d = memGet m d :=
  sget_sput_ne 0 m a d b h

theorem memPut_wf (m : Memory) (a : Nat) (b : Byte) (h : Memory.wf m = true) : Memory.wf (memPut m a b) = true :=
  sput_swf 0 m a b h

theorem memWrite_wf (l : List Byte) (m : Memory) (a : Nat) (h : Memory.wf m = true) : Memory.wf (memWrite m a l) = true := by
  induction l generalizing m a with
  | nil => exact h
  | cons b t ih => exact ih _ _ (memPut_wf m a b h)

theorem filter_wf (m : Memory) (p : Nat × Byte → Bool) (h : Memory.wf m = true) : Memory.wf (m.filter p) = true := by
  unfold Memory.wf at *
  rw [swf_iff] at *
  exact ⟨h.1.filter p, fun e he => h.2 e (List.mem_filter.mp he).1⟩

theorem eraseSector_wf (n : Nat) (m : Memory) (h : Memory.wf m = true) : Memory.wf (eraseSector n m) = true :=
  filter_wf m _ h

theorem memFold_wf {α : Type} (l : List α) (f : Memory → α → Memory) (m : Memory)
    (hf : ∀ m x, Memory.wf m = true → Memory.wf (f m x) = true) (h : Memory.wf m = true) :
    Memory.wf (l.foldl f m) = true := by
  induction l generalizing m with
  | nil => exact h
  | cons x t ih => exact ih _ (hf m x h)

/-- Bytes written one after another: each stands at its address, and no other byte changes. -/
theorem memGet_memWrite (l : List Byte) (m : Memory) (a d : Nat) :
    memGet (memWrite m a l) d = if a ≤ d ∧ d < a + l.length then l.getD (d - a) 0 else memGet m d := by
  induction l generalizing m a with
  | nil => simp [memWrite]
  | cons b t ih =>
    rw [memWrite, ih]
    by_cases c : d = a
    · subst c; simp
    · rw [memGet_memPut_ne m a d b c]
      by_cases h : a + 1 ≤ d ∧ d < a + 1 + t.length
      · have e : d - a = d - (a + 1) + 1 := by omega
        rw [if_pos h, if_pos (by rw [List.length_cons]; omega), e, List.getD_cons_succ]
      · rw [if_neg h, if_neg (by rw [List.length_cons]; omega)]

/-! ## The state -/

theorem State.canon_iff (s : State) : s.canon = true ↔ s.regs.wf = true ∧ s.bill.saved.wf = true ∧ Memory.wf s.dram = true ∧
    Memory.wf s.sram0 = true ∧ Memory.wf s.sram1 = true ∧ Memory.wf s.flash = true := by
  simp [State.canon, and_assoc]

/-- A change of nothing but the register file keeps the form when the new register file has it. -/
theorem State.canon_regs (s : State) (f : RegFile) (h : s.canon = true) (hf : f.wf = true) :
    ({ s with regs := f } : State).canon = true := by
  rw [State.canon_iff] at *; exact ⟨hf, h.2⟩

@[simp] theorem State.canon_wr (s : State) (r : Row) (ix : List Nat) (v : Nat) (h : s.canon = true) :
    (s.wr r ix v).canon = true := State.canon_regs s _ h (RegFile.put_wf _ _ _ _ ((State.canon_iff s).mp h).1)

@[simp] theorem State.canon_satInc (s : State) (r : Row) (ix : List Nat) (h : s.canon = true) :
    (s.satInc r ix).canon = true := by
  unfold State.satInc; split
  · exact State.canon_wr s r ix _ h
  · exact h

@[simp] theorem State.canon_setErr (s : State) (p c : Nat) (h : s.canon = true) : (s.setErr p c).canon = true :=
  State.canon_wr _ _ _ _ (State.canon_satInc _ _ _ (State.canon_wr s _ _ _ h))

@[simp] theorem State.canon_raise (s : State) (p b : Nat) (h : s.canon = true) : (s.raise p b).canon = true :=
  State.canon_wr s _ _ _ h

@[simp] theorem State.canon_violate (s : State) (w : World) (h : s.canon = true) : (s.violate w).canon = true :=
  State.canon_satInc s _ _ h

theorem State.canon_asWriter (s : State) (w : World) (p : Nat) (f : State → State)
    (hf : ∀ s, s.canon = true → (f s).canon = true) (h : s.canon = true) : (s.asWriter w p f).canon = true := by
  unfold State.asWriter; split
  · exact hf s h
  · exact State.canon_violate s w h

theorem State.canon_onlyBy (s : State) (u w : World) (p : Nat) (f : State → State)
    (hf : ∀ s, s.canon = true → (f s).canon = true) (h : s.canon = true) : (s.onlyBy u w p f).canon = true := by
  refine State.canon_asWriter s w p _ (fun s hs => ?_) h
  split
  · exact hf s hs
  · exact hs

theorem canon_foldS {α : Type} (l : List α) (f : State → α → State) (s : State)
    (hf : ∀ s x, s.canon = true → (f s x).canon = true) (h : s.canon = true) : (foldS l f s).canon = true := by
  induction l generalizing s with
  | nil => exact h
  | cons x t ih => exact ih _ (hf s x h)

@[simp] theorem State.canon_took (s : State) : s.took.canon = s.canon := rfl
@[simp] theorem canon_requestReset (n : Nat) (s : State) : (requestReset n s).canon = s.canon := rfl

theorem canon_unitSetPend (u : CommitUnit) (b : Bool) (s : State) (h : s.canon = true) : (unitSetPend u b s).canon = true := by
  cases u <;> exact State.canon_wr s _ _ _ h

theorem canon_armCommit (u : CommitUnit) (s : State) (h : s.canon = true) : (armCommit u s).canon = true := by
  unfold armCommit; split
  · exact h
  · exact canon_unitSetPend u true _ h

theorem canon_dropArm (u : CommitUnit) (s : State) (h : s.canon = true) : (dropArm u s).canon = true :=
  canon_unitSetPend u false _ h

theorem canon_discardCommit (u : CommitUnit) (c : Nat) (s : State) (h : s.canon = true) :
    (discardCommit u c s).canon = true := by
  unfold discardCommit; split
  · have k := canon_dropArm u s h
    exact State.canon_setErr _ _ _ (State.canon_regs _ _ k (RegFile.revert_wf _ _ _ ((State.canon_iff _).mp k).1))
  · exact h

theorem canon_applyCommit (u : CommitUnit) (s : State) (h : s.canon = true) : (applyCommit u s).canon = true := by
  have k := canon_dropArm u _ (State.canon_regs s _ h (RegFile.commit_wf _ (unitRange u).1 (unitRange u).2
    ((State.canon_iff s).mp h).1))
  cases u <;> exact State.canon_wr _ _ _ _ k

@[simp] theorem canon_fireArms (n : Nat) (s : State) : (fireArms n s).canon = s.canon := rfl

theorem canon_shadowNow (p : Nat) (s : State) (h : s.canon = true) : (shadowNow p s).canon = true := by
  unfold shadowNow
  have k : ∀ (l : List Arm) (c : Arm → Bool) (s : State), s.canon = true →
      (l.foldl (fun s a => if c a then unitSetPend a.unit false s else s) s).canon = true := by
    intro l c
    induction l with
    | nil => exact fun s h => h
    | cons a t ih =>
      intro s h
      refine ih _ ?_
      dsimp only; split
      · exact canon_unitSetPend a.unit false s h
      · exact h
  exact State.canon_regs _ _ (k _ _ s h) (RegFile.commit_wf _ _ _ ((State.canon_iff _).mp (k _ _ s h)).1)

/-! ## Memory of the worlds -/

theorem canon_worldPut (w a : Nat) (b : Byte) (s : State) (h : s.canon = true) : (worldPut w a b s).canon = true := by
  rw [State.canon_iff] at h
  obtain ⟨h1, h2, h3, h4, h5, h6⟩ := h
  unfold worldPut
  repeat' split
  all_goals rw [State.canon_iff]
  all_goals first
    | exact ⟨h1, h2, h3, memPut_wf _ _ _ h4, h5, h6⟩
    | exact ⟨h1, h2, h3, h4, memPut_wf _ _ _ h5, h6⟩
    | exact ⟨h1, h2, memPut_wf _ _ _ h3, h4, h5, h6⟩
    | exact ⟨h1, h2, h3, h4, h5, h6⟩

theorem canon_worldWrite (l : List Byte) (w a : Nat) (s : State) (h : s.canon = true) :
    (worldWrite w a l s).canon = true := by
  induction l generalizing a s with
  | nil => exact h
  | cons b t ih => exact ih _ _ (canon_worldPut w a b s h)

theorem canon_memByteWrite (w : World) (a : Nat) (b : Byte) (s t : State) (h : s.canon = true)
    (e : memByteWrite w a b s = some t) : t.canon = true := by
  rw [State.canon_iff] at h
  obtain ⟨h1, h2, h3, h4, h5, h6⟩ := h
  unfold memByteWrite at e
  repeat' split at e
  all_goals first
    | cases e; rw [State.canon_iff]; exact ⟨h1, h2, h3, memPut_wf _ _ _ h4, h5, h6⟩
    | cases e; rw [State.canon_iff]; exact ⟨h1, h2, h3, h4, memPut_wf _ _ _ h5, h6⟩
    | cases e; rw [State.canon_iff]; exact ⟨h1, h2, memPut_wf _ _ _ h3, h4, h5, h6⟩
    | cases e

theorem canon_memStore (w : World) (a : Nat) (l : List Byte) (s : State) (h : s.canon = true) :
    (memStore w a l s).canon = true := by
  have k : ∀ (l : List Byte) (x : Nat × Bool × State), x.2.2.canon = true →
      (l.foldl (fun (x : Nat × Bool × State) b =>
        match memByteWrite w x.1 b x.2.2 with
        | some t => (x.1 + 1, x.2.1, t)
        | none => (x.1 + 1, true, x.2.2)) x).2.2.canon = true := by
    intro l
    induction l with
    | nil => exact fun x h => h
    | cons b t ih =>
      intro x hx
      refine ih _ ?_
      dsimp only; split
      · exact canon_memByteWrite w _ b _ _ hx ‹_›
      · exact hx
  unfold memStore
  dsimp only; split
  · exact State.canon_violate _ w (k l _ h)
  · exact k l _ h

theorem canon_dropArms (p q : Nat) (s : State) : (dropArms p q s).canon = s.canon := rfl

/-- A block's registers cleared by a reset. -/
theorem canon_clearPages (lvl p q : Nat) (keep : List (Row × List Nat)) (s : State) (h : s.canon = true) :
    (clearPages lvl p q keep s).canon = true := by
  have k : ∀ (l : List (Row × List Nat)) (old s : State), s.canon = true →
      (l.foldl (fun s e => s.wr e.1 e.2 (old.rd e.1 e.2)) s).canon = true := by
    intro l old
    induction l with
    | nil => exact fun s h => h
    | cons e t ih => exact fun s h => ih _ (State.canon_wr s _ _ _ h)
  have c := k keep s (dropArms p q { s with regs := s.regs.clear (p * 0x1000) (q * 0x1000) })
    (State.canon_regs s _ h (RegFile.clear_wf _ _ _ ((State.canon_iff s).mp h).1))
  unfold clearPages
  dsimp only; split
  · exact c
  · exact canon_foldS _ _ _ (fun s x hs => State.canon_setErr s x _ hs) c

end Sys2Proof.Machine
end

