-- ==== Sys2Proof/Laws/Frames.lean ====
section
/-! SUPPORT. What the shared operations change and what they leave alone: bits of a field, one entry of a vector, errors,
interrupts, writes under the grant, and what a command that touches few registers leaves as it was. -/

namespace Sys2Proof.Machine

open Sys2Proof

/-! ## Bits -/

theorem bitB_eq_testBit (v i : Nat) : bitB v i = v.testBit i := by
  rw [bitB, Nat.testBit, Nat.and_comm, Nat.and_one_is_mod]
  rcases Nat.mod_two_eq_zero_or_one (v >>> i) with h | h <;> rw [h] <;> rfl

theorem setBit_testBit (v i j : Nat) (b : Bool) : (setBit v i b).testBit j = if j = i then b else v.testBit j := by
  unfold setBit
  by_cases h : i = j
  · subst h; cases b <;> simp
  · have h' : ¬ j = i := fun e => h e.symm
    cases b <;> simp [h, h']

@[simp] theorem bitB_setBit_same (v i : Nat) (b : Bool) : bitB (setBit v i b) i = b := by
  simp [bitB_eq_testBit, setBit_testBit]

theorem bitB_setBit_ne (v i j : Nat) (b : Bool) (h : j ≠ i) : bitB (setBit v i b) j = bitB v j := by
  simp [bitB_eq_testBit, setBit_testBit, h]

/-- Truncation to a field keeps the bits inside it. -/
theorem bitB_mod (v w i : Nat) (h : i < w) : bitB (v % 2 ^ w) i = bitB v i := by
  simp [bitB_eq_testBit, Nat.testBit_mod_two_pow, h]

@[simp] theorem bitB_rd_wrBit_same (s : State) (r : Row) (ix : List Nat) (i : Nat) (b : Bool) (h : i < r.w) :
    bitB ((s.wr r ix (setBit (s.rd r ix) i b)).rd r ix) i = b := by
  rw [State.rd_wr_same, bitB_mod _ _ _ h, bitB_setBit_same]

theorem bitB_rd_wrBit_ne (s : State) (r : Row) (ix : List Nat) (i j : Nat) (b : Bool) (h : j < r.w) (n : j ≠ i) :
    bitB ((s.wr r ix (setBit (s.rd r ix) i b)).rd r ix) j = bitB (s.rd r ix) j := by
  rw [State.rd_wr_same, bitB_mod _ _ _ h, bitB_setBit_ne _ _ _ _ n]

/-! ## Vectors -/

@[simp] theorem vupd_get_same {α : Type} {n : Nat} (v : Vector α n) (i : Fin n) (f : α → α) : (vupd v i f)[i] = f v[i] := by
  simp [vupd]

theorem vupd_get_ne {α : Type} {n : Nat} (v : Vector α n) (i j : Fin n) (f : α → α) (h : j ≠ i) :
    (vupd v i f)[j] = v[j] := by
  have : i.val ≠ j.val := fun e => h (Fin.ext e.symm)
  simp [vupd, Vector.getElem_set_ne, this]

/-! ## What changes -/

theorem RegsBut.refl (s : State) (ks : List Nat) : RegsBut s s ks := fun _ _ _ => ⟨rfl, rfl⟩

theorem RegsBut.trans {s t u : State} {a b : List Nat} (h : RegsBut s t a) (g : RegsBut t u b) : RegsBut s u (a ++ b) := by
  intro r ix hk
  rw [List.mem_append, not_or] at hk
  exact ⟨(g r ix hk.2).1.trans (h r ix hk.1).1, (g r ix hk.2).2.trans (h r ix hk.1).2⟩

theorem RegsBut.mono {s t : State} {a b : List Nat} (h : RegsBut s t a) (l : ∀ k ∈ a, k ∈ b) : RegsBut s t b :=
  fun r ix hk => h r ix (fun m => hk (l _ m))

theorem OnlyRegs.refl (s : State) (ks : List Nat) : OnlyRegs s s ks := ⟨RegsBut.refl s ks, rfl⟩

theorem OnlyRegs.trans {s t u : State} {a b : List Nat} (h : OnlyRegs s t a) (g : OnlyRegs t u b) :
    OnlyRegs s u (a ++ b) := by
  refine ⟨h.1.trans g.1, ?_⟩
  have h2 := h.2
  have g2 := g.2
  rw [← h2, ← g2]

theorem OnlyRegs.mono {s t : State} {a b : List Nat} (h : OnlyRegs s t a) (l : ∀ k ∈ a, k ∈ b) : OnlyRegs s t b :=
  ⟨h.1.mono l, h.2⟩

theorem regsBut_wr (s : State) (r : Row) (ix : List Nat) (v : Nat) : RegsBut s (s.wr r ix v) [r.key ix] := by
  intro q jx h
  rw [List.mem_singleton] at h
  exact ⟨s.rd_wr_ne r q ix jx v h, RegFile.getShadow_put_ne s.regs r q ix jx v h⟩

theorem onlyRegs_wr (s : State) (r : Row) (ix : List Nat) (v : Nat) : OnlyRegs s (s.wr r ix v) [r.key ix] :=
  ⟨regsBut_wr s r ix v, rfl⟩

theorem onlyRegs_satInc (s : State) (r : Row) (ix : List Nat) : OnlyRegs s (s.satInc r ix) [r.key ix] := by
  unfold State.satInc
  split
  · exact onlyRegs_wr ..
  · exact OnlyRegs.refl ..

/-- An error of a page: its CODE, the count and STAT.ERR, and nothing else (R29). -/
theorem setErr_law (s : State) (p c : Nat) : (s.setErr p c).rd R.hdr_CODE [p] = c % 2 ^ 16 ∧
    (s.setErr p c).rd R.hdr_ERR [p] = 1 ∧
    (s.setErr p c).rd R.hdr_COUNT [p] = min (s.rd R.hdr_COUNT [p] + 1) 255 ∧
    OnlyRegs s (s.setErr p c) [R.hdr_CODE.key [p], R.hdr_COUNT.key [p], R.hdr_ERR.key [p]] := by
  have k1 : R.hdr_CODE.key [p] ≠ R.hdr_COUNT.key [p] := by
    simp [Row.key, Row.addr, offsets, R.hdr_CODE, R.hdr_COUNT]
  have k2 : R.hdr_CODE.key [p] ≠ R.hdr_ERR.key [p] := by
    simp only [Row.key, Row.addr, offsets, R.hdr_CODE, R.hdr_ERR]; omega
  have k3 : R.hdr_COUNT.key [p] ≠ R.hdr_ERR.key [p] := by
    simp only [Row.key, Row.addr, offsets, R.hdr_COUNT, R.hdr_ERR]; omega
  refine ⟨?_, State.rd_wr_same .., ?_, ?_⟩
  · rw [State.setErr, State.rd_wr_ne _ _ _ _ _ _ k2, State.rd_satInc_ne _ _ _ _ _ k1, State.rd_wr_same]; rfl
  · rw [State.setErr, State.rd_wr_ne _ _ _ _ _ _ k3, State.rd_satInc_same, State.rd_wr_ne _ _ _ _ _ _ k1.symm]; rfl
  · exact ((onlyRegs_wr s R.hdr_CODE [p] c).trans (onlyRegs_satInc _ R.hdr_COUNT [p])).trans (onlyRegs_wr _ R.hdr_ERR [p] 1)

/-- An event of a page: its bit in IRQ_RAW, and nothing else (R29). -/
theorem raise_law (s : State) (p b : Nat) (h : b < 32) : bitB ((s.raise p b).rd R.hdr_IRQ_RAW [p]) b = true ∧
    (∀ j, j < 32 → j ≠ b → bitB ((s.raise p b).rd R.hdr_IRQ_RAW [p]) j = bitB (s.rd R.hdr_IRQ_RAW [p]) j) ∧
    OnlyRegs s (s.raise p b) [R.hdr_IRQ_RAW.key [p]] :=
  ⟨bitB_rd_wrBit_same s R.hdr_IRQ_RAW [p] b true h,
    fun j hj n => bitB_rd_wrBit_ne s R.hdr_IRQ_RAW [p] b j true hj n, onlyRegs_wr ..⟩

/-- A violation counts against its world, and nothing else happens (R11, R43). -/
theorem violate_law (s : State) (w : World) :
    (s.violate w).rd R.host_VIOL [w.val] = min (s.rd R.host_VIOL [w.val] + 1) (2 ^ 32 - 1) ∧
    OnlyRegs s (s.violate w) [R.host_VIOL.key [w.val]] := ⟨State.rd_satInc_same .., onlyRegs_satInc ..⟩

/-! ## Writes under the grant -/

@[simp] theorem asWriter_granted (s : State) (w : World) (p : Nat) (f : State → State) (h : s.canWrite w p = true) :
    s.asWriter w p f = f s := by simp [State.asWriter, h]

@[simp] theorem asWriter_refused (s : State) (w : World) (p : Nat) (f : State → State) (h : s.canWrite w p = false) :
    s.asWriter w p f = s.violate w := by simp [State.asWriter, h]

@[simp] theorem onlyBy_granted (s : State) (u : World) (p : Nat) (f : State → State) (h : s.canWrite u p = true) :
    s.onlyBy u u p f = f s := by simp [State.onlyBy, State.asWriter, h]

theorem onlyBy_other (s : State) (u w : World) (p : Nat) (f : State → State) (h : s.canWrite w p = true) (n : w ≠ u) :
    s.onlyBy u w p f = s := by simp [State.onlyBy, State.asWriter, h, n]

@[simp] theorem onlyBy_refused (s : State) (u w : World) (p : Nat) (f : State → State) (h : s.canWrite w p = false) :
    s.onlyBy u w p f = s.violate w := by simp [State.onlyBy, State.asWriter, h]

/-! ## Repetition -/

@[simp] theorem foldS_nil {α : Type} (f : State → α → State) (s : State) : foldS [] f s = s := rfl
@[simp] theorem foldS_cons {α : Type} (x : α) (l : List α) (f : State → α → State) (s : State) :
    foldS (x :: l) f s = foldS l f (f s x) := rfl

/-- What every round of a repetition keeps, the repetition keeps. -/
theorem foldS_keeps {α β : Type} (g : State → β) (l : List α) (f : State → α → State) (s : State)
    (h : ∀ s x, x ∈ l → g (f s x) = g s) : g (foldS l f s) = g s := by
  induction l generalizing s with
  | nil => rfl
  | cons x t ih =>
    rw [foldS_cons, ih _ (fun s y hy => h s y (List.mem_cons_of_mem _ hy)), h s x List.mem_cons_self]

/-- A repetition over distinct indexes writes each entry once: what round `x` sets stands when no later round touches it. -/
theorem foldS_sets {α β : Type} [DecidableEq α] (g : State → β) (l : List α) (f : State → α → State) (s : State) (x : α) (v : β)
    (hx : x ∈ l) (hs : ∀ s, g (f s x) = v) (ho : ∀ s y, y ≠ x → g (f s y) = g s) : g (foldS l f s) = v := by
  induction l generalizing s with
  | nil => cases hx
  | cons y t ih =>
    rw [foldS_cons]
    by_cases m : x ∈ t
    · exact ih _ m
    · have e : x = y := by simpa [m] using hx
      subst e
      rw [foldS_keeps g t f _ (fun s y hy => ho s y (fun e => m (e ▸ hy))), hs]

/-! ## Keys -/

/-- Fields of different header words, or of the headers of different pages, have different keys (R29). -/
theorem hdr_key_ne (a b : Row) (p q : Nat) (ha : a.dims = [⟨0, 4096, 388, 388⟩]) (hb : b.dims = [⟨0, 4096, 388, 388⟩])
    (la : 8 * a.base + a.lo < 32768) (lb : 8 * b.base + b.lo < 32768) (hp : p < 388) (hq : q < 388)
    (h : p ≠ q ∨ 8 * a.base + a.lo ≠ 8 * b.base + b.lo) : a.key [p] ≠ b.key [q] := by
  simp only [Row.key, Row.addr, ha, hb, offsets, Dim.off, Nat.mod_eq_of_lt hp, Nat.mod_eq_of_lt hq,
    Nat.div_eq_of_lt hp, Nat.div_eq_of_lt hq]
  omega

end Sys2Proof.Machine
end

