-- ==== Sys2Proof/Laws/PerInstr.lean ====
section
/-! SUPPORT. Statements per command: a command that is a write under the grant of OWNER writes a page of the address map
(R40, R42). -/

namespace Sys2Proof.Laws.WritesPage

open Sys2Proof Sys2Proof.Machine

/-- The page a command writes under the grant is one of the 388 pages from 0x4000_0000 (R40). -/
def Statement (i : Instr) : Prop := ∀ (u : World) (q : Nat), writerOf i = some (u, q) → q < 388

theorem registerWrite (w : World) (addr : Nat) (size : Nat) (v : Word) : Statement (.registerWrite w addr size v) := nofun
theorem commit (w : World) (p : Page) : Statement (.commit w p) := by
  rintro u q ⟨⟩; omega
theorem cancel (w : World) (p : Page) : Statement (.cancel w p) := by
  rintro u q ⟨⟩; omega
theorem commitApply (u : CommitUnit) : Statement (.commitApply u) := nofun
theorem aCommit (w : World) (i : Stage) : Statement (.aCommit w i) := by
  rintro u q ⟨⟩; omega
theorem aCancel (w : World) (i : Stage) : Statement (.aCancel w i) := by
  rintro u q ⟨⟩; omega
theorem brst (w : World) (p : Page) : Statement (.brst w p) := by
  rintro u q ⟨⟩; omega
theorem irqClr (w : World) (p : Page) (v : Word) : Statement (.irqClr w p v) := by
  rintro u q ⟨⟩; omega
theorem irqSet (w : World) (p : Page) (v : Word) : Statement (.irqSet w p v) := by
  rintro u q ⟨⟩; omega
theorem errClear (w : World) (p : Page) : Statement (.errClear w p) := by
  rintro u q ⟨⟩; omega
theorem ownerWrite (w : World) (p : Page) (v : Word) : Statement (.ownerWrite w p v) := nofun
theorem violClr (w : World) (v : Word) : Statement (.violClr w v) := by
  rintro u q ⟨⟩; omega
theorem sessEnable (w : World) (k : Fin 6) : Statement (.sessEnable w k) := by
  rintro u q ⟨⟩; omega
theorem hostDatagram (dg : HostDatagram) : Statement (.hostDatagram dg) := nofun
theorem hostRead (k : Fin 6) (tag : Nat) : Statement (.hostRead k tag) := nofun
theorem hostWrite (k : Fin 6) (tag : Nat) : Statement (.hostWrite k tag) := nofun
theorem hostFence (k : Fin 6) (tag : Nat) : Statement (.hostFence k tag) := nofun
theorem pcieRead (addr : Nat) (len : Nat) : Statement (.pcieRead addr len) := nofun
theorem pcieWrite (addr : Nat) (data : List Word) (len : Nat) : Statement (.pcieWrite addr data len) := nofun
theorem controlPeriodStart (q : PeriodIn) : Statement (.controlPeriodStart q) := nofun
theorem portLoopTick (ecc : List (Fin 4096)) (td : List (Option Int)) : Statement (.portLoopTick ecc td) := nofun
theorem cycleStart : Statement (.cycleStart) := nofun
theorem referenceCycle (l1 : RefCycle) (l2 : RefCycle) (l3 : RefCycle) : Statement (.referenceCycle l1 l2 l3) := nofun
theorem sparEnable (w : World) : Statement (.sparEnable w) := by
  rintro u q ⟨⟩; omega
theorem followSet (w : World) : Statement (.followSet w) := by
  rintro u q ⟨⟩; omega
theorem followClear (w : World) : Statement (.followClear w) := by
  rintro u q ⟨⟩; omega
theorem align (period : Nat) (angle : Nat) : Statement (.align period angle) := nofun
theorem sparTimeFrameRx (f : HeardTimeFrame) : Statement (.sparTimeFrameRx f) := nofun
theorem wallApply (w : World) : Statement (.wallApply w) := by
  rintro u q ⟨⟩; omega
theorem wallStep : Statement (.wallStep) := nofun
theorem wallSlewEnd : Statement (.wallSlewEnd) := nofun
theorem eventEntryWrite (w : World) (n : Fin 256) (v : Word) : Statement (.eventEntryWrite w n v) := by
  intro u q h; simp only [writerOf] at h; split at h
  all_goals simp at h
  all_goals omega
theorem eventFire (n : Fin 256) : Statement (.eventFire n) := nofun
theorem evtFiredClear (w : World) (late : Bool) (i : Fin 8) (v : Word) : Statement (.evtFiredClear w late i v) := by
  rintro u q ⟨⟩; omega
theorem setbackClear (w : World) : Statement (.setbackClear w) := by
  rintro u q ⟨⟩; omega
theorem uplinkMeas (i : Stage) (body : List Byte) (coding : Bool) (sof : Nat) : Statement (.uplinkMeas i body coding sof) := nofun
theorem uplinkIdent (i : Stage) (body : List Byte) (coding : Bool) (sof : Nat) : Statement (.uplinkIdent i body coding sof) := nofun
theorem uplinkWindowClose : Statement (.uplinkWindowClose) := nofun
theorem lineLost (i : Stage) : Statement (.lineLost i) := nofun
theorem downlinkWindow (heard : List (Stage × DownFrame)) (echo : List Stage) : Statement (.downlinkWindow heard echo) := nofun
theorem lineAttach (w : World) (i : Stage) : Statement (.lineAttach w i) := by
  rintro u q ⟨⟩; omega
theorem attachTimeout (i : Stage) : Statement (.attachTimeout i) := nofun
theorem lineLenWrite (w : World) (i : Stage) (b : Bool) : Statement (.lineLenWrite w i b) := by
  rintro u q ⟨⟩; omega
theorem lineFaultClr (w : World) (i : Stage) : Statement (.lineFaultClr w i) := by
  rintro u q ⟨⟩; omega
theorem lineCntClr (w : World) (i : Stage) : Statement (.lineCntClr w i) := by
  rintro u q ⟨⟩; omega
theorem drvCommandFrame (i : Stage) (body : List Byte) (coding : Bool) (eof : Nat) (iNow : Nat) : Statement (.drvCommandFrame i body coding eof iNow) := nofun
theorem drvSafeFrame (i : Stage) (body : List Byte) (coding : Bool) (eof : Nat) (iNow : Nat) : Statement (.drvSafeFrame i body coding eof iNow) := nofun
theorem drvProbe (i : Stage) (body : List Byte) (rx : LineRx) : Statement (.drvProbe i body rx) := nofun
theorem drvAttach (i : Stage) (body : List Byte) (rx : LineRx) : Statement (.drvAttach i body rx) := nofun
theorem driverPeriodStart (i : Stage) (m : DriverMeas) (hwlim : Bool) : Statement (.driverPeriodStart i m hwlim) := nofun
theorem driverFault (i : Stage) (cause : Fin 4) (on : Bool) : Statement (.driverFault i cause on) := nofun
theorem selectorMoveDone (i : Stage) (weld : Bool) : Statement (.selectorMoveDone i weld) := nofun
theorem stageFailed (i : Stage) : Statement (.stageFailed i) := nofun
theorem bankWrite (w : World) (b : Fin 16) (k : Fin 192) (v : Word) : Statement (.bankWrite w b k v) := by
  rintro u q ⟨⟩; omega
theorem bankCheck (w : World) (v : Word) : Statement (.bankCheck w v) := by
  rintro u q ⟨⟩; omega
theorem bankDone (b : Fin 16) : Statement (.bankDone b) := nofun
theorem failSet (w : World) (i : Stage) : Statement (.failSet w i) := by
  rintro u q ⟨⟩; omega
theorem failClr (w : World) (i : Stage) : Statement (.failClr w i) := by
  rintro u q ⟨⟩; omega
theorem satClr (w : World) (i : Stage) : Statement (.satClr w i) := by
  rintro u q ⟨⟩; omega
theorem loadClr (w : World) : Statement (.loadClr w) := by
  rintro u q ⟨⟩; omega
theorem spoolArm (w : World) : Statement (.spoolArm w) := by
  rintro u q ⟨⟩; omega
theorem spoolStop (w : World) : Statement (.spoolStop w) := by
  rintro u q ⟨⟩; omega
theorem swtrig (w : World) : Statement (.swtrig w) := by
  rintro u q ⟨⟩; omega
theorem spoolDone : Statement (.spoolDone) := nofun
theorem shortSoftstart (p : Port) : Statement (.shortSoftstart p) := nofun
theorem burstEntry (p : Port) : Statement (.burstEntry p) := nofun
theorem burstRotate (p : Port) : Statement (.burstRotate p) := nofun
theorem faultRouteOpen (i : Stage) : Statement (.faultRouteOpen i) := nofun
theorem handoverAbort (i : Stage) : Statement (.handoverAbort i) := nofun
theorem hoAbortClear (w : World) (i : Stage) : Statement (.hoAbortClear w i) := by
  rintro u q ⟨⟩; omega
theorem solveDone : Statement (.solveDone) := nofun
theorem planLate : Statement (.planLate) := nofun
theorem loftHoldTimeout : Statement (.loftHoldTimeout) := nofun
theorem pilotConfirm (p : Port) (hi : Int) (lo : Int) (ce : Int) (id : Int) (pp : Nat) (agree : Nat) : Statement (.pilotConfirm p hi lo ce id pp agree) := nofun
theorem linkUp (w : World) (p : Port) : Statement (.linkUp w p) := by
  rintro u q ⟨⟩; omega
theorem authOk (w : World) (p : Port) : Statement (.authOk w p) := by
  rintro u q ⟨⟩; omega
theorem authFail (w : World) (p : Port) : Statement (.authFail w p) := by
  rintro u q ⟨⟩; omega
theorem isoGo (w : World) (p : Port) : Statement (.isoGo w p) := by
  rintro u q ⟨⟩; omega
theorem preGo (w : World) (p : Port) : Statement (.preGo w p) := by
  rintro u q ⟨⟩; omega
theorem startSession (w : World) (p : Port) : Statement (.startSession w p) := by
  rintro u q ⟨⟩; omega
theorem stopSession (w : World) (p : Port) : Statement (.stopSession w p) := by
  rintro u q ⟨⟩; omega
theorem pause (w : World) (p : Port) : Statement (.pause w p) := by
  rintro u q ⟨⟩; omega
theorem resume (w : World) (p : Port) : Statement (.resume w p) := by
  rintro u q ⟨⟩; omega
theorem weldDone (w : World) (p : Port) : Statement (.weldDone w p) := by
  rintro u q ⟨⟩; omega
theorem newSess (w : World) (p : Port) : Statement (.newSess w p) := by
  rintro u q ⟨⟩; omega
theorem oos (w : World) (p : Port) : Statement (.oos w p) := by
  rintro u q ⟨⟩; omega
theorem inService (w : World) (p : Port) : Statement (.inService w p) := by
  rintro u q ⟨⟩; omega
theorem hb (w : World) (p : Port) : Statement (.hb w p) := by
  rintro u q ⟨⟩; omega
theorem billDisc (w : World) (p : Port) : Statement (.billDisc w p) := by
  rintro u q ⟨⟩; omega
theorem hbLost (p : Port) : Statement (.hbLost p) := nofun
theorem linkTmo (p : Port) : Statement (.linkTmo p) := nofun
theorem authTmo (p : Port) : Statement (.authTmo p) := nofun
theorem readyTmo (p : Port) : Statement (.readyTmo p) := nofun
theorem isoTmo (p : Port) : Statement (.isoTmo p) := nofun
theorem preTmo (p : Port) : Statement (.preTmo p) := nofun
theorem rampTmo (p : Port) : Statement (.rampTmo p) := nofun
theorem pauseTmo (p : Port) : Statement (.pauseTmo p) := nofun
theorem weldTmo (p : Port) : Statement (.weldTmo p) := nofun
theorem contTmo (p : Port) : Statement (.contTmo p) := nofun
theorem dischTmo (p : Port) : Statement (.dischTmo p) := nofun
theorem contactorFeedback (p : Port) (closed : Bool) : Statement (.contactorFeedback p closed) := nofun
theorem isoSettleDone (p : Port) : Statement (.isoSettleDone p) := nofun
theorem isoMeasureDone (p : Port) (ohm : Nat) : Statement (.isoMeasureDone p ohm) := nofun
theorem isoMonResult (p : Port) (ohm : Nat) (vMean : Nat) : Statement (.isoMonResult p ohm vMean) := nofun
theorem dischargeDone (p : Port) : Statement (.dischargeDone p) := nofun
theorem stopped (p : Port) : Statement (.stopped p) := nofun
theorem contWeldClear (w : World) (p : Port) : Statement (.contWeldClear w p) := by
  rintro u q ⟨⟩; omega
theorem evtDropClear (w : World) (p : Port) (v : Word) : Statement (.evtDropClear w p v) := by
  rintro u q ⟨⟩; omega
theorem vlnkEnable (w : World) (p : Port) : Statement (.vlnkEnable w p) := by
  rintro u q ⟨⟩; omega
theorem dadDone (p : Port) (collision : Bool) : Statement (.dadDone p collision) := nofun
theorem neighbourSolicitation (p : Port) : Statement (.neighbourSolicitation p) := nofun
theorem echoRequest (p : Port) (data : List Byte) : Statement (.echoRequest p data) := nofun
theorem cmSlacParamReq (p : Port) (mac : Nat) (run : List Byte) : Statement (.cmSlacParamReq p mac run) := nofun
theorem cmStartAttenCharInd (p : Port) (run : List Byte) (n : Nat) : Statement (.cmStartAttenCharInd p run n) := nofun
theorem cmMnbcSoundInd (p : Port) (run : List Byte) (att : List Nat) : Statement (.cmMnbcSoundInd p run att) := nofun
theorem soundingEnd (p : Port) : Statement (.soundingEnd p) := nofun
theorem cmValidateReq (p : Port) (run : List Byte) : Statement (.cmValidateReq p run) := nofun
theorem cmSlacMatchReq (p : Port) (run : List Byte) : Statement (.cmSlacMatchReq p run) := nofun
theorem cmAmpMapReq (p : Port) : Statement (.cmAmpMapReq p) := nofun
theorem slacMatched (p : Port) : Statement (.slacMatched p) := nofun
theorem slacTimeout (p : Port) : Statement (.slacTimeout p) := nofun
theorem sdpRequest (p : Port) (ip : Nat) (mac : Nat) (reqTls : Bool) : Statement (.sdpRequest p ip mac reqTls) := nofun
theorem tcpSyn (p : Port) (ip : Nat) (isn : Nat) : Statement (.tcpSyn p ip isn) := nofun
theorem tcpSegment (p : Port) (ip : Nat) (seq : Nat) (ack : Nat) (data : List Byte) (rst : Bool) (fin : Bool) : Statement (.tcpSegment p ip seq ack data rst fin) := nofun
theorem tlsRecord (p : Port) : Statement (.tlsRecord p) := nofun
theorem tcpRetxTimeout (p : Port) : Statement (.tcpRetxTimeout p) := nofun
theorem vlnkTxGo (w : World) (p : Port) : Statement (.vlnkTxGo w p) := by
  rintro u q ⟨⟩; omega
theorem vlnkRxPop (w : World) (p : Port) : Statement (.vlnkRxPop w p) := by
  rintro u q ⟨⟩; omega
theorem rxResume (w : World) (p : Port) : Statement (.rxResume w p) := by
  rintro u q ⟨⟩; omega
theorem keyRxOn (w : World) (p : Port) : Statement (.keyRxOn w p) := by
  rintro u q ⟨⟩; omega
theorem keyTxOn (w : World) (p : Port) : Statement (.keyTxOn w p) := by
  rintro u q ⟨⟩; omega
theorem abortLink (w : World) (p : Port) : Statement (.abortLink w p) := by
  rintro u q ⟨⟩; omega
theorem vlnkWindowRead (w : World) (p : Port) (k : Fin 512) : Statement (.vlnkWindowRead w p k) := nofun
theorem vlnkCntClr (w : World) (p : Port) : Statement (.vlnkCntClr w p) := by
  rintro u q ⟨⟩; omega
theorem beacon (c : Fin 4) (rail : Bool) : Statement (.beacon c rail) := nofun
theorem windsockDone (c : Fin 4) (down : List (List Byte)) (snr : List (List Nat)) : Statement (.windsockDone c down snr) := nofun
theorem tmAgeExpiry (d : Fin 32) : Statement (.tmAgeExpiry d) := nofun
theorem assocRequest (c : Fin 4) (rq : AssocReq) : Statement (.assocRequest c rq) := nofun
theorem leaveInd (d : Fin 32) : Statement (.leaveInd d) := nofun
theorem leaveTimeout (d : Fin 32) : Statement (.leaveTimeout d) := nofun
theorem kick (w : World) (d : Fin 32) : Statement (.kick w d) := by
  rintro u q ⟨⟩; omega
theorem tmNow (w : World) (d : Fin 32) : Statement (.tmNow w d) := by
  rintro u q ⟨⟩; omega
theorem splcRxMessage (d : Fin 32) (typ : Nat) (seq : Nat) (body : List Byte) : Statement (.splcRxMessage d typ seq body) := nofun
theorem frameExchangeDone (d : Fin 32) (acked : Bool) (total : Nat) (bad : Nat) (resent : Nat) (blanked : Nat) (queued : Bool) : Statement (.frameExchangeDone d acked total bad resent blanked queued) := nofun
theorem splcTxGo (w : World) : Statement (.splcTxGo w) := by
  rintro u q ⟨⟩; omega
theorem splcRxPop (w : World) : Statement (.splcRxPop w) := by
  rintro u q ⟨⟩; omega
theorem dispenserBeaconLoss (d : Fin 32) : Statement (.dispenserBeaconLoss d) := nofun
theorem meterAddition : Statement (.meterAddition) := nofun
theorem pulseEmit (n : Fin 8) : Statement (.pulseEmit n) := nofun
theorem zeroCrossing (c : Fin 4) (ph : Fin 3) (at_ : Nat) (x : Crossing) : Statement (.zeroCrossing c ph at_ x) := nofun
theorem zcLost (c : Fin 4) (ph : Fin 3) : Statement (.zcLost c ph) := nofun
theorem modf (b : Fin 88) (bad : Bool) : Statement (.modf b bad) := nofun
theorem mclkTaken (g : Fin 4) : Statement (.mclkTaken g) := nofun
theorem meterLoad (w : World) (m : Meter) : Statement (.meterLoad w m) := by
  rintro u q ⟨⟩; omega
theorem sealChange (on : Bool) : Statement (.sealChange on) := nofun
theorem meterFlagClear (w : World) (pulse : Bool) (m : Meter) (v : Word) : Statement (.meterFlagClear w pulse m v) := by
  intro u q h; simp only [writerOf] at h; split at h
  all_goals simp at h
  all_goals omega
theorem boundarySequence : Statement (.boundarySequence) := nofun
theorem bootComplete : Statement (.bootComplete) := nofun
theorem sessionOpen (prepay : Bool) (lowAt : Int) (ident : List (List Byte)) : Statement (.sessionOpen prepay lowAt ident) := nofun
theorem sessionClose : Statement (.sessionClose) := nofun
theorem credit (token : Word) (amount : Nat) (sig : List Byte) : Statement (.credit token amount sig) := nofun
theorem calPart (ofs : Nat) (data : List Byte) : Statement (.calPart ofs data) := nofun
theorem calCommit (sig : List Byte) : Statement (.calCommit sig) := nofun
theorem billRead (kind : Nat) (index : Word) (ofs : Nat) : Statement (.billRead kind index ofs) := nofun
theorem discFail (p : Port) : Statement (.discFail p) := nofun
theorem displayFrame : Statement (.displayFrame) := nofun
theorem displayItemAdvance : Statement (.displayItemAdvance) := nofun
theorem conversionSlot (raw : List (Nat × Bool)) : Statement (.conversionSlot raw) := nofun
theorem ptripClear (w : World) (v : Word) : Statement (.ptripClear w v) := by
  rintro u q ⟨⟩; omega
theorem throttleStep : Statement (.throttleStep) := nofun
theorem thermalShutdown : Statement (.thermalShutdown) := nofun
theorem sync (w : World) : Statement (.sync w) := by
  rintro u q ⟨⟩; omega
theorem blankingEnd (n : Fin 32) : Statement (.blankingEnd n) := nofun
theorem tripI (n : Fin 32) : Statement (.tripI n) := nofun
theorem tripDt (n : Fin 32) (dt : Int) : Statement (.tripDt n dt) := nofun
theorem caseTrip (tcase : Int) : Statement (.caseTrip tcase) := nofun
theorem channelRetry (n : Fin 32) : Statement (.channelRetry n) := nofun
theorem retryCountReset (n : Fin 32) : Statement (.retryCountReset n) := nofun
theorem openLoad (n : Fin 32) : Statement (.openLoad n) := nofun
theorem clr (w : World) (n : Fin 32) : Statement (.clr w n) := by
  rintro u q ⟨⟩; omega
theorem caseClr (w : World) : Statement (.caseClr w) := by
  rintro u q ⟨⟩; omega
theorem peakClr (w : World) (n : Fin 32) : Statement (.peakClr w n) := by
  rintro u q ⟨⟩; omega
theorem railLossClear (w : World) : Statement (.railLossClear w) := by
  rintro u q ⟨⟩; omega
theorem limpEnChange (on : Bool) (pins : Nat) : Statement (.limpEnChange on pins) := nofun
theorem limpTripClear (n : Fin 32) : Statement (.limpTripClear n) := nofun
theorem keeperHoldExpiry (n : Fin 32) : Statement (.keeperHoldExpiry n) := nofun
theorem lswEnable (w : World) : Statement (.lswEnable w) := by
  rintro u q ⟨⟩; omega
theorem fieldRailSag (v : Nat) : Statement (.fieldRailSag v) := nofun
theorem fieldRailLoss (v : Nat) : Statement (.fieldRailLoss v) := nofun
theorem fieldRailReturn (v : Nat) : Statement (.fieldRailReturn v) := nofun
theorem safeEnable (w : World) : Statement (.safeEnable w) := by
  rintro u q ⟨⟩; omega
theorem safeCheckDone (hs ls : Nat) : Statement (.safeCheckDone hs ls) := nofun
theorem safeDisable (w : World) : Statement (.safeDisable w) := by
  rintro u q ⟨⟩; omega
theorem inputSample (a b : Nat) : Statement (.inputSample a b) := nofun
theorem discrepancyTimeout (n : Fin 48) : Statement (.discrepancyTimeout n) := nofun
theorem ripPanelStopStart (p : Port) : Statement (.ripPanelStopStart p) := nofun
theorem rampDeadline (p : Port) : Statement (.rampDeadline p) := nofun
theorem removalComplete (p : Port) : Statement (.removalComplete p) := nofun
theorem darkPulseTest (n : Fin 40) (fell : Option Nat) : Statement (.darkPulseTest n fell) := nofun
theorem openCoil (n : Fin 40) : Statement (.openCoil n) := nofun
theorem xatchFrameRx (ringB : Bool) (src : Nat) (payload : List Byte) : Statement (.xatchFrameRx ringB src payload) := nofun
theorem xatchWatchdogExpiry (n : Fin 16) : Statement (.xatchWatchdogExpiry n) := nofun
theorem xatchSend (m : Fin 8) : Statement (.xatchSend m) := nofun
theorem xchCntClr (w : World) : Statement (.xchCntClr w) := by
  rintro u q ⟨⟩; omega
theorem safetyWordRx (x : SafetyWord) (crcOk : Bool) : Statement (.safetyWordRx x crcOk) := nofun
theorem safetyWordLost : Statement (.safetyWordLost) := nofun
theorem standbyOutputTimeout : Statement (.standbyOutputTimeout) := nofun
theorem sharedStuck (p : Port) : Statement (.sharedStuck p) := nofun
theorem islandLockstepMismatch : Statement (.islandLockstepMismatch) := nofun
theorem tetherWordRx (x : TethWord) (chunk : Option Chunk) : Statement (.tetherWordRx x chunk) := nofun
theorem laneFault : Statement (.laneFault) := nofun
theorem tetherDown : Statement (.tetherDown) := nofun
theorem healthReportRx (body : List Byte) : Statement (.healthReportRx body) := nofun
theorem hlthLost : Statement (.hlthLost) := nofun
theorem fallbackFrameRx (chunk : Chunk) : Statement (.fallbackFrameRx chunk) := nofun
theorem takeClaim : Statement (.takeClaim) := nofun
theorem releaseClaim (w : World) : Statement (.releaseClaim w) := by
  rintro u q ⟨⟩; omega
theorem take (w : World) : Statement (.take w) := by
  rintro u q ⟨⟩; omega
theorem tethEnable (w : World) : Statement (.tethEnable w) := by
  rintro u q ⟨⟩; omega
theorem joinWaitExpiry : Statement (.joinWaitExpiry) := nofun
theorem demotedClear (w : World) : Statement (.demotedClear w) := by
  rintro u q ⟨⟩; omega
theorem tethCntClr (w : World) : Statement (.tethCntClr w) := by
  rintro u q ⟨⟩; omega
theorem blstEnumerate (w : World) (r : Fin 2) : Statement (.blstEnumerate w r) := by
  rintro u q ⟨⟩; omega
theorem enumReturn (r : Fin 2) (ret : Option Bool) (next : Nat) : Statement (.enumReturn r ret next) := nofun
theorem ringBreak (r : Fin 2) (fromB : Bool) (ret : Option Bool) (reached : Nat) : Statement (.ringBreak r fromB ret reached) := nofun
theorem measurementSlot (r : Fin 2) : Statement (.measurementSlot r) := nofun
theorem slotReadingsDone (r : Fin 2) (blocks : List (List Byte)) (moves : List (Nat × List Nat)) : Statement (.slotReadingsDone r blocks moves) := nofun
theorem faultCode (r : Fin 2) (on : Bool) : Statement (.faultCode r on) := nofun
theorem tripClr (w : World) (r : Fin 2) : Statement (.tripClr w r) := by
  rintro u q ⟨⟩; omega
theorem owNow (w : World) (r : Fin 2) : Statement (.owNow w r) := by
  rintro u q ⟨⟩; omega
theorem monReset (r : Fin 2) (m : Fin 64) (fromB : Bool) (f : List Byte) : Statement (.monReset r m fromB f) := nofun
theorem monEnum (r : Fin 2) (m : Fin 64) (fromB : Bool) (f : List Byte) : Statement (.monEnum r m fromB f) := nofun
theorem monConfig (r : Fin 2) (m : Fin 64) (fromB : Bool) (f : List Byte) : Statement (.monConfig r m fromB f) := nofun
theorem monHush (r : Fin 2) (m : Fin 64) (fromB : Bool) (f : List Byte) : Statement (.monHush r m fromB f) := nofun
theorem monConvert (r : Fin 2) (m : Fin 64) (fromB : Bool) (f : List Byte) (cells : List Nat) (msum temp : Nat) : Statement (.monConvert r m fromB f cells msum temp) := nofun
theorem monRead (r : Fin 2) (m : Fin 64) (fromB : Bool) (f : List Byte) : Statement (.monRead r m fromB f) := nofun
theorem monBalance (r : Fin 2) (m : Fin 64) (fromB : Bool) (f : List Byte) : Statement (.monBalance r m fromB f) := nofun
theorem cellComparatorTrip (r : Fin 2) (m : Fin 64) (ov uv : Nat) (intern : Bool) : Statement (.cellComparatorTrip r m ov uv intern) := nofun
theorem monitorTimeout (r : Fin 2) (m : Fin 64) : Statement (.monitorTimeout r m) := nofun
theorem hopBreak (r : Fin 2) (m : Fin 64) (toB : Bool) : Statement (.hopBreak r m toB) := nofun
theorem hopRestore (r : Fin 2) (m : Fin 64) (toB : Bool) : Statement (.hopRestore r m toB) := nofun
theorem txreq (w : World) (c : Fin 4) (o : Fin 128) : Statement (.txreq w c o) := by
  rintro u q ⟨⟩; omega
theorem canCancel (w : World) (c : Fin 4) (o : Fin 128) : Statement (.canCancel w c o) := by
  rintro u q ⟨⟩; omega
theorem boRec (w : World) (c : Fin 4) : Statement (.boRec w c) := by
  rintro u q ⟨⟩; omega
theorem newdatClear (w : World) (c : Fin 4) (o : Fin 128) : Statement (.newdatClear w c o) := by
  rintro u q ⟨⟩; omega
theorem canCntClr (w : World) (c : Fin 4) : Statement (.canCntClr w c) := by
  rintro u q ⟨⟩; omega
theorem arbitrationStart (c : Fin 4) : Statement (.arbitrationStart c) := nofun
theorem canTxSuccess (c : Fin 4) : Statement (.canTxSuccess c) := nofun
theorem arbitrationLost (c : Fin 4) : Statement (.arbitrationLost c) := nofun
theorem canError (c : Fin 4) (e : CanErr) (eights : Nat) : Statement (.canError c e eights) := nofun
theorem canFrameRx (c : Fin 4) (f : CanFrame) : Statement (.canFrameRx c f) := nofun
theorem busOffRecoveryDone (c : Fin 4) : Statement (.busOffRecoveryDone c) := nofun
theorem canDisable (w : World) (c : Fin 4) : Statement (.canDisable w c) := by
  rintro u q ⟨⟩; omega
theorem reelStart (w : World) (c : Fin 64) (ecc : Bool) : Statement (.reelStart w c ecc) := by
  rintro u q ⟨⟩; omega
theorem reelStop (w : World) (c : Fin 64) : Statement (.reelStop w c) := by
  rintro u q ⟨⟩; omega
theorem reelFlag (w : World) (c : Fin 64) : Statement (.reelFlag w c) := by
  rintro u q ⟨⟩; omega
theorem reelCntClr (w : World) (c : Fin 64) : Statement (.reelCntClr w c) := by
  rintro u q ⟨⟩; omega
theorem move (c : Fin 64) (beats : Nat) (ecc : Bool) : Statement (.move c beats ecc) := nofun
theorem movePiece (c : Fin 64) (beats : Nat) (ecc : Bool) : Statement (.movePiece c beats ecc) := nofun
theorem loop (c : Fin 64) (ecc : Bool) : Statement (.loop c ecc) := nofun
theorem wait (c : Fin 64) : Statement (.wait c) := nofun
theorem waitEnd (c : Fin 64) (ecc : Bool) : Statement (.waitEnd c ecc) := nofun
theorem signal (c : Fin 64) (ecc : Bool) : Statement (.signal c ecc) := nofun
theorem slotAttributeWrite (w : World) (k : Fin 256) (second : Bool) (v : Word) : Statement (.slotAttributeWrite w k second v) := by
  rintro u q ⟨⟩; omega
theorem clrGo (w : World) : Statement (.clrGo w) := by
  rintro u q ⟨⟩; omega
theorem regionWrite (w : World) (r : Fin 16) (k : Fin 4) (v : Word) : Statement (.regionWrite w r k v) := by
  rintro u q ⟨⟩; omega
theorem hash (w : Fin 3) (i : Nat) : Statement (.hash w i) := nofun
theorem hmac (w : Fin 3) (i : Nat) : Statement (.hmac w i) := nofun
theorem gcmEnc (w : Fin 3) (i : Nat) : Statement (.gcmEnc w i) := nofun
theorem gcmDec (w : Fin 3) (i : Nat) : Statement (.gcmDec w i) := nofun
theorem sign (w : Fin 3) (i : Nat) : Statement (.sign w i) := nofun
theorem verify (w : Fin 3) (i : Nat) : Statement (.verify w i) := nofun
theorem keygen (w : Fin 3) (i : Nat) : Statement (.keygen w i) := nofun
theorem ecdh (w : Fin 3) (i : Nat) : Statement (.ecdh w i) := nofun
theorem kdf (w : Fin 3) (i : Nat) : Statement (.kdf w i) := nofun
theorem importKey (w : Fin 3) (i : Nat) : Statement (.importKey w i) := nofun
theorem wrap (w : Fin 3) (i : Nat) : Statement (.wrap w i) := nofun
theorem unwrap (w : Fin 3) (i : Nat) : Statement (.unwrap w i) := nofun
theorem random (w : Fin 3) (i : Nat) : Statement (.random w i) := nofun
theorem pubread (w : Fin 3) (i : Nat) : Statement (.pubread w i) := nofun
theorem jobComplete (w : Fin 3) (i : Nat) : Statement (.jobComplete w i) := nofun
theorem rngFail : Statement (.rngFail) := nofun
theorem lcGo (w : World) : Statement (.lcGo w) := by
  rintro u q ⟨⟩; omega
theorem lcDone : Statement (.lcDone) := nofun
theorem dbgArm (w : World) : Statement (.dbgArm w) := by
  rintro u q ⟨⟩; omega
theorem ringSupplyLoss (portB : Bool) : Statement (.ringSupplyLoss portB) := nofun
theorem ringSupplyGood (portB : Bool) : Statement (.ringSupplyGood portB) := nofun
theorem huW0 (w : World) : Statement (.huW0 w) := by
  rintro u q ⟨⟩; omega
theorem huW1 (w : World) : Statement (.huW1 w) := by
  rintro u q ⟨⟩; omega
theorem holdupExhausted : Statement (.holdupExhausted) := nofun
theorem powerOnReset (aOk bOk : Bool) : Statement (.powerOnReset aOk bOk) := nofun
theorem brownOut : Statement (.brownOut) := nofun
theorem watchdogExpiry (k : Fin 3) : Statement (.watchdogExpiry k) := nofun
theorem gKick (w : World) : Statement (.gKick w) := by
  rintro u q ⟨⟩; omega
theorem bKick (w : World) : Statement (.bKick w) := by
  rintro u q ⟨⟩; omega
theorem eKick (w : World) : Statement (.eKick w) := by
  rintro u q ⟨⟩; omega
theorem swGo (w : World) : Statement (.swGo w) := by
  rintro u q ⟨⟩; omega
theorem extRst : Statement (.extRst) := nofun
theorem debugReset : Statement (.debugReset) := nofun
theorem resetAccept : Statement (.resetAccept) := nofun
theorem resetApply : Statement (.resetApply) := nofun
theorem optionLoad : Statement (.optionLoad) := nofun
theorem bootVerify : Statement (.bootVerify) := nofun
theorem blockRelease (b : Fin 28) : Statement (.blockRelease b) := nofun
theorem clkFail (b : Fin 28) : Statement (.clkFail b) := nofun
theorem retryGo (w : World) : Statement (.retryGo w) := by
  rintro u q ⟨⟩; omega
theorem brstIdleReached (p : Page) : Statement (.brstIdleReached p) := nofun
theorem idleTimeout (p : Page) : Statement (.idleTimeout p) := nofun
theorem idleToClear (w : World) (v : Word) : Statement (.idleToClear w v) := by
  rintro u q ⟨⟩; omega
theorem refFail : Statement (.refFail) := nofun
theorem pllLost (k : Fin 6) : Statement (.pllLost k) := nofun
theorem runW1 (w : World) : Statement (.runW1 w) := by
  rintro u q ⟨⟩; omega
theorem runW2 (w : World) : Statement (.runW2 w) := by
  rintro u q ⟨⟩; omega
theorem modeWrite (w : World) (v : Fin 4) : Statement (.modeWrite w v) := by
  rintro u q ⟨⟩; omega
theorem flashProgram (w : World) : Statement (.flashProgram w) := by
  rintro u q ⟨⟩; omega
theorem flashErase (w : World) : Statement (.flashErase w) := by
  rintro u q ⟨⟩; omega
theorem flashDone : Statement (.flashDone) := nofun
theorem tetherReturn (two : Bool) : Statement (.tetherReturn two) := nofun
theorem driverReset (i : Stage) : Statement (.driverReset i) := nofun
theorem canBusIdle (c : Fin 4) : Statement (.canBusIdle c) := nofun
theorem shutdownResetRelease (td : List (Option Int)) : Statement (.shutdownResetRelease td) := nofun
theorem caseTripSelfClear (tcase : Int) : Statement (.caseTripSelfClear tcase) := nofun
theorem uncorrectableEccError : Statement (.uncorrectableEccError) := nofun

end Sys2Proof.Laws.WritesPage
end

