-- ==== Sys2Proof/WellFormed.lean ====
section
/-! DEFINITION. Well-formed commands: every operand within the field of spec/ that carries it. What a command does with
operands that a wire could not carry is nowhere relied on; `exec` is total on them all the same. -/

namespace Sys2Proof

/-- A value that fits a field of `n` bits. -/
def fits (v n : Nat) : Bool := decide (v < 2 ^ n)

/-- A signed value that fits a field of `n` bits in two's complement. -/
def sfits (v : Int) (n : Nat) : Bool := decide (-(2 ^ (n - 1) : Int) ≤ v) && decide (v < (2 ^ (n - 1) : Int))

/-- Fields of a host datagram (R47). -/
def HostDatagram.wf (d : HostDatagram) : Bool :=
  fits d.src 128 && fits d.sport 16 && fits d.dport 16 && fits d.version 16 && fits d.world 8 && decide (d.count ≤ 64) &&
    fits d.nonce 64 && fits d.reserved 32 && d.tag.length == 16

/-- Fields of a Spar time frame (R89). -/
def TimeFrame.wf (f : TimeFrame) : Bool :=
  fits f.version 16 && decide (f.slot ≤ 1) && fits f.lock 8 && fits f.cycle 32 && fits f.wall 64 && fits f.freq 32 &&
    fits f.claim 16 && fits f.flags 16

/-- Fields of a downlink frame (R96). -/
def DownFrame.wf (f : DownFrame) : Bool :=
  fits f.typ 8 && fits f.claim 16 && fits f.seq 8 && fits f.mode 4 && fits f.route 3 && fits f.safety 8 && fits f.safetyN 8 &&
    fits f.refA 24 && fits f.refB 24 && fits f.startDelay 16 && fits f.periodLen 16

/-- A measured fundamental (R57). -/
def Phasor.wf (v : Phasor) : Bool := fits v.amp 32 && fits v.ang 16

/-- What Spar samples for a tick (R621). -/
def TickRef.wf (m : TickRef) : Bool := m.l1.wf && m.l2.wf && m.l3.wf && fits m.partner 16

/-- A measured reference cycle (R62). -/
def RefCycle.wf (r : RefCycle) : Bool := fits r.amp 32 && fits r.freq 32 && sfits r.rocof 32 && fits r.ang 16

/-- What arrives with a control period start (R305, R404, R408, R413, R435, R600, R621). -/
def PeriodIn.wf (q : PeriodIn) : Bool :=
  fits q.vrail 16 && sfits q.tcase 16 && fits q.limp 32 && fits q.term 40 && decide (q.lch.length ≤ 32) &&
    decide (q.swI.length ≤ 40) && decide (q.pwr.length ≤ 7) && q.fine.all (fun x => decide (x.bits.length ≤ 88)) && q.ref.wf

/-- A CAN frame of ISO 11898-1: identifier, DLC, no remote FD frame (R509, R522). -/
def CanFrame.wf (f : CanFrame) : Bool :=
  fits f.id (if f.ide then 29 else 11) && fits f.dlc 4 && !(f.rtr && f.fdf)

/-- LEC of a bus error (R521). -/
def CanErr.wf (e : CanErr) : Bool :=
  match e with
  | .bus lec _ _ => fits lec 3
  | .resBit => true
  | .fdfBit => true

/-- Every operand of a command fits the field that carries it. -/
def Instr.wf (i : Instr) : Bool :=
  match i with
  | .registerWrite _ addr size _ => fits addr 33 && (size == 1 || size == 2 || size == 4)
  | .hostDatagram dg => dg.wf
  | .hostRead _ tag => fits tag 8
  | .hostWrite _ tag => fits tag 8
  | .hostFence _ tag => fits tag 8
  | .pcieRead addr len => fits addr 64 && fits len 13
  | .pcieWrite addr data len => fits addr 64 && decide (len ≤ 4 * data.length) && decide (4 * data.length < len + 4)
  | .controlPeriodStart q => q.wf
  | .portLoopTick _ td => decide (td.length ≤ 4)
  | .referenceCycle l1 l2 l3 => l1.wf && l2.wf && l3.wf
  | .align period angle => decide (period < 800) && fits angle 48
  | .sparTimeFrameRx f => fits f.src 48 && f.frame.wf
  | .uplinkMeas _ body _ _ => body.length == 28
  | .uplinkIdent _ body _ _ => body.length == 28
  | .downlinkWindow heard _ => heard.all (fun x => x.2.wf)
  | .drvCommandFrame _ body _ _ _ => body.length == 22
  | .drvSafeFrame _ body _ _ _ => body.length == 22
  | .drvProbe _ body _ => body.length == 22
  | .drvAttach _ body _ => body.length == 22
  | .driverPeriodStart _ m _ => m.y.length == 4 && m.y.all (fits · 24) && fits m.auxSel 8 && fits m.auxVal 16
  | .cmSlacParamReq _ mac run => fits mac 48 && run.length == 8
  | .cmStartAttenCharInd _ run n => run.length == 8 && fits n 8
  | .cmMnbcSoundInd _ run _ => run.length == 8
  | .cmValidateReq _ run => run.length == 8
  | .cmSlacMatchReq _ run => run.length == 8
  | .sdpRequest _ ip mac _ => fits ip 128 && fits mac 48
  | .tcpSyn _ ip isn => fits ip 128 && fits isn 32
  | .tcpSegment _ ip seq ack _ _ _ => fits ip 128 && fits seq 32 && fits ack 32
  | .assocRequest _ rq => fits rq.mac 48
  | .splcRxMessage _ typ seq _ => fits typ 8 && fits seq 16
  | .frameExchangeDone _ _ total bad _ _ _ => decide (bad ≤ total)
  | .billRead kind _ ofs => fits kind 8 && fits ofs 16
  | .limpEnChange _ pins => fits pins 32
  | .fieldRailSag v => fits v 16
  | .fieldRailLoss v => fits v 16
  | .fieldRailReturn v => fits v 16
  | .safeCheckDone hs ls => fits hs 40 && fits ls 40
  | .inputSample a b => fits a 48 && fits b 48
  | .safetyWordRx x _ => fits x.sf 3 && fits x.zones 32 && fits x.permit 32 && fits x.cmd 40
  | .tetherWordRx x _ => fits x.tstate 3 && fits x.claim 16
  | .fallbackFrameRx chunk => fits chunk.cycle 32
  | .enumReturn _ _ next => fits next 8
  | .ringBreak _ _ _ reached => decide (reached ≤ 64)
  | .monConvert _ _ _ _ cells msum temp => cells.length == 18 && fits msum 32 && fits temp 16
  | .cellComparatorTrip _ _ ov uv _ => fits ov 18 && fits uv 18
  | .canError _ e _ => e.wf
  | .canFrameRx _ f => f.wf
  | .hash _ i => fits i 9
  | .hmac _ i => fits i 9
  | .gcmEnc _ i => fits i 9
  | .gcmDec _ i => fits i 9
  | .sign _ i => fits i 9
  | .verify _ i => fits i 9
  | .keygen _ i => fits i 9
  | .ecdh _ i => fits i 9
  | .kdf _ i => fits i 9
  | .importKey _ i => fits i 9
  | .wrap _ i => fits i 9
  | .unwrap _ i => fits i 9
  | .random _ i => fits i 9
  | .pubread _ i => fits i 9
  | .jobComplete _ i => fits i 9
  | .shutdownResetRelease td => decide (td.length ≤ 4)
  | .commit _ _ => true
  | .cancel _ _ => true
  | .commitApply _ => true
  | .aCommit _ _ => true
  | .aCancel _ _ => true
  | .brst _ _ => true
  | .irqClr _ _ _ => true
  | .irqSet _ _ _ => true
  | .errClear _ _ => true
  | .ownerWrite _ _ _ => true
  | .violClr _ _ => true
  | .sessEnable _ _ => true
  | .cycleStart => true
  | .sparEnable _ => true
  | .followSet _ => true
  | .followClear _ => true
  | .wallApply _ => true
  | .wallStep => true
  | .wallSlewEnd => true
  | .eventEntryWrite _ _ _ => true
  | .eventFire _ => true
  | .evtFiredClear _ _ _ _ => true
  | .setbackClear _ => true
  | .uplinkWindowClose => true
  | .lineLost _ => true
  | .lineAttach _ _ => true
  | .attachTimeout _ => true
  | .lineLenWrite _ _ _ => true
  | .lineFaultClr _ _ => true
  | .lineCntClr _ _ => true
  | .driverFault _ _ _ => true
  | .selectorMoveDone _ _ => true
  | .stageFailed _ => true
  | .bankWrite _ _ _ _ => true
  | .bankCheck _ _ => true
  | .bankDone _ => true
  | .failSet _ _ => true
  | .failClr _ _ => true
  | .satClr _ _ => true
  | .loadClr _ => true
  | .spoolArm _ => true
  | .spoolStop _ => true
  | .swtrig _ => true
  | .spoolDone => true
  | .shortSoftstart _ => true
  | .burstEntry _ => true
  | .burstRotate _ => true
  | .faultRouteOpen _ => true
  | .handoverAbort _ => true
  | .hoAbortClear _ _ => true
  | .solveDone => true
  | .planLate => true
  | .loftHoldTimeout => true
  | .pilotConfirm _ _ _ _ _ _ _ => true
  | .linkUp _ _ => true
  | .authOk _ _ => true
  | .authFail _ _ => true
  | .isoGo _ _ => true
  | .preGo _ _ => true
  | .startSession _ _ => true
  | .stopSession _ _ => true
  | .pause _ _ => true
  | .resume _ _ => true
  | .weldDone _ _ => true
  | .newSess _ _ => true
  | .oos _ _ => true
  | .inService _ _ => true
  | .hb _ _ => true
  | .billDisc _ _ => true
  | .hbLost _ => true
  | .linkTmo _ => true
  | .authTmo _ => true
  | .readyTmo _ => true
  | .isoTmo _ => true
  | .preTmo _ => true
  | .rampTmo _ => true
  | .pauseTmo _ => true
  | .weldTmo _ => true
  | .contTmo _ => true
  | .dischTmo _ => true
  | .contactorFeedback _ _ => true
  | .isoSettleDone _ => true
  | .isoMeasureDone _ _ => true
  | .isoMonResult _ _ _ => true
  | .dischargeDone _ => true
  | .stopped _ => true
  | .contWeldClear _ _ => true
  | .evtDropClear _ _ _ => true
  | .vlnkEnable _ _ => true
  | .dadDone _ _ => true
  | .neighbourSolicitation _ => true
  | .echoRequest _ _ => true
  | .soundingEnd _ => true
  | .cmAmpMapReq _ => true
  | .slacMatched _ => true
  | .slacTimeout _ => true
  | .tlsRecord _ => true
  | .tcpRetxTimeout _ => true
  | .vlnkTxGo _ _ => true
  | .vlnkRxPop _ _ => true
  | .rxResume _ _ => true
  | .keyRxOn _ _ => true
  | .keyTxOn _ _ => true
  | .abortLink _ _ => true
  | .vlnkWindowRead _ _ _ => true
  | .vlnkCntClr _ _ => true
  | .beacon _ _ => true
  | .windsockDone _ _ _ => true
  | .tmAgeExpiry _ => true
  | .leaveInd _ => true
  | .leaveTimeout _ => true
  | .kick _ _ => true
  | .tmNow _ _ => true
  | .splcTxGo _ => true
  | .splcRxPop _ => true
  | .dispenserBeaconLoss _ => true
  | .meterAddition => true
  | .pulseEmit _ => true
  | .zeroCrossing _ _ _ _ => true
  | .zcLost _ _ => true
  | .modf _ _ => true
  | .mclkTaken _ => true
  | .meterLoad _ _ => true
  | .sealChange _ => true
  | .meterFlagClear _ _ _ _ => true
  | .boundarySequence => true
  | .bootComplete => true
  | .sessionOpen _ _ _ => true
  | .sessionClose => true
  | .credit _ _ _ => true
  | .calPart _ _ => true
  | .calCommit _ => true
  | .discFail _ => true
  | .displayFrame => true
  | .displayItemAdvance => true
  | .conversionSlot _ => true
  | .ptripClear _ _ => true
  | .throttleStep => true
  | .thermalShutdown => true
  | .sync _ => true
  | .blankingEnd _ => true
  | .tripI _ => true
  | .tripDt _ _ => true
  | .caseTrip _ => true
  | .channelRetry _ => true
  | .retryCountReset _ => true
  | .openLoad _ => true
  | .clr _ _ => true
  | .caseClr _ => true
  | .peakClr _ _ => true
  | .railLossClear _ => true
  | .limpTripClear _ => true
  | .keeperHoldExpiry _ => true
  | .lswEnable _ => true
  | .safeEnable _ => true
  | .safeDisable _ => true
  | .discrepancyTimeout _ => true
  | .ripPanelStopStart _ => true
  | .rampDeadline _ => true
  | .removalComplete _ => true
  | .darkPulseTest _ _ => true
  | .openCoil _ => true
  | .xatchFrameRx _ _ _ => true
  | .xatchWatchdogExpiry _ => true
  | .xatchSend _ => true
  | .xchCntClr _ => true
  | .safetyWordLost => true
  | .standbyOutputTimeout => true
  | .sharedStuck _ => true
  | .islandLockstepMismatch => true
  | .laneFault => true
  | .tetherDown => true
  | .healthReportRx _ => true
  | .hlthLost => true
  | .takeClaim => true
  | .releaseClaim _ => true
  | .take _ => true
  | .tethEnable _ => true
  | .joinWaitExpiry => true
  | .demotedClear _ => true
  | .tethCntClr _ => true
  | .blstEnumerate _ _ => true
  | .measurementSlot _ => true
  | .slotReadingsDone _ _ _ => true
  | .faultCode _ _ => true
  | .tripClr _ _ => true
  | .owNow _ _ => true
  | .monReset _ _ _ _ => true
  | .monEnum _ _ _ _ => true
  | .monConfig _ _ _ _ => true
  | .monHush _ _ _ _ => true
  | .monRead _ _ _ _ => true
  | .monBalance _ _ _ _ => true
  | .monitorTimeout _ _ => true
  | .hopBreak _ _ _ => true
  | .hopRestore _ _ _ => true
  | .txreq _ _ _ => true
  | .canCancel _ _ _ => true
  | .boRec _ _ => true
  | .newdatClear _ _ _ => true
  | .canCntClr _ _ => true
  | .arbitrationStart _ => true
  | .canTxSuccess _ => true
  | .arbitrationLost _ => true
  | .busOffRecoveryDone _ => true
  | .canDisable _ _ => true
  | .reelStart _ _ _ => true
  | .reelStop _ _ => true
  | .reelFlag _ _ => true
  | .reelCntClr _ _ => true
  | .move _ _ _ => true
  | .movePiece _ _ _ => true
  | .loop _ _ => true
  | .wait _ => true
  | .waitEnd _ _ => true
  | .signal _ _ => true
  | .slotAttributeWrite _ _ _ _ => true
  | .clrGo _ => true
  | .regionWrite _ _ _ _ => true
  | .rngFail => true
  | .lcGo _ => true
  | .lcDone => true
  | .dbgArm _ => true
  | .ringSupplyLoss _ => true
  | .ringSupplyGood _ => true
  | .huW0 _ => true
  | .huW1 _ => true
  | .holdupExhausted => true
  | .powerOnReset _ _ => true
  | .brownOut => true
  | .watchdogExpiry _ => true
  | .gKick _ => true
  | .bKick _ => true
  | .eKick _ => true
  | .swGo _ => true
  | .extRst => true
  | .debugReset => true
  | .resetAccept => true
  | .resetApply => true
  | .optionLoad => true
  | .bootVerify => true
  | .blockRelease _ => true
  | .clkFail _ => true
  | .retryGo _ => true
  | .brstIdleReached _ => true
  | .idleTimeout _ => true
  | .idleToClear _ _ => true
  | .refFail => true
  | .pllLost _ => true
  | .runW1 _ => true
  | .runW2 _ => true
  | .modeWrite _ _ => true
  | .flashProgram _ => true
  | .flashErase _ => true
  | .flashDone => true
  | .tetherReturn _ => true
  | .driverReset _ => true
  | .canBusIdle _ => true
  | .caseTripSelfClear _ => true
  | .uncorrectableEccError => true

/-- A queue of well-formed commands. -/
def queueWf (q : List Instr) : Bool := q.all Instr.wf

end Sys2Proof
end

