-- ==== Sys2Proof/Tests/Slice0.lean ====
section
/-! SUPPORT. Tests. Each well-formedness check refuses an ill-formed command; a few worked examples of the spec; and for
each clause of each statement of Certificates/Slice0/Obligations.lean that has hypotheses, a concrete state and operands
that meet all of them together (test_<statement>_<clause>). -/

set_option maxRecDepth 20000

namespace Sys2Proof.Machine

/-- The machine with every block out of reset and no option load pending. -/
def live : State := { State.reset with
  rst := { State.reset.rst with inReset := .replicate 28 false, relPend := .replicate 28 false, loading := false } }

/-- EN set at the given pages. -/
def on (l : List Nat) (s : State) : State := l.foldl (fun s p => s.wr R.hdr_EN [p] 1) s


/-- A slot of a type that worlds 0-2 may use for every purpose. -/
def slotted (k ty : Nat) (s : State) : State :=
  ((((s.wr R.slot_TYPE [k] ty).wr R.slot_VALID [k] 1).wr R.slot_LCMASK [k] 15).wr R.slot_USE [k] 0x1FF).wr R.slot_WORLD [k] 7

/-- A job of Gondola with slots 1 and 2. -/
def aJob (op srcLen dstLen auxLen : Nat) : Job :=
  { world := 0, idx := 0, tag := 0, op := op, fence := false, mode := 0, alg := 0, k1 := 1, k2 := 2, src := 0, srcLen := srcLen,
    dst := 0x100, dstLen := dstLen, aux := 0x80, auxLen := auxLen, resv := false, out := none }

/-- The machine with one job in flight. -/
def jobbed (j : Job) (s : State) : State := { s with key := { s.key with jobs := [j] } }

/-- A Reel channel in RUN with an instruction line in its buffer. -/
def reeling (c : Fin 64) (b : List Byte) (s : State) : State :=
  { (on [24] s).wr R.rch_STATE [c.val] 1 with reel := vupd s.reel c (fun x => { x with line := some (0, b) }) }

/-- A reference that shows nothing. -/
def noRef : TickRef := ⟨⟨0, 0⟩, ⟨0, 0⟩, ⟨0, 0⟩, 0⟩

/-- What a control period start brings where nothing is measured. -/
def aPeriod : PeriodIn := ⟨[], 0, 0, [], 0, [], 0, [], noRef⟩


/-- The machine with a block held in reset. -/
def heldIn (b : Nat) (s : State) : State :=
  { s with rst := { s.rst with inReset := (List.range 28).foldl (fun v k => if k = b then v.set! k true else v) s.rst.inReset } }

/-- A meter reading of a map that names no interval. -/
def aMap : List Byte := [0, 0, 1] ++ List.replicate 461 0 ++ List.replicate 24 0xFF

/-! ## Well-formedness -/

theorem test_wf_refuses_registerWrite : Instr.wf (.registerWrite 0 0 3 0) = false := by decide
theorem test_wf_refuses_hostDatagram : Instr.wf (.hostDatagram ⟨0, 0, 0, 1, 3, 65, 0, 0, [], []⟩) = false := by decide
theorem test_wf_refuses_hostRead : Instr.wf (.hostRead 0 256) = false := by decide
theorem test_wf_refuses_hostWrite : Instr.wf (.hostWrite 0 256) = false := by decide
theorem test_wf_refuses_hostFence : Instr.wf (.hostFence 0 256) = false := by decide
theorem test_wf_refuses_pcieRead : Instr.wf (.pcieRead 0 8192) = false := by decide
theorem test_wf_refuses_pcieWrite : Instr.wf (.pcieWrite 0 [0, 0] 4) = false := by decide
theorem test_wf_refuses_controlPeriodStart : Instr.wf (.controlPeriodStart ⟨[], 65536, 0, [], 0, [], 0, [], ⟨⟨0, 0⟩, ⟨0, 0⟩, ⟨0, 0⟩, 0⟩⟩) = false := by decide
theorem test_wf_refuses_portLoopTick : Instr.wf (.portLoopTick [] [none, none, none, none, none]) = false := by decide
theorem test_wf_refuses_referenceCycle : Instr.wf (.referenceCycle ⟨0, 2 ^ 32, 0, 0⟩ ⟨0, 0, 0, 0⟩ ⟨0, 0, 0, 0⟩) = false := by decide
theorem test_wf_refuses_align : Instr.wf (.align 800 0) = false := by decide
theorem test_wf_refuses_sparTimeFrameRx : Instr.wf (.sparTimeFrameRx ⟨0, ⟨1, 2, 0, 0, 0, 0, 0, 0⟩⟩) = false := by decide
theorem test_wf_refuses_uplinkMeas : Instr.wf (.uplinkMeas 0 [] false 0) = false := by decide
theorem test_wf_refuses_uplinkIdent : Instr.wf (.uplinkIdent 0 [] false 0) = false := by decide
theorem test_wf_refuses_downlinkWindow : Instr.wf (.downlinkWindow [(0, ⟨1, 65536, 0, 0, 0, 0, 0, 0, 0, 0, 0, false⟩)] []) = false := by decide
theorem test_wf_refuses_drvCommandFrame : Instr.wf (.drvCommandFrame 0 [] false 0 0) = false := by decide
theorem test_wf_refuses_drvSafeFrame : Instr.wf (.drvSafeFrame 0 [] false 0 0) = false := by decide
theorem test_wf_refuses_drvProbe : Instr.wf (.drvProbe 0 [] ⟨false, 0, 0⟩) = false := by decide
theorem test_wf_refuses_drvAttach : Instr.wf (.drvAttach 0 [] ⟨false, 0, 0⟩) = false := by decide
theorem test_wf_refuses_driverPeriodStart : Instr.wf (.driverPeriodStart 0 ⟨[0, 0, 0, 2 ^ 24], 0, 0⟩ false) = false := by decide
theorem test_wf_refuses_cmSlacParamReq : Instr.wf (.cmSlacParamReq 0 0 []) = false := by decide
theorem test_wf_refuses_cmStartAttenCharInd : Instr.wf (.cmStartAttenCharInd 0 [] 0) = false := by decide
theorem test_wf_refuses_cmMnbcSoundInd : Instr.wf (.cmMnbcSoundInd 0 [] []) = false := by decide
theorem test_wf_refuses_cmValidateReq : Instr.wf (.cmValidateReq 0 []) = false := by decide
theorem test_wf_refuses_cmSlacMatchReq : Instr.wf (.cmSlacMatchReq 0 []) = false := by decide
theorem test_wf_refuses_sdpRequest : Instr.wf (.sdpRequest 0 (2 ^ 128) 0 false) = false := by decide
theorem test_wf_refuses_tcpSyn : Instr.wf (.tcpSyn 0 0 (2 ^ 32)) = false := by decide
theorem test_wf_refuses_tcpSegment : Instr.wf (.tcpSegment 0 0 0 (2 ^ 32) [] false false) = false := by decide
theorem test_wf_refuses_assocRequest : Instr.wf (.assocRequest 0 ⟨2 ^ 48, []⟩) = false := by decide
theorem test_wf_refuses_splcRxMessage : Instr.wf (.splcRxMessage 0 256 0 []) = false := by decide
theorem test_wf_refuses_frameExchangeDone : Instr.wf (.frameExchangeDone 0 true 1 2 0 0 false) = false := by decide
theorem test_wf_refuses_billRead : Instr.wf (.billRead 256 0 0) = false := by decide
theorem test_wf_refuses_limpEnChange : Instr.wf (.limpEnChange true (2 ^ 32)) = false := by decide
theorem test_wf_refuses_fieldRailSag : Instr.wf (.fieldRailSag 65536) = false := by decide
theorem test_wf_refuses_fieldRailLoss : Instr.wf (.fieldRailLoss 65536) = false := by decide
theorem test_wf_refuses_fieldRailReturn : Instr.wf (.fieldRailReturn 65536) = false := by decide
theorem test_wf_refuses_safeCheckDone : Instr.wf (.safeCheckDone (2 ^ 40) 0) = false := by decide
theorem test_wf_refuses_inputSample : Instr.wf (.inputSample (2 ^ 48) 0) = false := by decide
theorem test_wf_refuses_safetyWordRx : Instr.wf (.safetyWordRx ⟨false, 8, 0, 0, 0⟩ true) = false := by decide
theorem test_wf_refuses_tetherWordRx : Instr.wf (.tetherWordRx ⟨8, 0, false, false, false⟩ none) = false := by decide
theorem test_wf_refuses_fallbackFrameRx : Instr.wf (.fallbackFrameRx ⟨2 ^ 32, 1, false, true, []⟩) = false := by decide
theorem test_wf_refuses_enumReturn : Instr.wf (.enumReturn 0 none 256) = false := by decide
theorem test_wf_refuses_ringBreak : Instr.wf (.ringBreak 0 false none 65) = false := by decide
theorem test_wf_refuses_monConvert : Instr.wf (.monConvert 0 0 false [] [] 0 0) = false := by decide
theorem test_wf_refuses_cellComparatorTrip : Instr.wf (.cellComparatorTrip 0 0 (2 ^ 18) 0 false) = false := by decide
theorem test_wf_refuses_canError : Instr.wf (.canError 0 (.bus 8 false false) 0) = false := by decide
theorem test_wf_refuses_canFrameRx : Instr.wf (.canFrameRx 0 ⟨false, false, false, false, false, 2048, 0, []⟩) = false := by decide
theorem test_wf_refuses_hash : Instr.wf (.hash 0 512) = false := by decide
theorem test_wf_refuses_hmac : Instr.wf (.hmac 0 512) = false := by decide
theorem test_wf_refuses_gcmEnc : Instr.wf (.gcmEnc 0 512) = false := by decide
theorem test_wf_refuses_gcmDec : Instr.wf (.gcmDec 0 512) = false := by decide
theorem test_wf_refuses_sign : Instr.wf (.sign 0 512) = false := by decide
theorem test_wf_refuses_verify : Instr.wf (.verify 0 512) = false := by decide
theorem test_wf_refuses_keygen : Instr.wf (.keygen 0 512) = false := by decide
theorem test_wf_refuses_ecdh : Instr.wf (.ecdh 0 512) = false := by decide
theorem test_wf_refuses_kdf : Instr.wf (.kdf 0 512) = false := by decide
theorem test_wf_refuses_importKey : Instr.wf (.importKey 0 512) = false := by decide
theorem test_wf_refuses_wrap : Instr.wf (.wrap 0 512) = false := by decide
theorem test_wf_refuses_unwrap : Instr.wf (.unwrap 0 512) = false := by decide
theorem test_wf_refuses_random : Instr.wf (.random 0 512) = false := by decide
theorem test_wf_refuses_pubread : Instr.wf (.pubread 0 512) = false := by decide
theorem test_wf_refuses_jobComplete : Instr.wf (.jobComplete 0 512) = false := by decide
theorem test_wf_refuses_shutdownResetRelease : Instr.wf (.shutdownResetRelease [none, none, none, none, none]) = false := by decide

/-! ## Worked examples and single steps -/

/-- R81, worked example: angles 0x8000, 0x4E20 and 0xFFFF give period 400, 245 and period 0 of the next cycle. -/
theorem test_event_periods :
    [evtMains (live.wr R.evt_TIME1 [44] 0x8000) 44, evtMains (live.wr R.evt_TIME1 [44] 0x4E20) 44,
      evtMains (live.wr R.evt_TIME1 [44] 0xFFFF) 44] = [(0, 400), (0, 245), (1, 0)] := by decide

/-- R461 and R462, worked example: slot X takes over from 0x0203 with 0x0104, slot Y takes it back with 0x0205. -/
theorem test_next_claim :
    [nextClaim { live with slotY := false, teth := { live.teth with known := 0x0203 } },
      nextClaim { live with slotY := true, teth := { live.teth with known := 0x0104 } }] = [0x0104, 0x0205] := by decide

/-- R280, worked example: BCN_OFS 0x5555 puts the beacon at period 267. -/
theorem test_beacon_period : beaconPeriod (live.wr R.cpl_BCN_OFS [0] 0x5555) 0 = 267 := by decide

/-- R207, worked example: the entry written as 0x2073_1300, 0x0114_0194, 0x006A_CFC0, 0x001E_8480 is KIND 1, INDEX 1 from
2025-01-01 06:00 UTC with 7 MW and 2 MW. -/
theorem test_loft_entry :
    (fun s : State => (loftHit s 1735711200000 3).map (fun h => (h.kind, h.index, h.occ, h.a, h.b)))
      { live with brd := { live.brd with loft := [(12, 0x20731300), (13, 0x01140194), (14, 0x006ACFC0), (15, 0x001E8480)] } }
      = some (1, 1, 1735711200000, 7000000, 2000000) := by decide

/-- R267, worked example: 20 ports of 48 KiB and 12 of 4 KiB take 1,008 KiB of the pool. -/
theorem test_pool_of_kettle_ridge :
    poolUsed ((List.range 32).foldl (fun s p => (s.wr R.hdr_EN [192 + p] 1).wr R.vl_RXBUF [p] (if p < 20 then 11 else 0)) live)
      = 1008 * 1024 := by decide

/-- R99: the check value of CRC-32C with these parameters, over the nine digits 1 to 9. -/
theorem test_crc32c_check : crc32c [0x31, 0x32, 0x33, 0x34, 0x35, 0x36, 0x37, 0x38, 0x39] = 0xE3069283 := by decide

/-- R29, R44: after reset UDP_PORT reads 49,820. -/
theorem test_reset_udp_port : State.reset.rd R.host_UDP_PORT [] = 49820 := by decide

/-- The queue is taken from the front, and a commit of a page that no world may write counts as a violation (R11, R43). -/
theorem test_step_takes_the_front :
    (match step { live with pending := [.commit 3 4, .gKick 0] } with
      | .next t => (t.pending, t.rd R.host_VIOL [3])
      | _ => ([], 0)) = ([.gKick 0], 1) := by decide

/-- With an empty queue and Spar counting nothing but the queue could move: the state stays. -/
theorem test_step_idles : step (on [4] live) = .next (on [4] live) := by rfl

/-- EveryStepKeepsTheCanonicalForm has a state that meets its hypotheses. -/
theorem test_EveryStepKeepsTheCanonicalForm :
    State.reset.canon = true ∧ ∃ t, step State.reset = .next t := ⟨by decide, _, rfl⟩

/-- HostRequestsExecute, first clause: a datagram that meets every hypothesis but the opening of its ciphertext, which the
spec leaves to AES-GCM (Config.gcmOpen has no value in Lean): where that opens it, all of them hold. -/
theorem test_HostRequestsExecute_1 (plain : List Byte)
    (h : Config.gcmOpen [] (dgIv 1 0) (dgHeader 1 3 1 1 0) [0] [0] = some plain) :
    (fun s : State => fun dg : HostDatagram => s.runs 8 = true ∧ dgFormed s dg = true ∧ openDg s (dg.world - 3) dg = some plain)
      ((((slotted 7 1 (on [8] live)).wr R.slot_ENGINE [7] 2).wr R.slot_UNIT [7] 3).wr R.sess_SESS_KEY [0] 7 |>.wr R.sess_SESS_EN [0] 1)
      ⟨0, 0, 49820, 1, 3, 1, 1, 0, [0], [0]⟩ :=
  ⟨by decide, by decide, h⟩

/-- Hypotheses of the cases of CryptoJobsGiveTheirResults on jobs that do not run. -/
theorem test_CryptoJobsGiveTheirResults_4 :
    (fun s : State => decide (jobAt s 0 0 = some (aJob 1 0 32 0) ∧ (aJob 1 0 32 0).op ≠ 2 ∧ jobAt s 0 1 = none))
      (jobbed (aJob 1 0 32 0) live) = true := by decide
theorem test_CryptoJobsGiveTheirResults_4_1 :
    (fun (j : Job) (s : State) => decide (jobAt s 0 0 = some j ∧ j.op = 1 ∧ mayStart s j = true ∧ 1 < j.alg))
      { aJob 1 0 32 0 with alg := 2 } (jobbed { aJob 1 0 32 0 with alg := 2 } live) = true := by decide

/-- Hypotheses of the watchdog kicks of SuppliesAndSourcesRaiseResets, for W0, W1 and W2. -/
theorem test_SuppliesAndSourcesRaiseResets_7 :
    (fun s : State => decide (s.canWrite 0 1 = true ∧ s.canWrite 1 1 = true ∧ s.canWrite 2 1 = true))
      (live.wr R.hdr_OWN_WRITE [1] 6) = true := by decide

/-- Hypotheses of the flash commands of OptionsFlashAndCoresStart. -/
theorem test_OptionsFlashAndCoresStart_4 : live.canWrite 0 0 = true := by decide

/-- Hypotheses of ResetsAreAcceptedAndApplied on sources that ask for a reset, and on none. -/
theorem test_ResetsAreAcceptedAndApplied_1 :
    (fun s : State => (s.rst.loading = false ∧ ∃ n, n < 12 ∧ bitB s.rst.req n = true) ∨
      (∃ n, n < 12 ∧ bitB s.rst.req n = true ∧ levelOf s n < s.rd R.rst_LAST_LEVEL []))
      { live with rst := { live.rst with req := 2048 } } := .inl ⟨by decide, 11, by decide, by decide⟩
theorem test_ResetsAreAcceptedAndApplied_2 :
    (fun s : State => s.rst.loading = true ∧ (∃ n, n < 12 ∧ bitB s.rst.req n = true) ∧
      (∀ n : Fin 12, bitB s.rst.req n.val = true → s.rd R.rst_LAST_LEVEL [] ≤ levelOf s n.val))
      { live with rst := { live.rst with loading := true, req := 1 } } := ⟨by decide, ⟨0, by decide, by decide⟩, by decide⟩
theorem test_DemandsTripZonesAndRemovePower_15 :
    (fun (n : Fin 48) (s : State) => s.safe.pairs[n].disc = none ∨
      (∃ d, s.safe.pairs[n].disc = some d ∧ d < 20 * s.cf R.scfg_DISC [n.val]) ∨
      (s.cf R.scfg_KIND [n.val] ≠ 1 ∧ s.cf R.scfg_KIND [n.val] ≠ 2) ∨ bitB (s.rd R.safe_DISC_FLT []) n.val = true ∨
      s.inReset 18 = true) 47 live := .inl (by decide)
theorem test_ReelMovesBytes_8 :
    (fun (c : Fin 64) (n : Nat) (s : State) => s.reel[c].move = none ∨
      (∃ p, chPiece s c = some p ∧ (n = 0 ∨ s.runs 24 = false ∨ engineFree s c = false ∨ chReady s c = false)))
      63 0 live := .inl (by decide)
theorem test_ResetsAreAcceptedAndApplied_3 :
    ∀ n, n < 12 → bitB live.rst.req n = false :=
  fun n h => (by decide : ∀ k : Fin 12, bitB live.rst.req k.val = false) ⟨n, h⟩

/-! ## Witnesses -/

theorem test_StepRunsTheFrontCommand_1 :
    (fun (c : Instr) (rest : List Instr) (s : State) =>
      decide ((s.pending = c :: rest))) (.gKick 0) ([]) ({ live with pending := [.gKick 0] }) = true := by decide

theorem test_StepRunsTheFrontCommand_2 :
    (fun (s : State) =>
      decide ((s.pending = []))) ({ live with pending := [] }) = true := by decide

theorem test_UngrantedCommandsOnlyCount_1a :
    (fun (c : Instr) (w : World) (p : Nat) (s : State) =>
      decide ((writerOf c = some (w, p)) ∧
        (s.canWrite w p = false))) (.commit 3 4) (3) (4) (live) = true := by decide

theorem test_UngrantedCommandsOnlyCount_1b :
    (fun (c : Instr) (w : World) (p : Nat) (s : State) =>
      decide ((writerOf c = some (w, p)) ∧
        (s.canWrite w p = false))) (.hb 3 31) (3) (191) (live) = true := by decide

theorem test_HeaderEventAndErrorWrites_1 :
    (fun (w : World) (p : Page) (_v : Word) (s : State) =>
      decide ((s.canWrite w p.val = true))) (0) (4) (0xFFFFFFFF) (live.wr R.hdr_IRQ_RAW [4] 5) = true := by decide

theorem test_HeaderEventAndErrorWrites_2 :
    (fun (w : World) (p : Page) (_v : Word) (s : State) =>
      decide ((s.canWrite w p.val = true))) (0) (387) (5) (live) = true := by decide

theorem test_HeaderEventAndErrorWrites_3 :
    (fun (w : World) (p : Page) (s : State) =>
      decide ((s.canWrite w p.val = true))) (0) (4) (live.setErr 4 3) = true := by decide

theorem test_OwnerIsWrittenByGondolaAlone_1 :
    (fun (w : World) (_p : Page) (_v : Word) (_s : State) =>
      decide ((w ≠ 0))) (1) (4) (0) (live) = true := by decide

theorem test_OwnerIsWrittenByGondolaAlone_3 :
    (fun (_s : State) (p : Page) =>
      decide ((blockOf p.val ≠ some 14) ∧
        (blockOf p.val ≠ some 15))) (live) (255) = true := by decide

theorem test_OwnerIsWrittenByGondolaAlone_4a :
    (fun (_s : State) (p : Page) (n : Nat) =>
      decide ((blockOf p.val = some 14 ∨ blockOf p.val = some 15) ∧
        (n ≠ 1))) (live) (256) (0) = true := by decide

theorem test_OwnerIsWrittenByGondolaAlone_4b :
    (fun (_s : State) (p : Page) (n : Nat) =>
      decide ((blockOf p.val = some 14 ∨ blockOf p.val = some 15) ∧
        (n ≠ 1))) (live) (319) (9) = true := by decide

theorem test_OwnerIsWrittenByGondolaAlone_5a :
    (fun (_s : State) (p : Page) (n : Nat) =>
      decide ((blockOf p.val = some 5 ∨ blockOf p.val = some 6) ∧
        (n ≠ 0))) (live) (8) (1) = true := by decide

theorem test_OwnerIsWrittenByGondolaAlone_5b :
    (fun (_s : State) (p : Page) (n : Nat) =>
      decide ((blockOf p.val = some 5 ∨ blockOf p.val = some 6) ∧
        (n ≠ 0))) (live) (19) (9) = true := by decide

theorem test_HostPagesBelongToGondola_1 :
    (fun (_s : State) (p : Page) =>
      decide ((blockOf p.val = some 5))) (live) (11) = true := by decide

theorem test_CommitsArmApplyAndCancel_1 :
    (fun (w : World) (p : Page) (s : State) =>
      decide ((s.canWrite w p.val = true) ∧
        (isAreaPage p.val = false) ∧
        (s.rd R.hdr_COMMIT_PEND [p.val] = 0) ∧
        (s.enOf p.val = true) ∧
        (s.sparRuns = true))) (0) (4) (on [4, 64, 32] live) = true := by decide

theorem test_CommitsArmApplyAndCancel_2 :
    (fun (w : World) (i : Stage) (s : State) =>
      decide ((s.canWrite w (65 + i.val / 4) = true) ∧
        (s.rd R.stgA_A_PEND [i.val] = 0) ∧
        (s.enOf (65 + i.val / 4) = true) ∧
        (s.sparRuns = true))) (0) (127) (on [4, 64] live) = true := by decide

theorem test_CommitsArmApplyAndCancel_3a :
    (fun (p : Page) (s : State) =>
      decide ((s.arms.any (fun a => decide (a.unit = .page p) && a.due s) = true) ∧
        (blockOf p.val ≠ some 14))) (304) ({ (on [4, 304] live) with arms := [⟨.page 304, 0, 0, 0, false⟩], spar := { live.spar with serial := 1 } }) = true := by decide

theorem test_CommitsArmApplyAndCancel_3b :
    (fun (p : Page) (s : State) =>
      decide ((s.arms.any (fun a => decide (a.unit = .page p) && a.due s) = true) ∧
        (blockOf p.val ≠ some 14))) (4) ({ (on [4, 4] live) with arms := [⟨.page 4, 0, 0, 0, false⟩], spar := { live.spar with serial := 1 } }) = true := by decide

theorem test_CommitsArmApplyAndCancel_4a :
    (fun (p : Page) (s : State) =>
      decide ((s.arms.any (fun a => decide (a.unit = .page p) && a.due s) = true) ∧
        (blockOf p.val = some 14) ∧
        (s.rd R.hdr_COMMIT_PEND [p.val] = 1))) (257) ((fun t : State => { t with regs := t.regs.putShadow R.ch_SEG_N [0, 0] 2 }) (({ (on [4, 257] live) with arms := [⟨.page 257, 0, 0, 0, false⟩], spar := { live.spar with serial := 1 } }).wr R.hdr_COMMIT_PEND [257] 1)) = true := by decide

theorem test_CommitsArmApplyAndCancel_4b :
    (fun (p : Page) (s : State) =>
      decide ((s.arms.any (fun a => decide (a.unit = .page p) && a.due s) = true) ∧
        (blockOf p.val = some 14) ∧
        (s.rd R.hdr_COMMIT_PEND [p.val] = 1))) (292) ((fun t : State => { t with regs := t.regs.putShadow R.mt_CREEP_PPM [35] 7 }) (({ (on [4, 292] live) with arms := [⟨.page 292, 0, 0, 0, false⟩], spar := { live.spar with serial := 1 } }).wr R.hdr_COMMIT_PEND [292] 1)) = true := by decide

theorem test_CommitsArmApplyAndCancel_4c :
    (fun (p : Page) (s : State) =>
      decide ((s.arms.any (fun a => decide (a.unit = .page p) && a.due s) = true) ∧
        (blockOf p.val = some 14) ∧
        (s.rd R.hdr_COMMIT_PEND [p.val] = 1))) (292) ((fun t : State => { t with bill := { t.bill with logSeal := List.replicate 4096 ⟨0, 0, 0, 0, 0, 0, 0, 0, 0⟩ } }) ((fun t : State => { t with regs := t.regs.putShadow R.mt_CREEP_PPM [35] 7 }) (({ (on [4, 292] live) with arms := [⟨.page 292, 0, 0, 0, false⟩], spar := { live.spar with serial := 1 } }).wr R.hdr_COMMIT_PEND [292] 1))) = true := by decide

theorem test_CommitsArmApplyAndCancel_5a :
    (fun (i : Stage) (s : State) =>
      decide ((s.arms.any (fun a => decide (a.unit = .area i) && a.due s) = true))) (127) (((fun t : State => { t with regs := t.regs.putShadow R.stg_BANK [127] 1 }) ({ (on [4, 64] live) with arms := [⟨.area 127, 0, 0, 0, false⟩], spar := { live.spar with serial := 1 } }))) = true := by decide

theorem test_CommitsArmApplyAndCancel_5b :
    (fun (i : Stage) (s : State) =>
      decide ((s.arms.any (fun a => decide (a.unit = .area i) && a.due s) = true))) (0) (((fun t : State => { t with regs := t.regs.putShadow R.stg_BANK [0] 1 }) ((fun t : State => { t with brn := { t.brn with bankSt := Vector.replicate 16 1 } }) ({ (on [4, 64] live) with arms := [⟨.area 0, 0, 0, 0, false⟩], spar := { live.spar with serial := 1 } })))) = true := by decide

theorem test_CommitsArmApplyAndCancel_6a :
    (fun (u : CommitUnit) (s : State) =>
      decide ((s.arms.any (fun a => decide (a.unit = u) && a.due s) = false))) (.page 4) (live) = true := by decide

theorem test_CommitsArmApplyAndCancel_6b :
    (fun (u : CommitUnit) (s : State) =>
      decide ((s.arms.any (fun a => decide (a.unit = u) && a.due s) = false))) (.area 3) (live) = true := by decide

theorem test_CommitsArmApplyAndCancel_7 :
    (fun (w : World) (p : Page) (s : State) =>
      decide ((s.canWrite w p.val = true))) (0) (65) (live) = true := by decide

theorem test_CommitsArmApplyAndCancel_7_1 :
    (fun (w : World) (p : Page) (s : State) =>
      decide ((s.canWrite w p.val = true) ∧
        (isAreaPage p.val = true ∨ s.rd R.hdr_COMMIT_PEND [p.val] = 1 ∨ s.enOf p.val = false ∨ s.sparRuns = false))) (0) (0) (live) = true := by decide

theorem test_CommitsArmApplyAndCancel_7_2 :
    (fun (w : World) (p : Page) (s : State) =>
      decide ((s.canWrite w p.val = true) ∧
        (isAreaPage p.val = true ∨ s.rd R.hdr_COMMIT_PEND [p.val] = 0))) (0) (0) (live) = true := by decide

theorem test_CommitsArmApplyAndCancel_8 :
    (fun (w : World) (i : Stage) (s : State) =>
      decide ((s.canWrite w (65 + i.val / 4) = true))) (0) (0) (live) = true := by decide

theorem test_CommitsArmApplyAndCancel_8_1 :
    (fun (w : World) (i : Stage) (s : State) =>
      decide ((s.canWrite w (65 + i.val / 4) = true) ∧
        (s.rd R.stgA_A_PEND [i.val] = 1 ∨ s.enOf (65 + i.val / 4) = false ∨ s.sparRuns = false))) (0) (0) ((live).wr R.stgA_A_PEND [0] (1)) = true := by decide

theorem test_CommitsArmApplyAndCancel_8_2 :
    (fun (w : World) (i : Stage) (s : State) =>
      decide ((s.canWrite w (65 + i.val / 4) = true) ∧
        (s.rd R.stgA_A_PEND [i.val] = 0))) (0) (0) ((live).wr R.stgA_A_PEND [0] (0)) = true := by decide

theorem test_CommitsArmApplyAndCancel_9 :
    (fun (w : World) (p : Page) (s : State) =>
      decide ((s.canWrite w p.val = true) ∧
        (isAreaPage p.val = false) ∧
        (s.rd R.hdr_COMMIT_PEND [p.val] = 1))) (0) (4) ((on [4] live).wr R.hdr_COMMIT_PEND [4] 1) = true := by decide

theorem test_CommitsArmApplyAndCancel_10 :
    (fun (w : World) (i : Stage) (s : State) =>
      decide ((s.canWrite w (65 + i.val / 4) = true) ∧
        (s.rd R.stgA_A_PEND [i.val] = 1))) (0) (0) ((on [4] live).wr R.stgA_A_PEND [0] 1) = true := by decide

theorem test_CommitsArmApplyAndCancel_11 :
    (fun (p : Page) (_v : Word) (s : State) =>
      decide ((s.dead p.val = false))) (4) (0x00030007) (live) = true := by decide

theorem test_SessionAndCounterWrites_1 :
    (fun (w : World) (_v : Word) (s : State) =>
      decide ((s.canWrite w 8 = true))) (0) (1) (live.violate 0) = true := by decide

theorem test_SessionAndCounterWrites_2 :
    (fun (w : World) (k : Fin 6) (s : State) =>
      decide ((s.canWrite w 9 = true) ∧
        (s.rd R.sess_SESS_EN [k.val] = 0))) (0) (5) ((live).wr R.sess_SESS_EN [5] (0)) = true := by decide

theorem test_HostRequestsExecute_2 :
    (fun (k : Fin 6) (tag : Nat) (q : HostReq) (s : State) =>
      decide ((readyReq s k.val tag 1 = some q) ∧
        (reqStatus q = 0))) (0) (0) (⟨3, 0, 0, 1, 0, 0x40004000, []⟩) ((fun t : State => { t with host := { t.host with reqs := [⟨3, 0, 0, 1, 0, 0x40004000, []⟩] } }) (on [8] live)) = true := by decide

theorem test_HostRequestsExecute_3 :
    (fun (k : Fin 6) (tag : Nat) (q : HostReq) (s : State) =>
      decide ((readyReq s k.val tag 2 = some q) ∧
        (reqStatus q = 0))) (0) (0) (⟨3, 0, 0, 2, 0, 0x40004000, []⟩) ((fun t : State => { t with host := { t.host with reqs := [⟨3, 0, 0, 2, 0, 0x40004000, []⟩] } }) (on [8] live)) = true := by decide

theorem test_HostRequestsExecute_4 :
    (fun (k : Fin 6) (tag : Nat) (q : HostReq) (s : State) =>
      decide ((readyReq s k.val tag 3 = some q))) (0) (0) (⟨3, 0, 0, 3, 0, 0, []⟩) ((fun t : State => { t with host := { t.host with reqs := [⟨3, 0, 0, 3, 0, 0, []⟩] } }) (on [8] live)) = true := by decide

theorem test_HostRequestsExecute_5 :
    (fun (addr : Nat) (len : Nat) (s : State) =>
      decide ((pcieUp s addr = true) ∧
        (pcieOn s = true) ∧
        (pcieFits addr len = true))) (0x1FFF00) (256) ((on [8] live).wr R.host_PCIE_W9_EN [] 1) = true := by decide

theorem test_HostRequestsExecute_6 :
    (fun (addr : Nat) (len : Nat) (_data : List Word) (s : State) =>
      decide ((pcieUp s addr = true) ∧
        (pcieOn s = true) ∧
        (pcieFits addr len = true))) (0x1FFFFC) (4) ([0]) ((on [8] live).wr R.host_PCIE_W9_EN [] 1) = true := by decide

theorem test_RegisterAndMemoryWrites_1 :
    (fun (w : World) (p : Page) (_v : Word) (s : State) =>
      decide ((s.canWrite w p.val = true))) (0) (387) (0x400) (live) = true := by decide

theorem test_RegisterAndMemoryWrites_2 :
    (fun (w : World) (_v : Word) (s : State) =>
      decide ((s.canWrite w 4 = true))) (0) (5) ((((live.wr R.reg_EN [15] 1).wr R.reg_WR [15] 1).wr R.reg_BASE [15] 0xFFFF).wr R.reg_SIZE [15] 1) = true := by decide

theorem test_RegisterAndMemoryWrites_3 :
    (fun (w : World) (p : Page) (o : Nat) (_v : Word) (s : State) =>
      decide ((o < 4096) ∧
        (o % 4 = 0) ∧
        (writeOk s w p.val o = true))) (0) (0) (0) (0) (live) = true := by decide

theorem test_RegisterAndMemoryWrites_3_1 :
    (fun (w : World) (p : Page) (o : Nat) (v : Word) (s : State) =>
      decide ((o < 4096) ∧
        (o % 4 = 0) ∧
        (writeOk s w p.val o = true) ∧
        (busyAt s p.val o v.toNat = true))) (0) (65) (0x100) (1) (live.wr R.stgA_A_PEND [0] 1) = true := by decide

theorem test_RegisterAndMemoryWrites_3_2 :
    (fun (w : World) (p : Page) (o : Nat) (v : Word) (s : State) =>
      decide ((o < 4096) ∧
        (o % 4 = 0) ∧
        (writeOk s w p.val o = true) ∧
        (busyAt s p.val o v.toNat = false))) (0) (0) (0) (0) (live) = true := by decide

theorem test_RegisterAndMemoryWrites_4 :
    (fun (_w : World) (a : Nat) (size : Nat) (_v : Word) (_s : State) =>
      decide ((inPages a = true) ∧
        (size ≠ 4 ∨ a % 4 ≠ 0))) (0) (0x40000001) (4) (5) (live) = true := by decide

theorem test_RegisterAndMemoryWrites_5 :
    (fun (w : World) (p : Page) (o : Nat) (_v : Word) (s : State) =>
      decide ((o < 4096) ∧
        (o % 4 = 0) ∧
        (writeOk s w p.val o = false))) (3) (0) (0) (5) (live) = true := by decide

theorem test_RegisterAndMemoryWrites_6 :
    (fun (w : World) (a : Nat) (size : Nat) (_v : Word) (s : State) =>
      decide ((size ≤ 4) ∧
        ((∀ k, k < size → inDram (0x100000000 + a + k) = true ∧ dramOk s w.val (a + k) true = true)))) (0) (0) (0) (0) (live) = true := by decide

theorem test_RegisterAndMemoryWrites_7 :
    (fun (w : World) (a : Nat) (size : Nat) (_v : Word) (s : State) =>
      decide ((1 ≤ size) ∧
        (size ≤ 4) ∧
        ((∀ k, k < size → inDram (0x100000000 + a + k) = true ∧ dramOk s w.val (a + k) true = false)))) (3) (0) (1) (5) (live) = true := by decide

theorem test_RegisterAndMemoryWrites_8 :
    (fun (a : Nat) (size : Nat) (_v : Word) (_s : State) =>
      decide ((size ≤ 4) ∧
        (a + size ≤ sramSize 0))) (0) (0) (0) (live) = true := by decide

theorem test_RegisterAndMemoryWrites_9 :
    (fun (a : Nat) (size : Nat) (_v : Word) (_s : State) =>
      decide ((size ≤ 4) ∧
        (a + size ≤ sramSize 1))) (0) (0) (0) (live) = true := by decide

theorem test_PeriodsTicksAndCyclesFollow_1 :
    (fun (_q : PeriodIn) (s : State) =>
      decide ((s.sparRuns = true) ∧
        (s.spar.periodDue = false) ∧
        (s.spar.alignFrame = none) ∧
        (s.spar.period < 800))) (aPeriod) (on [4] live) = true := by decide

theorem test_PeriodsTicksAndCyclesFollow_2 :
    (fun (_q : PeriodIn) (s : State) =>
      decide ((s.sparRuns = true) ∧
        (s.spar.periodDue = true))) (aPeriod) ((fun t : State => { t with spar := { t.spar with periodDue := true } }) (on [4] live)) = true := by decide

theorem test_PeriodsTicksAndCyclesFollow_3 :
    (fun (_ecc : List (Fin 4096)) (_td : List (Option Int)) (s : State) =>
      decide ((s.sparRuns = true) ∧
        (s.spar.tickDue = true))) ([]) ([]) ((fun t : State => { t with spar := { t.spar with tickDue := true } }) (on [4] live)) = true := by decide

theorem test_PeriodsTicksAndCyclesFollow_4 :
    (fun (s : State) =>
      decide ((s.sparRuns = true) ∧
        (s.spar.cycleDue = true) ∧
        (s.spar.periodDue = false))) ((fun t : State => { t with spar := { t.spar with periodDue := false } }) ((fun t : State => { t with spar := { t.spar with cycleDue := true } }) (on [4] live))) = true := by decide

theorem test_PeriodsTicksAndCyclesFollow_5 :
    (fun (_q : PeriodIn) (s : State) =>
      decide ((s.sparRuns = false))) (aPeriod) (live) = true := by decide

theorem test_PeriodsTicksAndCyclesFollow_6 :
    (fun (_ecc : List (Fin 4096)) (_td : List (Option Int)) (s : State) =>
      decide ((s.sparRuns = false ∨ s.spar.tickDue = false))) ([]) ([]) (live) = true := by decide

theorem test_PeriodsTicksAndCyclesFollow_7 :
    (fun (s : State) =>
      decide ((s.sparRuns = false ∨ s.spar.cycleDue = false ∨ s.spar.periodDue = true))) (live) = true := by decide

theorem test_LockStatesFollowTheReference_1 :
    (fun (w : World) (s : State) =>
      decide ((s.canWrite w 4 = true) ∧
        (s.rd R.hdr_EN [4] = 0) ∧
        (s.inReset 4 = false))) (0) ((live).wr R.hdr_EN [4] (0)) = true := by decide

theorem test_LockStatesFollowTheReference_2 :
    (fun (w : World) (s : State) =>
      decide ((s.canWrite w 4 = true) ∧
        (s.rd R.hdr_EN [4] = 0) ∧
        (s.inReset 4 = true))) (0) (heldIn 4 live) = true := by decide

theorem test_LockStatesFollowTheReference_3 :
    (fun (w : World) (s : State) =>
      decide ((s.canWrite w 4 = true) ∧
        (s.rd R.hdr_EN [4] = 1))) (0) ((live).wr R.hdr_EN [4] (1)) = true := by decide

theorem test_LockStatesFollowTheReference_4 :
    (fun (_l1 : RefCycle) (_l2 : RefCycle) (_l3 : RefCycle) (s : State) =>
      decide ((s.sparRuns = true))) (⟨0, 50000000, 0, 0⟩) (⟨0, 50000000, 0, 0⟩) (⟨0, 50000000, 0, 0⟩) (on [4] live) = true := by decide

theorem test_LockStatesFollowTheReference_5 :
    (fun (_l1 : RefCycle) (_l2 : RefCycle) (_l3 : RefCycle) (s : State) =>
      decide ((s.sparRuns = false))) (⟨0, 50000000, 0, 0⟩) (⟨0, 50000000, 0, 0⟩) (⟨0, 50000000, 0, 0⟩) (live) = true := by decide

theorem test_FollowingAndAlignment_1 :
    (fun (s : State) =>
      decide ((s.canWrite 0 4 = true) ∧
        (s.rd R.spar_FOLLOW [] = 0))) ((live).wr R.spar_FOLLOW [] (0)) = true := by decide

theorem test_FollowingAndAlignment_2 :
    (fun (s : State) =>
      decide ((s.canWrite 0 4 = true) ∧
        (s.rd R.spar_FOLLOW [] = 1))) ((live).wr R.spar_FOLLOW [] (1)) = true := by decide

theorem test_FollowingAndAlignment_3 :
    (fun (_period : Nat) (_angle : Nat) (c : Nat) (s : State) =>
      decide ((s.sparRuns = true) ∧
        (followsTether s = true) ∧
        (s.spar.alignDue = true) ∧
        (s.rd R.teth_TSTATE [] = 1 ∨ s.rd R.teth_TSTATE [] = 2) ∧
        (s.spar.alignCycle = some c) ∧
        (s.spar.cycle ≠ c))) (799) (65535) (7) ((fun t : State => { t with spar := { t.spar with alignDue := true, alignCycle := some 7 } }) (((((on [4, 352] live).wr R.spar_FOLLOW [] 1).wr R.teth_TSTATE [] 1).wr R.teth_PAIR_EN [] 1).wr R.teth_TDOWN [] 0)) = true := by decide

theorem test_FollowingAndAlignment_4 :
    (fun (_src : Nat) (_f : TimeFrame) (s : State) =>
      decide ((s.sparRuns = true) ∧
        (s.rd R.spar_FOLLOW [] = 1) ∧
        (s.rd R.teth_TDOWN [] = 1))) (0) (⟨1, 0, 2, 9, 0, 50000000, 3, 0⟩) (((on [4] live).wr R.spar_FOLLOW [] (1)).wr R.teth_TDOWN [] (1)) = true := by decide

theorem test_WallTimeIsSet_1 :
    (fun (s : State) =>
      decide ((s.canWrite 0 4 = true) ∧
        (s.rd R.wset_SLEW [] = 1) ∧
        ((((s.rd R.spar_WALL_SET [] : Int) * 200000000 - s.spar.wall).natAbs ≤ 1000 * 200000000)))) ((live).wr R.wset_SLEW [] (1)) = true := by decide

theorem test_WallTimeIsSet_2 :
    (fun (s : State) =>
      decide ((s.canWrite 0 4 = true) ∧
        (s.sparRuns = true) ∧
        (s.rd R.wset_SLEW [] = 0 ∨ 1000 * 200000000 < ((s.rd R.spar_WALL_SET [] : Int) * 200000000 - s.spar.wall).natAbs))) (on [4] live) = true := by decide

theorem test_WallTimeIsSet_3 :
    (fun (s : State) =>
      decide ((s.canWrite 0 4 = true) ∧
        (s.sparRuns = false) ∧
        (s.rd R.wset_SLEW [] = 0 ∨ 1000 * 200000000 < ((s.rd R.spar_WALL_SET [] : Int) * 200000000 - s.spar.wall).natAbs))) ({ live with rst := { live.rst with inReset := live.rst.inReset.set 15 true } }) = true := by decide

theorem test_WallTimeIsSet_4 :
    (fun (w : World) (s : State) =>
      decide ((w ≠ 0) ∧
        (s.canWrite w 4 = true))) (1) (live.wr R.hdr_OWN_WRITE [4] 3) = true := by decide

theorem test_WallTimeIsSet_5 :
    (fun (s : State) (v : Nat) (k : Nat) (a : Bool) =>
      decide ((s.spar.step = some ⟨v, a, k⟩) ∧
        (k < s.spar.serial ∨ s.sparRuns = false))) ((fun t : State => { t with spar := { t.spar with step := some ⟨0, false, 0⟩ } }) (live)) (0) (0) (false) = true := by decide

theorem test_WallTimeIsSet_6 :
    (fun (s : State) =>
      decide (((∀ x, s.spar.step = some x → s.spar.serial ≤ x.at_ ∧ s.sparRuns = true)))) (live) = true := by decide

theorem test_WallTimeIsSet_7 :
    (fun (s : State) =>
      decide ((s.rd R.wall_SLEWING [] = 1) ∧
        (s.spar.slewRem = 0))) ((fun t : State => { t with spar := { t.spar with slewRem := 0 } }) ((live).wr R.wall_SLEWING [] (1))) = true := by decide

theorem test_WallTimeIsSet_8 :
    (fun (s : State) =>
      decide ((s.rd R.wall_SLEWING [] = 0 ∨ s.spar.slewRem ≠ 0))) ((live).wr R.wall_SLEWING [] (0)) = true := by decide

theorem test_WallTimeIsSet_9 :
    (fun (w : World) (s : State) =>
      decide ((s.canWrite w 4 = true))) (0) (live) = true := by decide

theorem test_EventEntriesAndTheirFiring_1a :
    (fun (w : World) (n : Fin 256) (v : Word) (s : State) =>
      decide ((mayWriteEntry s w n.val = true) ∧
        (s.rd R.evt_ARM [n.val] = 0 ∨ v.getLsbD 31 = false))) (1) (31) (5) ((live).wr R.evt_ARM [31] (0)) = true := by decide

theorem test_EventEntriesAndTheirFiring_1b :
    (fun (w : World) (n : Fin 256) (v : Word) (s : State) =>
      decide ((mayWriteEntry s w n.val = true) ∧
        (s.rd R.evt_ARM [n.val] = 0 ∨ v.getLsbD 31 = false))) (0) (255) (0x80000005) ((live).wr R.evt_ARM [255] (0)) = true := by decide

theorem test_EventEntriesAndTheirFiring_2a :
    (fun (w : World) (n : Fin 256) (v : Word) (s : State) =>
      decide ((mayWriteEntry s w n.val = true) ∧
        (s.rd R.evt_ARM [n.val] = 1) ∧
        (v.getLsbD 31 = true))) (1) (0) (0x80000000) (((live).wr R.evt_ARM [0] (1)).wr R.evt_ARM [0] 1) = true := by decide

theorem test_EventEntriesAndTheirFiring_2b :
    (fun (w : World) (n : Fin 256) (v : Word) (s : State) =>
      decide ((mayWriteEntry s w n.val = true) ∧
        (s.rd R.evt_ARM [n.val] = 1) ∧
        (v.getLsbD 31 = true))) (0) (32) (0x80000000) ((live).wr R.evt_ARM [32] (1)) = true := by decide

theorem test_EventEntriesAndTheirFiring_3a :
    (fun (n : Fin 256) (s : State) =>
      decide ((s.sparRuns = true) ∧
        (s.spar.periodDue = false) ∧
        (evtDue s n.val = true) ∧
        (¬(isStrobe s n.val = true ∧ strobeTooSoon s = true)))) (255) (((on [4] live).wr R.evt_ARM [255] 1).wr R.evt_MODE [255] 0) = true := by decide

theorem test_EventEntriesAndTheirFiring_3b :
    (fun (n : Fin 256) (s : State) =>
      decide ((s.sparRuns = true) ∧
        (s.spar.periodDue = false) ∧
        (evtDue s n.val = true) ∧
        (¬(isStrobe s n.val = true ∧ strobeTooSoon s = true)))) (3) ((((on [4] live).wr R.evt_ARM [3] 1).wr R.evt_MODE [3] 0).wr R.evt_KIND [3] 2) = true := by decide

theorem test_EventEntriesAndTheirFiring_4 :
    (fun (n : Fin 256) (s : State) =>
      decide ((s.sparRuns = true) ∧
        (s.spar.periodDue = false) ∧
        (evtDue s n.val = true) ∧
        (s.rd R.evt_KIND [n.val] = 0) ∧
        (n.val ≠ 2))) (32) (((on [4] live).wr R.evt_ARM [32] 1).wr R.evt_MODE [32] 0) = true := by decide

theorem test_EventEntriesAndTheirFiring_5 :
    (fun (n : Fin 256) (k : Nat) (s : State) =>
      decide ((s.sparRuns = true) ∧
        (s.spar.periodDue = false) ∧
        (evtDue s n.val = true) ∧
        (isStrobe s n.val = true) ∧
        (s.spar.lastStrobe = some k) ∧
        (k < s.spar.serial) ∧
        (s.spar.serial ≤ k + 3))) (0) (0) ({ ((on [4] live).wr R.evt_ARM [0] 1).wr R.evt_KIND [0] 2 with spar := { live.spar with serial := 3, periodDue := false, lastStrobe := some 0 } }) = true := by decide

theorem test_EventEntriesAndTheirFiring_6 :
    (fun (n : Fin 256) (s : State) =>
      decide ((s.sparRuns = false ∨ s.spar.periodDue = true ∨ evtDue s n.val = false))) (0) (live) = true := by decide

theorem test_EventEntriesAndTheirFiring_7 :
    (fun (w : World) (_i : Fin 8) (_v : Word) (s : State) =>
      decide ((s.canWrite w 4 = true))) (0) (0) (0) (live) = true := by decide

theorem test_UplinksAndLineStates_1 :
    (fun (i : Stage) (body : List Byte) (_sof : Nat) (s : State) =>
      decide ((s.runs 32 = true) ∧
        (s.rd R.line_LSTATE [i.val] ≠ 0) ∧
        (s.windowClosed = false) ∧
        (upGoodCrc body i.val = true) ∧
        (fld body 0 1 = 9))) (127) ((fun t => t ++ leBytes 4 (frameCrc 127 t)) ([9] ++ List.replicate 23 0)) (0) ({ (on [32] live).wr R.line_LSTATE [127] (1) with windowClosed := false }) = true := by decide

theorem test_UplinksAndLineStates_2 :
    (fun (i : Stage) (_body : List Byte) (_sof : Nat) (s : State) =>
      decide ((s.runs 32 = true) ∧
        (s.rd R.line_LSTATE [i.val] ≠ 0) ∧
        (s.windowClosed = false))) (0) ([]) (0) ({ (on [32] live).wr R.line_LSTATE [0] (1) with windowClosed := false }) = true := by decide

theorem test_UplinksAndLineStates_3 :
    (fun (i : Stage) (_body : List Byte) (_c : Bool) (_sof : Nat) (s : State) =>
      decide ((s.rd R.line_LSTATE [i.val] = 0 ∨ s.windowClosed = true))) (0) ((fun t => t ++ leBytes 4 (frameCrc 0xFFFF t)) ([10, 0, 0, 0, 0, 0, 0, 0, 0, 1] ++ List.replicate 14 0)) (false) (1920) ((live).wr R.line_LSTATE [0] (0)) = true := by decide

theorem test_UplinksAndLineStates_4 :
    (fun (i : Stage) (body : List Byte) (_sof : Nat) (s : State) =>
      decide ((s.runs 32 = true) ∧
        (s.rd R.line_LSTATE [i.val] = 1) ∧
        ((s.line i).probed = true) ∧
        (upGoodCrc body 0xFFFF = true) ∧
        (fld body 0 1 = 10))) (0) ((fun t => t ++ leBytes 4 (frameCrc 0xFFFF t)) ([10, 0, 0, 0, 0, 0, 0, 0, 0, 1] ++ List.replicate 14 0)) (1920) ((fun t : State => { t with lines := vupd t.lines 0 (fun x => { x with probed := true }) }) ((on [32] live).wr R.line_LSTATE [0] 1)) = true := by decide

theorem test_UplinksAndLineStates_5 :
    (fun (i : Stage) (_body : List Byte) (_c : Bool) (_sof : Nat) (s : State) =>
      decide (((s.line i).probed = false ∨ s.rd R.line_LSTATE [i.val] ≠ 1))) (0) ([]) (false) (0) ((fun t : State => { t with lines := vupd t.lines 0 (fun x => { x with probed := false }) }) (live)) = true := by decide

theorem test_UplinksAndLineStates_6 :
    (fun (s : State) =>
      decide ((s.windowClosed = false) ∧
        (s.runs 32 = true))) (on [32] { live with windowClosed := false }) = true := by decide

theorem test_UplinksAndLineStates_7 :
    (fun (s : State) =>
      decide ((s.windowClosed = true))) ({ live with windowClosed := true }) = true := by decide

theorem test_UplinksAndLineStates_8 :
    (fun (i : Stage) (s : State) =>
      decide ((s.rd R.line_LSTATE [i.val] = 3) ∧
        (3 ≤ (s.line i).misses))) (0) ((fun t : State => { t with lines := vupd t.lines 0 (fun x => { x with misses := 3 }) }) ((live).wr R.line_LSTATE [0] (3))) = true := by decide

theorem test_UplinksAndLineStates_9 :
    (fun (i : Stage) (s : State) =>
      decide ((s.rd R.line_LSTATE [i.val] ≠ 3 ∨ (s.line i).misses < 3))) (0) ((live).wr R.line_LSTATE [0] (0)) = true := by decide

theorem test_UplinksAndLineStates_10 :
    (fun (i : Stage) (n : Nat) (s : State) =>
      decide (((s.line i).attachTmr = some n) ∧
        (8 < n ∨ (n = 8 ∧ s.windowClosed = true)) ∧
        (s.rd R.line_LSTATE [i.val] = 2 ∨ s.rd R.line_LSTATE [i.val] = 4))) (127) (9) ((fun t : State => { t with lines := vupd t.lines 127 (fun x => { x with attachTmr := some 9 }) }) (live.wr R.line_LSTATE [127] 4)) = true := by decide

theorem test_UplinksAndLineStates_11 :
    (fun (w : World) (i : Stage) (s : State) =>
      decide ((s.canWrite w (32 + i.val / 4) = true))) (0) (0) (live) = true := by decide

theorem test_UplinksAndLineStates_12 :
    (fun (w : World) (i : Stage) (s : State) =>
      decide ((s.canWrite w (32 + i.val / 4) = true))) (0) (0) (live) = true := by decide

theorem test_UplinksAndLineStates_12_1 :
    (fun (w : World) (i : Stage) (s : State) =>
      decide ((s.canWrite w (32 + i.val / 4) = true) ∧
        (s.rd R.line_LSTATE [i.val] = 2 ∨ s.rd R.line_LSTATE [i.val] = 4))) (0) (0) ((live).wr R.line_LSTATE [0] (2)) = true := by decide

theorem test_UplinksAndLineStates_12_2 :
    (fun (w : World) (i : Stage) (s : State) =>
      decide ((s.canWrite w (32 + i.val / 4) = true) ∧
        (s.rd R.line_LSTATE [i.val] ≠ 2) ∧
        (s.rd R.line_LSTATE [i.val] ≠ 4))) (0) (0) (((live).wr R.line_LSTATE [0] (0)).wr R.line_LSTATE [0] (0)) = true := by decide

theorem test_UplinksAndLineStates_13 :
    (fun (w : World) (i : Stage) (s : State) =>
      decide ((s.canWrite w (32 + i.val / 4) = true))) (0) (0) (live) = true := by decide

theorem test_DownlinkWindowSpeaksByClaim_1 :
    (fun (heard : List (Stage × DownFrame)) (_echo : List Stage) (s : State) =>
      decide ((s.windowSent = false) ∧
        (s.windowClosed = true) ∧
        (s.runs 32 = true) ∧
        (s.active = true) ∧
        (s.rd R.rst_MODE [] ≠ 3) ∧
        (s.runs 64 = true) ∧
        (mustDemote s.teth.lastHeard s = false) ∧
        (mustDemote (claimsOf heard s) s = false))) ([]) ([]) ((({ { on [32, 64] live with windowSent := false } with windowClosed := true }).wr R.teth_ACTIVE [] 1).wr R.rst_MODE [] (0)) = true := by decide

theorem test_DownlinkWindowSpeaksByClaim_2 :
    (fun (_heard : List (Stage × DownFrame)) (_echo : List Stage) (s : State) =>
      decide ((s.windowSent = false) ∧
        (s.windowClosed = true) ∧
        (s.runs 32 = true) ∧
        (mustDemote s.teth.lastHeard s = true))) ([]) ([]) ((fun t : State => { t with windowSent := false, windowClosed := true, teth := { t.teth with lastHeard := [2] } }) (((((on [32] live).wr R.teth_ACTIVE [] 1).wr R.teth_PAIR_EN [] 1).wr R.teth_CLAIM [] 1))) = true := by decide

theorem test_DownlinkWindowSpeaksByClaim_3 :
    (fun (_heard : List (Stage × DownFrame)) (_echo : List Stage) (s : State) =>
      decide ((s.windowSent = false) ∧
        (s.windowClosed = true) ∧
        (s.runs 32 = true) ∧
        (s.active = false) ∧
        (s.rd R.rst_MODE [] = 3))) ([]) ([]) (({ { on [32] live with windowSent := false } with windowClosed := true }).wr R.rst_MODE [] (3)) = true := by decide

theorem test_DownlinkWindowSpeaksByClaim_4 :
    (fun (_heard : List (Stage × DownFrame)) (_echo : List Stage) (s : State) =>
      decide ((s.windowSent = true ∨ s.windowClosed = false))) ([]) ([]) ({ live with windowSent := true }) = true := by decide

theorem test_DriverObeysTheGoverningClaim_1 :
    (fun (i : Stage) (body : List Byte) (_eof : Nat) (_iNow : Nat) (s : State) =>
      decide (((s.drv i).attached = true) ∧
        (downGood body (s.drv i).stage = false))) (127) ([1]) (920) (0) ((fun t : State => { t with drivers := vupd t.drivers 127 (fun x => { x with attached := true, stage := 127 }) }) live) = true := by decide

theorem test_DriverObeysTheGoverningClaim_2 :
    (fun (i : Stage) (body : List Byte) (eof : Nat) (_iNow : Nat) (s : State) =>
      decide (((s.drv i).attached = true) ∧
        (downGood body (s.drv i).stage = true) ∧
        (fld body 0 1 = 1) ∧
        (920 ≤ eof) ∧
        (safetyOk (downDecode body) = true) ∧
        ((downDecode body).claim ≠ 0) ∧
        ((downDecode body).claim ∉ (s.drv i).claims) ∧
        ((s.drv i).governing ≤ (downDecode body).claim) ∧
        ((downDecode body).mode ≤ 8) ∧
        ((downDecode body).seq = (s.drv i).expSeq))) (127) ((fun t => t ++ leBytes 4 (frameCrc 127 t)) (downBody { typ := 1, claim := 3, seq := 0, mode := 8, route := 4, safety := 1, safetyN := 254, refA := 5, refB := 6, startDelay := 0, periodLen := 3125, faultClr := false })) (920) (0) ((fun t : State => { t with drivers := vupd t.drivers 127 (fun x => { x with attached := true, stage := 127 }) }) live) = true := by decide

theorem test_DriverObeysTheGoverningClaim_3 :
    (fun (i : Stage) (body : List Byte) (eof : Nat) (_iNow : Nat) (s : State) =>
      decide (((s.drv i).attached = true) ∧
        (downGood body (s.drv i).stage = true) ∧
        (fld body 0 1 = 1) ∧
        (920 ≤ eof) ∧
        ((downDecode body).claim ∉ (s.drv i).claims) ∧
        ((downDecode body).claim < (s.drv i).governing))) (0) ((fun t => t ++ leBytes 4 (frameCrc 0 t)) (downBody { typ := 1, claim := 3, seq := 0, mode := 8, route := 4, safety := 1, safetyN := 254, refA := 5, refB := 6, startDelay := 0, periodLen := 3125, faultClr := false })) (920) (0) ((fun t : State => { t with drivers := vupd t.drivers 0 (fun x => { x with attached := true, hist := [4, 0, 0, 0, 0, 0, 0, 0] }) }) live) = true := by decide

theorem test_DriverObeysTheGoverningClaim_4 :
    (fun (i : Stage) (body : List Byte) (eof : Nat) (_iNow : Nat) (s : State) =>
      decide (((s.drv i).attached = true) ∧
        (downGood body (s.drv i).stage = true) ∧
        (fld body 0 1 = 1) ∧
        (920 ≤ eof) ∧
        ((downDecode body).claim ≠ 0) ∧
        ((downDecode body).claim ∈ (s.drv i).claims) ∧
        ((s.drv i).governing = (downDecode body).claim) ∧
        ((s.drv i).hist.headD 0 = (downDecode body).claim))) (0) ((fun t => t ++ leBytes 4 (frameCrc 0 t)) (downBody { typ := 1, claim := 3, seq := 0, mode := 8, route := 4, safety := 1, safetyN := 254, refA := 5, refB := 6, startDelay := 0, periodLen := 3125, faultClr := false })) (920) (0) ((fun t : State => { t with drivers := vupd t.drivers 0 (fun x => { x with attached := true, stage := 0, claims := [3], hist := [3, 3, 3, 3, 3, 3, 3, 3] }) }) live) = true := by decide

theorem test_DriverObeysTheGoverningClaim_5 :
    (fun (i : Stage) (body : List Byte) (eof : Nat) (_iNow : Nat) (s : State) =>
      decide (((s.drv i).attached = true) ∧
        (downGood body (s.drv i).stage = true) ∧
        (eof < 400))) (127) ((fun t => t ++ leBytes 4 (frameCrc 127 t)) (downBody { typ := 1, claim := 3, seq := 0, mode := 8, route := 4, safety := 1, safetyN := 254, refA := 5, refB := 6, startDelay := 0, periodLen := 3125, faultClr := false })) (399) (0) ((fun t : State => { t with drivers := vupd t.drivers 127 (fun x => { x with attached := true, stage := 127 }) }) live) = true := by decide

theorem test_DriverObeysTheGoverningClaim_6 :
    (fun (i : Stage) (body : List Byte) (eof : Nat) (_iNow : Nat) (s : State) =>
      decide (((s.drv i).attached = true) ∧
        (downGood body (s.drv i).stage = true) ∧
        (fld body 0 1 = 4) ∧
        (920 ≤ eof))) (0) ((fun t => t ++ leBytes 4 (frameCrc 0 t)) (downBody { typ := 4, claim := 3, seq := 0, mode := 8, route := 4, safety := 1, safetyN := 253, refA := 5, refB := 6, startDelay := 0, periodLen := 3125, faultClr := false })) (920) (0) ((fun t : State => { t with drivers := vupd t.drivers 0 (fun x => { x with attached := true, stage := 0 }) }) live) = true := by decide

theorem test_DriverObeysTheGoverningClaim_7 :
    (fun (_i : Stage) (body : List Byte) (eof : Nat) (_iNow : Nat) (_s : State) =>
      decide ((downGood body 0xFFFF = true) ∧
        (fld body 0 1 = 2) ∧
        (920 ≤ eof))) (0) ((fun t => t ++ leBytes 4 (frameCrc 0xFFFF t)) (downBody { typ := 2, claim := 0, seq := 0, mode := 8, route := 4, safety := 0, safetyN := 255, refA := 5, refB := 6, startDelay := 0, periodLen := 3125, faultClr := false })) (920) (0) (live) = true := by decide

theorem test_DriverObeysTheGoverningClaim_8 :
    (fun (_i : Stage) (body : List Byte) (eof : Nat) (_iNow : Nat) (_s : State) =>
      decide ((downGood body 0xFFFF = true) ∧
        (fld body 0 1 = 3) ∧
        (920 ≤ eof))) (0) ((fun t => t ++ leBytes 4 (frameCrc 0xFFFF t)) (downBody { typ := 3, claim := 0, seq := 0, mode := 8, route := 4, safety := 0, safetyN := 255, refA := 5, refB := 6, startDelay := 0, periodLen := 3125, faultClr := false })) (920) (0) (live) = true := by decide

theorem test_DriverObeysTheGoverningClaim_9 :
    (fun (_i : Stage) (body : List Byte) (_eof : Nat) (_iNow : Nat) (_s : State) =>
      decide ((downGood body 0xFFFF = false))) (0) ([]) (0) (0) (live) = true := by decide

theorem test_DriverHoldsRampsAndTrips_1 :
    (fun (i : Stage) (_m : DriverMeas) (_hw : Bool) (c : DrvCmd) (s : State) =>
      decide (((s.drv i).attached = true) ∧
        ((s.drv i).staged = some c) ∧
        ((s.drv i).faulted = false) ∧
        ((s.drv i).opened = false))) (127) (⟨[0, 0, 0, 0], 0, 0⟩) (false) (⟨8, 4, 5, 1, 2, false, 3125⟩) ((fun t : State => { t with drivers := vupd t.drivers 127 (fun x => { x with attached := true, staged := some ⟨8, 4, 5, 1, 2, false, 3125⟩ }) }) live) = true := by decide

theorem test_DriverHoldsRampsAndTrips_2 :
    (fun (i : Stage) (_m : DriverMeas) (_hw : Bool) (s : State) =>
      decide (((s.drv i).attached = true) ∧
        ((s.drv i).staged = none))) (0) (⟨[0, 0, 0, 0], 0, 0⟩) (false) ((fun t : State => { t with drivers := vupd t.drivers 0 (fun x => { x with staged := none }) }) ((fun t : State => { t with drivers := vupd t.drivers 0 (fun x => { x with attached := true }) }) (live))) = true := by decide

theorem test_DriverHoldsRampsAndTrips_5 :
    (fun (i : Stage) (r : Nat) (s : State) =>
      decide (((s.drv i).selTo = some r))) (0) (0) ((fun t : State => { t with drivers := vupd t.drivers 0 (fun x => { x with selTo := some 0 }) }) (live)) = true := by decide

theorem test_DriverHoldsRampsAndTrips_6 :
    (fun (i : Stage) (_weld : Bool) (s : State) =>
      decide (((s.drv i).selTo = none))) (0) (false) ((fun t : State => { t with drivers := vupd t.drivers 0 (fun x => { x with selTo := none }) }) (live)) = true := by decide

theorem test_BanksLoadAndStagesFail_1 :
    (fun (w : World) (b : Fin 16) (_k : Fin 192) (_v : Word) (s : State) =>
      decide ((s.canWrite w (97 + b.val / 4) = true) ∧
        (bankLocked s b.val = false))) (0) (15) (191) (5) (live.wr R.stg_FAILED [0] 0) = true := by decide

theorem test_BanksLoadAndStagesFail_2 :
    (fun (w : World) (_v : Word) (s : State) =>
      decide ((s.canWrite w 64 = true))) (0) (0) (live) = true := by decide

theorem test_BanksLoadAndStagesFail_3 :
    (fun (b : Fin 16) (s : State) =>
      decide ((bankState s b.val = 3))) (15) ((fun t : State => { t with brn := { t.brn with bankSt := t.brn.bankSt.set 15 3 } }) live) = true := by decide

theorem test_BanksLoadAndStagesFail_4 :
    (fun (i : Stage) (s : State) =>
      decide ((resFull s i = true) ∧
        (s.rd R.stg_FAILED [i.val] = 0))) (127) ((fun t : State => { t with stages := vupd t.stages 127 (fun x => { x with resCnt := x.resCnt.set 3 3 }) }) live) = true := by decide

theorem test_BanksLoadAndStagesFail_5 :
    (fun (w : World) (i : Stage) (s : State) =>
      decide ((s.canWrite w (65 + i.val / 4) = true))) (0) (0) (live) = true := by decide

theorem test_BanksLoadAndStagesFail_6 :
    (fun (w : World) (i : Stage) (s : State) =>
      decide ((s.canWrite w (65 + i.val / 4) = true) ∧
        (modeForce s i = 0) ∧
        (bankOk s i = true))) (0) (0) ((fun t : State => { t with brn := { t.brn with bankSt := t.brn.bankSt.set 0 1 } }) live) = true := by decide

theorem test_BanksLoadAndStagesFail_7 :
    (fun (w : World) (i : Stage) (s : State) =>
      decide ((s.canWrite w (65 + i.val / 4) = true))) (0) (0) (live) = true := by decide

theorem test_BanksLoadAndStagesFail_8 :
    (fun (w : World) (s : State) =>
      decide ((s.canWrite w 64 = true))) (0) (live) = true := by decide

theorem test_BanksLoadAndStagesFail_9 :
    (fun (w : World) (b : Fin 16) (_k : Fin 192) (_v : Word) (s : State) =>
      decide ((s.canWrite w (97 + b.val / 4) = true) ∧
        (bankLocked s b.val = true))) (0) (15) (0) (5) ((fun t : State => { t with brn := { t.brn with bankSt := t.brn.bankSt.set 15 1 } }) ((live.wr R.stg_FAILED [0] 0).wr R.stg_BANK_INUSE [0] 15)) = true := by decide

theorem test_BanksLoadAndStagesFail_10 :
    (fun (b : Fin 16) (s : State) =>
      decide ((bankState s b.val ≠ 3))) (0) (live) = true := by decide

theorem test_BanksLoadAndStagesFail_11 :
    (fun (i : Stage) (s : State) =>
      decide ((resFull s i = false ∨ s.rd R.stg_FAILED [i.val] ≠ 0))) (0) (live) = true := by decide

theorem test_BanksLoadAndStagesFail_12 :
    (fun (w : World) (i : Stage) (s : State) =>
      decide ((s.canWrite w (65 + i.val / 4) = true) ∧
        (modeForce s i ≠ 0 ∨ bankOk s i = false))) (0) (0) (live) = true := by decide

theorem test_SpoolArmsTriggersAndStops_1 :
    (fun (w : World) (s : State) =>
      decide ((s.canWrite w 64 = true) ∧
        (s.rd R.spl_STATE [] = 0 ∨ s.rd R.spl_STATE [] = 3))) (0) ((live).wr R.spl_STATE [] (0)) = true := by decide

theorem test_SpoolArmsTriggersAndStops_2 :
    (fun (w : World) (s : State) =>
      decide ((s.canWrite w 64 = true) ∧
        (s.rd R.spl_STATE [] = 1))) (0) ((live).wr R.spl_STATE [] (1)) = true := by decide

theorem test_SpoolArmsTriggersAndStops_3 :
    (fun (w : World) (s : State) =>
      decide ((s.canWrite w 64 = true))) (0) (live) = true := by decide

theorem test_SpoolArmsTriggersAndStops_4 :
    (fun (s : State) =>
      decide ((s.rd R.spl_STATE [] = 2) ∧
        ((∀ n : Fin 16, s.rd R.prb_EN [n.val] = 0 ∨ s.brn.left[n] = 0)))) ((live).wr R.spl_STATE [] (2)) = true := by decide

theorem test_SpoolArmsTriggersAndStops_5 :
    (fun (w : World) (s : State) =>
      decide ((s.canWrite w 64 = true) ∧
        (s.rd R.spl_STATE [] = 1 ∨ s.rd R.spl_STATE [] = 2))) (0) ((live).wr R.spl_STATE [] (1)) = true := by decide

theorem test_SpoolArmsTriggersAndStops_6 :
    (fun (w : World) (s : State) =>
      decide ((s.canWrite w 64 = true) ∧
        (s.rd R.spl_STATE [] ≠ 1))) (0) ((live).wr R.spl_STATE [] (0)) = true := by decide

theorem test_SpoolArmsTriggersAndStops_7 :
    (fun (n : Fin 16) (s : State) =>
      decide ((s.rd R.spl_STATE [] ≠ 2 ∨ (s.rd R.prb_EN [n.val] ≠ 0 ∧ s.brn.left[n] ≠ 0)))) (0) ((live).wr R.spl_STATE [] (0)) = true := by decide

theorem test_RegulationBurstAndHandoverEvents_1 :
    (fun (p : Port) (s : State) =>
      decide ((s.rd R.prt_PSTATE [p.val] = 1) ∧
        ((s.prt p).ssTime ≤ (s.prt p).ssCount) ∧
        ((s.prt p).ssOver = false))) (31) ((fun t : State => { t with ports := vupd t.ports 31 (fun x => { x with ssTime := 1, ssCount := 1, ssOver := false }) }) (live.wr R.prt_PSTATE [31] 1)) = true := by decide

theorem test_RegulationBurstAndHandoverEvents_2 :
    (fun (p : Port) (s : State) =>
      decide ((8 ≤ (s.prt p).burstLow) ∧
        (s.rd R.prt_BURST [p.val] = 0) ∧
        (burstNb s p (burstStages s p).length < (burstStages s p).length))) (0) ((fun t : State => { t with brn := { t.brn with bankSt := t.brn.bankSt.set 0 1 }, ports := vupd t.ports 0 (fun x => { x with burstLow := 8 }) }) ((((live.wr R.line_LSTATE [0] 3).wr R.line_LSTATE [15] 3).wr R.prt_BLAST_LVL [0] 100).wr R.prt_BURST [0] 0)) = true := by decide

theorem test_RegulationBurstAndHandoverEvents_3 :
    (fun (p : Port) (s : State) =>
      decide ((s.rd R.prt_BURST [p.val] = 1) ∧
        (s.rd R.prt_ROT_TICKS [p.val] ≠ 0) ∧
        (s.rd R.prt_ROT_TICKS [p.val] ≤ (s.prt p).rotCnt))) (0) ((fun t : State => { t with ports := vupd t.ports 0 (fun x => { x with rotCnt := 1 }) }) ((live.wr R.prt_BURST [0] 1).wr R.prt_ROT_TICKS [0] 1)) = true := by decide

theorem test_RegulationBurstAndHandoverEvents_4 :
    (fun (i : Stage) (s : State) =>
      decide ((smode s i = 8) ∧
        (8 ≤ (s.stg i).faultAge) ∧
        (smallCurrent s i = true) ∧
        (s.rd R.stg_HO_ABORT [i.val] = 0))) (0) (((fun t : State => { t with stages := vupd t.stages 0 (fun x => { x with faultAge := 8 }) }) ((fun t : State => { t with stages := vupd t.stages 0 (fun x => { x with mode := 8 }) }) (live))).wr R.stg_HO_ABORT [0] (0)) = true := by decide

theorem test_RegulationBurstAndHandoverEvents_5 :
    (fun (i : Stage) (s : State) =>
      decide ((hoExpired s i = true))) (127) ((fun t : State => { t with stages := vupd t.stages 127 (fun x => { x with mode := 7, hoMove := 65535 }) }) (live.wr R.stg_HOSTATE [127] 3)) = true := by decide

theorem test_RegulationBurstAndHandoverEvents_6 :
    (fun (w : World) (i : Stage) (s : State) =>
      decide ((s.canWrite w (65 + i.val / 4) = true) ∧
        (routeForce s i = 4) ∧
        (modeForce s i = 0) ∧
        (s.rd R.stg_HO_ABORT [i.val] = 1))) (0) (0) ((live.wr R.line_INFORCE [0] 8).wr R.stg_HO_ABORT [0] 1) = true := by decide

theorem test_RegulationBurstAndHandoverEvents_7 :
    (fun (p : Port) (s : State) =>
      decide ((s.rd R.prt_PSTATE [p.val] ≠ 1 ∨ (s.prt p).ssCount < (s.prt p).ssTime ∨ (s.prt p).ssOver = true))) (0) ((live).wr R.prt_PSTATE [0] (0)) = true := by decide

theorem test_RegulationBurstAndHandoverEvents_8 :
    (fun (p : Port) (s : State) =>
      decide (((s.prt p).burstLow < 8 ∨ s.rd R.prt_BURST [p.val] ≠ 0 ∨
      (burstStages s p).length ≤ burstNb s p (burstStages s p).length))) (0) (live) = true := by decide

theorem test_RegulationBurstAndHandoverEvents_9 :
    (fun (p : Port) (s : State) =>
      decide ((s.rd R.prt_BURST [p.val] = 0 ∨ s.rd R.prt_ROT_TICKS [p.val] = 0 ∨
      (s.prt p).rotCnt < s.rd R.prt_ROT_TICKS [p.val]))) (0) ((live).wr R.prt_BURST [0] (0)) = true := by decide

theorem test_RegulationBurstAndHandoverEvents_10 :
    (fun (i : Stage) (s : State) =>
      decide ((smode s i ≠ 8 ∨ (s.stg i).faultAge < 8 ∨ smallCurrent s i = false))) (0) (live) = true := by decide

theorem test_RegulationBurstAndHandoverEvents_11 :
    (fun (i : Stage) (s : State) =>
      decide ((hoExpired s i = false))) (0) (live) = true := by decide

theorem test_RegulationBurstAndHandoverEvents_12 :
    (fun (w : World) (i : Stage) (s : State) =>
      decide ((s.canWrite w (65 + i.val / 4) = true) ∧
        (routeForce s i ≠ 4 ∨ modeForce s i ≠ 0 ∨ s.rd R.stg_HO_ABORT [i.val] = 0))) (0) (0) (live) = true := by decide

theorem test_PlansCompleteOrAreDiscarded_1 :
    (fun (r : BrdSol) (s : State) =>
      decide ((s.runs 128 = true) ∧
        (s.brd.solving = some r) ∧
        (r.ok = true) ∧
        (s.spar.period < 126))) (⟨⟨[], [], []⟩, [], [], [], true⟩) ((fun t : State => { t with brd := { t.brd with solving := some ⟨⟨[], [], []⟩, [], [], [], true⟩ }, spar := { t.spar with period := 125 } }) (on [128] live)) = true := by decide

theorem test_PlansCompleteOrAreDiscarded_2 :
    (fun (r : BrdSol) (s : State) =>
      decide ((s.runs 128 = true) ∧
        (s.brd.solving = some r) ∧
        (r.ok = false) ∧
        (s.spar.period < 126))) (⟨⟨[], [], []⟩, [], [], [], false⟩) ((fun t : State => { t with brd := { t.brd with solving := some ⟨⟨[], [], []⟩, [], [], [], false⟩ }, spar := { t.spar with period := 0 } }) (on [128] live)) = true := by decide

theorem test_PlansCompleteOrAreDiscarded_3 :
    (fun (s : State) =>
      decide ((s.brd.solving.isSome = true) ∧
        (126 ≤ s.spar.period))) ((fun t : State => { t with brd := { t.brd with solving := some ⟨⟨[], [], []⟩, [], [], [], true⟩ }, spar := { t.spar with period := 126 } }) live) = true := by decide

theorem test_PlansCompleteOrAreDiscarded_4 :
    (fun (s : State) =>
      decide ((s.rd R.lft_HOLD [] = 1) ∧
        (1000 ≤ s.brd.holdCycles))) ((fun t : State => { t with brd := { t.brd with holdCycles := 1000 } }) ((live).wr R.lft_HOLD [] (1))) = true := by decide

theorem test_PlansCompleteOrAreDiscarded_5 :
    (fun (s : State) =>
      decide ((s.runs 128 = true) ∧
        (s.brd.solving.isSome = true) ∧
        (126 ≤ s.spar.period))) ((fun t : State => { t with brd := { t.brd with solving := some ⟨⟨[], [], []⟩, [], [], [], true⟩ }, spar := { t.spar with period := 126 } }) (on [128] live)) = true := by decide

theorem test_PlansCompleteOrAreDiscarded_6 :
    (fun (s : State) =>
      decide ((s.runs 128 = false ∨ s.brd.solving = none))) (live) = true := by decide

theorem test_PlansCompleteOrAreDiscarded_7 :
    (fun (s : State) =>
      decide ((s.brd.solving = none ∨ s.spar.period < 126))) ((fun t : State => { t with brd := { t.brd with solving := none } }) (live)) = true := by decide

theorem test_PlansCompleteOrAreDiscarded_8 :
    (fun (s : State) =>
      decide ((s.rd R.lft_HOLD [] = 0 ∨ s.brd.holdCycles < 1000))) ((live).wr R.lft_HOLD [] (0)) = true := by decide

theorem test_FirmwareEventsOfASessionArePosted_1a :
    (fun (w : World) (p : Port) (s : State) (c : Instr) (n : Nat) =>
      decide ((s.canWrite w (160 + p.val) = true) ∧
        (s.runs (160 + p.val) = true ∨ discards (sstate s p) = false) ∧
        ((c, n) ∈ [(Instr.linkUp w p, 0), (.authOk w p, 1), (.authFail w p, 2), (.isoGo w p, 3), (.preGo w p, 4), (.startSession w p, 5),
      (.stopSession w p, 6), (.pause w p, 7), (.resume w p, 8), (.weldDone w p, 9), (.newSess w p, 10), (.oos w p, 11),
      (.inService w p, 12)]))) (0) (31) (on [(160 + 31)] live) (.inService 0 31) (12) = true := by decide

theorem test_FirmwareEventsOfASessionArePosted_1b :
    (fun (w : World) (p : Port) (s : State) (c : Instr) (n : Nat) =>
      decide ((s.canWrite w (160 + p.val) = true) ∧
        (s.runs (160 + p.val) = true ∨ discards (sstate s p) = false) ∧
        ((c, n) ∈ [(Instr.linkUp w p, 0), (.authOk w p, 1), (.authFail w p, 2), (.isoGo w p, 3), (.preGo w p, 4), (.startSession w p, 5),
      (.stopSession w p, 6), (.pause w p, 7), (.resume w p, 8), (.weldDone w p, 9), (.newSess w p, 10), (.oos w p, 11),
      (.inService w p, 12)]))) (0) (0) (on [(160 + 0)] live) (.linkUp 0 0) (0) = true := by decide

theorem test_FirmwareEventsOfASessionArePosted_2 :
    (fun (w : World) (p : Port) (s : State) =>
      decide ((s.canWrite w (160 + p.val) = true) ∧
        (w.val = 1) ∧
        (s.runs (160 + p.val) = true ∨ discards (sstate s p) = false))) (1) (0) ((on [160] live).wr R.hdr_OWN_WRITE [160] 3) = true := by decide

theorem test_FirmwareEventsOfASessionArePosted_3 :
    (fun (w : World) (p : Port) (s : State) =>
      decide ((s.canWrite w (160 + p.val) = true) ∧
        (w.val ≠ 1))) (0) (0) (live) = true := by decide

theorem test_FirmwareEventsOfASessionArePosted_4 :
    (fun (w : World) (p : Port) (s : State) (c : Instr) (n : Nat) =>
      decide ((s.canWrite w (160 + p.val) = true) ∧
        (s.runs (160 + p.val) = false) ∧
        ((c, n) ∈ [(Instr.linkUp w p, 0), (.authOk w p, 1), (.authFail w p, 2), (.isoGo w p, 3), (.preGo w p, 4), (.startSession w p, 5),
      (.stopSession w p, 6), (.pause w p, 7), (.resume w p, 8), (.weldDone w p, 9), (.newSess w p, 10), (.oos w p, 11),
      (.inService w p, 12)]) ∧
        (discards (sstate s p) = true) ∧
        (actsOn s p n = false))) (0) (0) (live) (.linkUp 0 0) (0) = true := by decide

theorem test_FirmwareEventsOfASessionArePosted_5 :
    (fun (w : World) (p : Port) (s : State) =>
      decide ((s.canWrite w (160 + p.val) = true))) (0) (0) (live) = true := by decide

theorem test_FirmwareEventsOfASessionArePosted_6 :
    (fun (w : World) (p : Port) (s : State) =>
      decide ((s.canWrite w (160 + p.val) = true) ∧
        (s.rd R.port_CONT_FB [p.val] = 0))) (0) (0) ((live).wr R.port_CONT_FB [0] (0)) = true := by decide

theorem test_FirmwareEventsOfASessionArePosted_7 :
    (fun (w : World) (p : Port) (s : State) =>
      decide ((s.canWrite w (160 + p.val) = true) ∧
        (s.rd R.port_CONT_FB [p.val] = 1))) (0) (0) ((live).wr R.port_CONT_FB [0] (1)) = true := by decide

theorem test_FirmwareEventsOfASessionArePosted_8 :
    (fun (w : World) (p : Port) (_v : Word) (s : State) =>
      decide ((s.canWrite w (160 + p.val) = true))) (0) (0) (0) (live) = true := by decide

theorem test_FirmwareEventsOfASessionArePosted_9 :
    (fun (w : World) (p : Port) (s : State) (c : Instr) (n : Nat) =>
      decide ((s.canWrite w (160 + p.val) = true) ∧
        (s.runs (160 + p.val) = false) ∧
        ((c, n) ∈ [(Instr.newSess w p, 10), (.oos w p, 11), (.inService w p, 12)]) ∧
        (discards (sstate s p) = true) ∧
        (actsOn s p n = true))) (0) (31) (live.wr R.port_SSTATE [31] 0) (.oos 0 31) (11) = true := by decide

theorem test_FirmwareEventsOfASessionArePosted_10 :
    (fun (w : World) (p : Port) (s : State) =>
      decide ((s.canWrite w (160 + p.val) = true) ∧
        (w.val = 1) ∧
        (s.runs (160 + p.val) = false) ∧
        (discards (sstate s p) = true))) (1) (0) ((live.wr R.hdr_OWN_WRITE [160] 3).wr R.port_SSTATE [0] 0) = true := by decide

theorem test_SessionTimersAndStepsAreNoted_1a :
    (fun (p : Port) (s : State) (c : Instr) (st : Nat) (ms : Nat) (a : Nat) =>
      decide ((sessRuns s p = true) ∧
        (sstate s p = st) ∧
        ((c, st, ms) ∈ [(Instr.linkTmo p, 1, (s.se p).stMs), (.authTmo p, 2, (s.se p).stMs),
        (.readyTmo p, 3, (s.se p).stMs), (.preTmo p, 5, (s.se p).stMs),
        (.rampTmo p, 7, (s.se p).stMs), (.pauseTmo p, 8, (s.se p).stMs)] ∧ a = (s.se p).stAt ∨
      (c, st, ms, a) = (.isoTmo p, 4, (s.se p).stMs, (s.se p).stAt) ∧ sstep s p < 6 ∨
      (c, st, ms, a) = (.weldTmo p, 9, (s.se p).stepMs, (s.se p).stepAt) ∧ sstep s p = 3) ∧
        (a + 200000 * ms ≤ s.now + s.spar.clocks))) (0) ((fun t : State => { t with sess := vupd t.sess 0 (fun x => { x with stMs := 5, stAt := 0 }) }) ({ (((((on [160] live).wr R.teth_ACTIVE [] 1).wr R.port_SSTATE [0] 1).wr R.port_STEP [0] 0)) with now := 1000000000000000 })) (.linkTmo 0) (1) (5) (0) = true := by decide

theorem test_SessionTimersAndStepsAreNoted_1b :
    (fun (p : Port) (s : State) (c : Instr) (st : Nat) (ms : Nat) (a : Nat) =>
      decide ((sessRuns s p = true) ∧
        (sstate s p = st) ∧
        ((c, st, ms) ∈ [(Instr.linkTmo p, 1, (s.se p).stMs), (.authTmo p, 2, (s.se p).stMs),
        (.readyTmo p, 3, (s.se p).stMs), (.preTmo p, 5, (s.se p).stMs),
        (.rampTmo p, 7, (s.se p).stMs), (.pauseTmo p, 8, (s.se p).stMs)] ∧ a = (s.se p).stAt ∨
      (c, st, ms, a) = (.isoTmo p, 4, (s.se p).stMs, (s.se p).stAt) ∧ sstep s p < 6 ∨
      (c, st, ms, a) = (.weldTmo p, 9, (s.se p).stepMs, (s.se p).stepAt) ∧ sstep s p = 3) ∧
        (a + 200000 * ms ≤ s.now + s.spar.clocks))) (31) ((fun t : State => { t with sess := vupd t.sess 31 (fun x => { x with stMs := 5, stAt := 0 }) }) ({ (((((on [191] live).wr R.teth_ACTIVE [] 1).wr R.port_SSTATE [31] 4).wr R.port_STEP [31] 5)) with now := 1000000000000000 })) (.isoTmo 31) (4) (5) (0) = true := by decide

theorem test_SessionTimersAndStepsAreNoted_1c :
    (fun (p : Port) (s : State) (c : Instr) (st : Nat) (ms : Nat) (a : Nat) =>
      decide ((sessRuns s p = true) ∧
        (sstate s p = st) ∧
        ((c, st, ms) ∈ [(Instr.linkTmo p, 1, (s.se p).stMs), (.authTmo p, 2, (s.se p).stMs),
        (.readyTmo p, 3, (s.se p).stMs), (.preTmo p, 5, (s.se p).stMs),
        (.rampTmo p, 7, (s.se p).stMs), (.pauseTmo p, 8, (s.se p).stMs)] ∧ a = (s.se p).stAt ∨
      (c, st, ms, a) = (.isoTmo p, 4, (s.se p).stMs, (s.se p).stAt) ∧ sstep s p < 6 ∨
      (c, st, ms, a) = (.weldTmo p, 9, (s.se p).stepMs, (s.se p).stepAt) ∧ sstep s p = 3) ∧
        (a + 200000 * ms ≤ s.now + s.spar.clocks))) (0) ((fun t : State => { t with sess := vupd t.sess 0 (fun x => { x with stepMs := 5, stepAt := 0 }) }) ({ (((((on [160] live).wr R.teth_ACTIVE [] 1).wr R.port_SSTATE [0] 9).wr R.port_STEP [0] 3)) with now := 1000000000000000 })) (.weldTmo 0) (9) (5) (0) = true := by decide

theorem test_SessionTimersAndStepsAreNoted_2 :
    (fun (p : Port) (s : State) =>
      decide ((sessRuns s p = true) ∧
        (2 ≤ sstate s p) ∧
        (sstate s p ≤ 8) ∧
        ((s.se p).hbAt + 200000 * (s.se p).hbMs ≤ s.now + s.spar.clocks))) (0) ({ (((((on [160] live).wr R.teth_ACTIVE [] 1).wr R.port_SSTATE [0] 2).wr R.port_STEP [0] 0)) with now := 1000000000000000 }) = true := by decide

theorem test_SessionTimersAndStepsAreNoted_3 :
    (fun (p : Port) (s : State) =>
      decide ((sessRuns s p = true) ∧
        (s.rd R.port_CONT_REQ [p.val] = 1) ∧
        (s.rd R.port_CONT_FB [p.val] = 0) ∧
        (heldFor s (s.se p).contAt (200000 * (s.se p).contMs) = true))) (0) ((fun t : State => { t with sess := vupd t.sess 0 (fun x => { x with contAt := some 0 }) }) ({ (((((on [160] live).wr R.teth_ACTIVE [] 1).wr R.port_SSTATE [0] 5).wr R.port_STEP [0] 0).wr R.port_CONT_REQ [0] 1) with now := 1000000000000000 })) = true := by decide

theorem test_SessionTimersAndStepsAreNoted_4 :
    (fun (p : Port) (s : State) =>
      decide ((sessRuns s p = true) ∧
        (s.rd R.port_CONT_REQ [p.val] = 0) ∧
        (s.rd R.port_CONT_FB [p.val] = 1) ∧
        (sstate s p ≠ 9) ∧
        (heldFor s (s.se p).contAt (200000 * (s.se p).contMs) = true))) (31) ((fun t : State => { t with sess := vupd t.sess 31 (fun x => { x with contAt := some 0 }) }) ({ (((((on [191] live).wr R.teth_ACTIVE [] 1).wr R.port_SSTATE [31] 8).wr R.port_STEP [31] 0).wr R.port_CONT_FB [31] 1) with now := 1000000000000000 })) = true := by decide

theorem test_SessionTimersAndStepsAreNoted_5 :
    (fun (p : Port) (s : State) =>
      decide ((sessRuns s p = true) ∧
        (60000 < portVolt s p) ∧
        (sstate s p = 4) ∧
        (sstep s p = 5) ∧
        (stepHeld s p = true))) (0) ({ (((((on [160] live).wr R.teth_ACTIVE [] 1).wr R.port_SSTATE [0] 4).wr R.port_STEP [0] 5).wr R.mt_V_FAST [0] 60001) with now := 1000000000000000 }) = true := by decide

theorem test_SessionTimersAndStepsAreNoted_6 :
    (fun (p : Port) (s : State) =>
      decide ((sessRuns s p = true) ∧
        (60000 < portVolt s p) ∧
        (sstate s p = 9) ∧
        (sstep s p = 2) ∧
        (stepHeld s p = true))) (31) ({ (((((on [191] live).wr R.teth_ACTIVE [] 1).wr R.port_SSTATE [31] 9).wr R.port_STEP [31] 2).wr R.mt_V_FAST [31] 60001) with now := 1000000000000000 }) = true := by decide

theorem test_SessionTimersAndStepsAreNoted_7 :
    (fun (p : Port) (s : State) =>
      decide ((sessRuns s p = true) ∧
        (sstate s p = 4) ∧
        (sstep s p = 3) ∧
        (stepHeld s p = true))) (31) ({ (((((on [191] live).wr R.teth_ACTIVE [] 1).wr R.port_SSTATE [31] 4).wr R.port_STEP [31] 3)) with now := 1000000000000000 }) = true := by decide

theorem test_SessionTimersAndStepsAreNoted_8 :
    (fun (p : Port) (s : State) =>
      decide ((sessRuns s p = true) ∧
        (portVolt s p ≤ 60000) ∧
        ((sstate s p = 4 ∧ sstep s p = 5 ∨ sstate s p = 9 ∧ sstep s p = 2)))) (0) ((((on [(160 + 0)] live).wr R.teth_ACTIVE [] 1).wr R.port_SSTATE [0] (4)).wr R.port_STEP [0] (5)) = true := by decide

theorem test_SessionTimersAndStepsAreNoted_9 :
    (fun (p : Port) (s : State) =>
      decide ((sessRuns s p = true) ∧
        (sstate s p = 7) ∧
        (pstate s p = 0 ∨ permitted s p = false))) (0) ((((on [(160 + 0)] live).wr R.teth_ACTIVE [] 1).wr R.port_SSTATE [0] (7)).wr R.prt_PSTATE [0] (0)) = true := by decide

theorem test_SessionTimersAndStepsAreNoted_10 :
    (fun (p : Port) (_ohm : Nat) (s : State) =>
      decide ((sessRuns s p = true) ∧
        (sstate s p = 4) ∧
        (sstep s p = 4) ∧
        (stepHeld s p = true))) (0) (1000) ({ (((((on [160] live).wr R.teth_ACTIVE [] 1).wr R.port_SSTATE [0] 4).wr R.port_STEP [0] 4)) with now := 1000000000000000 }) = true := by decide

theorem test_SessionTimersAndStepsAreNoted_11 :
    (fun (p : Port) (_ohm : Nat) (_v : Nat) (s : State) =>
      decide ((sessRuns s p = true) ∧
        (s.rd R.port_ISO_MON [p.val] = 1) ∧
        (5 ≤ sstate s p) ∧
        (sstate s p ≤ 7) ∧
        ((s.se p).isoAt + 200000 * (s.se p).isoMs ≤ s.now + s.spar.clocks))) (31) (1000) (500) ({ (((((on [191] live).wr R.teth_ACTIVE [] 1).wr R.port_SSTATE [31] 5).wr R.port_STEP [31] 0).wr R.port_ISO_MON [31] 1) with now := 1000000000000000 }) = true := by decide

theorem test_SessionTimersAndStepsAreNoted_13 :
    (fun (p : Port) (s : State) =>
      decide ((sessRuns s p = true) ∧
        (s.rd R.port_CONT_REQ [p.val] = 0) ∧
        (s.rd R.port_CONT_FB [p.val] = 1) ∧
        (sstate s p = 9) ∧
        (heldFor s (s.se p).contAt (200000 * (s.se p).contMs) = true))) (0) ((fun t : State => { t with sess := vupd t.sess 0 (fun x => { x with contAt := some 0 }) }) ({ (((((on [160] live).wr R.teth_ACTIVE [] 1).wr R.port_SSTATE [0] 9).wr R.port_STEP [0] 1).wr R.port_CONT_FB [0] 1) with now := 1000000000000000 })) = true := by decide

theorem test_SessionTimersAndStepsAreNoted_14 :
    (fun (p : Port) (ohm : Nat) (v : Nat) (s : State) (c : Instr) =>
      decide ((sessRuns s p = false) ∧
        (c ∈ [Instr.linkTmo p, .authTmo p, .readyTmo p, .isoTmo p, .preTmo p, .rampTmo p, .pauseTmo p, .weldTmo p, .hbLost p, .contTmo p,
      .dischTmo p, .isoSettleDone p, .dischargeDone p, .stopped p, .isoMeasureDone p ohm, .isoMonResult p ohm v]))) (31) (0) (0) (live) (.linkTmo 31) = true := by decide

theorem test_SessionTimersAndStepsAreNoted_15 :
    (fun (p : Port) (ohm : Nat) (s : State) (c : Instr) (st : Nat) =>
      decide ((sstate s p ≠ st) ∧
        ((c, st) ∈ [(Instr.linkTmo p, 1), (.authTmo p, 2), (.readyTmo p, 3), (.isoTmo p, 4), (.preTmo p, 5), (.rampTmo p, 7),
      (.pauseTmo p, 8), (.weldTmo p, 9), (.isoSettleDone p, 4), (.isoMeasureDone p ohm, 4), (.stopped p, 7)]))) (0) (0) (live.wr R.port_SSTATE [0] 5) (.isoTmo 0) (4) = true := by decide

theorem test_SessionTimersAndStepsAreNoted_16 :
    (fun (p : Port) (ohm : Nat) (s : State) (c : Instr) =>
      decide (((c, sstep s p) ∈ [(Instr.isoTmo p, 6), (.isoTmo p, 7)] ∨ c = .weldTmo p ∧ sstep s p ≠ 3 ∨ c = .isoSettleDone p ∧ sstep s p ≠ 3 ∨
      c = .isoMeasureDone p ohm ∧ sstep s p ≠ 4 ∨ c = .dischTmo p ∧ portVolt s p ≤ 60000 ∨ c = .dischargeDone p ∧ 60000 < portVolt s p ∨
      (c = .dischTmo p ∨ c = .dischargeDone p) ∧ ¬(sstate s p = 4 ∧ sstep s p = 5) ∧ ¬(sstate s p = 9 ∧ sstep s p = 2) ∨
      c = .stopped p ∧ pstate s p ≠ 0 ∧ permitted s p = true ∨ c = .contTmo p ∧ s.rdB R.port_CONT_REQ [p.val] = s.rdB R.port_CONT_FB [p.val]))) (0) (0) (live.wr R.port_STEP [0] 2) (.weldTmo 0) = true := by decide

theorem test_SessionTimersAndStepsAreNoted_17 :
    (fun (p : Port) (ohm : Nat) (v : Nat) (s : State) (c : Instr) (t0 : Nat) (ms : Nat) =>
      decide (((c, t0, ms) ∈ [(Instr.linkTmo p, (s.se p).stAt, (s.se p).stMs),
      (.authTmo p, (s.se p).stAt, (s.se p).stMs), (.readyTmo p, (s.se p).stAt, (s.se p).stMs),
      (.isoTmo p, (s.se p).stAt, (s.se p).stMs), (.preTmo p, (s.se p).stAt, (s.se p).stMs),
      (.rampTmo p, (s.se p).stAt, (s.se p).stMs), (.pauseTmo p, (s.se p).stAt, (s.se p).stMs),
      (.weldTmo p, (s.se p).stepAt, (s.se p).stepMs), (.dischTmo p, (s.se p).stepAt, (s.se p).stepMs),
      (.isoSettleDone p, (s.se p).stepAt, (s.se p).stepMs),
      (.isoMeasureDone p ohm, (s.se p).stepAt, (s.se p).stepMs),
      (.isoMonResult p ohm v, (s.se p).isoAt, (s.se p).isoMs), (.hbLost p, (s.se p).hbAt, (s.se p).hbMs)]) ∧
        (s.now + s.spar.clocks < t0 + 200000 * ms))) (0) (0) (0) ((fun t : State => { t with sess := vupd t.sess 0 (fun x => { x with stMs := 5, stAt := 0 }) }) (on [160] live)) (.linkTmo 0) (0) (5) = true := by decide

theorem test_SessionTimersAndStepsAreNoted_18 :
    (fun (p : Port) (s : State) =>
      decide ((heldFor s (s.se p).contAt (200000 * (s.se p).contMs) = false))) (0) (live) = true := by decide

theorem test_SessionTimersAndStepsAreNoted_19 :
    (fun (p : Port) (ohm : Nat) (v : Nat) (s : State) (c : Instr) =>
      decide ((c = .hbLost p ∧
        (sstate s p < 2 ∨ 8 < sstate s p) ∨
      c = .isoMonResult p ohm v ∧
        (s.rd R.port_ISO_MON [p.val] = 0 ∨ sstate s p < 5 ∨ 7 < sstate s p)))) (31) (0) (0) ({ (((((on [191] live).wr R.teth_ACTIVE [] 1).wr R.port_SSTATE [31] 9).wr R.port_STEP [31] 0)) with now := 1000000000000000 }) (.hbLost 31) = true := by decide

theorem test_SessionTimersAndStepsAreNoted_20 :
    (fun (p : Port) (s : State) (st : Nat) (ms : Nat) =>
      decide (((st, ms) ∈ [(1, 100 * s.rd R.port_LINK_TMO [p.val]), (2, 100 * s.rd R.port_AUTH_TMO [p.val]),
      (3, 100 * s.rd R.port_READY_TMO [p.val]), (4, s.rd R.port_ISO_TMO [p.val]), (5, s.rd R.port_PRE_TMO [p.val]),
      (7, s.rd R.port_RAMP_TMO [p.val]), (8, 1000 * s.rd R.port_PAUSE_TMO [p.val])]))) (31) (live) (8) (1000 * live.rd R.port_PAUSE_TMO [31]) = true := by decide

theorem test_SessionTimersAndStepsAreNoted_21 :
    (fun (p : Port) (s : State) (st : Nat) (k : Nat) (ms : Nat) =>
      decide ((sstate s p = st) ∧
        ((st, k, ms) ∈ [(4, 3, s.rd R.port_ISO_SETTLE [p.val]), (4, 4, s.rd R.port_ISO_MEAS [p.val]), (4, 5, s.rd R.port_DISCH_TMO [p.val]),
      (9, 2, s.rd R.port_DISCH_TMO [p.val]), (9, 3, s.rd R.port_WELD_TMO [p.val])]))) (31) (live.wr R.port_SSTATE [31] 9) (9) (3) (live.rd R.port_WELD_TMO [31]) = true := by decide

theorem test_PilotClassificationsAreConfirmed_1 :
    (fun (p : Port) (hi : Int) (lo : Int) (ce : Int) (id : Int) (pp : Nat) (agree : Nat) (s : State) =>
      decide ((s.runs (160 + p.val) = true) ∧
        (s.rd R.port_KIND [p.val] < 2) ∧
        (agree < agreeNeed s p (pilotClass s p hi lo ce)) ∧
        (ppGone s p pp id agree = false))) (0) (0) (0) (0) (0) (0) (0) (on [(160 + 0)] live) = true := by decide

theorem test_PilotClassificationsAreConfirmed_2 :
    (fun (p : Port) (hi : Int) (lo : Int) (_ce : Int) (_id : Int) (_pp : Nat) (agree : Nat) (s : State) =>
      decide ((s.runs (160 + p.val) = true) ∧
        (s.rd R.port_KIND [p.val] = 0) ∧
        (cpOut s p ≠ 2) ∧
        (agreeNeed s p (cpClass (cpOut s p == 1) hi lo) ≤ agree))) (0) (1200) (0) (0) (0) (0) (3) ((on [(160 + 0)] live).wr R.port_KIND [0] (0)) = true := by decide

theorem test_PilotClassificationsAreConfirmed_3 :
    (fun (p : Port) (_hi : Int) (_lo : Int) (_ce : Int) (_id : Int) (_pp : Nat) (agree : Nat) (s : State) =>
      decide ((s.runs (160 + p.val) = true) ∧
        (s.rd R.port_KIND [p.val] = 1) ∧
        (2 ≤ agree))) (31) (0) (0) (0) (0) (0) (2) ((on [(160 + 31)] live).wr R.port_KIND [31] (1)) = true := by decide

theorem test_PilotClassificationsAreConfirmed_4 :
    (fun (p : Port) (_hi : Int) (_lo : Int) (_ce : Int) (_id : Int) (_pp : Nat) (_agree : Nat) (s : State) =>
      decide ((s.runs (160 + p.val) = false ∨ 2 ≤ s.rd R.port_KIND [p.val]))) (0) (0) (0) (0) (0) (0) (0) (live) = true := by decide

theorem test_PilotClassificationsAreConfirmed_5 :
    (fun (p : Port) (hi : Int) (lo : Int) (_ce : Int) (_id : Int) (_pp : Nat) (agree : Nat) (s : State) =>
      decide ((s.runs (160 + p.val) = true) ∧
        (s.rd R.port_KIND [p.val] = 0) ∧
        (cpOut s p = 2) ∧
        (agreeNeed s p (cpClass false hi lo) ≤ agree))) (0) (1200) (0) (0) (0) (0) (3) (((on [160] live).wr R.teth_ACTIVE [] 1).wr R.port_SSTATE [0] 12) = true := by decide

theorem test_PilotClassificationsAreConfirmed_6 :
    (fun (p : Port) (hi : Int) (lo : Int) (_ce : Int) (_id : Int) (pp : Nat) (agree : Nat) (s : State) =>
      decide ((s.runs (160 + p.val) = true) ∧
        (s.rd R.port_KIND [p.val] = 0) ∧
        (4 ≤ sstate s p) ∧
        (sstate s p ≤ 9) ∧
        (ppClass (s.rd R.port_PP_KIND [p.val]) pp = 0) ∧
        (1 ≤ agree) ∧
        (agree < agreeNeed s p (cpClass (cpOut s p == 1) hi lo)))) (31) (800) (-1200) (0) (0) (0) (1) (((((on [191] live).wr R.teth_ACTIVE [] 1).wr R.port_KIND [31] 0).wr R.port_PP_KIND [31] 1).wr R.port_SSTATE [31] 9) = true := by decide

theorem test_SessionsMoveByTheTableOfStates_1a :
    (fun (p : Port) (s : State) =>
      decide ((plugOut s p = true) ∧
        (energised (sstate s p) = true))) (0) (live.wr R.port_SSTATE [0] 4) = true := by decide

theorem test_SessionsMoveByTheTableOfStates_1b :
    (fun (p : Port) (s : State) =>
      decide ((plugOut s p = true) ∧
        (energised (sstate s p) = true))) (31) (live.wr R.port_SSTATE [31] 9) = true := by decide

theorem test_SessionsMoveByTheTableOfStates_2 :
    (fun (p : Port) (s : State) =>
      decide ((plugOut s p = false) ∧
        (pilotErr s p = true) ∧
        (energised (sstate s p) = true))) (0) (((live.wr R.port_SSTATE [0] 4).wr R.port_PP [0] 1).wr R.port_PILOT [0] 5) = true := by decide

theorem test_SessionsMoveByTheTableOfStates_3 :
    (fun (p : Port) (s : State) =>
      decide ((plugOut s p = true) ∧
        (sstate s p ∈ [1, 2, 3, 10]))) (0) (live.wr R.port_SSTATE [0] 1) = true := by decide

theorem test_SessionsMoveByTheTableOfStates_4 :
    (fun (p : Port) (s : State) =>
      decide ((sstate s p = 0) ∧
        (plugIn s p = true))) (0) (((live.wr R.port_PP [0] 1).wr R.port_PILOT [0] 2).wr R.port_SSTATE [0] 0) = true := by decide

theorem test_SessionsMoveByTheTableOfStates_5a :
    (fun (p : Port) (s : State) (st : Nat) (d : Nat) (c : Nat) =>
      decide ((sstate s p = st) ∧
        ((st, d, c) ∈ [(1, 11, 9), (2, 10, 7), (3, 10, 8), (4, 9, 11), (5, 9, 13), (8, 9, 5)]))) (0) (live.wr R.port_SSTATE [0] 1) (1) (11) (9) = true := by decide

theorem test_SessionsMoveByTheTableOfStates_5b :
    (fun (p : Port) (s : State) (st : Nat) (d : Nat) (c : Nat) =>
      decide ((sstate s p = st) ∧
        ((st, d, c) ∈ [(1, 11, 9), (2, 10, 7), (3, 10, 8), (4, 9, 11), (5, 9, 13), (8, 9, 5)]))) (0) (live.wr R.port_SSTATE [0] 8) (8) (9) (5) = true := by decide

theorem test_SessionsMoveByTheTableOfStates_6 :
    (fun (p : Port) (s : State) =>
      decide ((sstate s p = 9))) (0) (live.wr R.port_SSTATE [0] 9) = true := by decide

theorem test_SessionsMoveByTheTableOfStates_7a :
    (fun (p : Port) (s : State) (st : Nat) (n : Nat) (d : Nat) =>
      decide ((sstate s p = st) ∧
        (pend s p n = true) ∧
        ((st, n, d) ∈ [(1, 0, 2), (2, 1, 3), (8, 8, 5), (0, 11, 12)] ∨
    (st, n, d) = (3, 3, 4) ∧ vready s p = true ∧ portVolt s p ≤ 60000 ∧ permitted s p = true ∨
    (st, n, d) = (4, 4, 5) ∧ sstep s p = 6 ∨ (st, n, d) = (5, 5, 6) ∧ s.rd R.port_PRE_OK [p.val] = 1 ∨
    (st, n, d) = (12, 12, 0) ∧ s.rd R.port_CONT_WELD [p.val] = 0 ∧ s.rd R.port_KIND [p.val] < 2))) (0) ((live.wr R.port_SSTATE [0] 1).wr R.port_EVT_PEND [0] 1) (1) (0) (2) = true := by decide

theorem test_SessionsMoveByTheTableOfStates_7b :
    (fun (p : Port) (s : State) (st : Nat) (n : Nat) (d : Nat) =>
      decide ((sstate s p = st) ∧
        (pend s p n = true) ∧
        ((st, n, d) ∈ [(1, 0, 2), (2, 1, 3), (8, 8, 5), (0, 11, 12)] ∨
    (st, n, d) = (3, 3, 4) ∧ vready s p = true ∧ portVolt s p ≤ 60000 ∧ permitted s p = true ∨
    (st, n, d) = (4, 4, 5) ∧ sstep s p = 6 ∨ (st, n, d) = (5, 5, 6) ∧ s.rd R.port_PRE_OK [p.val] = 1 ∨
    (st, n, d) = (12, 12, 0) ∧ s.rd R.port_CONT_WELD [p.val] = 0 ∧ s.rd R.port_KIND [p.val] < 2))) (0) ((((live.wr R.port_SSTATE [0] 3).wr R.port_EVT_PEND [0] 8).wr R.port_PILOT [0] 2).wr R.safe_PERMIT [] 1) (3) (3) (4) = true := by decide

theorem test_SessionsMoveByTheTableOfStates_7c :
    (fun (p : Port) (s : State) (st : Nat) (n : Nat) (d : Nat) =>
      decide ((sstate s p = st) ∧
        (pend s p n = true) ∧
        ((st, n, d) ∈ [(1, 0, 2), (2, 1, 3), (8, 8, 5), (0, 11, 12)] ∨
    (st, n, d) = (3, 3, 4) ∧ vready s p = true ∧ portVolt s p ≤ 60000 ∧ permitted s p = true ∨
    (st, n, d) = (4, 4, 5) ∧ sstep s p = 6 ∨ (st, n, d) = (5, 5, 6) ∧ s.rd R.port_PRE_OK [p.val] = 1 ∨
    (st, n, d) = (12, 12, 0) ∧ s.rd R.port_CONT_WELD [p.val] = 0 ∧ s.rd R.port_KIND [p.val] < 2))) (31) ((live.wr R.port_SSTATE [31] 12).wr R.port_EVT_PEND [31] 4096) (12) (12) (0) = true := by decide

theorem test_SessionsMoveByTheTableOfStates_8 :
    (fun (p : Port) (s : State) =>
      decide ((sstate s p = 2) ∧
        (pend s p 1 = false) ∧
        (pend s p 2 = true))) (0) ((live.wr R.port_SSTATE [0] 2).wr R.port_EVT_PEND [0] 4) = true := by decide

theorem test_SessionsMoveByTheTableOfStates_9 :
    (fun (p : Port) (s : State) =>
      decide ((sstate s p = 7))) (0) ((live).wr R.port_SSTATE [0] (7)) = true := by decide

theorem test_LinksMatchAndAnswer_1 :
    (fun (w : World) (p : Port) (s : State) =>
      decide ((s.canWrite w (192 + p.val) = true) ∧
        (s.rd R.hdr_EN [192 + p.val] = 0) ∧
        (poolUsed s + vlBuf s p ≤ 1048576))) (0) (0) (live.wr R.vl_RXBUF [0] 15) = true := by decide

theorem test_LinksMatchAndAnswer_2 :
    (fun (w : World) (p : Port) (s : State) =>
      decide ((s.canWrite w (192 + p.val) = true) ∧
        (s.rd R.hdr_EN [192 + p.val] = 0) ∧
        (1048576 < poolUsed s + vlBuf s p))) (0) (31) ((List.range 31).foldl (fun s p => (s.wr R.hdr_EN [192 + p] 1).wr R.vl_RXBUF [p] 15) live) = true := by decide

theorem test_LinksMatchAndAnswer_3 :
    (fun (p : Port) (s : State) =>
      decide ((vlOn s p = true) ∧
        ((s.vl p).dad = true) ∧
        (linkOf s p ≠ 2))) (0) (((fun t : State => { t with links := vupd t.links 0 (fun x => { x with dad := true }) }) ((on [(192 + 0)] live).wr R.teth_ACTIVE [] 1)).wr R.vl_LINK [0] (0)) = true := by decide

theorem test_LinksMatchAndAnswer_4 :
    (fun (p : Port) (s : State) =>
      decide ((vlOn s p = true) ∧
        ((s.vl p).dad = true))) (0) ((fun t : State => { t with links := vupd t.links 0 (fun x => { x with dad := true }) }) ((on [(192 + 0)] live).wr R.teth_ACTIVE [] 1)) = true := by decide

theorem test_LinksMatchAndAnswer_5 :
    (fun (p : Port) (s : State) =>
      decide ((vlAnswers s p = true))) (0) (((on [(192 + 0)] live).wr R.teth_ACTIVE [] 1).wr R.vl_LINK [0] 2) = true := by decide

theorem test_LinksMatchAndAnswer_6 :
    (fun (p : Port) (_d : List Byte) (s : State) =>
      decide ((vlAnswers s p = true))) (0) ([]) (((on [(192 + 0)] live).wr R.teth_ACTIVE [] 1).wr R.vl_LINK [0] 2) = true := by decide

theorem test_LinksMatchAndAnswer_7 :
    (fun (p : Port) (_mac : Nat) (run : List Byte) (s : State) =>
      decide ((slacActs s p = true) ∧
        ((slacOf s p ≠ 2 ∧ slacOf s p ≠ 3 ∨ runIs s p run = true)))) (0) (0) ([]) ((((((on [(192 + 0)] live).wr R.teth_ACTIVE [] 1).wr R.port_PILOT [0] 1).wr R.port_SSTATE [0] 1).wr R.vl_SLAC [0] (0)).wr R.vl_SLAC [0] (0)) = true := by decide

theorem test_LinksMatchAndAnswer_8 :
    (fun (p : Port) (run : List Byte) (_n : Nat) (s : State) =>
      decide ((slacActs s p = true) ∧
        (runIs s p run = true) ∧
        (slacOf s p = 2))) (0) ([1]) (0) ((fun t : State => { t with links := vupd t.links 0 (fun v => { v with run := some ([1], 5) }) }) (((((on [192] live).wr R.teth_ACTIVE [] 1).wr R.port_PILOT [0] 1).wr R.port_SSTATE [0] 1).wr R.vl_SLAC [0] 2)) = true := by decide

theorem test_LinksMatchAndAnswer_9 :
    (fun (p : Port) (run : List Byte) (_att : List Nat) (s : State) =>
      decide ((slacActs s p = true) ∧
        (runIs s p run = true) ∧
        (slacOf s p = 2))) (0) ([1]) ([]) ((fun t : State => { t with links := vupd t.links 0 (fun v => { v with run := some ([1], 5) }) }) (((((on [192] live).wr R.teth_ACTIVE [] 1).wr R.port_PILOT [0] 1).wr R.port_SSTATE [0] 1).wr R.vl_SLAC [0] 2)) = true := by decide

theorem test_LinksMatchAndAnswer_10 :
    (fun (p : Port) (s : State) =>
      decide ((slacActs s p = true) ∧
        (slacOf s p = 2))) (0) (((((on [(192 + 0)] live).wr R.teth_ACTIVE [] 1).wr R.port_PILOT [0] 1).wr R.port_SSTATE [0] 1).wr R.vl_SLAC [0] (2)) = true := by decide

theorem test_LinksMatchAndAnswer_11 :
    (fun (p : Port) (run : List Byte) (s : State) =>
      decide ((slacActs s p = true) ∧
        ((s.vl p).run = none ∨ runIs s p run = true))) (0) ([]) ((fun t : State => { t with links := vupd t.links 0 (fun x => { x with run := none }) }) ((((on [(192 + 0)] live).wr R.teth_ACTIVE [] 1).wr R.port_PILOT [0] 1).wr R.port_SSTATE [0] 1)) = true := by decide

theorem test_LinksMatchAndAnswer_12 :
    (fun (p : Port) (run : List Byte) (s : State) =>
      decide ((slacActs s p = true) ∧
        (runIs s p run = true) ∧
        ((s.vl p).matching = false) ∧
        (slacOf s p ≠ 4))) (0) ([1]) ((fun t : State => { t with links := vupd t.links 0 (fun v => { v with run := some ([1], 5) }) }) (((((on [192] live).wr R.teth_ACTIVE [] 1).wr R.port_PILOT [0] 1).wr R.port_SSTATE [0] 1).wr R.vl_SLAC [0] 3)) = true := by decide

theorem test_LinksMatchAndAnswer_14 :
    (fun (p : Port) (run : List Byte) (mac : Nat) (s : State) =>
      decide ((vlOn s p = true) ∧
        ((s.vl p).matching = true) ∧
        ((s.vl p).run = some (run, mac)))) (0) ([1]) (5) ((fun t : State => { t with links := vupd t.links 0 (fun v => { v with run := some ([1], 5), matching := true }) }) (((on [192] live).wr R.teth_ACTIVE [] 1).wr R.vl_SLAC [0] 3)) = true := by decide

theorem test_LinksMatchAndAnswer_15 :
    (fun (p : Port) (s : State) =>
      decide ((vlOn s p = true) ∧
        (slacOf s p = 2 ∨ slacOf s p = 3))) (0) (((on [(192 + 0)] live).wr R.teth_ACTIVE [] 1).wr R.vl_SLAC [0] (2)) = true := by decide

theorem test_LinksMatchAndAnswer_16 :
    (fun (p : Port) (_ip : Nat) (_mac : Nat) (req : Bool) (tls : Bool) (s : State) =>
      decide ((vlAnswers s p = true) ∧
        (sdpChoice req (s.rdB R.vl_TLS_OK [p.val]) (s.rdB R.vl_NOTLS_OK [p.val]) = some tls))) (0) (0) (0) (true) (true) ((((on [192] live).wr R.teth_ACTIVE [] 1).wr R.vl_LINK [0] 2).wr R.vl_TLS_OK [0] 1) = true := by decide

theorem test_LinksMatchAndAnswer_18 :
    (fun (w : World) (p : Port) (s : State) =>
      decide ((s.canWrite w (192 + p.val) = true) ∧
        (s.rd R.hdr_EN [192 + p.val] = 1))) (0) (0) ((live).wr R.hdr_EN [192 + 0] (1)) = true := by decide

theorem test_LinksMatchAndAnswer_19 :
    (fun (p : Port) (_c : Bool) (s : State) =>
      decide ((vlOn s p = false ∨ (s.vl p).dad = false))) (0) (false) (live) = true := by decide

theorem test_LinksMatchAndAnswer_20 :
    (fun (p : Port) (s : State) =>
      decide ((vlOn s p = true) ∧
        ((s.vl p).dad = true) ∧
        (linkOf s p = 2))) (0) (((fun t : State => { t with links := vupd t.links 0 (fun x => { x with dad := true }) }) ((on [(192 + 0)] live).wr R.teth_ACTIVE [] 1)).wr R.vl_LINK [0] (2)) = true := by decide

theorem test_LinksMatchAndAnswer_21 :
    (fun (p : Port) (_d : List Byte) (_ip : Nat) (_mac : Nat) (_req : Bool) (s : State) =>
      decide ((vlAnswers s p = false))) (0) ([]) (0) (0) (false) (live) = true := by decide

theorem test_LinksMatchAndAnswer_22 :
    (fun (p : Port) (_mac : Nat) (run : List Byte) (s : State) =>
      decide ((slacActs s p = false ∨ ((slacOf s p = 2 ∨ slacOf s p = 3) ∧ runIs s p run = false)))) (0) (0) ([]) (live) = true := by decide

theorem test_LinksMatchAndAnswer_23 :
    (fun (p : Port) (run : List Byte) (_n : Nat) (s : State) =>
      decide ((slacActs s p = false ∨ runIs s p run = false ∨ slacOf s p ≠ 2))) (0) ([]) (0) (live) = true := by decide

theorem test_LinksMatchAndAnswer_24 :
    (fun (p : Port) (_run : List Byte) (_att : List Nat) (s : State) =>
      decide ((slacActs s p = false ∨ slacOf s p ≠ 2))) (0) ([]) ([]) (live) = true := by decide

theorem test_LinksMatchAndAnswer_25 :
    (fun (p : Port) (run : List Byte) (_att : List Nat) (s : State) =>
      decide ((slacActs s p = true) ∧
        (runIs s p run = false) ∧
        (slacOf s p = 2))) (0) ([]) ([]) (((((on [(192 + 0)] live).wr R.teth_ACTIVE [] 1).wr R.port_PILOT [0] 1).wr R.port_SSTATE [0] 1).wr R.vl_SLAC [0] (2)) = true := by decide

theorem test_LinksMatchAndAnswer_26 :
    (fun (p : Port) (run : List Byte) (s : State) =>
      decide ((slacActs s p = false ∨ ((s.vl p).run.isSome = true ∧ runIs s p run = false)))) (0) ([]) (live) = true := by decide

theorem test_LinksMatchAndAnswer_27 :
    (fun (p : Port) (run : List Byte) (s : State) =>
      decide ((slacActs s p = true) ∧
        (runIs s p run = true) ∧
        ((s.vl p).matching = true ∨ slacOf s p = 4))) (0) ([1]) ((fun t : State => { t with links := vupd t.links 0 (fun v => { v with run := some ([1], 5), matching := true }) }) (((((on [192] live).wr R.teth_ACTIVE [] 1).wr R.port_PILOT [0] 1).wr R.port_SSTATE [0] 1).wr R.vl_SLAC [0] 3)) = true := by decide

theorem test_LinksMatchAndAnswer_28 :
    (fun (p : Port) (run : List Byte) (s : State) =>
      decide ((slacActs s p = false ∨ runIs s p run = false))) (0) ([]) (live) = true := by decide

theorem test_LinksMatchAndAnswer_29 :
    (fun (p : Port) (s : State) =>
      decide ((vlOn s p = false ∨ (s.vl p).matching = false))) (0) (live) = true := by decide

theorem test_LinksMatchAndAnswer_30 :
    (fun (p : Port) (s : State) =>
      decide ((vlOn s p = false ∨ (slacOf s p ≠ 2 ∧ slacOf s p ≠ 3)))) (0) (live) = true := by decide

theorem test_LinksMatchAndAnswer_31 :
    (fun (p : Port) (_ip : Nat) (_mac : Nat) (req : Bool) (s : State) =>
      decide ((sdpChoice req (s.rdB R.vl_TLS_OK [p.val]) (s.rdB R.vl_NOTLS_OK [p.val]) = none))) (0) (5) (0) (true) ((live.wr R.vl_TLS_OK [0] 0).wr R.vl_NOTLS_OK [0] 0) = true := by decide

theorem test_ConnectionsCarryMessages_1 :
    (fun (p : Port) (ip : Nat) (_isn : Nat) (s : State) =>
      decide ((vlAnswers s p = true) ∧
        (ip = s.rd R.vl_PEER_IP [p.val]) ∧
        (ip ≠ 0) ∧
        (tcpOf s p = 2 ∨ tcpOf s p = 3 ∨ (s.vl p).tx = []))) (0) (5) (0) ((((on [192] live).wr R.teth_ACTIVE [] 1).wr R.vl_LINK [0] 2).wr R.vl_PEER_IP [0] 5) = true := by decide

theorem test_ConnectionsCarryMessages_2 :
    (fun (p : Port) (ip : Nat) (_isn : Nat) (s : State) =>
      decide ((vlAnswers s p = true) ∧
        (ip ≠ s.rd R.vl_PEER_IP [p.val] ∨ ip = 0))) (0) (5) (0) (((on [192] live).wr R.teth_ACTIVE [] 1).wr R.vl_LINK [0] 2) = true := by decide

theorem test_ConnectionsCarryMessages_3 :
    (fun (p : Port) (_seq : Nat) (_ack : Nat) (_d : List Byte) (_fin : Bool) (s : State) =>
      decide ((vlAnswers s p = true) ∧
        (tcpOf s p = 2 ∨ tcpOf s p = 3))) (0) (0) (0) ([]) (false) ((((on [(192 + 0)] live).wr R.teth_ACTIVE [] 1).wr R.vl_LINK [0] 2).wr R.vl_TCP [0] (2)) = true := by decide

theorem test_ConnectionsCarryMessages_4 :
    (fun (p : Port) (_seq : Nat) (_ack : Nat) (_d : List Byte) (_fin : Bool) (s : State) =>
      decide ((vlAnswers s p = true) ∧
        (tcpOf s p = 3) ∧
        ((s.vl p).tx = []) ∧
        (rxWaits (s.vl p) = false))) (0) (0) (0) ([]) (false) ((((on [192] live).wr R.teth_ACTIVE [] 1).wr R.vl_LINK [0] 2).wr R.vl_TCP [0] 3) = true := by decide

theorem test_ConnectionsCarryMessages_5 :
    (fun (p : Port) (ip : Nat) (_seq : Nat) (_ack : Nat) (_d : List Byte) (_fin : Bool) (s : State) =>
      decide ((vlAnswers s p = true) ∧
        ((tcpOf s p ≠ 2 ∧ tcpOf s p ≠ 3) ∨ ip ≠ s.rd R.vl_PEER_IP [p.val]))) (0) (0) (0) (0) ([]) (false) (((((on [(192 + 0)] live).wr R.teth_ACTIVE [] 1).wr R.vl_LINK [0] 2).wr R.vl_TCP [0] (0)).wr R.vl_TCP [0] (0)) = true := by decide

theorem test_ConnectionsCarryMessages_6 :
    (fun (p : Port) (seq : Nat) (d : List Byte) (s : State) =>
      decide ((vlAnswers s p = true) ∧
        (tcpOf s p = 2) ∧
        (d.length < ((s.vl p).rcvNxt + 2 ^ 32 - seq) % 2 ^ 32))) (0) (5) ([1]) (((((on [192] live).wr R.teth_ACTIVE [] 1).wr R.vl_LINK [0] 2).wr R.vl_TCP [0] 2)) = true := by decide

theorem test_ConnectionsCarryMessages_7 :
    (fun (p : Port) (d : List Byte) (s : State) =>
      decide ((vlAnswers s p = true) ∧
        (tcpOf s p = 2) ∧
        ((s.vl p).tls = true) ∧
        ((s.vl p).strm = none) ∧
        (d.length ≤ min 65535 (vlBuf s p - vlUsed (s.vl p))))) (0) ([1]) ((fun t : State => { t with links := vupd t.links 0 (fun v => { v with tls := true }) }) (((((on [192] live).wr R.teth_ACTIVE [] 1).wr R.vl_LINK [0] 2).wr R.vl_TCP [0] 2))) = true := by decide

theorem test_ConnectionsCarryMessages_8 :
    (fun (p : Port) (n : Nat) (s : State) =>
      decide ((vlAnswers s p = true) ∧
        (tcpOf s p = 2) ∧
        ((s.vl p).tls = true) ∧
        ((s.vl p).strm = none) ∧
        ((s.vl p).rxKey = none) ∧
        (s.rd R.vl_RX_PAUSED [p.val] = 0) ∧
        (5 ≤ (s.vl p).raw.length) ∧
        (n = beNat (((s.vl p).raw.drop 3).take 2)) ∧
        (5 + n ≤ (s.vl p).raw.length) ∧
        (5 + n ≤ vlBuf s p))) (0) (1) ((fun t : State => { t with links := vupd t.links 0 (fun v => { v with tls := true, raw := [23, 3, 3, 0, 1, 7] }) }) (((((on [192] live).wr R.teth_ACTIVE [] 1).wr R.vl_LINK [0] 2).wr R.vl_TCP [0] 2))) = true := by decide

theorem test_ConnectionsCarryMessages_9 :
    (fun (p : Port) (s : State) =>
      decide ((vlAnswers s p = true) ∧
        (tcpOf s p = 2 ∨ tcpOf s p = 3) ∧
        (0 < wireLen (s.vl p).tx) ∧
        ((s.vl p).retx < 6))) (0) ((fun t : State => { t with links := vupd t.links 0 (fun v => { v with tx := [⟨0x8001, 0, [1], some [1]⟩], retx := 5 }) }) (((((on [192] live).wr R.teth_ACTIVE [] 1).wr R.vl_LINK [0] 2).wr R.vl_TCP [0] 2))) = true := by decide

theorem test_ConnectionsCarryMessages_10 :
    (fun (p : Port) (s : State) =>
      decide ((vlAnswers s p = true) ∧
        (tcpOf s p = 2 ∨ tcpOf s p = 3) ∧
        (0 < wireLen (s.vl p).tx) ∧
        (6 ≤ (s.vl p).retx))) (0) ((fun t : State => { t with links := vupd t.links 0 (fun v => { v with tx := [⟨0x8001, 0, [1], some [1]⟩], retx := 6 }) }) (((((on [192] live).wr R.teth_ACTIVE [] 1).wr R.vl_LINK [0] 2).wr R.vl_TCP [0] 2))) = true := by decide

theorem test_ConnectionsCarryMessages_11 :
    (fun (w : World) (p : Port) (s : State) =>
      decide ((s.canWrite w (192 + p.val) = true) ∧
        (4 ≤ (s.vl p).tx.length ∨ 16384 < vlTxUsed (s.vl p) + (vlStaged s p).data.length))) (0) (0) ((fun t : State => { t with links := vupd t.links 0 (fun v => { v with tx := [⟨0x8001, 0, [1], some [1]⟩, ⟨0x8001, 0, [1], some [1]⟩, ⟨0x8001, 0, [1], some [1]⟩, ⟨0x8001, 0, [1], some [1]⟩] }) }) (live)) = true := by decide

theorem test_ConnectionsCarryMessages_12 :
    (fun (w : World) (p : Port) (s : State) =>
      decide ((s.canWrite w (192 + p.val) = true) ∧
        (vlSends s p = false) ∧
        ((s.vl p).tx.length < 4) ∧
        (vlTxUsed (s.vl p) + (vlStaged s p).data.length ≤ 16384))) (0) (0) (live) = true := by decide

theorem test_ConnectionsCarryMessages_13 :
    (fun (w : World) (p : Port) (s : State) =>
      decide ((s.canWrite w (192 + p.val) = true) ∧
        (vlSends s p = true) ∧
        ((s.vl p).tx = []) ∧
        ((s.vl p).txKey = none) ∧
        ((vlStaged s p).data.length ≤ 16384))) (0) (0) (((((on [192] live).wr R.teth_ACTIVE [] 1).wr R.vl_LINK [0] 2).wr R.vl_TCP [0] 2)) = true := by decide

theorem test_ConnectionsCarryMessages_14 :
    (fun (w : World) (p : Port) (m : VlMsg) (l : List VlMsg) (s : State) =>
      decide ((s.canWrite w (192 + p.val) = true) ∧
        ((s.vl p).rx = m :: l))) (0) (0) (⟨0x8001, 0, 1, [1], false⟩) ([]) ((fun t : State => { t with links := vupd t.links 0 (fun v => { v with rx := [⟨0x8001, 0, 1, [1], false⟩] }) }) (live)) = true := by decide

theorem test_ConnectionsCarryMessages_15 :
    (fun (w : World) (p : Port) (s : State) =>
      decide ((s.canWrite w (192 + p.val) = true))) (0) (0) (live) = true := by decide

theorem test_ConnectionsCarryMessages_16 :
    (fun (w : World) (p : Port) (s : State) =>
      decide ((s.canWrite w (192 + p.val) = true))) (0) (0) (live) = true := by decide

theorem test_ConnectionsCarryMessages_17 :
    (fun (w : World) (p : Port) (s : State) =>
      decide ((s.canWrite w (192 + p.val) = true))) (0) (0) (live) = true := by decide

theorem test_ConnectionsCarryMessages_18 :
    (fun (w : World) (p : Port) (s : State) =>
      decide ((s.canWrite w (192 + p.val) = true) ∧
        (tcpOf s p = 2 ∨ tcpOf s p = 3))) (0) (0) ((live).wr R.vl_TCP [0] (2)) = true := by decide

theorem test_ConnectionsCarryMessages_19 :
    (fun (w : World) (p : Port) (_k : Fin 512) (m : VlMsg) (l : List VlMsg) (s : State) =>
      decide ((s.canRead w (192 + p.val) = true) ∧
        (s.rd R.vl_WSEL [p.val] = 0) ∧
        ((s.vl p).rx = m :: l))) (0) (0) (511) (⟨0x8001, 0, 1, [1], false⟩) ([]) ((fun t : State => { t with links := vupd t.links 0 (fun v => { v with rx := [⟨0x8001, 0, 1, [1], false⟩] }) }) (live)) = true := by decide

theorem test_ConnectionsCarryMessages_20 :
    (fun (w : World) (p : Port) (_k : Fin 512) (s : State) =>
      decide ((s.canRead w (192 + p.val) = false))) (3) (0) (0) (live) = true := by decide

theorem test_ConnectionsCarryMessages_21 :
    (fun (w : World) (p : Port) (s : State) =>
      decide ((s.canWrite w (192 + p.val) = true))) (0) (0) (live) = true := by decide

theorem test_ConnectionsCarryMessages_22 :
    (fun (p : Port) (ip : Nat) (_isn : Nat) (s : State) =>
      decide ((vlAnswers s p = true) ∧
        (ip = s.rd R.vl_PEER_IP [p.val]) ∧
        (ip ≠ 0) ∧
        (tcpOf s p ≠ 2) ∧
        (tcpOf s p ≠ 3) ∧
        ((s.vl p).tx.length ≤ 4) ∧
        ((∀ m ∈ (s.vl p).tx, m.wire = none)))) (0) (5) (0xFFFFFFFF) (((((on [192] live).wr R.teth_ACTIVE [] 1).wr R.vl_LINK [0] 2).wr R.vl_PEER_IP [0] 5).wr R.vl_TCP [0] 0) = true := by decide

theorem test_ConnectionsCarryMessages_23 :
    (fun (p : Port) (_seq : Nat) (_ack : Nat) (_d : List Byte) (_fin : Bool) (s : State) =>
      decide ((vlAnswers s p = true) ∧
        (tcpOf s p = 3) ∧
        (rxWaits (s.vl p) = true))) (0) (0) (0) ([1]) (false) ((fun t : State => { t with links := vupd t.links 0 (fun v => { v with tls := true, raw := [23, 3, 3, 0, 1, 7] }) }) (((((on [192] live).wr R.teth_ACTIVE [] 1).wr R.vl_LINK [0] 2).wr R.vl_TCP [0] 3))) = true := by decide

theorem test_ConnectionsCarryMessages_24 :
    (fun (p : Port) (d : List Byte) (s : State) =>
      decide ((vlAnswers s p = true) ∧
        (tcpOf s p = 2) ∧
        ((s.vl p).tls = false) ∧
        ((s.vl p).strm = none) ∧
        ((s.vl p).part = []) ∧
        (s.rd R.vl_RX_PAUSED [p.val] = 0) ∧
        (8 ≤ d.length) ∧
        (v2gOk (d.take 8) = true) ∧
        (d.length = 8 + beNat ((d.drop 4).take 4)) ∧
        (d.length ≤ 8192) ∧
        (d.length ≤ vlBuf s p - vlUsed (s.vl p)))) (0) ([1, 0xFE, 0x80, 1, 0, 0, 0, 1, 7]) ((fun t : State => { t with links := vupd t.links 0 (fun v => { v with rcvNxt := 0 }) }) ((((((on [192] live).wr R.teth_ACTIVE [] 1).wr R.vl_LINK [0] 2).wr R.vl_TCP [0] 2)).wr R.vl_RXBUF [0] 15)) = true := by decide

theorem test_ConnectionsCarryMessages_25 :
    (fun (p : Port) (n : Nat) (k : VlKey) (s : State) =>
      decide ((vlAnswers s p = true) ∧
        (tcpOf s p = 2) ∧
        ((s.vl p).tls = true) ∧
        ((s.vl p).strm = none) ∧
        ((s.vl p).rxKey = some k) ∧
        (s.rd R.vl_RX_PAUSED [p.val] = 0) ∧
        (5 ≤ (s.vl p).raw.length) ∧
        (n = beNat (((s.vl p).raw.drop 3).take 2)) ∧
        (5 + n ≤ (s.vl p).raw.length) ∧
        (5 + n ≤ vlBuf s p) ∧
        (recordSlot s p.val k.slot k.suite uDecrypt = true))) (0) (16) (⟨5, 1, 0⟩) ((fun t : State => { t with links := vupd t.links 0 (fun v => { v with tls := true, raw := [23, 3, 3, 0, 16] ++ List.replicate 16 0, rxKey := some ⟨5, 1, 0⟩ }) }) ((((slotted 5 9 (((((on [192] live).wr R.teth_ACTIVE [] 1).wr R.vl_LINK [0] 2).wr R.vl_TCP [0] 2))).wr R.slot_ENGINE [5] 1).wr R.slot_UNIT [5] 0).wr R.vl_RXBUF [0] 15)) = true := by decide

theorem test_ConnectionsCarryMessages_26 :
    (fun (p : Port) (s : State) =>
      decide (((s.vl p).strm = none) ∧
        (tcpOf s p ≠ 3) ∧
        (vlSends s p = false ∨ (s.vl p).tls = false ∨ s.rd R.vl_RX_PAUSED [p.val] = 1 ∨ (s.vl p).raw.length < 5))) (0) (((fun t : State => { t with links := vupd t.links 0 (fun x => { x with strm := none }) }) (live)).wr R.vl_TCP [0] (0)) = true := by decide

theorem test_ConnectionsCarryMessages_27 :
    (fun (p : Port) (_ip : Nat) (_isn : Nat) (_seq : Nat) (_ack : Nat) (_d : List Byte) (_rst : Bool) (_fin : Bool) (s : State) =>
      decide ((vlAnswers s p = false))) (0) (0) (0) (0) (0) ([]) (false) (false) (live) = true := by decide

theorem test_ConnectionsCarryMessages_28 :
    (fun (p : Port) (s : State) =>
      decide ((vlSends s p = false ∨ wireLen (s.vl p).tx = 0))) (0) (live) = true := by decide

theorem test_ConnectionsCarryMessages_29 :
    (fun (w : World) (p : Port) (s : State) =>
      decide ((s.canWrite w (192 + p.val) = true))) (0) (0) (live) = true := by decide

theorem test_ConnectionsCarryMessages_29_1 :
    (fun (w : World) (p : Port) (s : State) =>
      decide ((s.canWrite w (192 + p.val) = true) ∧
        ((s.vl p).rx = []))) (0) (0) ((fun t : State => { t with links := vupd t.links 0 (fun x => { x with rx := [] }) }) (live)) = true := by decide

theorem test_ConnectionsCarryMessages_29_2 :
    (fun (w : World) (p : Port) (s : State) =>
      decide ((s.canWrite w (192 + p.val) = true) ∧
        (tcpOf s p ≠ 2) ∧
        (tcpOf s p ≠ 3))) (0) (0) (((live).wr R.vl_TCP [0] (0)).wr R.vl_TCP [0] (0)) = true := by decide

theorem test_ConnectionsCarryMessages_30 :
    (fun (w : World) (p : Port) (_k : Fin 512) (s : State) =>
      decide ((s.canRead w (192 + p.val) = true))) (0) (0) (0) (on [192] live) = true := by decide

theorem test_ConnectionsCarryMessages_30_1 :
    (fun (w : World) (p : Port) (_k : Fin 512) (s : State) =>
      decide ((s.canRead w (192 + p.val) = true) ∧
        (s.rd R.vl_WSEL [p.val] = 1))) (0) (0) (0) ((live).wr R.vl_WSEL [0] (1)) = true := by decide

theorem test_ConnectionsCarryMessages_30_2 :
    (fun (w : World) (p : Port) (_k : Fin 512) (s : State) =>
      decide ((s.canRead w (192 + p.val) = true) ∧
        (s.rd R.vl_WSEL [p.val] = 0) ∧
        ((s.vl p).rx = []) ∧
        ((s.vl p).strm = none))) (0) (0) (0) ((fun t : State => { t with links := vupd t.links 0 (fun x => { x with strm := none }) }) ((fun t : State => { t with links := vupd t.links 0 (fun x => { x with rx := [] }) }) ((live).wr R.vl_WSEL [0] (0)))) = true := by decide

theorem test_ConnectionsCarryMessages_30_3 :
    (fun (w : World) (p : Port) (_k : Fin 512) (s : State) (u : VlStream) =>
      decide ((s.canRead w (192 + p.val) = true) ∧
        (s.rd R.vl_WSEL [p.val] = 0) ∧
        ((s.vl p).rx = []) ∧
        ((s.vl p).strm = some u) ∧
        (u.record.isSome = true))) (0) (0) (0) ((fun t : State => { t with links := vupd t.links 0 (fun v => { v with rx := [], strm := some ⟨0, 0, 10, 10, 0, [1, 2, 3, 4], some ([], [], 0), none, 0, [], (0, 0, 0)⟩ }) }) (live)) (⟨0, 0, 10, 10, 0, [1, 2, 3, 4], some ([], [], 0), none, 0, [], (0, 0, 0)⟩) = true := by decide

theorem test_FeederStationsJoinAndLeave_1 :
    (fun (c : Fin 4) (s : State) =>
      decide ((beaconDue s c = true) ∧
        (s.rd R.cpl_CEN [c.val] = 1) ∧
        (s.runs 224 = true) ∧
        (s.active = true) ∧
        (couplingSlot s c.val (s.rd R.cpl_NMK_KEY [c.val]) = true) ∧
        (railWhole s = true))) (0) ({ ((((on [4, 224] ((slotted 5 12 live).wr R.slot_ENGINE [5] 3)).wr R.teth_ACTIVE [] 1).wr R.cpl_CEN [0] 1).wr R.cpl_NMK_KEY [0] 5) with spar := { live.spar with period := 0 } }) = true := by decide

theorem test_FeederStationsJoinAndLeave_2 :
    (fun (c : Fin 4) (_rail : Bool) (s : State) =>
      decide ((beaconDue s c = true) ∧
        (s.rd R.cpl_CEN [c.val] = 1) ∧
        (s.runs 224 = true))) (0) (false) ({ ((((on [4, 224] live).wr R.teth_ACTIVE [] 1).wr R.cpl_CEN [0] 1).wr R.cpl_NMK_KEY [0] 5) with spar := { live.spar with period := 0 } }) = true := by decide

theorem test_FeederStationsJoinAndLeave_3 :
    (fun (c : Fin 4) (d : Fin 32) (n : Nat) (down : List (List Byte)) (_snr : List (List Nat)) (s : State) =>
      decide ((cplOn s c = true) ∧
        (s.splc.cpl[c].est = some (d.val, n)) ∧
        (downValid down = true))) (0) (31) (3) ([aMap]) ([]) ((fun t : State => { t with splc := { t.splc with cpl := vupd t.splc.cpl 0 (fun x => { x with est := some (31, 3) }) } }) (((((on [4, 224] ((slotted 5 12 live).wr R.slot_ENGINE [5] 3)).wr R.teth_ACTIVE [] 1).wr R.cpl_CEN [0] 1).wr R.cpl_NMK_KEY [0] 5).wr R.cpl_BSTATE [0] 1)) = true := by decide

theorem test_FeederStationsJoinAndLeave_4 :
    (fun (d : Fin 32) (s : State) =>
      decide ((splcOn s = true) ∧
        (dstate s d = 2) ∧
        (s.rd R.splc_TM_REFRESH [] ≤ tmAge s d))) (31) ((fun t : State => { t with now := 200000000 * 65535, splc := { t.splc with dsp := vupd t.splc.dsp 31 (fun x => { x with mapsAt := some 0 }) } }) (((on [4, 224] live).wr R.teth_ACTIVE [] 1).wr R.dsp_DSTATE [31] 2)) = true := by decide

theorem test_FeederStationsJoinAndLeave_5 :
    (fun (c : Fin 4) (mac : Nat) (d : Fin 32) (s : State) =>
      decide ((cplHears s c = true) ∧
        (dspMac s d = mac) ∧
        (dspCoup s d = c.val) ∧
        ((∀ e : Fin 32, e ≠ d → dspMac s e = mac → dspCoup s e = c.val → joined s e = false ∧ s.rd R.dsp_LISTED [e.val] = 0)) ∧
        (joined s d = true ∨ s.rd R.dsp_LISTED [d.val] = 1 ∨
      s.rd R.cpl_JOIN [c.val] = 2 ∧
        (∀ e : Fin 32, e.val < d.val → ¬(dspMac s e = mac ∧ dspCoup s e = c.val))))) (0) (0x100000007) (31) ((((((((on [4, 224] ((slotted 5 12 live).wr R.slot_ENGINE [5] 3)).wr R.teth_ACTIVE [] 1).wr R.cpl_CEN [0] 1).wr R.cpl_NMK_KEY [0] 5).wr R.cpl_BSTATE [0] 1).wr R.dsp_MAC_LO [31] 7).wr R.dsp_MAC_HI [31] 1).wr R.dsp_DSTATE [31] 2) = true := by decide

theorem test_FeederStationsJoinAndLeave_6 :
    (fun (c : Fin 4) (mac : Nat) (s : State) =>
      decide ((cplHears s c = true) ∧
        (s.rd R.cpl_JOIN [c.val] ≠ 2) ∧
        ((∀ e : Fin 32, dspMac s e = mac → dspCoup s e = c.val → joined s e = false ∧ s.rd R.dsp_LISTED [e.val] = 0)))) (0) (9) ((((((on [4, 224] ((slotted 5 12 live).wr R.slot_ENGINE [5] 3)).wr R.teth_ACTIVE [] 1).wr R.cpl_CEN [0] 1).wr R.cpl_NMK_KEY [0] 5).wr R.cpl_BSTATE [0] 1).wr R.cpl_JOIN [0] 1) = true := by decide

theorem test_FeederStationsJoinAndLeave_7 :
    (fun (c : Fin 4) (mac : Nat) (d : Fin 32) (s : State) =>
      decide ((cplHears s c = true) ∧
        (s.rd R.cpl_JOIN [c.val] = 2) ∧
        ((∀ e : Fin 32, ¬(dspMac s e = mac ∧ dspCoup s e = c.val))) ∧
        (dstate s d = 0) ∧
        (s.rd R.dsp_LISTED [d.val] = 0) ∧
        ((∀ e : Fin 32, e.val < d.val → ¬(dstate s e = 0 ∧ s.rd R.dsp_LISTED [e.val] = 0))))) (0) (9) (1) (((((((on [4, 224] ((slotted 5 12 live).wr R.slot_ENGINE [5] 3)).wr R.teth_ACTIVE [] 1).wr R.cpl_CEN [0] 1).wr R.cpl_NMK_KEY [0] 5).wr R.cpl_BSTATE [0] 1).wr R.cpl_JOIN [0] 2).wr R.dsp_LISTED [0] 1) = true := by decide

theorem test_FeederStationsJoinAndLeave_8a :
    (fun (d : Fin 32) (c : Instr) (s : State) =>
      decide ((joined s d = true) ∧
        ((c = .leaveInd d ∧ cplHears s (dspCpl s d) = true ∨ c = .leaveTimeout d ∧ splcOn s = true ∧ leaveTmo s ≤ s.splc.dsp[d].unacked)))) (31) (.leaveInd 31) (((((((on [4, 224] ((slotted 5 12 live).wr R.slot_ENGINE [5] 3)).wr R.teth_ACTIVE [] 1).wr R.cpl_CEN [0] 1).wr R.cpl_NMK_KEY [0] 5).wr R.cpl_BSTATE [0] 1).wr R.dsp_DSTATE [31] 2)) = true := by decide

theorem test_FeederStationsJoinAndLeave_8b :
    (fun (d : Fin 32) (c : Instr) (s : State) =>
      decide ((joined s d = true) ∧
        ((c = .leaveInd d ∧ cplHears s (dspCpl s d) = true ∨ c = .leaveTimeout d ∧ splcOn s = true ∧ leaveTmo s ≤ s.splc.dsp[d].unacked)))) (31) (.leaveTimeout 31) ((fun t : State => { t with splc := { t.splc with dsp := vupd t.splc.dsp 31 (fun x => { x with unacked := 65536 }) } }) ((((((on [4, 224] ((slotted 5 12 live).wr R.slot_ENGINE [5] 3)).wr R.teth_ACTIVE [] 1).wr R.cpl_CEN [0] 1).wr R.cpl_NMK_KEY [0] 5).wr R.cpl_BSTATE [0] 1).wr R.dsp_DSTATE [31] 2)) = true := by decide

theorem test_FeederStationsJoinAndLeave_9 :
    (fun (w : World) (d : Fin 32) (s : State) =>
      decide ((s.canWrite w 225 = true) ∧
        (joined s d = true))) (0) (31) ((((on [4, 224] live).wr R.teth_ACTIVE [] 1).wr R.dsp_DSTATE [31] 2)) = true := by decide

theorem test_FeederStationsJoinAndLeave_10 :
    (fun (w : World) (d : Fin 32) (s : State) =>
      decide ((s.canWrite w 225 = true) ∧
        (joined s d = true))) (0) (31) ((((on [4, 224] live).wr R.teth_ACTIVE [] 1).wr R.dsp_DSTATE [31] 2)) = true := by decide

theorem test_FeederStationsJoinAndLeave_12 :
    (fun (c : Fin 4) (_rail : Bool) (s : State) =>
      decide ((beaconDue s c = false ∨ s.rd R.cpl_CEN [c.val] = 0 ∨ s.runs 224 = false))) (0) (false) (live) = true := by decide

theorem test_FeederStationsJoinAndLeave_13 :
    (fun (c : Fin 4) (down : List (List Byte)) (_snr : List (List Nat)) (s : State) =>
      decide ((cplOn s c = false ∨ s.splc.cpl[c].est = none ∨ downValid down = false))) (0) ([]) ([]) (live) = true := by decide

theorem test_FeederStationsJoinAndLeave_14 :
    (fun (d : Fin 32) (s : State) =>
      decide ((splcOn s = false ∨ dstate s d ≠ 2 ∨ tmAge s d < s.rd R.splc_TM_REFRESH []))) (0) (live) = true := by decide

theorem test_FeederStationsJoinAndLeave_15 :
    (fun (c : Fin 4) (mac : Nat) (s : State) =>
      decide ((cplHears s c = true) ∧
        (s.rd R.cpl_JOIN [c.val] = 2) ∧
        ((∀ e : Fin 32, ¬(dspMac s e = mac ∧ dspCoup s e = c.val))) ∧
        ((∀ e : Fin 32, ¬(dstate s e = 0 ∧ s.rd R.dsp_LISTED [e.val] = 0))))) (0) (9) ((List.range 32).foldl (fun s d => s.wr R.dsp_LISTED [d] 1) ((((((on [4, 224] ((slotted 5 12 live).wr R.slot_ENGINE [5] 3)).wr R.teth_ACTIVE [] 1).wr R.cpl_CEN [0] 1).wr R.cpl_NMK_KEY [0] 5).wr R.cpl_BSTATE [0] 1).wr R.cpl_JOIN [0] 2)) = true := by decide

theorem test_FeederStationsJoinAndLeave_16 :
    (fun (c : Fin 4) (_mac : Nat) (nmk : List Byte) (s : State) =>
      decide ((cplHears s c = false ∨ nmk ≠ cplNmk s c))) (0) (0) ([]) (live) = true := by decide

theorem test_FeederStationsJoinAndLeave_17 :
    (fun (d : Fin 32) (s : State) =>
      decide ((cplHears s (dspCpl s d) = false ∨ joined s d = false))) (0) (live) = true := by decide

theorem test_FeederStationsJoinAndLeave_18 :
    (fun (d : Fin 32) (s : State) =>
      decide ((splcOn s = false ∨ joined s d = false))) (0) (live) = true := by decide

theorem test_FeederStationsJoinAndLeave_19 :
    (fun (d : Fin 32) (s : State) =>
      decide ((s.splc.dsp[d].unacked < leaveTmo s))) (0) (live) = true := by decide

theorem test_FeederStationsJoinAndLeave_20 :
    (fun (w : World) (d : Fin 32) (s : State) =>
      decide ((s.canWrite w 225 = true) ∧
        (joined s d = false))) (0) (0) (live) = true := by decide

theorem test_FeederMessagesAreQueued_1 :
    (fun (d : Fin 32) (typ : Nat) (seq : Nat) (body : List Byte) (s : State) =>
      decide ((cplHears s (dspCpl s d) = true) ∧
        (joined s d = true) ∧
        (0x10 ≤ typ) ∧
        (typ ≤ 0x1F) ∧
        (body.length ≤ 1024) ∧
        (seq % 256 ≠ s.rd R.dsp_EVT_SEQ [d.val]) ∧
        (s.splc.rx.length < 64) ∧
        (oosDrops s d typ = false) ∧
        (rxBytes s.splc + (4 + body.length) ≤ 16384))) (31) (0x1F) (256) ([]) (((((((on [4, 224] ((slotted 5 12 live).wr R.slot_ENGINE [5] 3)).wr R.teth_ACTIVE [] 1).wr R.cpl_CEN [0] 1).wr R.cpl_NMK_KEY [0] 5).wr R.cpl_BSTATE [0] 1).wr R.dsp_DSTATE [31] 2).wr R.dsp_EVT_SEQ [31] 255) = true := by decide

theorem test_FeederMessagesAreQueued_2 :
    (fun (d : Fin 32) (typ : Nat) (seq : Nat) (body : List Byte) (s : State) =>
      decide ((cplHears s (dspCpl s d) = false ∨ joined s d = false ∨ typ < 0x10 ∨ 0x1F < typ ∨ 1024 < body.length ∨ oosDrops s d typ = true ∨
      (seq % 256 ≠ s.rd R.dsp_EVT_SEQ [d.val] ∧
        (64 ≤ s.splc.rx.length ∨ 16384 < rxBytes s.splc + (4 + body.length)))))) (31) (0x10) (0) ([]) (live) = true := by decide

theorem test_FeederMessagesAreQueued_3 :
    (fun (d : Fin 32) (total : Nat) (bad : Nat) (_resent : Nat) (_blanked : Nat) (s : State) =>
      decide ((cplOn s (dspCpl s d) = true) ∧
        (joined s d = true) ∧
        (2 * bad ≤ total))) (31) (2) (1) (0) (0) (((((((on [4, 224] ((slotted 5 12 live).wr R.slot_ENGINE [5] 3)).wr R.teth_ACTIVE [] 1).wr R.cpl_CEN [0] 1).wr R.cpl_NMK_KEY [0] 5).wr R.cpl_BSTATE [0] 1).wr R.dsp_DSTATE [31] 2)) = true := by decide

theorem test_FeederMessagesAreQueued_4 :
    (fun (d : Fin 32) (_total : Nat) (_bad : Nat) (_resent : Nat) (_blanked : Nat) (s : State) =>
      decide ((cplOn s (dspCpl s d) = true) ∧
        (joined s d = true))) (31) (1) (1) (0) (0) (((((((on [4, 224] ((slotted 5 12 live).wr R.slot_ENGINE [5] 3)).wr R.teth_ACTIVE [] 1).wr R.cpl_CEN [0] 1).wr R.cpl_NMK_KEY [0] 5).wr R.cpl_BSTATE [0] 1).wr R.dsp_DSTATE [31] 2)) = true := by decide

theorem test_FeederMessagesAreQueued_5 :
    (fun (d : Fin 32) (m : SplcTx) (_total : Nat) (_resent : Nat) (_blanked : Nat) (s : State) =>
      decide ((cplOn s (dspCpl s d) = true) ∧
        (joined s d = true) ∧
        (s.splc.tx.find? (fun m => m.dest == d.val) = some m))) (31) (⟨31, 0, [1], 0⟩) (0) (0) (0) ((fun t : State => { t with splc := { t.splc with tx := [⟨31, 0, [1], 0⟩] } }) ((((((on [4, 224] ((slotted 5 12 live).wr R.slot_ENGINE [5] 3)).wr R.teth_ACTIVE [] 1).wr R.cpl_CEN [0] 1).wr R.cpl_NMK_KEY [0] 5).wr R.cpl_BSTATE [0] 1).wr R.dsp_DSTATE [31] 2)) = true := by decide

theorem test_FeederMessagesAreQueued_6 :
    (fun (w : World) (d : Fin 32) (s : State) =>
      decide ((s.canWrite w 226 = true) ∧
        (s.rd R.splc_TX_DEST [] = d.val) ∧
        (joined s d = true) ∧
        (4 ≤ s.rd R.splc_TX_LEN []) ∧
        (s.rd R.splc_TX_LEN [] ≤ 1028) ∧
        (txTypeOk ((memBytes s.splc.stage 0 (s.rd R.splc_TX_LEN [])).getD 0 0).toNat = true) ∧
        (s.splc.tx.length < 32) ∧
        (txBytes s.splc + s.rd R.splc_TX_LEN [] ≤ 16384))) (0) (31) ((fun t : State => { t with splc := { t.splc with stage := [⟨0, 1⟩] } }) (((((on [4, 224] live).wr R.teth_ACTIVE [] 1).wr R.dsp_DSTATE [31] 2).wr R.splc_TX_DEST [] 31).wr R.splc_TX_LEN [] 4)) = true := by decide

theorem test_FeederMessagesAreQueued_7 :
    (fun (w : World) (d : Fin 32) (s : State) =>
      decide ((s.canWrite w 226 = true) ∧
        (s.rd R.splc_TX_DEST [] = d.val))) (0) (31) (live.wr R.splc_TX_DEST [] 31) = true := by decide

theorem test_FeederMessagesAreQueued_8 :
    (fun (w : World) (s : State) =>
      decide ((s.canWrite w 226 = true))) (0) (live) = true := by decide

theorem test_FeederMessagesAreQueued_9 :
    (fun (d : Fin 32) (typ : Nat) (seq : Nat) (body : List Byte) (s : State) =>
      decide ((cplHears s (dspCpl s d) = true) ∧
        (joined s d = true) ∧
        (0x10 ≤ typ) ∧
        (typ ≤ 0x1F) ∧
        (body.length ≤ 1024) ∧
        (seq % 256 = s.rd R.dsp_EVT_SEQ [d.val]) ∧
        (oosDrops s d typ = false))) (31) (0x1F) (256) ([]) (((((((on [4, 224] ((slotted 5 12 live).wr R.slot_ENGINE [5] 3)).wr R.teth_ACTIVE [] 1).wr R.cpl_CEN [0] 1).wr R.cpl_NMK_KEY [0] 5).wr R.cpl_BSTATE [0] 1).wr R.dsp_DSTATE [31] 2).wr R.dsp_EVT_SEQ [31] 0) = true := by decide

theorem test_FeederMessagesAreQueued_10 :
    (fun (d : Fin 32) (m : SplcTx) (_total : Nat) (_bad : Nat) (_resent : Nat) (_blanked : Nat) (s : State) =>
      decide ((cplOn s (dspCpl s d) = true) ∧
        (joined s d = true) ∧
        (s.splc.tx.find? (fun m => m.dest == d.val) = some m))) (31) (⟨31, 0, [1], 0⟩) (0) (0) (0) (0) ((fun t : State => { t with splc := { t.splc with tx := [⟨31, 0, [1], 0⟩] } }) ((((((on [4, 224] ((slotted 5 12 live).wr R.slot_ENGINE [5] 3)).wr R.teth_ACTIVE [] 1).wr R.cpl_CEN [0] 1).wr R.cpl_NMK_KEY [0] 5).wr R.cpl_BSTATE [0] 1).wr R.dsp_DSTATE [31] 2)) = true := by decide

theorem test_FeederMessagesAreQueued_11 :
    (fun (d : Fin 32) (_ack : Bool) (_q : Bool) (_total : Nat) (_bad : Nat) (_resent : Nat) (_blanked : Nat) (s : State) =>
      decide ((cplHears s (dspCpl s d) = false ∨ joined s d = false))) (0) (false) (false) (0) (0) (0) (0) (live) = true := by decide

theorem test_FeederMessagesAreQueued_12 :
    (fun (d : Fin 32) (_ack : Bool) (_q : Bool) (_total : Nat) (_bad : Nat) (_resent : Nat) (_blanked : Nat) (s : State) =>
      decide ((cplHears s (dspCpl s d) = true) ∧
        (cplOn s (dspCpl s d) = false) ∧
        (joined s d = true))) (31) (false) (false) (0) (0) (0) (0) (((((((on [4, 224] ((slotted 5 12 live).wr R.slot_ENGINE [5] 3)).wr R.teth_ACTIVE [] 1).wr R.cpl_CEN [0] 1).wr R.cpl_NMK_KEY [0] 5).wr R.cpl_BSTATE [0] 1).wr R.dsp_DSTATE [31] 2).wr R.cpl_BSTATE [0] 3) = true := by decide

theorem test_MetersAddTheirSteps_1 :
    (fun (s : State) =>
      decide ((s.addDue = true) ∧
        (s.inReset 14 = false))) ({ live with addDue := true }) = true := by decide

theorem test_MetersAddTheirSteps_2 :
    (fun (s : State) =>
      decide ((s.addDue = false ∨ s.inReset 14 = true))) ({ live with addDue := false }) = true := by decide

theorem test_MeterEventsActOnTheirChannel_1 :
    (fun (n : Fin 8) (s : State) =>
      decide ((pulseOn s n = true) ∧
        (0 < s.rd R.mtr_PEND [n.val]) ∧
        (s.pulses[n].next ≤ s.now + s.spar.clocks))) (7) (((on [256, 292] live).wr R.mtr_PEN [7] 1).wr R.mtr_PMTR [7] 35 |>.wr R.mtr_PEND [7] 1) = true := by decide

theorem test_MeterEventsActOnTheirChannel_2 :
    (fun (c : Fin 4) (ph : Fin 3) (_at_ : Nat) (x0 : Int) (x1 : Int) (low : Int) (s : State) =>
      decide ((s.inReset 14 = false) ∧
        (s.phases[phaseIx c ph].armed = true ∨ armLevel s c.val low = true) ∧
        (x0 < 0) ∧
        (0 ≤ x1))) (3) (2) (0) (-5) (5) (0) ((fun t : State => { t with phases := vupd t.phases 11 (fun x => { x with armed := true }) }) live) = true := by decide

theorem test_MeterEventsActOnTheirChannel_3 :
    (fun (c : Fin 4) (ph : Fin 3) (_at_ : Nat) (x0 : Int) (x1 : Int) (low : Int) (s : State) =>
      decide (((s.phases[phaseIx c ph].armed = false ∧ armLevel s c.val low = false) ∨ 0 ≤ x0 ∨ x1 < 0 ∨ s.inReset 14 = true))) (3) (2) (0) (0) (0) (0) (live) = true := by decide

theorem test_MeterEventsActOnTheirChannel_4 :
    (fun (c : Fin 4) (ph : Fin 3) (s : State) =>
      decide ((s.inReset 14 = false) ∧
        (bitB (s.rd R.mt_ZC_LOST [32 + c.val]) ph.val = false) ∧
        (s.phases[phaseIx c ph].since + zcTmo s c.val ≤ s.now + s.spar.clocks))) (3) (2) ({ live with now := 200000 * 65535 }) = true := by decide

theorem test_MeterEventsActOnTheirChannel_6 :
    (fun (g : Fin 4) (s : State) =>
      decide ((s.inReset 14 = false) ∧
        (s.active = false) ∧
        (bitB (s.rd R.mtr_MCLK_DRV []) g.val = false))) (3) (live) = true := by decide

theorem test_MeterEventsActOnTheirChannel_7 :
    (fun (w : World) (m : Meter) (s : State) =>
      decide ((s.canWrite w (257 + m.val) = true) ∧
        (s.rd R.hdr_EN [257 + m.val] = 0) ∧
        (logFull s = false))) (1) (0) ((live).wr R.hdr_EN [257 + 0] (0)) = true := by decide

theorem test_MeterEventsActOnTheirChannel_8 :
    (fun (w : World) (m : Meter) (s : State) =>
      decide ((s.canWrite w (257 + m.val) = true) ∧
        (s.rd R.hdr_EN [257 + m.val] = 1))) (1) (0) ((live).wr R.hdr_EN [257 + 0] (1)) = true := by decide

theorem test_MeterEventsActOnTheirChannel_9 :
    (fun (on : Bool) (s : State) =>
      decide ((s.rd R.mtr_SEAL [] ≠ b2n on) ∧
        (logFull s = false))) (true) (live.wr R.bill_SEAL_FREE [] 1) = true := by decide

theorem test_MeterEventsActOnTheirChannel_10 :
    (fun (on : Bool) (s : State) =>
      decide ((s.rd R.mtr_SEAL [] = b2n on))) (false) ((live).wr R.mtr_SEAL [] (b2n false)) = true := by decide

theorem test_MeterEventsActOnTheirChannel_11 :
    (fun (w : World) (m : Meter) (_v : Word) (s : State) =>
      decide ((s.canWrite w (257 + m.val) = true))) (1) (0) (0) (live) = true := by decide

theorem test_MeterEventsActOnTheirChannel_12 :
    (fun (w : World) (_m : Meter) (_v : Word) (s : State) =>
      decide ((s.canWrite w 256 = true))) (1) (0) (0) (live) = true := by decide

theorem test_MeterEventsActOnTheirChannel_13 :
    (fun (n : Fin 8) (s : State) =>
      decide ((pulseOn s n = false ∨ s.rd R.mtr_PEND [n.val] = 0 ∨ s.now + s.spar.clocks < s.pulses[n].next))) (0) (live) = true := by decide

theorem test_MeterEventsActOnTheirChannel_14 :
    (fun (c : Fin 4) (ph : Fin 3) (s : State) =>
      decide ((s.inReset 14 = true ∨ bitB (s.rd R.mt_ZC_LOST [32 + c.val]) ph.val = true ∨
      s.now + s.spar.clocks < s.phases[phaseIx c ph].since + zcTmo s c.val))) (0) (0) (live) = true := by decide

theorem test_MeterEventsActOnTheirChannel_15 :
    (fun (g : Fin 4) (s : State) =>
      decide ((s.inReset 14 = true ∨ s.active = true ∨ bitB (s.rd R.mtr_MCLK_DRV []) g.val = true))) (3) (live.wr R.teth_ACTIVE [] 1) = true := by decide

theorem test_MeterEventsActOnTheirChannel_16 :
    (fun (w : World) (m : Meter) (s : State) =>
      decide ((s.canWrite w (257 + m.val) = true) ∧
        (s.rd R.hdr_EN [257 + m.val] = 0) ∧
        (logFull s = true))) (1) (34) ((fun t : State => { t with bill := { t.bill with logSeal := List.replicate 4096 ⟨0, 0, 0, 0, 0, 0, 0, 0, 0⟩ } }) (live)) = true := by decide

theorem test_MeterEventsActOnTheirChannel_17 :
    (fun (on : Bool) (s : State) =>
      decide ((s.rd R.mtr_SEAL [] ≠ b2n on) ∧
        (logFull s = true))) (true) ((fun t : State => { t with bill := { t.bill with logSeal := List.replicate 4096 ⟨0, 0, 0, 0, 0, 0, 0, 0, 0⟩ } }) (live.wr R.mtr_SEAL [] 0)) = true := by decide

theorem test_BillingRequestsAreAnswered_1 :
    (fun (_pre : Bool) (_low : Int) (_ident : List (List Byte)) (p : Port) (s : State) =>
      decide ((LastRequest s 1) ∧
        (reqPort s = some p))) (false) (0) ([]) (31) ((fun t : State => { t with bill := { t.bill with reqLeft := 1 }, sram1 := [⟨0, 1⟩, ⟨1, 9⟩, ⟨2, 31⟩, ⟨16384, 1⟩] }) live) = true := by decide

theorem test_BillingRequestsAreAnswered_2 :
    (fun (_pre : Bool) (_low : Int) (_ident : List (List Byte)) (s : State) =>
      decide ((LastRequest s 1) ∧
        (reqPort s = none))) (false) (0) ([]) ((fun t : State => { t with bill := { t.bill with reqLeft := 1 }, sram1 := [⟨0, 1⟩, ⟨1, 9⟩, ⟨2, 99⟩, ⟨16384, 1⟩] }) live) = true := by decide

theorem test_BillingRequestsAreAnswered_3 :
    (fun (p : Port) (s : State) =>
      decide ((LastRequest s 2) ∧
        (reqPort s = some p))) (31) ((fun t : State => { t with bill := { t.bill with reqLeft := 1 }, sram1 := [⟨0, 2⟩, ⟨1, 9⟩, ⟨2, 31⟩, ⟨16384, 1⟩] }) live) = true := by decide

theorem test_BillingRequestsAreAnswered_4 :
    (fun (_token : Word) (_amount : Nat) (_sig : List Byte) (p : Port) (s : State) =>
      decide ((LastRequest s 3) ∧
        (reqPort s = some p))) (0) (0) ([]) (31) ((fun t : State => { t with bill := { t.bill with reqLeft := 1 }, sram1 := [⟨0, 3⟩, ⟨1, 9⟩, ⟨2, 31⟩, ⟨16384, 1⟩] }) live) = true := by decide

theorem test_BillingRequestsAreAnswered_5 :
    (fun (_ofs : Nat) (_data : List Byte) (s : State) =>
      decide ((LastRequest s 4))) (0) ([]) ((fun t : State => { t with bill := { t.bill with reqLeft := 1 }, sram1 := [⟨0, 4⟩, ⟨1, 9⟩, ⟨2, 31⟩, ⟨16384, 1⟩] }) live) = true := by decide

theorem test_BillingRequestsAreAnswered_6 :
    (fun (_sig : List Byte) (s : State) =>
      decide ((LastRequest s 5))) ([]) ((fun t : State => { t with bill := { t.bill with reqLeft := 1 }, sram1 := [⟨0, 5⟩, ⟨1, 9⟩, ⟨2, 31⟩, ⟨16384, 1⟩] }) live) = true := by decide

theorem test_BillingRequestsAreAnswered_7 :
    (fun (_kind : Nat) (_index : Word) (_ofs : Nat) (s : State) =>
      decide ((LastRequest s 6))) (1) (0) (0) ((fun t : State => { t with bill := { t.bill with reqLeft := 1 }, sram1 := [⟨0, 6⟩, ⟨1, 9⟩, ⟨2, 0⟩, ⟨16384, 1⟩] }) live) = true := by decide

theorem test_BillingRequestsAreAnswered_8 :
    (fun (s : State) =>
      decide ((LastRequest s 2) ∧
        (reqPort s = none))) ((fun t : State => { t with bill := { t.bill with reqLeft := 1 }, sram1 := [⟨0, 2⟩, ⟨1, 9⟩, ⟨2, 99⟩, ⟨16384, 1⟩] }) live) = true := by decide

theorem test_BillingRequestsAreAnswered_9 :
    (fun (_token : Word) (_amount : Nat) (_sig : List Byte) (s : State) =>
      decide ((LastRequest s 3) ∧
        (reqPort s = none))) (5) (7) ([]) ((fun t : State => { t with bill := { t.bill with reqLeft := 1 }, sram1 := [⟨0, 3⟩, ⟨1, 9⟩, ⟨2, 99⟩, ⟨16384, 1⟩] }) live) = true := by decide

theorem test_BillingRequestsAreAnswered_10 :
    (fun (pre : Bool) (low : Int) (ident : List (List Byte)) (token : Word) (index : Word) (amount : Nat) (ofs : Nat) (kind : Nat) (sig : List Byte) (data : List Byte) (c : Instr) (n : Nat) (s : State) =>
      decide ((reqReady s = false ∨ reqByte s 0 ≠ n) ∧
        ((c, n) ∈ [(Instr.sessionOpen pre low ident, 1), (.sessionClose, 2), (.credit token amount sig, 3), (.calPart ofs data, 4),
      (.calCommit sig, 5), (.billRead kind index ofs, 6)]))) (false) (0) ([]) (0) (0) (0) (0) (0) ([]) ([]) (.sessionClose) (2) (live) = true := by decide

theorem test_BoundariesBootAndDisplay_1 :
    (fun (k : Fin 2) (sh : ShadowS) (s : State) =>
      decide ((s.inReset 15 = false) ∧
        (oldestSlot s = some k) ∧
        (s.bill.slots[k] = some sh))) (1) (⟨0, 0, 0, 0, false, false, false, false, 0, 0, 0, [], Why.none, 0, false, false, 0⟩) ((fun t : State => { t with bill := { t.bill with slots := t.bill.slots.set 1 (some ⟨0, 0, 0, 0, false, false, false, false, 0, 0, 0, [], Why.none, 0, false, false, 0⟩) } }) (live.wr R.bill_SLOT_PEND [] 2)) = true := by decide

theorem test_BoundariesBootAndDisplay_2 :
    (fun (s : State) =>
      decide ((oldestSlot s = none))) (live) = true := by decide

theorem test_BoundariesBootAndDisplay_3 :
    (fun (s : State) =>
      decide ((s.inReset 15 = false) ∧
        ((∀ k : Fin 2, bitB (s.rd R.bill_SLOT_PEND []) k.val = true → (s.bill.slots[k]).isSome = true)))) (live) = true := by decide

theorem test_BoundariesBootAndDisplay_4 :
    (fun (p : Port) (d : DiscW) (s : State) =>
      decide (((s.bs p).disc = some d) ∧
        (d.sess = s.rd R.port_SESS_ID [p.val]) ∧
        (d.failed = false) ∧
        (d.stepOpen = true ∨ (d.opened = false ∧ d.since + s.rd R.bill_DISC_TMO [] ≤ monoMs s)))) (31) (⟨5, 0, false, false, false⟩) ((fun t : State => { t with bill := { t.bill with sess := vupd t.bill.sess 31 (fun x => { x with disc := some ⟨5, 0, false, false, false⟩ }) } }) ({ (live.wr R.port_SESS_ID [31] 5) with now := 1000000000000000 })) = true := by decide

theorem test_BoundariesBootAndDisplay_5 :
    (fun (s : State) =>
      decide ((s.inReset 15 = false))) (live) = true := by decide

theorem test_BoundariesBootAndDisplay_6 :
    (fun (p : Nat) (s : State) =>
      decide ((s.inReset 15 = false) ∧
        (s.bill.dPort = some p) ∧
        (p ∈ dispPorts s) ∧
        (s.bill.dItem + 1 < 32) ∧
        (s.bill.dAt + 1000 * min 20 (max 2 (s.rd R.pre_DUR [p, s.bill.dItem])) ≤ monoMs s) ∧
        (itemCode s p (s.bill.dItem + 1) ≠ 0))) (31) ({ ((fun t : State => { t with bill := { t.bill with dPort := some 31, dItem := 30 } }) (((((live.wr R.bill_DISP_EN [] 1).wr R.bill_DISP_PORTS [] 0x80000000).wr R.pre_CODE [31, 0] 1).wr R.pre_CODE [31, 31] 1))) with now := 1000000000000000 }) = true := by decide

theorem test_BoundariesBootAndDisplay_7 :
    (fun (p : Nat) (s : State) =>
      decide ((s.inReset 15 = false) ∧
        (s.bill.dPort = some p) ∧
        (p ∉ dispPorts s ∨ (s.bill.dAt + 1000 * min 20 (max 2 (s.rd R.pre_DUR [p, s.bill.dItem])) ≤ monoMs s ∧
      (itemCode s p (s.bill.dItem + 1) = 0 ∨ 32 ≤ s.bill.dItem + 1))))) (31) ({ ((fun t : State => { t with bill := { t.bill with dPort := some 31, dItem := 30 } }) (((((live.wr R.bill_DISP_EN [] 1).wr R.bill_DISP_PORTS [] 0x80000000).wr R.pre_CODE [31, 0] 1).wr R.pre_CODE [31, 31] 0))) with now := 1000000000000000 }) = true := by decide

theorem test_BoundariesBootAndDisplay_8 :
    (fun (s : State) =>
      decide ((s.inReset 15 = false) ∧
        (s.bill.dPort = none))) ((fun t : State => { t with bill := { t.bill with dPort := none } }) (live)) = true := by decide

theorem test_BoundariesBootAndDisplay_9 :
    (fun (p : Nat) (s : State) =>
      decide ((s.bill.dPort = some p) ∧
        (p ∈ dispPorts s) ∧
        (monoMs s < s.bill.dAt + 1000 * min 20 (max 2 (s.rd R.pre_DUR [p, s.bill.dItem]))))) (31) ((fun t : State => { t with bill := { t.bill with dPort := some 31, dItem := 0 } }) (((((live.wr R.bill_DISP_EN [] 1).wr R.bill_DISP_PORTS [] 0x80000000).wr R.pre_CODE [31, 0] 1).wr R.pre_CODE [31, 31] 1))) = true := by decide

theorem test_BoundariesBootAndDisplay_10 :
    (fun (p : Port) (s : State) =>
      decide (((∀ d, (s.bs p).disc = some d → d.sess ≠ s.rd R.port_SESS_ID [p.val] ∨ d.failed = true ∨
      (d.stepOpen = false ∧
        (d.opened = true ∨ monoMs s < d.since + s.rd R.bill_DISC_TMO [])))))) (0) (live) = true := by decide

theorem test_BoundariesBootAndDisplay_11 :
    (fun (s : State) =>
      decide ((s.inReset 15 = true))) (heldIn 15 live) = true := by decide

theorem test_TemperaturesAreJudged_1 :
    (fun (_raw : List (Nat × Bool)) (s : State) =>
      decide ((s.thrm.slotDue = true) ∧
        (thrmRuns s = true) ∧
        (s.reduced = false))) ([]) ((fun t : State => { t with thrm := { t.thrm with slotDue := true } }) ((on [320] live).wr R.teth_ACTIVE [] 1)) = true := by decide

theorem test_TemperaturesAreJudged_2 :
    (fun (w : World) (_v : Word) (s : State) =>
      decide ((s.canWrite w 320 = true))) (0) (0) (live) = true := by decide

theorem test_TemperaturesAreJudged_3 :
    (fun (s : State) =>
      decide ((s.inReset 16 = false) ∧
        (bitB (s.rd R.thrm_TD_VALID []) 1 = true) ∧
        ((∀ n, s.thrm.thrAt = some n → 20000000 ≤ s.now - n)))) ((live.wr R.thrm_TD_VALID [] 2)) = true := by decide

theorem test_TemperaturesAreJudged_4 :
    (fun (_raw : List (Nat × Bool)) (s : State) =>
      decide ((s.thrm.slotDue = false ∨ thrmRuns s = false ∨ s.reduced = true))) ([]) ((fun t : State => { t with thrm := { t.thrm with slotDue := false } }) (live)) = true := by decide

theorem test_TemperaturesAreJudged_5 :
    (fun (s : State) (n : Nat) =>
      decide ((s.inReset 16 = true ∨ bitB (s.rd R.thrm_TD_VALID []) 1 = false ∨ (s.thrm.thrAt = some n ∧ s.now - n < 20000000)))) (live) (0) = true := by decide

theorem test_SwitchChannelsTripAndRecover_1 :
    (fun (n : Fin 32) (s : State) =>
      decide ((s.rd R.lch_OUT [n.val] = 1) ∧
        (s.rd R.lch_INRUSH [n.val] = 0) ∧
        ((s.rd R.lch_LIMIT [n.val] = 1 ∧ heldFor s (s.lc n).limAt (200000 * max 1 (s.rd R.lch_TLIM [n.val])) = true) ∨ s.inReset 17 = true))) (31) ((fun t : State => { t with lsw := { t.lsw with ch := vupd t.lsw.ch 31 (fun x => { x with limAt := some 0 }) } }) ({ (((live.wr R.lch_OUT [31] 1).wr R.lch_LIMIT [31] 1).wr R.lch_TLIM [31] 100) with now := 1000000000000000 })) = true := by decide

theorem test_SwitchChannelsTripAndRecover_2 :
    (fun (n : Fin 32) (dt : Int) (s : State) =>
      decide ((s.rd R.lch_OUT [n.val] = 1) ∧
        (((max 10 (min 100 (s.rd R.lch_DT_LIM [n.val])) : Nat) : Int) ≤ dt) ∧
        (heldFor s (s.lc n).dtAt (200000 * s.rd R.lch_DT_TIME [n.val]) = true ∨ s.inReset 17 = true))) (31) (100) ((fun t : State => { t with lsw := { t.lsw with ch := vupd t.lsw.ch 31 (fun x => { x with dtAt := some 0 }) } }) ({ (live.wr R.lch_OUT [31] 1) with now := 1000000000000000 })) = true := by decide

theorem test_SwitchChannelsTripAndRecover_3 :
    (fun (c : Int) (s : State) =>
      decide ((2400 ≤ c) ∧
        (s.rd R.lsw_CASE_TRIP [] = 0))) (2400) ((live).wr R.lsw_CASE_TRIP [] (0)) = true := by decide

theorem test_SwitchChannelsTripAndRecover_4 :
    (fun (c : Int) (s : State) =>
      decide ((s.inReset 17 = true) ∧
        (s.rd R.lsw_CASE_TRIP [] = 1) ∧
        (c ≤ 2080))) (2080) ((fun t : State => { t with rst := { t.rst with inReset := t.rst.inReset.set 17 true } }) (live.wr R.lsw_CASE_TRIP [] 1)) = true := by decide

theorem test_SwitchChannelsTripAndRecover_5 :
    (fun (n : Fin 32) (s : State) =>
      decide ((s.rd R.lch_TRIP_I [n.val] = 1 ∨ s.rd R.lch_TRIP_DT [n.val] = 1) ∧
        (s.rd R.lch_RETRY_CNT [n.val] < s.rd R.lch_RETRY [n.val]) ∧
        (s.rd R.lch_RETRY_END [n.val] = 0) ∧
        (heldFor s (s.lc n).tripAt (2000000 * s.rd R.lch_RETRY_DLY [n.val]) = true ∨ s.inReset 17 = true))) (31) ((fun t : State => { t with lsw := { t.lsw with ch := vupd t.lsw.ch 31 (fun x => { x with tripAt := some 0 }) } }) ({ ((live.wr R.lch_TRIP_I [31] 1).wr R.lch_RETRY [31] 1) with now := 1000000000000000 })) = true := by decide

theorem test_SwitchChannelsTripAndRecover_6 :
    (fun (n : Fin 32) (s : State) =>
      decide ((s.rd R.lch_OUT [n.val] = 1) ∧
        (heldFor s (s.lc n).onAt 200000000 = true ∨ s.inReset 17 = true))) (0) ((fun t : State => { t with lsw := { t.lsw with ch := vupd t.lsw.ch 0 (fun x => { x with onAt := some 0 }) } }) ({ (live.wr R.lch_OUT [0] 1) with now := 1000000000000000 })) = true := by decide

theorem test_SwitchChannelsTripAndRecover_7 :
    (fun (n : Fin 32) (s : State) =>
      decide ((s.rd R.lch_INRUSH [n.val] = 1) ∧
        (lswLive s = false ∨ (s.lc n).winEnd ≤ s.now + s.spar.clocks))) (0) ((live).wr R.lch_INRUSH [0] (1)) = true := by decide

theorem test_SwitchChannelsTripAndRecover_8 :
    (fun (n : Fin 32) (s : State) =>
      decide ((s.rd R.lch_OUT [n.val] = 1) ∧
        (s.rd R.lch_INRUSH [n.val] = 0) ∧
        (s.rd R.lch_I_MEAS [n.val] < s.rd R.lch_OPEN_TH [n.val]) ∧
        (s.rd R.lch_OPEN_LOAD [n.val] = 0) ∧
        (heldFor s (s.lc n).lowAt 20000000 = true))) (31) ((fun t : State => { t with lsw := { t.lsw with ch := vupd t.lsw.ch 31 (fun x => { x with lowAt := some 0 }) } }) ({ ((live.wr R.lch_OUT [31] 1).wr R.lch_OPEN_TH [31] 1) with now := 1000000000000000 })) = true := by decide

theorem test_SwitchChannelsTripAndRecover_9 :
    (fun (w : World) (n : Fin 32) (s : State) =>
      decide ((s.canWrite w 329 = true) ∧
        (s.rd R.lsw_LIMP_EN_IN [] = 1) ∧
        (limpSel s n = true))) (0) (31) ((fun t : State => { t with lsw := { t.lsw with ch := vupd t.lsw.ch 31 (fun x => { x with keepSel := true }) } }) ({ (live.wr R.lsw_LIMP_EN_IN [] 1) with now := 1000000000000000 })) = true := by decide

theorem test_SwitchChannelsTripAndRecover_10 :
    (fun (w : World) (n : Fin 32) (s : State) =>
      decide ((s.canWrite w 329 = true) ∧
        (s.rd R.lsw_LIMP_EN_IN [] = 0 ∨ limpSel s n = false))) (0) (0) ((live).wr R.lsw_LIMP_EN_IN [] (0)) = true := by decide

theorem test_SwitchChannelsTripAndRecover_11 :
    (fun (w : World) (s : State) =>
      decide ((s.canWrite w 328 = true) ∧
        (s.rdI R.lsw_TCASE [] ≤ 2080))) (0) (live) = true := by decide

theorem test_SwitchChannelsTripAndRecover_12 :
    (fun (w : World) (s : State) =>
      decide ((s.canWrite w 328 = true) ∧
        (2080 < s.rdI R.lsw_TCASE []))) (0) ((live).wr R.lsw_TCASE [] (2080 + 1)) = true := by decide

theorem test_SwitchChannelsTripAndRecover_13 :
    (fun (w : World) (_n : Fin 32) (s : State) =>
      decide ((s.canWrite w 329 = true))) (0) (0) (live) = true := by decide

theorem test_SwitchChannelsTripAndRecover_14 :
    (fun (w : World) (s : State) =>
      decide ((s.canWrite w 328 = true))) (0) (live) = true := by decide

theorem test_SwitchChannelsTripAndRecover_15 :
    (fun (w : World) (s : State) =>
      decide ((s.canWrite w 328 = true))) (0) (live) = true := by decide

theorem test_SwitchChannelsTripAndRecover_16 :
    (fun (n : Fin 32) (s : State) =>
      decide ((s.rd R.lch_OUT [n.val] = 0 ∨ s.rd R.lch_INRUSH [n.val] = 1 ∨
      (s.inReset 17 = false ∧
        (s.rd R.lch_LIMIT [n.val] = 0 ∨
        heldFor s (s.lc n).limAt (200000 * max 1 (s.rd R.lch_TLIM [n.val])) = false))))) (0) ((live).wr R.lch_OUT [0] (0)) = true := by decide

theorem test_SwitchChannelsTripAndRecover_17 :
    (fun (n : Fin 32) (dt : Int) (s : State) =>
      decide ((s.rd R.lch_OUT [n.val] = 0 ∨ dt < ((max 10 (min 100 (s.rd R.lch_DT_LIM [n.val])) : Nat) : Int) ∨
      (s.inReset 17 = false ∧ heldFor s (s.lc n).dtAt (200000 * s.rd R.lch_DT_TIME [n.val]) = false)))) (0) (0) ((live).wr R.lch_OUT [0] (0)) = true := by decide

theorem test_SwitchChannelsTripAndRecover_18 :
    (fun (c : Int) (s : State) =>
      decide ((c < 2400 ∨ s.rd R.lsw_CASE_TRIP [] = 1))) (0) (live) = true := by decide

theorem test_SwitchChannelsTripAndRecover_19 :
    (fun (c : Int) (s : State) =>
      decide ((s.inReset 17 = false ∨ s.rd R.lsw_CASE_TRIP [] = 0 ∨ 2080 < c))) (0) (live) = true := by decide

theorem test_SwitchChannelsTripAndRecover_20 :
    (fun (n : Fin 32) (s : State) =>
      decide (((s.rd R.lch_TRIP_I [n.val] = 0 ∧ s.rd R.lch_TRIP_DT [n.val] = 0) ∨
      s.rd R.lch_RETRY [n.val] ≤ s.rd R.lch_RETRY_CNT [n.val] ∨ s.rd R.lch_RETRY_END [n.val] = 1 ∨
      (s.inReset 17 = false ∧ heldFor s (s.lc n).tripAt (2000000 * s.rd R.lch_RETRY_DLY [n.val]) = false)))) (31) (live.wr R.lch_RETRY_END [31] 1) = true := by decide

theorem test_SwitchChannelsTripAndRecover_21 :
    (fun (n : Fin 32) (s : State) =>
      decide ((s.rd R.lch_OUT [n.val] = 0 ∨ (s.inReset 17 = false ∧
      heldFor s (s.lc n).onAt 200000000 = false)))) (0) ((live).wr R.lch_OUT [0] (0)) = true := by decide

theorem test_SwitchChannelsTripAndRecover_22 :
    (fun (n : Fin 32) (s : State) =>
      decide ((s.rd R.lch_INRUSH [n.val] = 0 ∨ (lswLive s = true ∧ s.now + s.spar.clocks < (s.lc n).winEnd)))) (0) ((live).wr R.lch_INRUSH [0] (0)) = true := by decide

theorem test_SwitchChannelsTripAndRecover_23 :
    (fun (n : Fin 32) (s : State) =>
      decide ((s.rd R.lch_OUT [n.val] = 0 ∨ s.rd R.lch_INRUSH [n.val] = 1 ∨
      s.rd R.lch_OPEN_TH [n.val] ≤ s.rd R.lch_I_MEAS [n.val] ∨ s.rd R.lch_OPEN_LOAD [n.val] = 1 ∨
      heldFor s (s.lc n).lowAt 20000000 = false))) (0) ((live).wr R.lch_OUT [0] (0)) = true := by decide

theorem test_SwitchChannelsFollowTheirSource_2 :
    (fun (_pins : Nat) (s : State) =>
      decide ((lswLive s = true))) (0) ((fun t : State => { t with lsw := { t.lsw with ran := true } }) (live)) = true := by decide

theorem test_SwitchChannelsFollowTheirSource_3 :
    (fun (n : Fin 32) (s : State) =>
      decide ((s.rd R.lsw_LIMP_EN_IN [] = 1) ∧
        (limpSel s n = true) ∧
        (bitB s.lsw.limp n.val = false) ∧
        (heldFor s s.lsw.limpLow[n] 2000000 = true ∨ s.inReset 17 = true))) (31) ((fun t : State => { t with lsw := { t.lsw with limpLow := t.lsw.limpLow.set 31 (some 0) } }) ((fun t : State => { t with lsw := { t.lsw with ch := vupd t.lsw.ch 31 (fun x => { x with keepSel := true }) } }) ({ (live.wr R.lsw_LIMP_EN_IN [] 1) with now := 1000000000000000 }))) = true := by decide

theorem test_SwitchChannelsFollowTheirSource_4 :
    (fun (n : Fin 32) (s : State) =>
      decide (((s.lc n).holdRun = true) ∧
        (lswLive s = false))) (31) ((fun t : State => { t with lsw := { t.lsw with ch := vupd t.lsw.ch 31 (fun x => { x with holdRun := true }) } }) live) = true := by decide

theorem test_SwitchChannelsFollowTheirSource_5 :
    (fun (w : World) (s : State) =>
      decide ((s.canWrite w 328 = true) ∧
        (s.rd R.hdr_EN [328] = 0))) (0) ((live).wr R.hdr_EN [328] (0)) = true := by decide

theorem test_SwitchChannelsFollowTheirSource_6 :
    (fun (v : Nat) (_s : State) =>
      decide ((v < 1600))) (0) (live) = true := by decide

theorem test_SwitchChannelsFollowTheirSource_7 :
    (fun (_pins : Nat) (s : State) =>
      decide ((lswLive s = false))) (0) (live) = true := by decide

theorem test_SwitchChannelsFollowTheirSource_8 :
    (fun (n : Fin 32) (s : State) =>
      decide ((s.rd R.lsw_LIMP_EN_IN [] = 0 ∨ limpSel s n = false ∨ bitB s.lsw.limp n.val = true ∨
      (s.inReset 17 = false ∧ heldFor s s.lsw.limpLow[n] 2000000 = false)))) (0) ((live).wr R.lsw_LIMP_EN_IN [] (0)) = true := by decide

theorem test_SwitchChannelsFollowTheirSource_9 :
    (fun (n : Fin 32) (s : State) =>
      decide (((s.lc n).holdRun = false ∨ lswLive s = true))) (0) (live) = true := by decide

theorem test_SwitchChannelsFollowTheirSource_10 :
    (fun (w : World) (s : State) =>
      decide ((s.canWrite w 328 = true) ∧
        (s.rd R.hdr_EN [328] = 1))) (0) ((live).wr R.hdr_EN [328] (1)) = true := by decide

theorem test_SwitchChannelsFollowTheirSource_11 :
    (fun (v : Nat) (_s : State) =>
      decide ((1600 ≤ v))) (1600) (live) = true := by decide

theorem test_SafetyIslandEntersItsStates_1 :
    (fun (w : World) (s : State) =>
      decide ((s.canWrite w 336 = true) ∧
        (s.rd R.hdr_EN [336] = 0) ∧
        (s.rd R.safe_SF_STATE [] ≠ 4) ∧
        (s.rd R.rst_MODE [] ≠ 3))) (0) ((((live).wr R.hdr_EN [336] (0)).wr R.safe_SF_STATE [] (0)).wr R.rst_MODE [] (0)) = true := by decide

theorem test_SafetyIslandEntersItsStates_2 :
    (fun (w : World) (s : State) =>
      decide ((s.canWrite w 336 = true) ∧
        (s.rd R.hdr_EN [336] = 1) ∧
        (s.rd R.safe_SF_STATE [] ≠ 4) ∧
        ((∀ n : Fin 40, s.rd R.sout_CMD [n.val] = 0)) ∧
        ((∀ p : Port, ripState s p ≠ 1)))) (0) (((live).wr R.hdr_EN [336] (1)).wr R.safe_SF_STATE [] (0)) = true := by decide

theorem test_SafetyIslandEntersItsStates_3 :
    (fun (w : World) (s : State) =>
      decide ((s.canWrite w 336 = true) ∧
        (s.rd R.hdr_EN [336] = 1) ∧
        ((∃ n : Fin 40, s.rd R.sout_CMD [n.val] = 1) ∨ (∃ p : Port, ripState s p = 1)))) (0) ((on [336] live).wr R.sout_CMD [39] 1) = true := by decide

theorem test_SafetyIslandEntersItsStates_4 :
    (fun (_hs : Nat) (_ls : Nat) (s : State) =>
      decide ((s.rd R.safe_SF_STATE [] = 1) ∧
        (s.inReset 18 = false))) (0) (0) ((live).wr R.safe_SF_STATE [] (1)) = true := by decide

theorem test_SafetyIslandEntersItsStates_5 :
    (fun (s : State) =>
      decide ((s.inReset 18 = false))) (live) = true := by decide

theorem test_SafetyIslandEntersItsStates_6 :
    (fun (w : World) (s : State) =>
      decide ((s.canWrite w 336 = true) ∧
        (s.rd R.hdr_EN [336] = 0) ∧
        (s.rd R.safe_SF_STATE [] = 4 ∨ s.rd R.rst_MODE [] = 3))) (0) (((live).wr R.hdr_EN [336] (0)).wr R.safe_SF_STATE [] (4)) = true := by decide

theorem test_SafetyIslandEntersItsStates_7 :
    (fun (w : World) (s : State) =>
      decide ((s.canWrite w 336 = true) ∧
        (s.rd R.hdr_EN [336] = 1))) (0) ((live).wr R.hdr_EN [336] (1)) = true := by decide

theorem test_SafetyIslandEntersItsStates_8 :
    (fun (w : World) (s : State) =>
      decide ((s.canWrite w 336 = true) ∧
        (s.rd R.hdr_EN [336] = 0))) (0) ((live).wr R.hdr_EN [336] (0)) = true := by decide

theorem test_SafetyIslandEntersItsStates_9 :
    (fun (w : World) (s : State) =>
      decide ((s.canWrite w 336 = true) ∧
        (s.rd R.hdr_EN [336] = 1) ∧
        (s.rd R.safe_SF_STATE [] = 4) ∧
        ((∀ n : Fin 40, s.rd R.sout_CMD [n.val] = 0)) ∧
        ((∀ p : Port, ripState s p ≠ 1)))) (0) (((live).wr R.hdr_EN [336] (1)).wr R.safe_SF_STATE [] (4)) = true := by decide

theorem test_SafetyIslandEntersItsStates_10 :
    (fun (_hs : Nat) (_ls : Nat) (s : State) =>
      decide ((s.rd R.safe_SF_STATE [] ≠ 1 ∨ s.inReset 18 = true))) (0) (0) ((live).wr R.safe_SF_STATE [] (0)) = true := by decide

theorem test_SafetyIslandEntersItsStates_11 :
    (fun (s : State) =>
      decide ((s.inReset 18 = true))) (heldIn 18 live) = true := by decide

theorem test_DemandsTripZonesAndRemovePower_1 :
    (fun (_a : Nat) (_b : Nat) (s : State) =>
      decide ((s.inReset 18 = false))) (0) (0) (live) = true := by decide

theorem test_DemandsTripZonesAndRemovePower_2 :
    (fun (n : Fin 48) (d : Nat) (s : State) =>
      decide ((s.inReset 18 = false) ∧
        (s.safe.pairs[n].disc = some d) ∧
        (20 * s.cf R.scfg_DISC [n.val] ≤ d) ∧
        (s.cf R.scfg_KIND [n.val] = 1 ∨ s.cf R.scfg_KIND [n.val] = 2) ∧
        (bitB (s.rd R.safe_DISC_FLT []) n.val = false))) (47) (1310700) ((fun t : State => { t with safe := { t.safe with pairs := vupd t.safe.pairs 47 (fun x => { x with disc := some 1310700 }) } }) (live.wr R.scfg_KIND [47] 1)) = true := by decide

theorem test_DemandsTripZonesAndRemovePower_3 :
    (fun (p : Port) (d : RipDue) (s : State) =>
      decide ((safeRuns s = true) ∧
        (s.lsw.railOff = false) ∧
        ((s.ripOf p).due = [d]) ∧
        (d.at_ ≤ s.spar.serial) ∧
        (ripState s p = 0))) (31) (⟨0, 5, 1, none⟩) ((fun t : State => { t with safe := { t.safe with rip := vupd t.safe.rip 31 (fun x => { x with due := [⟨0, 5, 1, none⟩] }) } }) ((live.wr R.safe_SF_STATE [] 2).wr R.safe_PSTATE [31] 0)) = true := by decide

theorem test_DemandsTripZonesAndRemovePower_4 :
    (fun (p : Port) (s : State) =>
      decide ((ripState s p = 1) ∧
        (deadline s p ≤ s.now + s.spar.clocks))) (0) ((live).wr R.safe_PSTATE [0] (1)) = true := by decide

theorem test_DemandsTripZonesAndRemovePower_5 :
    (fun (p : Port) (s : State) =>
      decide ((ripState s p = 2) ∧
        ((s.ripOf p).tR.isSome = true) ∧
        (s.rd R.safe_RMV_DONE [p.val] = 0) ∧
        (ownOff s (qOf p) = true) ∧
        (s.rd R.sout_TERM [p.val] = 0))) (31) ((fun t : State => { t with safe := { t.safe with rip := vupd t.safe.rip 31 (fun x => { x with tR := some 0 }) } }) (live.wr R.safe_PSTATE [31] 2)) = true := by decide

theorem test_DemandsTripZonesAndRemovePower_6 :
    (fun (n : Fin 40) (s : State) =>
      decide ((safeRuns s = true) ∧
        (s.rd R.sout_CMD [n.val] = 1) ∧
        ((s.qo n).hs < 20 ∨ (s.qo n).ls < 20) ∧
        (s.rd R.sout_OPEN_COIL [n.val] = 0) ∧
        (heldFor s (s.qo n).lowAt 20000000 = true))) (31) ((fun t : State => { t with safe := { t.safe with out := vupd t.safe.out 31 (fun x => { x with hs := 0, lowAt := some 0 }) } }) ({ ((live.wr R.safe_SF_STATE [] 2).wr R.sout_CMD [31] 1) with now := 1000000000000000 })) = true := by decide

theorem test_DemandsTripZonesAndRemovePower_7 :
    (fun (n : Fin 40) (us : Nat) (s : State) =>
      decide ((safeRuns s = true) ∧
        (s.rd R.sout_CMD [n.val] = 1) ∧
        (dpDue s n = true) ∧
        (us ≤ dpLen s))) (39) (50) ((fun t : State => { t with safe := { t.safe with out := vupd t.safe.out 39 (fun x => { x with dpAt := some 0 }) } }) ({ ((live.wr R.safe_SF_STATE [] 2).wr R.sout_CMD [39] 1) with now := 1000000000000000 })) = true := by decide

theorem test_DemandsTripZonesAndRemovePower_8 :
    (fun (n : Fin 40) (fell : Option Nat) (s : State) =>
      decide ((safeRuns s = true) ∧
        (s.rd R.sout_CMD [n.val] = 1) ∧
        (dpDue s n = true) ∧
        ((∀ us, fell = some us → dpLen s < us)))) (0) (none) ((fun t : State => { t with safe := { t.safe with out := vupd t.safe.out 0 (fun x => { x with dpAt := some 0 }) } }) ({ ((live.wr R.safe_SF_STATE [] 2).wr R.sout_CMD [0] 1) with now := 1000000000000000 })) = true := by decide

theorem test_DemandsTripZonesAndRemovePower_9 :
    (fun (p : Port) (at_ : Nat) (s : State) =>
      decide ((ripState s p = 2) ∧
        ((s.ripOf p).tR = some at_) ∧
        (2000000 ≤ s.now + s.spar.clocks - at_) ∧
        (ownOff s (qOf p) = true) ∧
        (s.rd R.sout_TERM [p.val] = 1) ∧
        (s.rd R.sout_SH_STUCK [p.val] = 0))) (31) (0) ((fun t : State => { t with now := 2000000, safe := { t.safe with rip := vupd t.safe.rip 31 (fun x => { x with tR := some 0 }) } }) ((live.wr R.safe_PSTATE [31] 2).wr R.sout_TERM [31] 1)) = true := by decide

theorem test_DemandsTripZonesAndRemovePower_10 :
    (fun (p : Port) (d : RipDue) (s : State) =>
      decide ((safeRuns s = true) ∧
        (s.lsw.railOff = false) ∧
        ((s.ripOf p).due = [d]) ∧
        (d.at_ ≤ s.spar.serial) ∧
        (ripState s p = 1))) (31) ((⟨0, 5, 1, none⟩ : RipDue)) ((fun t : State => { t with safe := { t.safe with rip := vupd t.safe.rip 31 (fun x => { x with due := [⟨0, 5, 1, none⟩] }) } }) ((live.wr R.safe_SF_STATE [] 2).wr R.safe_PSTATE [31] 1)) = true := by decide

theorem test_DemandsTripZonesAndRemovePower_11 :
    (fun (p : Port) (s : State) =>
      decide ((safeRuns s = true) ∧
        (s.lsw.railOff = false) ∧
        ((∀ d, d ∈ (s.ripOf p).due → s.spar.serial < d.at_)))) (0) ((fun t : State => { t with lsw := { t.lsw with railOff := false } }) ((live).wr R.safe_SF_STATE [] 2)) = true := by decide

theorem test_DemandsTripZonesAndRemovePower_12 :
    (fun (p : Port) (s : State) =>
      decide ((safeRuns s = true) ∧
        (s.lsw.railOff = false) ∧
        (ripState s p = 2))) (0) (((fun t : State => { t with lsw := { t.lsw with railOff := false } }) ((live).wr R.safe_SF_STATE [] 2)).wr R.safe_PSTATE [0] (2)) = true := by decide

theorem test_DemandsTripZonesAndRemovePower_13 :
    (fun (_p : Port) (s : State) =>
      decide ((safeRuns s = false))) (0) (live) = true := by decide

theorem test_DemandsTripZonesAndRemovePower_14 :
    (fun (_a : Nat) (_b : Nat) (s : State) =>
      decide ((s.inReset 18 = true))) (1) (1) (heldIn 18 live) = true := by decide

theorem test_DemandsTripZonesAndRemovePower_16 :
    (fun (p : Port) (s : State) =>
      decide ((ripState s p ≠ 1 ∨ s.now + s.spar.clocks < deadline s p))) (0) ((live).wr R.safe_PSTATE [0] (0)) = true := by decide

theorem test_DemandsTripZonesAndRemovePower_17 :
    (fun (p : Port) (s : State) =>
      decide ((ripState s p ≠ 2 ∨ (s.ripOf p).tR = none ∨ s.rd R.safe_RMV_DONE [p.val] = 1 ∨
      ownOff s (qOf p) = false ∨ s.rd R.sout_TERM [p.val] = 1))) (0) ((live).wr R.safe_PSTATE [0] (0)) = true := by decide

theorem test_DemandsTripZonesAndRemovePower_18 :
    (fun (n : Fin 40) (s : State) =>
      decide ((safeRuns s = false ∨ s.rd R.sout_CMD [n.val] = 0 ∨ (20 ≤ (s.qo n).hs ∧ 20 ≤ (s.qo n).ls) ∨
      s.rd R.sout_OPEN_COIL [n.val] = 1 ∨ heldFor s (s.qo n).lowAt 20000000 = false))) (0) (live) = true := by decide

theorem test_DemandsTripZonesAndRemovePower_19 :
    (fun (n : Fin 40) (_fell : Option Nat) (s : State) =>
      decide ((safeRuns s = false ∨ s.rd R.sout_CMD [n.val] = 0 ∨ dpDue s n = false))) (0) (none) (live) = true := by decide

theorem test_DemandsTripZonesAndRemovePower_20 :
    (fun (p : Port) (s : State) =>
      decide ((ripState s p ≠ 2 ∨ (s.ripOf p).tR = none ∨
      (∃ at_, (s.ripOf p).tR = some at_ ∧ s.now + s.spar.clocks - at_ < 2000000) ∨ ownOff s (qOf p) = false ∨
      s.rd R.sout_TERM [p.val] = 0 ∨ s.rd R.sout_SH_STUCK [p.val] = 1))) (0) ((live).wr R.safe_PSTATE [0] (0)) = true := by decide

theorem test_ThePairAndTheRailDropOutputs_1 :
    (fun (_x : SafetyWord) (s : State) =>
      decide ((s.cfB R.scfg_PAIR [] = true) ∧
        (s.rd R.teth_PAIR_EN [] = 1) ∧
        (s.inReset 18 = false))) (⟨false, 2, 0, 5, 0⟩) ((fun t : State => { t with safe := { t.safe with copy := t.regs.live } }) ((live.wr R.scfg_PAIR [] 1).wr R.teth_PAIR_EN [] 1)) = true := by decide

theorem test_ThePairAndTheRailDropOutputs_2 :
    (fun (s : State) =>
      decide ((s.rd R.safe_TWORD [] = 1) ∧
        (8 ≤ s.safe.pwAge))) ((fun t : State => { t with safe := { t.safe with pwAge := 8 } }) ((live).wr R.safe_TWORD [] (1))) = true := by decide

theorem test_ThePairAndTheRailDropOutputs_3 :
    (fun (s : State) =>
      decide ((s.rd R.safe_TWORD [] = 0) ∧
        (1600 ≤ s.safe.pwAge))) ((fun t : State => { t with safe := { t.safe with pwAge := 1600 } }) ((live).wr R.safe_TWORD [] (0))) = true := by decide

theorem test_ThePairAndTheRailDropOutputs_4 :
    (fun (v : Nat) (_s : State) =>
      decide ((v < 1200))) (0) (live) = true := by decide

theorem test_ThePairAndTheRailDropOutputs_5 :
    (fun (v : Nat) (s : State) =>
      decide ((1300 ≤ v) ∧
        (s.lsw.railOff = true) ∧
        (heldFor s s.lsw.railUp 2000000 = true ∨ s.sparRuns = false))) (1300) ({ ({ live with lsw := { live.lsw with railOff := true, railUp := some 0 } }) with now := 1000000000000000 }) = true := by decide

theorem test_ThePairAndTheRailDropOutputs_6 :
    (fun (_x : SafetyWord) (ok : Bool) (s : State) =>
      decide ((ok = false ∨ s.cfB R.scfg_PAIR [] = false ∨ s.rd R.teth_PAIR_EN [] = 0 ∨ s.inReset 18 = true))) (⟨false, 0, 0, 0, 0⟩) (false) (live) = true := by decide

theorem test_ThePairAndTheRailDropOutputs_7 :
    (fun (s : State) =>
      decide ((s.rd R.safe_TWORD [] = 0 ∨ s.safe.pwAge < 8))) ((live).wr R.safe_TWORD [] (0)) = true := by decide

theorem test_ThePairAndTheRailDropOutputs_8 :
    (fun (s : State) =>
      decide ((s.rd R.safe_TWORD [] = 1 ∨ s.safe.pwAge < 1600))) ((live).wr R.safe_TWORD [] (1)) = true := by decide

theorem test_ThePairAndTheRailDropOutputs_9 :
    (fun (v : Nat) (_s : State) =>
      decide ((1200 ≤ v))) (1200) (live) = true := by decide

theorem test_ThePairAndTheRailDropOutputs_10 :
    (fun (v : Nat) (s : State) =>
      decide ((v < 1300 ∨ s.lsw.railOff = false ∨ (s.sparRuns = true ∧
      heldFor s s.lsw.railUp 2000000 = false)))) (0) (live) = true := by decide

theorem test_XatchConnectionsCheckFrames_1 :
    (fun (_ringB : Bool) (src : Nat) (b : List Byte) (n : Fin 16) (s : State) =>
      decide ((xcMatch s n src (xatchDecode b) = true) ∧
        (s.cfB R.xch_DUAL [n.val] = false))) (false) (0) ([1, 0, 0, 0]) (15) ((fun t : State => { t with safe := { t.safe with copy := t.regs.live } }) ((((live.wr R.safe_SF_STATE [] 2).wr R.xch_CSTATE [15] 2).wr R.xch_EN [15] 1).wr R.xch_CID [15] 1)) = true := by decide

theorem test_XatchConnectionsCheckFrames_2 :
    (fun (n : Fin 16) (a : Nat) (s : State) =>
      decide ((xcOn s n = true) ∧
        (s.rd R.xch_CSTATE [n.val] = 2) ∧
        (s.safe.conn[n].accAt = some a) ∧
        (a + 200000 * s.cf R.xch_WDOG_MS [n.val] ≤ s.now + s.spar.clocks))) (15) (0) ({ ((fun t : State => { t with safe := { t.safe with conn := vupd t.safe.conn 15 (fun x => { x with accAt := some 0 }) } }) ((fun t : State => { t with safe := { t.safe with copy := t.regs.live } }) (((live.wr R.safe_SF_STATE [] 2).wr R.xch_CSTATE [15] 2).wr R.xch_EN [15] 1))) with now := 1000000000000000 }) = true := by decide

theorem test_XatchConnectionsCheckFrames_3 :
    (fun (m : Fin 8) (s : State) =>
      decide ((safeRuns s = true) ∧
        (s.cfB R.xpr_EN [m.val] = true) ∧
        (s.inReset 19 = false) ∧
        (s.safe.sentAt[m] = none ∨ heldFor s s.safe.sentAt[m] (200000 * s.cf R.xpr_SEND_MS [m.val]) = true))) (7) ((fun t : State => { t with safe := { t.safe with copy := t.regs.live } }) ((live.wr R.safe_SF_STATE [] 2).wr R.xpr_EN [7] 1)) = true := by decide

theorem test_XatchConnectionsCheckFrames_4 :
    (fun (w : World) (s : State) =>
      decide ((s.canWrite w 344 = true))) (0) (live) = true := by decide

theorem test_XatchConnectionsCheckFrames_5 :
    (fun (_ringB : Bool) (src : Nat) (b : List Byte) (n : Fin 16) (s : State) =>
      decide ((xcMatch s n src (xatchDecode b) = true) ∧
        (s.cfB R.xch_DUAL [n.val] = true) ∧
        ((xatchDecode b).crcOk = true) ∧
        ((xatchDecode b).wdog = s.cf R.xch_WDOG_MS [n.val]))) (false) (0) ((fun t => t ++ leBytes 4 (crc32c t)) [1, 0, 0, 0, 0, 0, 100, 0, 1, 0, 7]) (15) ((fun t : State => { t with safe := { t.safe with copy := t.regs.live } }) ((((((live.wr R.safe_SF_STATE [] 2).wr R.xch_CSTATE [15] 2).wr R.xch_EN [15] 1).wr R.xch_CID [15] 1).wr R.xch_DUAL [15] 1).wr R.xch_WDOG_MS [15] 100)) = true := by decide

theorem test_XatchConnectionsCheckFrames_6 :
    (fun (_ringB : Bool) (src : Nat) (b : List Byte) (n : Fin 16) (s : State) =>
      decide ((xcMatch s n src (xatchDecode b) = false))) (false) (0) ([]) (0) (live) = true := by decide

theorem test_XatchConnectionsCheckFrames_7 :
    (fun (n : Fin 16) (s : State) =>
      decide ((xcOn s n = false ∨ s.rd R.xch_CSTATE [n.val] ≠ 2 ∨
      heldFor s s.safe.conn[n].accAt (200000 * s.cf R.xch_WDOG_MS [n.val]) = false))) (0) (live) = true := by decide

theorem test_XatchConnectionsCheckFrames_8 :
    (fun (m : Fin 8) (s : State) =>
      decide ((safeRuns s = false ∨ s.cfB R.xpr_EN [m.val] = false ∨ s.inReset 19 = true ∨
      s.safe.sentAt[m].isSome = true ∧ heldFor s s.safe.sentAt[m] (200000 * s.cf R.xpr_SEND_MS [m.val]) = false))) (0) (live) = true := by decide

theorem test_ThePairPassesTheClaim_2 :
    (fun (c : Nat) (s : State) =>
      decide ((takeCause s = some c))) (3) ((fun t : State => { t with teth := { t.teth with force := true } }) ((((on [352] live).wr R.teth_PAIR_EN [] 1).wr R.teth_TSTATE [] 2).wr R.teth_SILENT [] 1)) = true := by decide

theorem test_ThePairPassesTheClaim_3 :
    (fun (s : State) =>
      decide ((takeCause s = none))) (live) = true := by decide

theorem test_ThePairPassesTheClaim_4 :
    (fun (s : State) =>
      decide ((s.canWrite 0 352 = true) ∧
        (s.active = true) ∧
        (s.rd R.teth_PAIR_EN [] = 1) ∧
        (s.teth.relTx = none))) ((fun t : State => { t with teth := { t.teth with relTx := none } }) (((live).wr R.teth_ACTIVE [] 1).wr R.teth_PAIR_EN [] (1))) = true := by decide

theorem test_ThePairPassesTheClaim_5 :
    (fun (s : State) =>
      decide ((s.canWrite 0 352 = true))) (live) = true := by decide

theorem test_ThePairPassesTheClaim_6 :
    (fun (w : World) (s : State) =>
      decide ((w ≠ 0) ∧
        (s.canWrite w 352 = true))) (2) (live.wr R.hdr_OWN_WRITE [352] 5) = true := by decide

theorem test_ThePairPassesTheClaim_7 :
    (fun (w : World) (s : State) =>
      decide ((s.canWrite w 352 = true) ∧
        (s.rd R.hdr_EN [352] = 0) ∧
        (s.inReset 20 = false))) (0) ((live).wr R.hdr_EN [352] (0)) = true := by decide

theorem test_ThePairPassesTheClaim_8 :
    (fun (s : State) =>
      decide ((pairOn s = true) ∧
        (tstate s = 1))) (((on [352] live).wr R.teth_PAIR_EN [] 1).wr R.teth_TSTATE [] (1)) = true := by decide

theorem test_ThePairPassesTheClaim_9 :
    (fun (w : World) (s : State) =>
      decide ((s.canWrite w 352 = true))) (0) (live) = true := by decide

theorem test_ThePairPassesTheClaim_10 :
    (fun (s : State) =>
      decide ((s.canWrite 0 352 = true) ∧
        (s.active = false ∨ s.rd R.teth_PAIR_EN [] = 0 ∨ s.teth.relTx.isSome = true))) (live) = true := by decide

theorem test_ThePairPassesTheClaim_11 :
    (fun (w : World) (s : State) =>
      decide ((s.canWrite w 352 = true) ∧
        (s.rd R.hdr_EN [352] = 1))) (0) ((live).wr R.hdr_EN [352] (1)) = true := by decide

theorem test_ThePairPassesTheClaim_12 :
    (fun (w : World) (s : State) =>
      decide ((s.canWrite w 352 = true) ∧
        (s.rd R.hdr_EN [352] = 0) ∧
        (s.inReset 20 = true))) (0) (heldIn 20 live) = true := by decide

theorem test_ThePairPassesTheClaim_13 :
    (fun (s : State) =>
      decide ((pairOn s = false ∨ tstate s ≠ 1 ∨
      ((bothJoin s = false ∨ s.teth.joinBoth < s.rd R.teth_JOIN_WAIT []) ∧
        (s.teth.heardAny = true ∨ s.teth.joinQuiet < s.rd R.teth_JOIN_WAIT []))))) (live) = true := by decide

theorem test_TheTetherCarriesThePartner_1 :
    (fun (_x : TethWord) (_ch : Option Chunk) (s : State) =>
      decide ((pairOn s = true) ∧
        (s.rd R.teth_TDOWN [] = 0))) (⟨2, 5, false, false, false⟩) (none) (((on [352] live).wr R.teth_PAIR_EN [] 1).wr R.teth_TDOWN [] (0)) = true := by decide

theorem test_TheTetherCarriesThePartner_2 :
    (fun (_c : Chunk) (s : State) =>
      decide ((pairOn s = true) ∧
        (s.rd R.teth_TDOWN [] = 1))) (⟨0, 1, true, true, []⟩) (((on [352] live).wr R.teth_PAIR_EN [] 1).wr R.teth_TDOWN [] (1)) = true := by decide

theorem test_TheTetherCarriesThePartner_3 :
    (fun (s : State) =>
      decide ((s.runs 352 = true) ∧
        (s.rd R.teth_LANE_FLT [] = 0))) ((on [352] live).wr R.teth_LANE_FLT [] (0)) = true := by decide

theorem test_TheTetherCarriesThePartner_4 :
    (fun (s : State) =>
      decide ((s.runs 352 = true) ∧
        (s.rd R.teth_TDOWN [] = 0))) ((on [352] live).wr R.teth_TDOWN [] (0)) = true := by decide

theorem test_TheTetherCarriesThePartner_5 :
    (fun (_two : Bool) (s : State) =>
      decide ((s.runs 352 = true) ∧
        (s.rd R.teth_TDOWN [] = 1 ∨ s.rd R.teth_LANE_FLT [] = 1))) (false) ((on [352] live).wr R.teth_TDOWN [] (1)) = true := by decide

theorem test_TheTetherCarriesThePartner_6 :
    (fun (b : List Byte) (s : State) =>
      decide ((pairOn s = true) ∧
        (s.rd R.teth_TDOWN [] = 0) ∧
        (reportOk b = true) ∧
        (fld b 0 1 = 1))) ((fun t => t ++ leBytes 4 (crc32c t)) ([1] ++ List.replicate 51 0)) (((on [352] live).wr R.teth_PAIR_EN [] 1).wr R.teth_TDOWN [] (0)) = true := by decide

theorem test_TheTetherCarriesThePartner_7 :
    (fun (b : List Byte) (s : State) =>
      decide ((pairOn s = true) ∧
        (s.rd R.teth_TDOWN [] = 0) ∧
        (reportOk b = true) ∧
        (fld b 0 1 ≠ 1))) ((fun t => t ++ leBytes 4 (crc32c t)) ([2] ++ List.replicate 51 0)) ((on [352] live).wr R.teth_PAIR_EN [] 1) = true := by decide

theorem test_TheTetherCarriesThePartner_8 :
    (fun (s : State) =>
      decide ((s.inReset 20 = false) ∧
        (808 ≤ s.rd R.tethp_HLTH_AGE []) ∧
        (s.rd R.teth_HLTH_LOST [] = 0))) (((live).wr R.tethp_HLTH_AGE [] (808)).wr R.teth_HLTH_LOST [] (0)) = true := by decide

theorem test_TheTetherCarriesThePartner_10 :
    (fun (_x : TethWord) (_ch : Option Chunk) (s : State) =>
      decide ((pairOn s = false ∨ s.rd R.teth_TDOWN [] = 1))) (⟨0, 0, false, false, false⟩) (none) (live) = true := by decide

theorem test_TheTetherCarriesThePartner_11 :
    (fun (_c : Chunk) (s : State) =>
      decide ((pairOn s = false ∨ s.rd R.teth_TDOWN [] = 0))) (⟨0, 0, true, true, []⟩) (live) = true := by decide

theorem test_TheTetherCarriesThePartner_12 :
    (fun (s : State) =>
      decide ((s.runs 352 = false ∨ s.rd R.teth_LANE_FLT [] = 1))) (live) = true := by decide

theorem test_TheTetherCarriesThePartner_13 :
    (fun (s : State) =>
      decide ((s.runs 352 = false ∨ s.rd R.teth_TDOWN [] = 1))) (live) = true := by decide

theorem test_TheTetherCarriesThePartner_14 :
    (fun (_two : Bool) (s : State) =>
      decide ((s.runs 352 = false ∨ (s.rd R.teth_TDOWN [] = 0 ∧ s.rd R.teth_LANE_FLT [] = 0)))) (false) (live) = true := by decide

theorem test_TheTetherCarriesThePartner_15 :
    (fun (b : List Byte) (s : State) =>
      decide ((pairOn s = false ∨ s.rd R.teth_TDOWN [] = 1 ∨ reportOk b = false))) ([]) (live) = true := by decide

theorem test_TheTetherCarriesThePartner_16 :
    (fun (s : State) =>
      decide ((s.inReset 20 = true ∨ s.rd R.tethp_HLTH_AGE [] < 808 ∨ s.rd R.teth_HLTH_LOST [] = 1))) (live) = true := by decide

theorem test_MonitorsFollowTheirFrames_1 :
    (fun (_r : Fin 2) (_m : Fin 64) (_b : Bool) (f : List Byte) (p : List Byte) (_s : State) =>
      decide ((framePay 1 f = some p))) (1) (63) (true) ((fun t : List Byte => t ++ leBytes 2 (crc16 t)) [1, 2, 0, 5, 0]) ([5, 0]) ((fun t : State => { t with blst := t.blst.set 1 { t.blst[1] with mons := vupd t.blst[1].mons 63 (fun x => { x with addr := 3 }) } }) live) = true := by decide

theorem test_MonitorsFollowTheirFrames_2 :
    (fun (_r : Fin 2) (_m : Fin 64) (_b : Bool) (f : List Byte) (nx : Byte) (dir : Byte) (_s : State) =>
      decide ((framePay 2 f = some [nx, dir]))) (1) (63) (false) ((fun t : List Byte => t ++ leBytes 2 (crc16 t)) [2, 2, 0, 5, 1]) (5) (1) (live) = true := by decide

theorem test_MonitorsFollowTheirFrames_3 :
    (fun (_r : Fin 2) (_m : Fin 64) (_b : Bool) (f : List Byte) (p : List Byte) (_s : State) =>
      decide ((framePay 3 f = some p))) (1) (63) (true) ((fun t : List Byte => t ++ leBytes 2 (crc16 t)) [3, 1, 0, 9]) ([9]) ((fun t : State => { t with blst := t.blst.set 1 { t.blst[1] with mons := vupd t.blst[1].mons 63 (fun x => { x with addr := 3 }) } }) live) = true := by decide

theorem test_MonitorsFollowTheirFrames_4 :
    (fun (_r : Fin 2) (_m : Fin 64) (_b : Bool) (f : List Byte) (p : List Byte) (_s : State) =>
      decide ((framePay 4 f = some p))) (1) (63) (true) ((fun t : List Byte => t ++ leBytes 2 (crc16 t)) [4, 1, 0, 7]) ([7]) ((fun t : State => { t with blst := t.blst.set 1 { t.blst[1] with mons := vupd t.blst[1].mons 63 (fun x => { x with addr := 3 }) } }) live) = true := by decide

theorem test_MonitorsFollowTheirFrames_5 :
    (fun (_r : Fin 2) (_m : Fin 64) (_b : Bool) (f : List Byte) (p : List Byte) (_cells : List Nat) (_ms : Nat) (_tp : Nat) (_s : State) =>
      decide ((framePay 5 f = some p))) (1) (63) (true) ((fun t : List Byte => t ++ leBytes 2 (crc16 t)) [5, 1, 0, 0]) ([0]) ([1, 2]) (0) (0) ((fun t : State => { t with blst := t.blst.set 1 { t.blst[1] with mons := vupd t.blst[1].mons 63 (fun x => { x with addr := 3 }) } }) live) = true := by decide

theorem test_MonitorsFollowTheirFrames_6 :
    (fun (_r : Fin 2) (_m : Fin 64) (_b : Bool) (f : List Byte) (p : List Byte) (_s : State) =>
      decide ((framePay 6 f = some p))) (1) (63) (true) ((fun t : List Byte => t ++ leBytes 2 (crc16 t)) [6, 1, 0, 0]) ([0]) ((fun t : State => { t with blst := t.blst.set 1 { t.blst[1] with mons := vupd t.blst[1].mons 63 (fun x => { x with addr := 3 }) } }) live) = true := by decide

theorem test_MonitorsFollowTheirFrames_7 :
    (fun (r : Fin 2) (m : Fin 64) (_b : Bool) (f : List Byte) (p : List Byte) (s : State) =>
      decide ((framePay 7 f = some p) ∧
        ((monOf s r m).addr ≠ 0))) (1) (63) (true) ((fun t : List Byte => t ++ leBytes 2 (crc16 t)) [7, 1, 0, 1]) ([1]) ((fun t : State => { t with blst := t.blst.set 1 { t.blst[1] with mons := vupd t.blst[1].mons 63 (fun x => { x with addr := 3 }) } }) live) = true := by decide

theorem test_MonitorsFollowTheirFrames_8 :
    (fun (_r : Fin 2) (_m : Fin 64) (_b : Bool) (f : List Byte) (_s : State) =>
      decide ((framePay 1 f = none))) (0) (0) (false) ([9, 0, 0]) (live) = true := by decide

theorem test_MonitorsFollowTheirFrames_10 :
    (fun (r : Fin 2) (m : Fin 64) (s : State) =>
      decide ((s.now + s.spar.clocks < (monOf s r m).heard + 200000 * (monOf s r m).tmo))) (1) (63) ((fun t : State => { t with blst := t.blst.set 1 { t.blst[1] with mons := vupd t.blst[1].mons 63 (fun x => { x with tmo := 100 }) } }) live) = true := by decide

theorem test_MonitorsFollowTheirFrames_11 :
    (fun (r : Fin 2) (m : Fin 64) (s : State) =>
      decide (((monOf s r m).heard + 200000 * (monOf s r m).tmo ≤ s.now + s.spar.clocks))) (0) (0) (live) = true := by decide

theorem test_RingsEnumerateBreakAndTrip_1 :
    (fun (w : World) (r : Fin 2) (s : State) =>
      decide ((s.canWrite w 360 = true) ∧
        (s.runs 360 = true) ∧
        (0 < s.rd R.ring_EXPECT [r.val]))) (0) (0) ((on [360] live).wr R.ring_EXPECT [0] (0 + 1)) = true := by decide

theorem test_RingsEnumerateBreakAndTrip_2 :
    (fun (r : Fin 2) (s : State) =>
      decide ((s.runs 360 = true) ∧
        (s.rd R.ring_RSTATE [r.val] = 1) ∧
        (s.blst[r].enumB = none))) (0) ((fun t : State => { t with blst := vupd t.blst 0 (fun x => { x with enumB := none }) }) ((on [360] live).wr R.ring_RSTATE [0] (1))) = true := by decide

theorem test_RingsEnumerateBreakAndTrip_3 :
    (fun (r : Fin 2) (k : Nat) (s : State) =>
      decide ((s.runs 360 = true) ∧
        (s.rd R.ring_RSTATE [r.val] = 1) ∧
        (s.blst[r].enumB = some k) ∧
        (k ≤ expect s r))) (1) (64) ((fun t : State => { t with blst := t.blst.set 1 { t.blst[1] with enumB := some 64 } }) (((on [360] live).wr R.ring_RSTATE [1] 1).wr R.ring_EXPECT [1] 64)) = true := by decide

theorem test_RingsEnumerateBreakAndTrip_4 :
    (fun (r : Fin 2) (_n : Nat) (s : State) =>
      decide ((s.runs 360 = true) ∧
        (s.rd R.ring_RSTATE [r.val] ≠ 0) ∧
        ((s.rd R.ring_RSTATE [r.val] ≠ 1 ∨ s.active = false)))) (1) (5) ((on [360] live).wr R.ring_RSTATE [1] 2) = true := by decide

theorem test_RingsEnumerateBreakAndTrip_5 :
    (fun (_r : Fin 2) (s : State) =>
      decide ((s.runs 360 = true))) (0) (on [360] live) = true := by decide

theorem test_RingsEnumerateBreakAndTrip_6 :
    (fun (w : World) (_r : Fin 2) (s : State) =>
      decide ((s.canWrite w 360 = true))) (0) (0) (live) = true := by decide

theorem test_RingsEnumerateBreakAndTrip_7 :
    (fun (r : Fin 2) (_n : Nat) (s : State) =>
      decide ((s.runs 360 = true) ∧
        (s.rd R.ring_RSTATE [r.val] = 1))) (1) (3) ((on [360] live).wr R.ring_RSTATE [1] 1) = true := by decide

theorem test_RingsEnumerateBreakAndTrip_8 :
    (fun (r : Fin 2) (_ret : Option Bool) (_n : Nat) (s : State) =>
      decide ((s.runs 360 = false ∨ s.rd R.ring_RSTATE [r.val] ≠ 1))) (0) (none) (0) (live) = true := by decide

theorem test_RingsEnumerateBreakAndTrip_9 :
    (fun (w : World) (r : Fin 2) (s : State) =>
      decide ((s.canWrite w 360 = true) ∧
        (s.runs 360 = false ∨ s.rd R.ring_EXPECT [r.val] = 0))) (0) (0) (live) = true := by decide

theorem test_RingsEnumerateBreakAndTrip_10 :
    (fun (r : Fin 2) (b : Bool) (ret : Option Bool) (_n : Nat) (s : State) =>
      decide ((s.runs 360 = false ∨ s.rd R.ring_RSTATE [r.val] = 0 ∨ (s.rd R.ring_RSTATE [r.val] = 1 ∧ s.active = true) ∨
      (b = true ∧ ret = some false)))) (0) (false) (none) (0) (live) = true := by decide

theorem test_RingsEnumerateBreakAndTrip_11 :
    (fun (_r : Fin 2) (_b : Bool) (s : State) =>
      decide ((s.runs 360 = false))) (0) (false) (live) = true := by decide

theorem test_MeasurementSlotsReadTheRing_1 :
    (fun (r : Fin 2) (s : State) =>
      decide ((s.runs 360 = true) ∧
        (2 ≤ s.rd R.ring_RSTATE [r.val]) ∧
        (slotCycle s r = true))) (0) ((on [360] live).wr R.ring_RSTATE [0] (2)) = true := by decide

theorem test_MeasurementSlotsReadTheRing_2 :
    (fun (r : Fin 2) (_blocks : List (List Byte)) (_mv : List (Nat × List Nat)) (s : State) =>
      decide ((s.runs 360 = true) ∧
        (s.blst[r].reading = true) ∧
        (2 ≤ s.rd R.ring_RSTATE [r.val]))) (0) ([]) ([]) (((fun t : State => { t with blst := vupd t.blst 0 (fun x => { x with reading := true }) }) (on [360] live)).wr R.ring_RSTATE [0] (2)) = true := by decide

theorem test_MeasurementSlotsReadTheRing_3 :
    (fun (r : Fin 2) (s : State) =>
      decide ((s.runs 360 = false ∨ s.rd R.ring_RSTATE [r.val] < 2 ∨ slotCycle s r = false ∨
      (s.spar.period + 56 = convPer s r ∧ s.rd R.ring_HUSH_EN [r.val] = 0) ∨
      (s.spar.period = convPer s r ∧ s.rd R.ring_HUSH_EN [r.val] = 1 ∧ s.blst[r].slot = none) ∨
      (s.spar.period = convPer s r + 32 ∧ s.blst[r].conv = false)))) (0) (live) = true := by decide

theorem test_MeasurementSlotsReadTheRing_4 :
    (fun (r : Fin 2) (s : State) =>
      decide ((s.runs 360 = true) ∧
        (2 ≤ s.rd R.ring_RSTATE [r.val]) ∧
        (slotCycle s r = true) ∧
        (s.active = false ∨ s.reduced = true ∨ (s.blst[r].slot = some false ∧ s.rd R.ring_HUSH_EN [r.val] = 1 ∧ convPer s r ≤ s.spar.period)) ∧
        ((s.spar.period = convPer s r ∧
        (s.rd R.ring_HUSH_EN [r.val] = 0 ∨ s.blst[r].slot.isSome = true)) ∨
      (s.spar.period = convPer s r + 32 ∧ s.blst[r].conv = true) ∨
      (s.spar.period + 56 = convPer s r ∧ s.rd R.ring_HUSH_EN [r.val] = 1)))) (1) ((fun t : State => { t with spar := { t.spar with period := 56 } }) ((((on [360] live).wr R.ring_RSTATE [1] 2).wr R.ring_CONV_PER [1] 0).wr R.ring_HUSH_EN [1] 0)) = true := by decide

theorem test_MeasurementSlotsReadTheRing_5 :
    (fun (r : Fin 2) (_blocks : List (List Byte)) (_mv : List (Nat × List Nat)) (s : State) =>
      decide ((s.runs 360 = false ∨ s.blst[r].reading = false ∨ s.rd R.ring_RSTATE [r.val] < 2))) (0) ([]) ([]) (live) = true := by decide

theorem test_CanObjectsAreRequestedAndSent_1 :
    (fun (w : World) (c : Fin 4) (o : Fin 128) (s : State) =>
      decide ((s.canWrite w (objPage c o) = true))) (0) (0) (0) (live) = true := by decide

theorem test_CanObjectsAreRequestedAndSent_2 :
    (fun (c : Fin 4) (o : Fin 128) (s : State) =>
      decide ((choose s c = some o))) (0) (127) (((((on [368] live).wr R.obj_DIR [0, 127] 1).wr R.obj_STATE [0, 127] 1))) = true := by decide

theorem test_CanObjectsAreRequestedAndSent_3 :
    (fun (c : Fin 4) (s : State) =>
      decide ((canOn s c = true) ∧
        (s.can[c].busy = false) ∧
        (s.can[c].mode = 0) ∧
        (s.can[c].off = false))) (3) (((on [380] live).wr R.can_INTEG [3] 0)) = true := by decide

theorem test_CanObjectsAreRequestedAndSent_4 :
    (fun (c : Fin 4) (o : Fin 128) (s : State) =>
      decide ((s.can[c].cur = some o))) (3) (127) ((fun t : State => { t with can := vupd t.can 3 (fun x => { x with cur := some 127 }) }) live) = true := by decide

theorem test_CanObjectsAreRequestedAndSent_5 :
    (fun (c : Fin 4) (o : Fin 128) (s : State) =>
      decide ((s.can[c].cur = some o) ∧
        (s.can[c].off = false))) (3) (127) ((fun t : State => { t with can := vupd t.can 3 (fun x => { x with cur := some 127 }) }) live) = true := by decide

theorem test_CanObjectsAreRequestedAndSent_6 :
    (fun (w : World) (c : Fin 4) (s : State) =>
      decide ((s.canWrite w (canPage c) = true))) (0) (0) (live) = true := by decide

theorem test_CanObjectsAreRequestedAndSent_6_2 :
    (fun (w : World) (c : Fin 4) (s : State) =>
      decide ((s.canWrite w (canPage c) = true) ∧
        (s.rd R.hdr_EN [canPage c] = 1))) (0) (3) (on [380] live) = true := by decide

theorem test_CanObjectsAreRequestedAndSent_7 :
    (fun (c : Fin 4) (s : State) =>
      decide ((canOn s c = true) ∧
        (s.can[c].busy = false) ∧
        (s.can[c].mode ≠ 0 ∨ s.can[c].off = true))) (3) ((fun t : State => { t with can := vupd t.can 3 (fun x => { x with off := true }) }) (((on [380] live).wr R.can_INTEG [3] 0))) = true := by decide

theorem test_CanObjectsAreRequestedAndSent_8 :
    (fun (c : Fin 4) (s : State) =>
      decide ((canOn s c = false ∨ s.can[c].busy = true))) (0) (live) = true := by decide

theorem test_CanObjectsAreRequestedAndSent_9 :
    (fun (c : Fin 4) (s : State) =>
      decide ((s.can[c].cur = none))) (0) ((fun t : State => { t with can := vupd t.can 0 (fun x => { x with cur := none }) }) (live)) = true := by decide

theorem test_CanObjectsAreRequestedAndSent_10 :
    (fun (c : Fin 4) (o : Fin 128) (s : State) =>
      decide ((s.can[c].cur = some o) ∧
        (s.can[c].off = true))) (0) (0) ((fun t : State => { t with can := vupd t.can 0 (fun x => { x with off := true }) }) ((fun t : State => { t with can := vupd t.can 0 (fun x => { x with cur := some 0 }) }) (live))) = true := by decide

theorem test_CanObjectsAreRequestedAndSent_11 :
    (fun (w : World) (c : Fin 4) (s : State) =>
      decide ((s.canWrite w (canPage c) = true) ∧
        (s.rd R.hdr_EN [canPage c] = 0))) (0) (0) ((live).wr R.hdr_EN [canPage 0] (0)) = true := by decide

theorem test_CanErrorsAndReception_1 :
    (fun (c : Fin 4) (f : CanFrame) (s : State) =>
      decide ((canOn s c = true) ∧
        (s.can[c].cur = none) ∧
        ((f.fdf = true → s.rd R.can_FDOE [c.val] = 1)) ∧
        (s.can[c].off = false))) (0) (⟨false, false, false, false, false, 5, 8, [1]⟩) (((on [368] live).wr R.can_INTEG [0] 0)) = true := by decide

theorem test_CanErrorsAndReception_2 :
    (fun (c : Fin 4) (_lec : Nat) (_n : Nat) (_nd : Bool) (_arb : Bool) (o : Fin 128) (s : State) =>
      decide ((canOn s c = true) ∧
        (s.can[c].cur = some o) ∧
        (s.can[c].mode = 0) ∧
        (s.can[c].off = false))) (0) (0) (0) (false) (false) (127) ((fun t : State => { t with can := vupd t.can 0 (fun x => { x with cur := some 127 }) }) ((on [368] live).wr R.can_INTEG [0] 0)) = true := by decide

theorem test_CanErrorsAndReception_3 :
    (fun (c : Fin 4) (e : CanErr) (_n : Nat) (s : State) =>
      decide ((canOn s c = true) ∧
        (s.can[c].off = false) ∧
        (¬ (e = .resBit ∧ s.rd R.can_PXE [c.val] = 1)) ∧
        (¬ (e = .fdfBit ∧ s.rd R.can_FDOE [c.val] = 1)))) (0) (.bus 1 false false) (0) (((on [368] live).wr R.can_INTEG [0] 0)) = true := by decide

theorem test_CanErrorsAndReception_4 :
    (fun (c : Fin 4) (_n : Nat) (s : State) =>
      decide ((canOn s c = true) ∧
        (s.can[c].off = false) ∧
        (s.rd R.can_PXE [c.val] = 1))) (0) (0) ((((on [368] live).wr R.can_INTEG [0] 0)).wr R.can_PXE [0] 1) = true := by decide

theorem test_CanErrorsAndReception_5 :
    (fun (w : World) (c : Fin 4) (s : State) =>
      decide ((s.canWrite w (canPage c) = true))) (0) (0) (live) = true := by decide

theorem test_CanErrorsAndReception_6 :
    (fun (c : Fin 4) (s : State) =>
      decide ((s.rd R.can_FSTATE [c.val] = 3))) (0) ((live).wr R.can_FSTATE [0] (3)) = true := by decide

theorem test_CanErrorsAndReception_7 :
    (fun (c : Fin 4) (s : State) =>
      decide ((s.runs (canPage c) = true) ∧
        (s.can[c].off = false))) (0) ((fun t : State => { t with can := vupd t.can 0 (fun x => { x with off := false }) }) (on [(canPage 0)] live)) = true := by decide

theorem test_CanErrorsAndReception_8 :
    (fun (c : Fin 4) (f : CanFrame) (s : State) =>
      decide ((canOn s c = true) ∧
        (s.can[c].cur = none) ∧
        ((f.fdf = true → s.rd R.can_FDOE [c.val] = 1)) ∧
        ((∀ o, o ∈ rxObjs s c → s.rd R.can_RX_HEAD [c.val] ≠ o.val)) ∧
        (s.can[c].off = false))) (0) (⟨false, false, false, false, false, 5, 8, [1]⟩) (((on [368] live).wr R.can_INTEG [0] 0)) = true := by decide

theorem test_CanErrorsAndReception_9 :
    (fun (c : Fin 4) (_f : CanFrame) (_e : CanErr) (_n : Nat) (s : State) =>
      decide ((canOn s c = true) ∧
        (s.can[c].off = true))) (0) (⟨false, false, false, false, false, 5, 8, [1]⟩) (.resBit) (1) ((fun t : State => { t with can := vupd t.can 0 (fun x => { x with off := true }) }) (((on [368] live).wr R.can_INTEG [0] 0))) = true := by decide

theorem test_CanErrorsAndReception_10 :
    (fun (c : Fin 4) (_f : CanFrame) (s : State) =>
      decide ((canOn s c = false ∨ s.can[c].cur.isSome = true))) (0) (⟨false, false, false, false, false, 0, 0, []⟩) (live) = true := by decide

theorem test_CanErrorsAndReception_11a :
    (fun (c : Fin 4) (f : CanFrame) (s : State) =>
      decide ((canOn s c = true) ∧
        (s.can[c].cur = none) ∧
        (s.can[c].off = false) ∧
        (f.fdf = true) ∧
        (s.rd R.can_FDOE [c.val] = 0))) (0) (⟨false, false, true, false, false, 5, 8, [1]⟩) (((on [368] live).wr R.can_INTEG [0] 0).wr R.can_FDOE [0] 0) = true := by decide

theorem test_CanErrorsAndReception_11b :
    (fun (c : Fin 4) (f : CanFrame) (s : State) =>
      decide ((canOn s c = true) ∧
        (s.can[c].cur = none) ∧
        (s.can[c].off = false) ∧
        (f.fdf = true) ∧
        (s.rd R.can_FDOE [c.val] = 0))) (3) (⟨false, false, true, false, false, 5, 8, [1]⟩) ((fun t : State => { t with can := vupd t.can 3 (fun x => { x with mode := 1 }) }) (((on [380] live).wr R.can_INTEG [3] 0).wr R.can_FDOE [3] 0)) = true := by decide

theorem test_CanErrorsAndReception_12 :
    (fun (c : Fin 4) (e : CanErr) (_n : Nat) (s : State) =>
      decide ((canOn s c = false ∨ (e = .fdfBit ∧ s.rd R.can_FDOE [c.val] = 1)))) (0) (.resBit) (0) (live) = true := by decide

theorem test_CanErrorsAndReception_13 :
    (fun (c : Fin 4) (s : State) =>
      decide ((s.rd R.can_FSTATE [c.val] ≠ 3))) (0) ((live).wr R.can_FSTATE [0] (0)) = true := by decide

theorem test_CanErrorsAndReception_14 :
    (fun (c : Fin 4) (s : State) =>
      decide ((s.runs (canPage c) = false))) (0) (live) = true := by decide

theorem test_ReelChannelsStartStopAndBranch_1 :
    (fun (w : World) (c : Fin 64) (_e : Bool) (s : State) =>
      decide ((s.canWrite w (chPage c) = true) ∧
        ((w = 0 ∨ w.val = chWorld s c)) ∧
        (chBusy s c = false) ∧
        (s.runs 24 = true))) (0) (0) (false) (on [24] live) = true := by decide

theorem test_ReelChannelsStartStopAndBranch_2 :
    (fun (w : World) (c : Fin 64) (_e : Bool) (s : State) =>
      decide ((s.canWrite w (chPage c) = true))) (0) (63) (false) (live) = true := by decide

theorem test_ReelChannelsStartStopAndBranch_2_1 :
    (fun (w : World) (c : Fin 64) (_e : Bool) (s : State) =>
      decide ((s.canWrite w (chPage c) = true) ∧
        (w ≠ 0) ∧
        (w.val ≠ chWorld s c))) (2) (0) (false) (live.wr R.hdr_OWN_WRITE [25] 5) = true := by decide

theorem test_ReelChannelsStartStopAndBranch_3 :
    (fun (c : Fin 64) (_e : Bool) (s : State) =>
      decide ((chAt s c 2 = true) ∧
        (s.reel[c].stopping = false) ∧
        (bitB (chInstr s c 0) 16 = false))) (63) (false) (reeling 63 (leBytes 4 0x20000005 ++ leBytes 4 0x0000FFFF ++ leBytes 4 0 ++ leBytes 4 0) live) = true := by decide

theorem test_ReelChannelsStartStopAndBranch_4 :
    (fun (c : Fin 64) (_e : Bool) (s : State) =>
      decide ((chAt s c 2 = true) ∧
        (s.reel[c].stopping = false) ∧
        (bitB (chInstr s c 0) 16 = true))) (63) (false) (reeling 63 (leBytes 4 0x20010005 ++ leBytes 4 0x0000FFFF ++ leBytes 4 0 ++ leBytes 4 0) live) = true := by decide

theorem test_ReelChannelsStartStopAndBranch_5 :
    (fun (c : Fin 64) (s : State) =>
      decide ((chAt s c 3 = true))) (63) (reeling 63 (leBytes 4 0x32000001 ++ leBytes 4 0 ++ leBytes 4 0 ++ leBytes 4 0) live) = true := by decide

theorem test_ReelChannelsStartStopAndBranch_6 :
    (fun (c : Fin 64) (_e : Bool) (x : WaitS) (s : State) =>
      decide ((s.reel[c].wait = some x) ∧
        (s.runs 24 = true) ∧
        (s.reel[c].stopping = false))) (63) (false) (⟨2, 1, 0, none⟩) ((fun t : State => { t with reel := vupd t.reel 63 (fun x => { x with wait := some ⟨2, 1, 0, none⟩ }) }) (on [24] live)) = true := by decide

theorem test_ReelChannelsStartStopAndBranch_7 :
    (fun (c : Fin 64) (_e : Bool) (s : State) =>
      decide ((chAt s c 4 = true) ∧
        (s.reel[c].stopping = false))) (63) (false) (reeling 63 (leBytes 4 0x41000005 ++ leBytes 4 0 ++ leBytes 4 0 ++ leBytes 4 0) live) = true := by decide

theorem test_ReelChannelsStartStopAndBranch_8 :
    (fun (w : World) (c : Fin 64) (_e : Bool) (s : State) =>
      decide ((s.canWrite w (chPage c) = true) ∧
        ((w = 0 ∨ w.val = chWorld s c)) ∧
        (chBusy s c = true ∨ s.runs 24 = false))) (0) (0) (false) (live) = true := by decide

theorem test_ReelChannelsStartStopAndBranch_9 :
    (fun (c : Fin 64) (_e : Bool) (s : State) =>
      decide ((s.reel[c].stopping = true))) (63) (false) ((fun t : State => { t with reel := vupd t.reel 63 (fun x => { x with stopping := true }) }) (live)) = true := by decide

theorem test_ReelChannelsStartStopAndBranch_9_1 :
    (fun (c : Fin 64) (_e : Bool) (s : State) =>
      decide ((s.reel[c].stopping = true) ∧
        (chAt s c 2 = true))) (63) (false) ((fun t : State => { t with reel := vupd t.reel 63 (fun x => { x with stopping := true }) }) (reeling 63 (leBytes 4 0x20010005 ++ leBytes 4 0x0000FFFF ++ leBytes 4 0 ++ leBytes 4 0) live)) = true := by decide

theorem test_ReelChannelsStartStopAndBranch_9_3 :
    (fun (c : Fin 64) (_e : Bool) (s : State) =>
      decide ((s.reel[c].stopping = true) ∧
        (chAt s c 4 = true) ∧
        (bitB (chInstr s c 0) 25 = false) ∧
        (bitB (chInstr s c 0) 26 = false))) (63) (false) ((fun t : State => { t with reel := vupd t.reel 63 (fun x => { x with stopping := true }) }) (reeling 63 (leBytes 4 0x41000005 ++ leBytes 4 0 ++ leBytes 4 0 ++ leBytes 4 0) live)) = true := by decide

theorem test_ReelChannelsStartStopAndBranch_10_1 :
    (fun (c : Fin 64) (_e : Bool) (s : State) =>
      decide ((chAt s c 2 = false))) (0) (false) (live) = true := by decide

theorem test_ReelChannelsStartStopAndBranch_10_2 :
    (fun (c : Fin 64) (_e : Bool) (s : State) =>
      decide ((chAt s c 3 = false))) (0) (false) (live) = true := by decide

theorem test_ReelChannelsStartStopAndBranch_10_3 :
    (fun (c : Fin 64) (_e : Bool) (s : State) =>
      decide ((chAt s c 4 = false))) (0) (false) (live) = true := by decide

theorem test_ReelChannelsStartStopAndBranch_10_4 :
    (fun (c : Fin 64) (_e : Bool) (s : State) =>
      decide ((s.reel[c].wait = none ∨ s.runs 24 = false))) (0) (false) ((fun t : State => { t with reel := vupd t.reel 0 (fun x => { x with wait := none }) }) (live)) = true := by decide

theorem test_ReelMovesBytes_1 :
    (fun (c : Fin 64) (_e : Bool) (s : State) =>
      decide ((chAt s c 1 = true))) (63) (false) (reeling 63 (leBytes 4 0x1C000010 ++ leBytes 4 0x100 ++ leBytes 4 0x200 ++ leBytes 4 0x101) live) = true := by decide

theorem test_ReelMovesBytes_2 :
    (fun (c : Fin 64) (_e : Bool) (m : MoveS) (n : Nat) (fin : Bool) (s : State) =>
      decide ((s.reel[c].move = some m) ∧
        (m.piece = none) ∧
        (reelLine s m.line = some (n, fin)) ∧
        (0 < n) ∧
        (waitsLine s c m.line = true) ∧
        (s.runs 24 = true) ∧
        (engineFree s c = true) ∧
        ((∀ d : Fin 64, d < c → waitsLine s d m.line = false)))) (63) (false) (⟨true, false, true, true, 36, 8, 8, 8, 0x100000000, 0x100000100, 0, 0, none⟩) (65535) (false) ((fun t : State => { t with brd := { t.brd with req := true }, reel := vupd t.reel 63 (fun x => { x with move := some ⟨true, false, true, true, 36, 8, 8, 8, 0x100000000, 0x100000100, 0, 0, none⟩ }) }) ((on [24] live).wr R.rch_STATE [63] 2)) = true := by decide

theorem test_ReelMovesBytes_3a :
    (fun (c : Fin 64) (p : PieceS) (s : State) (i : Instr) =>
      decide ((chPiece s c = some p) ∧
        (chReady s c = true) ∧
        (s.runs 24 = true) ∧
        (engineFree s c = true) ∧
        (p.buf.length < p.len) ∧
        (s.reel[c].stopping = false) ∧
        (inPages (p.src + p.buf.length) = false) ∧
        (inDram (p.src + p.buf.length) = true) ∧
        (i = .move c 1 false ∨ i = .movePiece c 1 false))) (63) (⟨0x100000000, 0x100000100, 8, 8, false, [1], 0⟩) ((fun t : State => { t with reel := vupd t.reel 63 (fun x => { x with move := some ⟨false, false, true, true, 0, 8, 8, 8, 0x100000000, 0x100000100, 0, 0, (some ⟨0x100000000, 0x100000100, 8, 8, false, [1], 0⟩)⟩ }) }) ((on [24] live).wr R.rch_STATE [63] 1)) (.move 63 1 false) = true := by decide

theorem test_ReelMovesBytes_3b :
    (fun (c : Fin 64) (p : PieceS) (s : State) (i : Instr) =>
      decide ((chPiece s c = some p) ∧
        (chReady s c = true) ∧
        (s.runs 24 = true) ∧
        (engineFree s c = true) ∧
        (p.buf.length < p.len) ∧
        (s.reel[c].stopping = false) ∧
        (inPages (p.src + p.buf.length) = false) ∧
        (inDram (p.src + p.buf.length) = true) ∧
        (i = .move c 1 false ∨ i = .movePiece c 1 false))) (63) (⟨0x100000000, 0x100000100, 8, 8, false, [1], 0⟩) ((fun t : State => { t with reel := vupd t.reel 63 (fun x => { x with move := some ⟨false, false, true, true, 0, 8, 8, 8, 0x100000000, 0x100000100, 0, 0, (some ⟨0x100000000, 0x100000100, 8, 8, false, [1], 0⟩)⟩ }) }) ((on [24] live).wr R.rch_STATE [63] 1)) (.movePiece 63 1 false) = true := by decide

theorem test_ReelMovesBytes_4a :
    (fun (c : Fin 64) (p : PieceS) (s : State) (i : Instr) =>
      decide ((chPiece s c = some p) ∧
        (chReady s c = true) ∧
        (s.runs 24 = true) ∧
        (engineFree s c = true) ∧
        (p.len ≤ p.buf.length ∨ s.reel[c].stopping = true) ∧
        (inPages (p.dst + p.put) = false) ∧
        (inDram (p.dst + p.put) = true) ∧
        (i = .move c 1 false ∨ i = .movePiece c 1 false))) (63) (⟨0x100000000, 0x100000100, 8, 8, false, [1, 2, 3, 4, 5, 6, 7, 8], 0⟩) ((fun t : State => { t with reel := vupd t.reel 63 (fun x => { x with move := some ⟨false, false, true, true, 0, 8, 8, 8, 0x100000000, 0x100000100, 0, 0, (some ⟨0x100000000, 0x100000100, 8, 8, false, [1, 2, 3, 4, 5, 6, 7, 8], 0⟩)⟩ }) }) ((on [24] live).wr R.rch_STATE [63] 1)) (.move 63 1 false) = true := by decide

theorem test_ReelMovesBytes_4b :
    (fun (c : Fin 64) (p : PieceS) (s : State) (i : Instr) =>
      decide ((chPiece s c = some p) ∧
        (chReady s c = true) ∧
        (s.runs 24 = true) ∧
        (engineFree s c = true) ∧
        (p.len ≤ p.buf.length ∨ s.reel[c].stopping = true) ∧
        (inPages (p.dst + p.put) = false) ∧
        (inDram (p.dst + p.put) = true) ∧
        (i = .move c 1 false ∨ i = .movePiece c 1 false))) (63) (⟨0x100000000, 0x100000100, 8, 8, false, [1, 2, 3, 4, 5, 6, 7, 8], 0⟩) ((fun t : State => { t with reel := vupd t.reel 63 (fun x => { x with move := some ⟨false, false, true, true, 0, 8, 8, 8, 0x100000000, 0x100000100, 0, 0, (some ⟨0x100000000, 0x100000100, 8, 8, false, [1, 2, 3, 4, 5, 6, 7, 8], 0⟩)⟩ }) }) ((on [24] live).wr R.rch_STATE [63] 1)) (.movePiece 63 1 false) = true := by decide

theorem test_ReelMovesBytes_5 :
    (fun (c : Fin 64) (p : PieceS) (s : State) =>
      decide ((chPiece s c = some p) ∧
        (chReady s c = true) ∧
        (s.runs 24 = true) ∧
        (engineFree s c = true) ∧
        (p.buf.length < p.len) ∧
        (s.reel[c].stopping = false) ∧
        (inPages (p.src + p.buf.length) = false) ∧
        (inDram (p.src + p.buf.length) = false))) (63) (⟨0x200000000, 0x100000100, 8, 8, false, [], 0⟩) ((fun t : State => { t with reel := vupd t.reel 63 (fun x => { x with move := some ⟨false, false, true, true, 0, 8, 8, 8, 0x100000000, 0x100000100, 0, 0, (some ⟨0x200000000, 0x100000100, 8, 8, false, [], 0⟩)⟩ }) }) ((on [24] live).wr R.rch_STATE [63] 1)) = true := by decide

theorem test_ReelMovesBytes_6 :
    (fun (c : Fin 64) (p : PieceS) (s : State) (i : Instr) =>
      decide ((chPiece s c = some p) ∧
        (chReady s c = true) ∧
        (s.runs 24 = true) ∧
        (engineFree s c = true) ∧
        (p.buf.length < p.len) ∧
        (s.reel[c].stopping = false) ∧
        (inPages (p.src + p.buf.length) = true) ∧
        (i = .move c 1 false ∨ i = .movePiece c 1 false))) (63) (⟨0x40000000, 0x100000100, 8, 8, false, [], 0⟩) ((fun t : State => { t with reel := vupd t.reel 63 (fun x => { x with move := some ⟨false, false, true, true, 0, 8, 8, 8, 0x100000000, 0x100000100, 0, 0, (some ⟨0x40000000, 0x100000100, 8, 8, false, [], 0⟩)⟩ }) }) ((on [24] live).wr R.rch_STATE [63] 1)) (.move 63 1 false) = true := by decide

theorem test_ReelMovesBytes_7 :
    (fun (c : Fin 64) (n : Nat) (_e : Bool) (s : State) =>
      decide ((chAt s c 1 = false) ∧
        (n = 0 ∨ s.runs 24 = false ∨ engineFree s c = false ∨ chReady s c = false))) (0) (0) (false) (live) = true := by decide

theorem test_CryptoJobsGiveTheirResults_1_1 :
    (fun (w : Fin 3) (i : Nat) (j : Job) (s : State) =>
      decide ((JobReady s w i 1 j) ∧
        (algBytes j.alg ≤ j.dstLen))) (0) (0) (aJob 1 0 32 0) (jobbed (aJob 1 0 32 0) (live)) = true := by decide

theorem test_CryptoJobsGiveTheirResults_1_2 :
    (fun (w : Fin 3) (i : Nat) (j : Job) (s : State) =>
      decide ((JobReady s w i 2 j) ∧
        (jobSlot s w.val j.k1 [3 + j.alg] 2 = true))) (0) (0) (aJob 2 0 32 0) (jobbed (aJob 2 0 32 0) (slotted 1 3 (live))) = true := by decide

theorem test_CryptoJobsGiveTheirResults_1_3 :
    (fun (w : Fin 3) (i : Nat) (j : Job) (s : State) =>
      decide ((JobReady s w i 3 j) ∧
        (12 ≤ j.auxLen) ∧
        (j.srcLen + 16 ≤ j.dstLen) ∧
        (jobSlot s w.val j.k1 [1 + j.alg] 0 = true))) (0) (0) (aJob 3 0 16 12) (jobbed (aJob 3 0 16 12) (slotted 1 1 (live))) = true := by decide

theorem test_CryptoJobsGiveTheirResults_1_4 :
    (fun (w : Fin 3) (i : Nat) (j : Job) (s : State) =>
      decide ((JobReady s w i 4 j) ∧
        (12 ≤ j.auxLen) ∧
        (16 ≤ j.srcLen) ∧
        (j.srcLen - 16 ≤ j.dstLen) ∧
        (jobSlot s w.val j.k1 [1 + j.alg] 1 = true))) (0) (0) (aJob 4 16 0 12) (jobbed (aJob 4 16 0 12) (slotted 1 1 (live))) = true := by decide

theorem test_CryptoJobsGiveTheirResults_2_1 :
    (fun (w : Fin 3) (i : Nat) (j : Job) (s : State) =>
      decide ((JobReady s w i 5 j) ∧
        (j.srcLen = algBytes j.alg) ∧
        (2 * algBytes j.alg ≤ j.dstLen) ∧
        (jobSlot s w.val j.k1 [5 + j.alg] 2 = true) ∧
        (s.key.rngBad = false))) (0) (0) (aJob 5 32 64 0) (jobbed (aJob 5 32 64 0) (slotted 1 5 (live))) = true := by decide

theorem test_CryptoJobsGiveTheirResults_2_2 :
    (fun (w : Fin 3) (i : Nat) (j : Job) (s : State) =>
      decide ((JobReady s w i 6 j) ∧
        (j.srcLen = algBytes j.alg) ∧
        (j.auxLen = 2 * algBytes j.alg) ∧
        ((j.k1 = 0xFFFF ∧ j.dstLen = 2 * algBytes j.alg) ∨ (j.k1 ≠ 0xFFFF ∧ jobSlot s w.val j.k1 [5 + j.alg, 7 + j.alg] 3 = true)))) (0) (0) (aJob 6 32 64 64) (jobbed (aJob 6 32 64 64) (slotted 1 7 (live))) = true := by decide

theorem test_CryptoJobsGiveTheirResults_2_3 :
    (fun (w : Fin 3) (i : Nat) (j : Job) (s : State) =>
      decide ((JobReady s w i 7 j) ∧
        (destSlot s w.val j.k2 [1, 2, 3, 4, 9, 10, 11, 12] = true) ∧
        (s.key.rngBad = false))) (0) (0) (aJob 7 0 0 0) (jobbed (aJob 7 0 0 0) (slotted 2 1 (live))) = true := by decide

theorem test_CryptoJobsGiveTheirResults_2_4 :
    (fun (w : Fin 3) (i : Nat) (j : Job) (s : State) =>
      decide ((JobReady s w i 7 j) ∧
        (destSlot s w.val j.k2 [5] = true) ∧
        (64 ≤ j.dstLen) ∧
        (s.key.rngBad = false))) (0) (0) (aJob 7 0 64 0) (jobbed (aJob 7 0 64 0) (slotted 2 5 (live))) = true := by decide

theorem test_CryptoJobsGiveTheirResults_2_5 :
    (fun (w : Fin 3) (i : Nat) (j : Job) (s : State) =>
      decide ((JobReady s w i 7 j) ∧
        (destSlot s w.val j.k2 [6] = true) ∧
        (96 ≤ j.dstLen) ∧
        (s.key.rngBad = false))) (0) (0) (aJob 7 0 96 0) (jobbed (aJob 7 0 96 0) (slotted 2 6 (live))) = true := by decide

theorem test_CryptoJobsGiveTheirResults_2_6 :
    (fun (w : Fin 3) (i : Nat) (j : Job) (s : State) =>
      decide ((JobReady s w i 8 j) ∧
        (j.srcLen = 2 * algBytes j.alg) ∧
        (jobSlot s w.val j.k1 [5 + j.alg] 4 = true) ∧
        (destSlot s w.val j.k2 [3, 4] = true))) (0) (0) (aJob 8 64 0 0) (jobbed (aJob 8 64 0 0) (slotted 2 4 (slotted 1 5 (live)))) = true := by decide

theorem test_CryptoJobsGiveTheirResults_2_7 :
    (fun (w : Fin 3) (i : Nat) (j : Job) (s : State) =>
      decide ((JobReady s w i 9 j) ∧
        (j.mode ≤ 2) ∧
        (jobSlot s w.val j.k1 [3, 4] 4 = true) ∧
        (destSlot s w.val j.k2 (if j.mode = 0 then [10, 11] else [1, 2, 3, 4, 9, 10, 11, 12]) = true))) (0) (0) (aJob 9 0 0 0) (jobbed (aJob 9 0 0 0) (slotted 2 11 (slotted 1 3 (live)))) = true := by decide

theorem test_CryptoJobsGiveTheirResults_3_1 :
    (fun (w : Fin 3) (i : Nat) (j : Job) (s : State) =>
      decide ((JobReady s w i 10 j) ∧
        (destSlot s w.val j.k2 [1, 2, 3, 4, 5, 6, 7, 8, 9, 10, 11, 12] = true) ∧
        (s.rd R.slot_ENGINE [j.k2] ≠ 2) ∧
        (j.srcLen = typeBytes (s.rd R.slot_TYPE [j.k2])))) (0) (0) (aJob 10 16 0 0) (jobbed (aJob 10 16 0 0) (slotted 2 1 (live))) = true := by decide

theorem test_CryptoJobsGiveTheirResults_3_2 :
    (fun (w : Fin 3) (i : Nat) (j : Job) (s : State) =>
      decide ((JobReady s w i 11 j) ∧
        (jobSlot s w.val j.k1 [1, 2, 3, 4, 5, 6, 7, 8, 9, 10, 11, 12] 6 = true) ∧
        (jobSlot s w.val j.k2 [2] 5 = true) ∧
        (36 + (slotMat s j.k1).length ≤ j.dstLen) ∧
        (s.key.rngBad = false))) (0) (0) (aJob 11 0 36 0) (jobbed (aJob 11 0 36 0) (slotted 2 2 (slotted 1 1 (live)))) = true := by decide

theorem test_CryptoJobsGiveTheirResults_3_3 :
    (fun (w : Fin 3) (i : Nat) (j : Job) (s : State) =>
      decide ((JobReady s w i 12 j) ∧
        (j.srcLen = 36 + typeBytes (s.rd R.slot_TYPE [j.k2])) ∧
        (jobSlot s w.val j.k1 [2] 5 = true) ∧
        (destSlot s w.val j.k2 [1, 2, 3, 4, 5, 6, 7, 8, 9, 10, 11, 12] = true) ∧
        (sameWords (leNat ((jobSrc s j).take 4)) (leNat (((jobSrc s j).drop 4).take 4)) (slotWord0 s j.k2) (slotWord1 s j.k2) = true))) (0) (0) (aJob 12 52 0 0) (jobbed (aJob 12 52 0 0) ((fun t : State => { t with sram0 := memWrite t.sram0 0 (leBytes 4 (slotWord0 t 2) ++ leBytes 4 (slotWord1 t 2)) }) (slotted 2 1 (slotted 1 2 (live))))) = true := by decide

theorem test_CryptoJobsGiveTheirResults_3_4 :
    (fun (w : Fin 3) (i : Nat) (j : Job) (s : State) =>
      decide ((JobReady s w i 13 j) ∧
        (s.key.rngBad = false))) (0) (0) (aJob 13 0 32 0) (jobbed (aJob 13 0 32 0) (live)) = true := by decide

theorem test_CryptoJobsGiveTheirResults_3_5 :
    (fun (w : Fin 3) (i : Nat) (j : Job) (s : State) =>
      decide ((JobReady s w i 14 j) ∧
        (jobSlot s w.val j.k1 [5, 6, 7, 8] 8 = true) ∧
        ((pubOfSlot s j.k1).length ≤ j.dstLen))) (0) (0) (aJob 14 0 64 0) (jobbed (aJob 14 0 64 0) (slotted 1 8 (live))) = true := by decide

theorem test_CryptoJobsGiveTheirResults_5_1 :
    (fun (w : Fin 3) (i : Nat) (j : Job) (s : State) =>
      decide ((JobReady s w i 2 j) ∧
        (j.mode = 0) ∧
        (algBytes j.alg ≤ j.dstLen) ∧
        (jobSlot s w.val j.k1 [3 + j.alg] 2 = false))) (0) (0) (aJob 2 0 32 0) (jobbed (aJob 2 0 32 0) (live)) = true := by decide

theorem test_CryptoJobsGiveTheirResults_5_2 :
    (fun (w : Fin 3) (i : Nat) (j : Job) (s : State) =>
      decide ((JobReady s w i 3 j) ∧
        (12 ≤ j.auxLen) ∧
        (j.srcLen + 16 ≤ j.dstLen) ∧
        (jobSlot s w.val j.k1 [1 + j.alg] 0 = false))) (0) (0) (aJob 3 0 16 12) (jobbed (aJob 3 0 16 12) (live)) = true := by decide

theorem test_CryptoJobsGiveTheirResults_5_3 :
    (fun (w : Fin 3) (i : Nat) (j : Job) (s : State) =>
      decide ((JobReady s w i 4 j) ∧
        (12 ≤ j.auxLen) ∧
        (16 ≤ j.srcLen) ∧
        (j.srcLen - 16 ≤ j.dstLen) ∧
        (jobSlot s w.val j.k1 [1 + j.alg] 1 = false))) (0) (0) (aJob 4 16 0 12) (jobbed (aJob 4 16 0 12) (live)) = true := by decide

theorem test_CryptoJobsGiveTheirResults_5_4 :
    (fun (w : Fin 3) (i : Nat) (j : Job) (s : State) =>
      decide ((JobReady s w i 5 j) ∧
        (j.srcLen = algBytes j.alg) ∧
        (2 * algBytes j.alg ≤ j.dstLen) ∧
        (jobSlot s w.val j.k1 [5 + j.alg] 2 = false))) (0) (0) (aJob 5 32 64 0) (jobbed (aJob 5 32 64 0) (live)) = true := by decide

theorem test_CryptoJobsGiveTheirResults_5_5 :
    (fun (w : Fin 3) (i : Nat) (j : Job) (s : State) =>
      decide ((JobReady s w i 6 j) ∧
        (j.srcLen = algBytes j.alg) ∧
        (j.auxLen = 2 * algBytes j.alg) ∧
        (j.k1 ≠ 0xFFFF) ∧
        (jobSlot s w.val j.k1 [5 + j.alg, 7 + j.alg] 3 = false))) (0) (0) (aJob 6 32 64 64) (jobbed (aJob 6 32 64 64) (live)) = true := by decide

theorem test_CryptoJobsGiveTheirResults_5_6 :
    (fun (w : Fin 3) (i : Nat) (j : Job) (s : State) =>
      decide ((JobReady s w i 7 j) ∧
        (destSlot s w.val j.k2 [1, 2, 3, 4, 5, 6, 9, 10, 11, 12] = false))) (0) (0) (aJob 7 0 0 0) (jobbed (aJob 7 0 0 0) (live)) = true := by decide

theorem test_CryptoJobsGiveTheirResults_5_7 :
    (fun (w : Fin 3) (i : Nat) (j : Job) (s : State) =>
      decide ((JobReady s w i 8 j) ∧
        (j.srcLen = 2 * algBytes j.alg) ∧
        (jobSlot s w.val j.k1 [5 + j.alg] 4 = false ∨ destSlot s w.val j.k2 [3, 4] = false))) (0) (0) (aJob 8 64 0 0) (jobbed (aJob 8 64 0 0) (live)) = true := by decide

theorem test_CryptoJobsGiveTheirResults_5_8 :
    (fun (w : Fin 3) (i : Nat) (j : Job) (s : State) =>
      decide ((JobReady s w i 9 j) ∧
        (j.mode ≤ 2) ∧
        (jobSlot s w.val j.k1 [3, 4] 4 = false))) (0) (0) (aJob 9 0 0 0) (jobbed (aJob 9 0 0 0) (live)) = true := by decide

theorem test_CryptoJobsGiveTheirResults_5_9 :
    (fun (w : Fin 3) (i : Nat) (j : Job) (s : State) =>
      decide ((JobReady s w i 10 j) ∧
        (s.rd R.slot_ENGINE [j.k2] = 2))) (0) (0) (aJob 10 16 0 0) (jobbed (aJob 10 16 0 0) ((live).wr R.slot_ENGINE [2] 2)) = true := by decide

theorem test_CryptoJobsGiveTheirResults_5_10 :
    (fun (w : Fin 3) (i : Nat) (j : Job) (s : State) =>
      decide ((JobReady s w i 11 j) ∧
        (jobSlot s w.val j.k2 [2] 5 = false))) (0) (0) (aJob 11 0 36 0) (jobbed (aJob 11 0 36 0) (live)) = true := by decide

theorem test_CryptoJobsGiveTheirResults_5_11 :
    (fun (w : Fin 3) (i : Nat) (j : Job) (s : State) =>
      decide ((JobReady s w i 12 j) ∧
        (36 ≤ j.srcLen) ∧
        (jobSlot s w.val j.k1 [2] 5 = false))) (0) (0) (aJob 12 36 0 0) (jobbed (aJob 12 36 0 0) (live)) = true := by decide

theorem test_CryptoJobsGiveTheirResults_5_12 :
    (fun (w : Fin 3) (i : Nat) (j : Job) (s : State) =>
      decide ((JobReady s w i 14 j) ∧
        (jobSlot s w.val j.k1 [5, 6, 7, 8] 8 = false))) (0) (0) (aJob 14 0 64 0) (jobbed (aJob 14 0 64 0) (live)) = true := by decide

theorem test_CryptoJobsGiveTheirResults_6 :
    (fun (_w : Fin 3) (_i : Nat) (_j : Job) (s : State) =>
      decide ((s.key.rngBad = true))) (0) (0) (aJob 1 0 0 0) ((fun t : State => { t with key := { t.key with rngBad := true } }) (live)) = true := by decide

theorem test_CryptoJobsGiveTheirResults_6_1 :
    (fun (w : Fin 3) (i : Nat) (j : Job) (s : State) =>
      decide ((s.key.rngBad = true) ∧
        (JobReady s w i 5 j) ∧
        (j.srcLen = algBytes j.alg) ∧
        (2 * algBytes j.alg ≤ j.dstLen) ∧
        (jobSlot s w.val j.k1 [5 + j.alg] 2 = true))) (0) (0) (aJob 5 32 64 0) ((fun t : State => { t with key := { t.key with rngBad := true } }) (jobbed (aJob 5 32 64 0) (slotted 1 5 (live)))) = true := by decide

theorem test_CryptoJobsGiveTheirResults_6_2 :
    (fun (w : Fin 3) (i : Nat) (j : Job) (s : State) =>
      decide ((s.key.rngBad = true) ∧
        (JobReady s w i 7 j) ∧
        (destSlot s w.val j.k2 [1, 2, 3, 4, 9, 10, 11, 12] = true))) (0) (0) (aJob 7 0 0 0) ((fun t : State => { t with key := { t.key with rngBad := true } }) (jobbed (aJob 7 0 0 0) (slotted 2 1 (live)))) = true := by decide

theorem test_CryptoJobsGiveTheirResults_6_3 :
    (fun (w : Fin 3) (i : Nat) (j : Job) (s : State) =>
      decide ((s.key.rngBad = true) ∧
        (JobReady s w i 11 j) ∧
        (jobSlot s w.val j.k1 [1, 2, 3, 4, 5, 6, 7, 8, 9, 10, 11, 12] 6 = true) ∧
        (jobSlot s w.val j.k2 [2] 5 = true) ∧
        (36 + (slotMat s j.k1).length ≤ j.dstLen))) (0) (0) (aJob 11 0 36 0) ((fun t : State => { t with key := { t.key with rngBad := true } }) (jobbed (aJob 11 0 36 0) (slotted 2 2 (slotted 1 1 (live))))) = true := by decide

theorem test_CryptoJobsGiveTheirResults_6_4 :
    (fun (w : Fin 3) (i : Nat) (j : Job) (s : State) =>
      decide ((s.key.rngBad = true) ∧
        (JobReady s w i 13 j))) (0) (0) (aJob 13 0 32 0) ((fun t : State => { t with key := { t.key with rngBad := true } }) (jobbed (aJob 13 0 32 0) (live))) = true := by decide

theorem test_JobsCompleteInTheirRing_1a :
    (fun (w : Fin 3) (i : Nat) (j : Job) (o : JobOut) (s : State) =>
      decide ((jobAt s w.val i = some j) ∧
        ((j.out = some o ∨ (j.out = none ∧
        (j.op = 0 ∨ 14 < j.op) ∧ mayStart s j = true ∧ o = ⟨3, 0, none⟩))))) (0) (0) ({ aJob 1 0 32 0 with out := some ⟨0, 32, none⟩ }) (⟨0, 32, none⟩) (jobbed { aJob 1 0 32 0 with out := some ⟨0, 32, none⟩ } live) = true := by decide

theorem test_JobsCompleteInTheirRing_1b :
    (fun (w : Fin 3) (i : Nat) (j : Job) (o : JobOut) (s : State) =>
      decide ((jobAt s w.val i = some j) ∧
        ((j.out = some o ∨ (j.out = none ∧
        (j.op = 0 ∨ 14 < j.op) ∧ mayStart s j = true ∧ o = ⟨3, 0, none⟩))))) (0) (0) (aJob 15 0 0 0) (⟨3, 0, none⟩) (jobbed (aJob 15 0 0 0) live) = true := by decide

theorem test_JobsCompleteInTheirRing_2 :
    (fun (w : Fin 3) (i : Nat) (s : State) =>
      decide ((jobAt s w.val i = none ∨
      (∃ j, jobAt s w.val i = some j ∧ j.out = none ∧
        ((1 ≤ j.op ∧ j.op ≤ 14) ∨ mayStart s j = false))))) (0) (0) (live) = true := by decide

theorem test_SlotsGrantsAndLifeCycle_1 :
    (fun (w : World) (_k : Fin 256) (_v : Word) (s : State) =>
      decide ((s.canWrite w 17 = true))) (0) (0) (0) (live) = true := by decide

theorem test_SlotsGrantsAndLifeCycle_1_3 :
    (fun (w : World) (k : Fin 256) (_v : Word) (s : State) =>
      decide ((s.canWrite w 17 = true) ∧
        (k ≠ 0) ∧
        (s.rd R.slot_LOCK [k.val] = 0))) (0) (255) (0) ((live).wr R.slot_LOCK [255] (0)) = true := by decide

theorem test_SlotsGrantsAndLifeCycle_1_4 :
    (fun (w : World) (k : Fin 256) (_v : Word) (s : State) =>
      decide ((s.canWrite w 17 = true) ∧
        (k ≠ 0) ∧
        (s.rd R.slot_LOCK [k.val] = 0))) (0) (1) (0) ((live).wr R.slot_LOCK [1] (0)) = true := by decide

theorem test_SlotsGrantsAndLifeCycle_2 :
    (fun (w : World) (s : State) =>
      decide ((s.canWrite w 16 = true))) (0) (live) = true := by decide

theorem test_SlotsGrantsAndLifeCycle_3 :
    (fun (w : World) (_r : Fin 16) (_v : Word) (s : State) =>
      decide ((s.canWrite w 18 = true))) (0) (0) (0) (live) = true := by decide

theorem test_SlotsGrantsAndLifeCycle_4 :
    (fun (s : State) =>
      decide ((s.canWrite 0 16 = true))) (live) = true := by decide

theorem test_SlotsGrantsAndLifeCycle_5 :
    (fun (w : World) (_s : State) =>
      decide ((w ≠ 0))) (9) (live) = true := by decide

theorem test_SlotsGrantsAndLifeCycle_6_2 :
    (fun (s : State) =>
      decide ((s.key.burn = none))) ((fun t : State => { t with key := { t.key with burn := none } }) (live)) = true := by decide

theorem test_SuppliesAndSourcesRaiseResets_1a :
    (fun (b : Bool) (s : State) =>
      decide ((s.rd (if b then R.pwr_B_OK else R.pwr_A_OK) [] = 1))) (false) (live.wr R.pwr_A_OK [] 1) = true := by decide

theorem test_SuppliesAndSourcesRaiseResets_1b :
    (fun (b : Bool) (s : State) =>
      decide ((s.rd (if b then R.pwr_B_OK else R.pwr_A_OK) [] = 1))) (true) (live.wr R.pwr_B_OK [] 1) = true := by decide

theorem test_SuppliesAndSourcesRaiseResets_2a :
    (fun (b : Bool) (s : State) =>
      decide ((s.rd (if b then R.pwr_B_OK else R.pwr_A_OK) [] = 0))) (false) (live.wr R.pwr_A_OK [] 0) = true := by decide

theorem test_SuppliesAndSourcesRaiseResets_2b :
    (fun (b : Bool) (s : State) =>
      decide ((s.rd (if b then R.pwr_B_OK else R.pwr_A_OK) [] = 0))) (true) (live.wr R.pwr_B_OK [] 0) = true := by decide

theorem test_SuppliesAndSourcesRaiseResets_3 :
    (fun (s : State) =>
      decide ((s.reduced = true))) (live.wr R.pwr_HOLDUP [] 1) = true := by decide

theorem test_SuppliesAndSourcesRaiseResets_3_1 :
    (fun (s : State) =>
      decide ((s.reduced = true) ∧
        (s.canWrite 0 2 = true))) (live.wr R.pwr_HOLDUP [] 1) = true := by decide

theorem test_SuppliesAndSourcesRaiseResets_3_2 :
    (fun (s : State) =>
      decide ((s.reduced = true) ∧
        (s.canWrite 1 2 = true))) ((live.wr R.pwr_HOLDUP [] 1).wr R.hdr_OWN_WRITE [2] 3) = true := by decide

theorem test_SuppliesAndSourcesRaiseResets_5 :
    (fun (_td : List (Option Int)) (s : State) =>
      decide ((s.thrm.sdHold = true))) ([]) ((fun t : State => { t with thrm := { t.thrm with sdHold := true } }) (live)) = true := by decide

theorem test_SuppliesAndSourcesRaiseResets_6_1 :
    (fun (k : Fin 3) (s : State) =>
      decide ((wdgMs s k ≠ 0) ∧
        (s.rst.wdg[k] = 0))) (0) ((fun t : State => { t with rst := { t.rst with wdg := t.rst.wdg.set 0 0 } }) (live.wr R.rst_B_WDG_MS [] 5)) = true := by decide

theorem test_SuppliesAndSourcesRaiseResets_6_2 :
    (fun (k : Fin 3) (s : State) =>
      decide ((wdgMs s k = 0 ∨ s.rst.wdg[k] ≠ 0))) (2) (live) = true := by decide

theorem test_SuppliesAndSourcesRaiseResets_8 :
    (fun (s : State) =>
      decide ((s.canWrite 0 1 = true))) (live) = true := by decide

theorem test_SuppliesAndSourcesRaiseResets_9_1 :
    (fun (b : Bool) (s : State) =>
      decide ((s.rd (if b then R.pwr_B_OK else R.pwr_A_OK) [] = 0))) (false) (live) = true := by decide

theorem test_SuppliesAndSourcesRaiseResets_9_2 :
    (fun (b : Bool) (s : State) =>
      decide ((s.rd (if b then R.pwr_B_OK else R.pwr_A_OK) [] = 1))) (true) (live.wr R.pwr_B_OK [] 1) = true := by decide

theorem test_SuppliesAndSourcesRaiseResets_10_1 :
    (fun (w : World) (s : State) =>
      decide ((s.canWrite w 2 = true) ∧
        (w ≠ 0 ∨ s.reduced = false))) (0) (live) = true := by decide

theorem test_SuppliesAndSourcesRaiseResets_10_2 :
    (fun (w : World) (s : State) =>
      decide ((s.canWrite w 2 = true) ∧
        (w ≠ 1 ∨ s.reduced = false))) (0) (live) = true := by decide

theorem test_SuppliesAndSourcesRaiseResets_10_3 :
    (fun (w : World) (s : State) =>
      decide ((s.canWrite w 1 = true) ∧
        (w ≠ 0))) (1) (live.wr R.hdr_OWN_WRITE [1] 3) = true := by decide

theorem test_SuppliesAndSourcesRaiseResets_11 :
    (fun (_td : List (Option Int)) (s : State) =>
      decide ((s.thrm.sdHold = false))) ([]) ((fun t : State => { t with thrm := { t.thrm with sdHold := false } }) (live)) = true := by decide

theorem test_ResetsAreAcceptedAndApplied_4 :
    (fun (s : State) =>
      decide ((s.rst.acc ≠ none ∨ s.rst.accB = true) ∧
        (holds s ≠ 0) ∧
        (bitB s.rst.accSrc 1 = false) ∧
        (bitB s.rst.accSrc 2 = false))) ({ live with rst := { live.rst with acc := some 1, flOp := some (1, 0, 0) } }) = true := by decide

theorem test_ResetsAreAcceptedAndApplied_5a :
    (fun (l : Nat) (s : State) =>
      decide ((s.rst.acc = some l) ∧
        (l ≤ 1) ∧
        ((holds s = 0 ∨ bitB s.rst.accSrc 1 = true ∨ bitB s.rst.accSrc 2 = true)))) (1) ({ live with rst := { live.rst with acc := some 1 } }) = true := by decide

theorem test_ResetsAreAcceptedAndApplied_5b :
    (fun (l : Nat) (s : State) =>
      decide ((s.rst.acc = some l) ∧
        (l ≤ 1) ∧
        ((holds s = 0 ∨ bitB s.rst.accSrc 1 = true ∨ bitB s.rst.accSrc 2 = true)))) (0) ({ live with rst := { live.rst with acc := some 0, accSrc := 2, flOp := some (1, 0, 0) } }) = true := by decide

theorem test_ResetsAreAcceptedAndApplied_6 :
    (fun (s : State) =>
      decide ((s.rst.acc = some 2) ∧
        (s.rst.accB = false) ∧
        ((holds s = 0 ∨ bitB s.rst.accSrc 1 = true ∨ bitB s.rst.accSrc 2 = true)))) ((fun t : State => { t with rst := { t.rst with accB := false } }) ((fun t : State => { t with rst := { t.rst with acc := some 2 } }) (live))) = true := by decide

theorem test_ResetsAreAcceptedAndApplied_7 :
    (fun (s : State) =>
      decide ((s.rst.acc = none) ∧
        (s.rst.accB = true) ∧
        ((holds s = 0 ∨ bitB s.rst.accSrc 1 = true ∨ bitB s.rst.accSrc 2 = true)))) ((fun t : State => { t with rst := { t.rst with accB := true } }) ((fun t : State => { t with rst := { t.rst with acc := none } }) (live))) = true := by decide

theorem test_ResetsAreAcceptedAndApplied_8 :
    (fun (s : State) =>
      decide ((s.rst.acc = none) ∧
        (s.rst.accB = false))) ((fun t : State => { t with rst := { t.rst with accB := false } }) ((fun t : State => { t with rst := { t.rst with acc := none } }) (live))) = true := by decide

theorem test_ResetsAreAcceptedAndApplied_9 :
    (fun (s : State) =>
      decide ((s.rst.acc = some 2) ∧
        (s.rst.accB = true) ∧
        ((holds s = 0 ∨ bitB s.rst.accSrc 1 = true ∨ bitB s.rst.accSrc 2 = true)))) ((fun t : State => { t with rst := { t.rst with accB := true } }) ((fun t : State => { t with rst := { t.rst with acc := some 2 } }) (live))) = true := by decide

theorem test_ResetsAreAcceptedAndApplied_10 :
    (fun (a : Bool) (b : Bool) (_s : State) =>
      decide ((a = true ∨ b = true))) (true) (false) (live) = true := by decide

theorem test_BlocksAreResetAndReleased_1 :
    (fun (w : World) (p : Page) (s : State) =>
      decide ((s.canWrite w p.val = true) ∧
        (p.val = enPage p.val) ∧
        (4 ≤ p.val))) (0) (368) (live) = true := by decide

theorem test_BlocksAreResetAndReleased_2 :
    (fun (p : Page) (s : State) =>
      decide (((brstAt s p.val).isSome = true) ∧
        (p.val = enPage p.val) ∧
        (4 ≤ p.val) ∧
        (blockOf p.val ≠ none) ∧
        (holds s = 0))) (368) ({ live with rst := { live.rst with brst := [(368, 0)] } }) = true := by decide

theorem test_BlocksAreResetAndReleased_2_2 :
    (fun (p : Page) (s : State) =>
      decide (((brstAt s p.val).isSome = true) ∧
        (p.val = enPage p.val) ∧
        (4 ≤ p.val) ∧
        (blockOf p.val ≠ none) ∧
        (holds s = 0) ∧
        (idleOf s p.val = false) ∧
        (idleLate s p.val = true) ∧
        (idleOnly p.val = false))) (368) ({ (({ live with rst := { live.rst with brst := [(368, 0)] } }).wr R.hdr_EN [368] 1) with now := 1000000000000000 }) = true := by decide

theorem test_BlocksAreResetAndReleased_2_3 :
    (fun (p : Page) (s : State) =>
      decide (((brstAt s p.val).isSome = true) ∧
        (p.val = enPage p.val) ∧
        (4 ≤ p.val) ∧
        (blockOf p.val ≠ none) ∧
        (holds s = 0) ∧
        (idleOf s p.val = true ∨ idleLate s p.val = false ∨ idleOnly p.val = true))) (368) ({ live with rst := { live.rst with brst := [(368, 0)] } }) = true := by decide

theorem test_BlocksAreResetAndReleased_3 :
    (fun (p : Page) (s : State) (t0 : Nat) =>
      decide ((brstAt s p.val = some t0))) (368) ((({ live with rst := { live.rst with brst := [(368, 0)] } }).wr R.hdr_EN [4] 1).wr R.spar_LOCK [] 2) (0) = true := by decide

theorem test_BlocksAreResetAndReleased_4 :
    (fun (w : World) (_v : Word) (s : State) =>
      decide ((s.canWrite w 1 = true))) (0) (0) (live) = true := by decide

theorem test_BlocksAreResetAndReleased_5 :
    (fun (b : Fin 28) (s : State) =>
      decide ((s.rst.inReset[b] = true) ∧
        (s.rst.relPend[b] = true) ∧
        (s.rst.loading = false))) (27) ({ live with rst := { live.rst with inReset := .replicate 28 true, relPend := .replicate 28 true } }) = true := by decide

theorem test_BlocksAreResetAndReleased_5_1 :
    (fun (b : Fin 28) (s : State) =>
      decide ((s.rst.inReset[b] = true) ∧
        (s.rst.relPend[b] = true) ∧
        (s.rst.loading = false) ∧
        (s.thrm.sdHold = false) ∧
        ((b.val ≠ 23 ∨ s.rd R.rst_MODE [] ≠ 3)))) (27) ({ live with rst := { live.rst with inReset := .replicate 28 true, relPend := .replicate 28 true } }) = true := by decide

theorem test_BlocksAreResetAndReleased_5_2 :
    (fun (b : Fin 28) (s : State) =>
      decide ((s.rst.inReset[b] = true) ∧
        (s.rst.relPend[b] = true) ∧
        (s.rst.loading = false) ∧
        (s.thrm.sdHold = true ∨ (b.val = 23 ∧ s.rd R.rst_MODE [] = 3)))) (0) ({ live with rst := { live.rst with inReset := .replicate 28 true, relPend := .replicate 28 true }, thrm := { live.thrm with sdHold := true } }) = true := by decide

theorem test_BlocksAreResetAndReleased_6 :
    (fun (_b : Fin 28) (s : State) =>
      decide ((s.rst.loading = true))) (27) ({ live with rst := { live.rst with loading := true } }) = true := by decide

theorem test_BlocksAreResetAndReleased_7 :
    (fun (b : Fin 28) (s : State) =>
      decide ((s.canWrite 0 1 = true) ∧
        (s.rd R.rst_RETRY_BLK [] = b.val))) (27) (live.wr R.rst_RETRY_BLK [] 27) = true := by decide

theorem test_BlocksAreResetAndReleased_8 :
    (fun (w : World) (p : Page) (s : State) =>
      decide ((s.canWrite w p.val = true) ∧
        (p.val ≠ enPage p.val ∨ p.val < 4))) (0) (0) (live) = true := by decide

theorem test_BlocksAreResetAndReleased_9 :
    (fun (p : Page) (s : State) =>
      decide ((brstAt s p.val = none ∨ holds s ≠ 0))) (0) (live) = true := by decide

theorem test_BlocksAreResetAndReleased_10 :
    (fun (b : Fin 28) (s : State) =>
      decide ((s.rst.inReset[b] = false ∨ s.rst.relPend[b] = false ∨ s.rst.loading = true))) (0) (live) = true := by decide

theorem test_BlocksAreResetAndReleased_11 :
    (fun (w : World) (s : State) =>
      decide ((s.canWrite w 1 = true) ∧
        (w ≠ 0 ∨ 28 ≤ s.rd R.rst_RETRY_BLK []))) (1) (live.wr R.hdr_OWN_WRITE [1] 3) = true := by decide

theorem test_OptionsFlashAndCoresStart_1 :
    (fun (s : State) =>
      decide ((s.rst.loading = true) ∧
        (s.thrm.sdHold = false))) ({ live with rst := { live.rst with loading := true } }) = true := by decide

theorem test_OptionsFlashAndCoresStart_2 :
    (fun (s : State) =>
      decide ((s.rd R.sys_OPT_DONE [] = 1) ∧
        (s.rst.run0 = false) ∧
        (s.rst.loading = false))) ((fun t : State => { t with rst := { t.rst with loading := false } }) ((fun t : State => { t with rst := { t.rst with run0 := false } }) ((live).wr R.sys_OPT_DONE [] (1)))) = true := by decide

theorem test_OptionsFlashAndCoresStart_3 :
    (fun (s : State) =>
      decide ((s.canWrite 0 1 = true))) (live) = true := by decide

theorem test_OptionsFlashAndCoresStart_5_1 :
    (fun (a : Nat) (v : Nat) (s : State) =>
      decide ((s.rst.flOp = some (1, a, v)))) (5) (7) ({ live with rst := { live.rst with flOp := some (1, 5, 7) } }) = true := by decide

theorem test_OptionsFlashAndCoresStart_5_2 :
    (fun (a : Nat) (v : Nat) (s : State) =>
      decide ((s.rst.flOp = some (2, a, v)))) (8193) (7) ({ live with rst := { live.rst with flOp := some (2, 8193, 7) } }) = true := by decide

theorem test_OptionsFlashAndCoresStart_6_1 :
    (fun (s : State) =>
      decide ((s.rst.loading = false ∨ s.thrm.sdHold = true))) ((fun t : State => { t with rst := { t.rst with loading := false } }) (live)) = true := by decide

theorem test_OptionsFlashAndCoresStart_6_2 :
    (fun (s : State) =>
      decide ((s.rd R.sys_OPT_DONE [] = 0 ∨ s.rst.run0 = true ∨ s.rst.loading = true))) ((live).wr R.sys_OPT_DONE [] (0)) = true := by decide

theorem test_OptionsFlashAndCoresStart_6_3 :
    (fun (s : State) =>
      decide ((s.rst.flOp = none))) ((fun t : State => { t with rst := { t.rst with flOp := none } }) (live)) = true := by decide

theorem test_OptionsFlashAndCoresStart_7 :
    (fun (w : World) (_v : Fin 4) (_s : State) =>
      decide ((w ≠ 0))) (1) (0) ((live.wr R.hdr_OWN_WRITE [1] 3).wr R.hdr_OWN_WRITE [0] 3) = true := by decide

theorem test_OptionsFlashAndCoresStart_7_1 :
    (fun (w : World) (_v : Fin 4) (s : State) =>
      decide ((w ≠ 0) ∧
        (s.canWrite w 1 = true))) (1) (0) ((live.wr R.hdr_OWN_WRITE [1] 3).wr R.hdr_OWN_WRITE [0] 3) = true := by decide

theorem test_OptionsFlashAndCoresStart_7_2 :
    (fun (w : World) (_v : Fin 4) (s : State) =>
      decide ((w ≠ 0) ∧
        (s.canWrite w 0 = true))) (1) (0) ((live.wr R.hdr_OWN_WRITE [1] 3).wr R.hdr_OWN_WRITE [0] 3) = true := by decide

end Sys2Proof.Machine
end

section
/-! PROOF. Writes under the grant of OWNER: each command that is one asks for the grant before it acts (R43), so without
the grant it leaves only the violation count of its world (R11). -/

namespace Sys2Proof.Machine

open Sys2Proof

/-- The entries from E032 on are written under the grant of OWNER (R80). -/
theorem mayWriteEntry_of_le (s : State) (w : World) (n : Nat) (h : 32 ≤ n) :
    mayWriteEntry s w n = s.canWrite w 4 := if_neg (Nat.not_lt.mpr h)

theorem execEventEntryWrite_eq_asWriter (w : World) (n : Fin 256) (v : Word) (s : State) (h : 32 ≤ n.val) :
    execEventEntryWrite w n v s = .next (s.asWriter w 4 (entryWrite8 n v.toNat)) := by
  rw [execEventEntryWrite, mayWriteEntry_of_le s w n h, State.asWriter]

/-- What a KICK does under the grant: it restarts its watchdog for the watchdog's own world, and is a violation of any
other (R582). -/
def kickByOwner (k : Fin 3) (own w : World) (s : State) : State := if w = own then wdgReload k s else s.violate w

theorem wdgKick_eq_asWriter (k : Fin 3) (own w : World) (s : State) :
    wdgKick k own w s = s.asWriter w 1 (kickByOwner k own w) := by
  unfold wdgKick State.asWriter kickByOwner
  cases s.canWrite w 1 <;> simp

/-- Clearing a flag of MTR is a guarded write of the pulse page or of the meter's own page. -/
theorem execMeterFlagClear_is_asWriter (w : World) (pulse : Bool) (m : Meter) (v : Word) :
    ∃ f, ∀ s, execMeterFlagClear w pulse m v s = .next (s.asWriter w (if pulse then 256 else 257 + m.val) f) := by
  cases pulse with
  | true => exact ⟨_, fun _ => rfl⟩
  | false => exact ⟨_, fun _ => rfl⟩

/-- The page of a message object, counted from the first object page, 369. -/
theorem objPage_eq (c : Fin 4) (o : Fin 128) : objPage c o = 369 + 4 * c.val + o.val / 48 := by
  unfold objPage canPage; omega

/-- The shape of every command that writes a page under the grant: it is a guarded write to the page that `writerOf`
names. For most commands that is how `exec` is written, `onlyBy` being a guarded write too; the event entries, the
watchdogs and the flags of MTR decide for themselves and have their lemmas above, and the message objects of CAN count
their pages in another way. -/
theorem exec_is_asWriter (c : Instr) (w : World) (p : Nat) (h : writerOf c = some (w, p)) :
    ∃ f, ∀ s, exec c s = .next (s.asWriter w p f) := by
  cases c with
  | eventEntryWrite u n v =>
    by_cases hn : 32 ≤ n.val
    · obtain ⟨rfl, rfl⟩ : u = w ∧ 4 = p := by simpa [writerOf, hn] using h
      exact ⟨_, fun s => execEventEntryWrite_eq_asWriter u n v s hn⟩
    · simp [writerOf, hn] at h
  | gKick u | bKick u | eKick u => cases h; exact ⟨_, fun s => congrArg _ (wdgKick_eq_asWriter _ _ w s)⟩
  | meterFlagClear u pulse m v => cases h; exact execMeterFlagClear_is_asWriter w pulse m v
  | txreq u k o | canCancel u k o | newdatClear u k o => cases h; rw [← objPage_eq]; exact ⟨_, fun _ => rfl⟩
  | _ => cases h <;> exact ⟨_, fun _ => rfl⟩

theorem exec_ungranted (c : Instr) (w : World) (p : Nat) (s : State) (hc : writerOf c = some (w, p))
    (hg : s.canWrite w p = false) : exec c s = .next (s.violate w) := by
  obtain ⟨f, hf⟩ := exec_is_asWriter c w p hc
  rw [hf s, asWriter_refused s w p f hg]

/-- Settles O4: a command that writes a page under the grant is a guarded write, which without the grant is a violation
and nothing else (R11, R43). -/
theorem ungrantedCommandsOnlyCount : Obligations.UngrantedCommandsOnlyCount := by
  unfold Obligations.UngrantedCommandsOnlyCount
  intro c w p s hc hg
  exact ⟨s.violate w, exec_ungranted c w p s hc hg, violate_law s w⟩

end Sys2Proof.Machine
end

section
/-! PROOF. The bits of OWNER that the hardware holds fixed (R41, R45): what the grants in force are on each kind of page,
whatever the register holds. -/

namespace Sys2Proof.Machine

open Sys2Proof

/-! ## The grants in force on each kind of page -/

/-- On MTR and BILL pages WRITE has bit 1 alone, which the register holds inverted: it resets to 0x002. -/
theorem ownWrite_meterOrBill (p raw : Nat) (h : blockOf p = some 14 ∨ blockOf p = some 15) :
    ownWrite p raw = (raw ^^^ 3) &&& 2 := by
  rcases h with h | h <;> simp [ownWrite, h]

theorem ownWrite_hostOrKey (p raw : Nat) (h : blockOf p = some 5 ∨ blockOf p = some 6) : ownWrite p raw = 1 := by
  rcases h with h | h <;> simp [ownWrite, h]

theorem ownWrite_otherPage (p raw : Nat) (hmtr : blockOf p ≠ some 14) (hbill : blockOf p ≠ some 15)
    (hhost : blockOf p ≠ some 5) (hkey : blockOf p ≠ some 6) : ownWrite p raw = raw ||| 1 := by
  simp [ownWrite]

theorem ownRead_host (p raw : Nat) (h : blockOf p = some 5) : ownRead p raw = 1 := if_pos h

theorem ownRead_otherPage (p raw : Nat) (h : blockOf p ≠ some 5) : ownRead p raw = raw ||| 1 := if_neg h

/-! ## Single bits of the grants -/

/-- W0 reads every page (R41). -/
theorem ownR_testBit_zero (s : State) (p : Nat) : (s.ownR p).testBit 0 = true := by
  by_cases hhost : blockOf p = some 5
  · rw [State.ownR, ownRead_host p _ hhost, Nat.testBit_one_zero]
  · rw [State.ownR, ownRead_otherPage p _ hhost, Nat.testBit_or, Nat.testBit_one_zero, Bool.or_true]

/-- W0 writes every page but those of MTR and BILL (R41). -/
theorem ownW_testBit_zero (s : State) (p : Nat) (hmtr : blockOf p ≠ some 14) (hbill : blockOf p ≠ some 15) :
    (s.ownW p).testBit 0 = true := by
  by_cases hfixed : blockOf p = some 5 ∨ blockOf p = some 6
  · rw [State.ownW, ownWrite_hostOrKey p _ hfixed, Nat.testBit_one_zero]
  · obtain ⟨hhost, hkey⟩ := not_or.mp hfixed
    rw [State.ownW, ownWrite_otherPage p _ hmtr hbill hhost hkey, Nat.testBit_or, Nat.testBit_one_zero, Bool.or_true]

theorem ownW_meterOrBill_testBit (s : State) (p n : Nat) (h : blockOf p = some 14 ∨ blockOf p = some 15) (hn : n ≠ 1) :
    (s.ownW p).testBit n = false := by
  have hbit : Nat.testBit 2 n = false := Nat.testBit_two_pow_of_ne (n := 1) hn.symm
  rw [State.ownW, ownWrite_meterOrBill p _ h, Nat.testBit_and, hbit, Bool.and_false]

theorem ownW_hostOrKey_testBit (s : State) (p n : Nat) (h : blockOf p = some 5 ∨ blockOf p = some 6) (hn : n ≠ 0) :
    (s.ownW p).testBit n = false := by
  rw [State.ownW, ownWrite_hostOrKey p _ h]
  exact Nat.testBit_two_pow_of_ne (n := 0) hn.symm

/-- No world but W0 reads a HOST page (R45). -/
theorem ownR_host_testBit (s : State) (p n : Nat) (h : blockOf p = some 5) (hn : n ≠ 0) :
    (s.ownR p).testBit n = false := by
  rw [State.ownR, ownRead_host p _ h]
  exact Nat.testBit_two_pow_of_ne (n := 0) hn.symm

/-! ## Access by a world whose bit is clear -/

theorem canWrite_eq_false (s : State) (w : World) (p : Nat) (h : (s.ownW p).testBit w.val = false) :
    s.canWrite w p = false := by
  rw [State.canWrite, bitB_eq_testBit, h, Bool.and_false]

theorem canRead_eq_false (s : State) (w : World) (p : Nat) (hr : (s.ownR p).testBit w.val = false)
    (hw : (s.ownW p).testBit w.val = false) : s.canRead w p = false := by
  rw [State.canRead, bitB_eq_testBit, bitB_eq_testBit, hr, hw, Bool.or_false, Bool.and_false]

/-! ## The write of OWNER -/

/-- A write of OWNER by a world other than W0 is a violation (R41). -/
theorem exec_ownerWrite_otherWorld (w : World) (p : Page) (v : Word) (s : State) (h : w ≠ 0) :
    exec (.ownerWrite w p v) s = .next (s.violate w) := by
  simp [execOwnerWrite, ownerWrite, h]

/-- Settles O6: another world's write of OWNER is a violation, and the grants in force are the register's bits with
those of R41 forced, by the kind of page. -/
theorem ownerIsWrittenByGondolaAlone : Obligations.OwnerIsWrittenByGondolaAlone := by
  unfold Obligations.OwnerIsWrittenByGondolaAlone
  refine ⟨?otherWorld, ?read, ?write, ?meterOrBill, ?hostOrKey⟩
  case otherWorld =>
    intro w p v s hw
    exact ⟨s.violate w, exec_ownerWrite_otherWorld w p v s hw, violate_law s w⟩
  case read => exact fun s p => ownR_testBit_zero s p.val
  case write => exact fun s p hmtr hbill => ownW_testBit_zero s p.val hmtr hbill
  case meterOrBill => exact fun s p n h hn => ownW_meterOrBill_testBit s p.val n h hn
  case hostOrKey => exact fun s p n h hn => ownW_hostOrKey_testBit s p.val n h hn

/-- Settles O7: both grants of a HOST page are the constant 1, so the bit of every world but W0 is clear in both (R45). -/
theorem hostPagesBelongToGondola : Obligations.HostPagesBelongToGondola := by
  unfold Obligations.HostPagesBelongToGondola
  intro s p hhost
  refine ⟨ownRead_host p.val _ hhost, ownWrite_hostOrKey p.val _ (.inl hhost), fun w hw => ?_⟩
  have hbit : w.val ≠ 0 := Fin.val_ne_zero_iff.mpr hw
  have hread : (s.ownR p.val).testBit w.val = false := ownR_host_testBit s p.val w.val hhost hbit
  have hwrite : (s.ownW p.val).testBit w.val = false := ownW_hostOrKey_testBit s p.val w.val (.inl hhost) hbit
  exact ⟨canRead_eq_false s w p.val hread hwrite, canWrite_eq_false s w p.val hwrite⟩

end Sys2Proof.Machine
end
